-- ==== Sys2Proof/Word.lean ====
section
/-! DEFINITION. Words and their plainest arithmetic: the widths of the register interface (R48) and sample words (R18). -/
namespace Sys2Proof

/-- A 32-bit register word (R48). -/
abbrev Word := BitVec 32
/-- One octet. -/
abbrev Byte := BitVec 8
/-- A 64-bit counter, two shelf words (R66), or a T64 time (R294). -/
abbrev Dword := BitVec 64

end Sys2Proof
end

