-- ==== Sys2Proof/Syntax.lean ====
section
/-! DEFINITION. The commands of the ZW9616: one constructor per row of spec/opcode_table.json, with the operands its rule
needs (the table gives no fields: DESIGN CHOICE, log 2), and the small types of those operands. -/
namespace Sys2Proof

/-- The way an access comes (R75, R80, R150, R433): the PCIe physical function, the management SPI, a PCIe virtual
function, a steward's register window, the open test access port, the device itself (the boot load table, R469), or a function's
BAR2/3 with its MSI-X table (R75). -/
inductive Path where
  | pcie | spi | vf (v : Fin 64) | window | jtag | boot | msix (fn : Fin 64)
deriving DecidableEq, Repr

/-- The way an order comes (R26): a write of `UNIT_CMD` by tenant 0 on a path, or a command or a unit instruction of a
tenant. -/
inductive OrderSrc where
  | reg (p : Path)
  | cmd (t : Fin 512)
deriving DecidableEq, Repr

/-- The slow domains of posted writes (R59). -/
inductive SlowDomain where
  | pwr | clk | pmb | serdes (q : Fin 6) | mcs (m : Fin 8)
deriving DecidableEq, Repr

/-- What is held back by the 10 ms limit (R45, R92, R111): a unit's event, a tenant queue's threshold event, or a host
channel ring's event. -/
inductive HoldKey where
  | unit (u : BitVec 12)
  | queue (t : Fin 512) (q : Fin 3)
  | ring (r : Fin 128)
deriving DecidableEq, Repr

/-- A timer (R140): of an event slot of a context, or of an entry of a steward's table. -/
inductive TimerRef where
  | slot (x : Fin 96) (k : Fin 8)
  | entry (s : Fin 4) (n : Fin 1024)
deriving DecidableEq, Repr
/-- How a PMBus transaction ends on the bus (R398, R502): done, not acknowledged, stretched beyond 25 ms, or a packet error
code that does not match. -/
inductive PmbEnd where
  | done | nack | stretch | pec
deriving DecidableEq, Repr


/-- The commands, in the order of the table. Each is named after its row's mnemonic. -/
inductive Instr where
  /-- `REGISTER_WRITE` (R9) -/
  | registerWrite (p : Path) (addr : BitVec 32) (bytes : List Byte)
  /-- `READ_CLEAR` (R61) -/
  | readClear (p : Path) (addr : BitVec 32) (size : Nat)
  /-- `UNIT_EVT_WRITE` (R61) -/
  | unitEvtWrite (src : OrderSrc) (u : BitVec 12) (v : Word)
  /-- `BIT_ALIAS_ACCESS` (R63) -/
  | bitAliasAccess (p : Path) (x : BitVec 20) (b : Fin 8) (w : Option Word)
  /-- `STAGED_WRITE_APPLY` (R52) -/
  | stagedWriteApply (u : BitVec 12)
  /-- `COMMIT_GO` (R56) -/
  | commitGo (p : Path) (reg : BitVec 32) (v : Word)
  /-- `COMMIT_APPLY` (R56) -/
  | commitApply (u : BitVec 12) (set : Fin 128)
  /-- `GLB_COMMIT` (R58) -/
  | glbCommit (p : Path) (v : Word)
  /-- `POSTED_WRITE_COMPLETE` (R59) -/
  | postedWriteComplete (dom : SlowDomain)
  /-- `GLB_SNAP_GO` (R64) -/
  | glbSnapGo (p : Path) (v : Word)
  /-- `SNAPSHOT_COMPLETE` (R64) -/
  | snapshotComplete
  /-- `CFG_SCAN` (R69) -/
  | cfgScan
  /-- `CFG_CRC_CAPTURE` (R71) -/
  | cfgCrcCapture (p : Path) (v : Word)
  /-- `CFG_REF_WRITE` (R71) -/
  | cfgRefWrite (p : Path) (v : Word)
  /-- `SOFT_RESET` (R73) -/
  | softReset (p : Path) (v : Word)
  /-- `ORDER_ENABLE` (R27) -/
  | orderEnable (src : OrderSrc) (u : BitVec 12)
  /-- `ORDER_DISABLE` (R27) -/
  | orderDisable (src : OrderSrc) (u : BitVec 12)
  /-- `ORDER_DRAIN` (R27) -/
  | orderDrain (src : OrderSrc) (u : BitVec 12)
  /-- `ORDER_RESET` (R27) -/
  | orderReset (src : OrderSrc) (u : BitVec 12)
  /-- `ORDER_NONE` (R25) -/
  | orderNone (src : OrderSrc) (u : BitVec 12)
  /-- `UNIT_STANDBY_REACHED` (R28) -/
  | unitStandbyReached (u : BitVec 12)
  /-- `UNIT_SYNCING_ENTRY` (R27) -/
  | unitSyncingEntry (u : BitVec 12)
  /-- `ACQUISITION_COMPLETE` (R46) -/
  | acquisitionComplete (u : BitVec 12)
  /-- `INPUT_LOST` (R27) -/
  | inputLost (u : BitVec 12)
  /-- `DRAIN_COMPLETE` (R29) -/
  | drainComplete (u : BitVec 12)
  /-- `DRAIN_TIMEOUT` (R29) -/
  | drainTimeout (u : BitVec 12)
  /-- `CABINET_WALK_STEP` (R38) -/
  | cabinetWalkStep (u : BitVec 12)
  /-- `OWNER_WRITE` (R43) -/
  | ownerWrite (p : Path) (u : BitVec 12) (v : Word)
  /-- `EVENT_HOLD_EXPIRE` (R45) -/
  | eventHoldExpire (k : HoldKey)
  /-- `FUNCTION_LEVEL_RESET` (R79) -/
  | functionLevelReset (fn : Fin 64)
  /-- `VF_ENABLE` (R78) -/
  | vfEnable (n : Fin 64)
  /-- `D3HOT_ENTRY` (R79) -/
  | d3hotEntry (fn : Fin 64)
  /-- `READ` (R81) -/
  | read (addr : BitVec 32) (n : Fin 16)
  /-- `QREAD` (R81) -/
  | qread (addr : BitVec 32) (n : Fin 16)
  /-- `WRITE` (R81) -/
  | write (addr : BitVec 32) (ws : List Word) (part : Bool)
  /-- `QWRITE` (R81) -/
  | qwrite (addr : BitVec 32) (ws : List Word) (part : Bool)
  /-- `STATUS` (R82) -/
  | status
  /-- `TENANT` (R84) -/
  | tenant (v : BitVec 16)
  /-- `SPI_UNKNOWN_COMMAND` (R81) -/
  | spiUnknownCommand (c : Byte)
  /-- `HOST_BIND_WRITE` (R86) -/
  | hostBindWrite (p : Path) (w : Fin 16) (v : Word)
  /-- `HOST_T0_PATH_WRITE` (R87) -/
  | hostT0PathWrite (p : Path) (v : Word)
  /-- `QUEUE_ENABLE` (R96) -/
  | queueEnable (p : Path) (t : Fin 512) (q : Fin 3) (v : Word)
  /-- `QUEUE_DISABLE` (R96) -/
  | queueDisable (p : Path) (t : Fin 512) (q : Fin 3) (v : Word)
  /-- `SQ_TAIL_WRITE` (R90) -/
  | sqTailWrite (p : Path) (t : Fin 512) (v : Word)
  /-- `CQ_HEAD_WRITE` (R91) -/
  | cqHeadWrite (p : Path) (t : Fin 512) (v : Word)
  /-- `EQ_HEAD_WRITE` (R97) -/
  | eqHeadWrite (p : Path) (t : Fin 512) (v : Word)
  /-- `SQ_PORT_POST` (R94) -/
  | sqPortPost (p : Path) (t : Fin 512) (v : Word)
  /-- `CQ_PORT_CONSUME` (R95) -/
  | cqPortConsume (p : Path) (t : Fin 512)
  /-- `EQ_PORT_CONSUME` (R95) -/
  | eqPortConsume (p : Path) (t : Fin 512)
  /-- `USER_DB_WRITE` (R140) -/
  | userDbWrite (p : Path) (t : Fin 512) (v : Word)
  /-- `COMMAND_FETCH` (R100) -/
  | commandFetch (t : Fin 512) (ws : List Word)
  /-- `RUN` (R102) -/
  | run (t : Fin 512) (ws : List Word)
  /-- `INLINE` (R101) -/
  | inline (t : Fin 512) (ws : List Word)
  /-- `UNITOP` (R103) -/
  | unitop (t : Fin 512) (ws : List Word)
  /-- `CMD_FENCE` (R100) -/
  | cmdFence (t : Fin 512) (ws : List Word)
  /-- `COMPLETION_POST_DEFERRED` (R97) -/
  | completionPostDeferred (t : Fin 512)
  /-- `HCH_PTR_WRITE` (R109) -/
  | hchPtrWrite (p : Path) (t : Fin 512) (r : Fin 128) (v : Word)
  /-- `HCH_PLAYBACK_READ` (R111) -/
  | hchPlaybackRead (r : Fin 64) (block : List Byte)
  /-- `HCH_RECORD_WRITE` (R111) -/
  | hchRecordWrite (r : Fin 64)
  /-- `ADD` (R119) -/
  | add (x : Fin 96) (dd a b : Fin 32) (hi : BitVec 6)
  /-- `SUB` (R119) -/
  | sub (x : Fin 96) (dd a b : Fin 32) (hi : BitVec 6)
  /-- `AND` (R119) -/
  | and (x : Fin 96) (dd a b : Fin 32) (hi : BitVec 6)
  /-- `OR` (R119) -/
  | or (x : Fin 96) (dd a b : Fin 32) (hi : BitVec 6)
  /-- `XOR` (R119) -/
  | xor (x : Fin 96) (dd a b : Fin 32) (hi : BitVec 6)
  /-- `SHL` (R119) -/
  | shl (x : Fin 96) (dd a b : Fin 32) (hi : BitVec 6)
  /-- `SHR` (R119) -/
  | shr (x : Fin 96) (dd a b : Fin 32) (hi : BitVec 6)
  /-- `SAR` (R119) -/
  | sar (x : Fin 96) (dd a b : Fin 32) (hi : BitVec 6)
  /-- `MUL` (R119) -/
  | mul (x : Fin 96) (dd a b : Fin 32) (hi : BitVec 6)
  /-- `MULH` (R119) -/
  | mulh (x : Fin 96) (dd a b : Fin 32) (hi : BitVec 6)
  /-- `MIN` (R119) -/
  | min (x : Fin 96) (dd a b : Fin 32) (hi : BitVec 6)
  /-- `MAX` (R119) -/
  | max (x : Fin 96) (dd a b : Fin 32) (hi : BitVec 6)
  /-- `CLZ` (R119) -/
  | clz (x : Fin 96) (dd a b : Fin 32) (hi : BitVec 6)
  /-- `ADDI` (R121) -/
  | addi (x : Fin 96) (dd a : Fin 32) (imm : BitVec 16)
  /-- `ANDI` (R121) -/
  | andi (x : Fin 96) (dd a : Fin 32) (imm : BitVec 16)
  /-- `ORI` (R121) -/
  | ori (x : Fin 96) (dd a : Fin 32) (imm : BitVec 16)
  /-- `XORI` (R121) -/
  | xori (x : Fin 96) (dd a : Fin 32) (imm : BitVec 16)
  /-- `LUI` (R121) -/
  | lui (x : Fin 96) (dd a : Fin 32) (imm : BitVec 16)
  /-- `BEQ` (R123) -/
  | beq (x : Fin 96) (a b : Fin 32) (off : BitVec 16)
  /-- `BNE` (R123) -/
  | bne (x : Fin 96) (a b : Fin 32) (off : BitVec 16)
  /-- `BLT` (R123) -/
  | blt (x : Fin 96) (a b : Fin 32) (off : BitVec 16)
  /-- `BGE` (R123) -/
  | bge (x : Fin 96) (a b : Fin 32) (off : BitVec 16)
  /-- `BLTU` (R123) -/
  | bltu (x : Fin 96) (a b : Fin 32) (off : BitVec 16)
  /-- `BGEU` (R123) -/
  | bgeu (x : Fin 96) (a b : Fin 32) (off : BitVec 16)
  /-- `JAL` (R124) -/
  | jal (x : Fin 96) (off : BitVec 26)
  /-- `JR` (R124) -/
  | jr (x : Fin 96) (dd a b : Fin 32) (fn : BitVec 11)
  /-- `LOOP` (R125) -/
  | loop (x : Fin 96) (dd a : Fin 32) (imm : BitVec 16)
  /-- `LDW` (R126) -/
  | ldw (x : Fin 96) (dd a : Fin 32) (imm : BitVec 16)
  /-- `LDH` (R126) -/
  | ldh (x : Fin 96) (dd a : Fin 32) (imm : BitVec 16)
  /-- `LDHU` (R126) -/
  | ldhu (x : Fin 96) (dd a : Fin 32) (imm : BitVec 16)
  /-- `LDB` (R126) -/
  | ldb (x : Fin 96) (dd a : Fin 32) (imm : BitVec 16)
  /-- `LDBU` (R126) -/
  | ldbu (x : Fin 96) (dd a : Fin 32) (imm : BitVec 16)
  /-- `STW` (R126) -/
  | stw (x : Fin 96) (dd a : Fin 32) (imm : BitVec 16)
  /-- `STH` (R126) -/
  | sth (x : Fin 96) (dd a : Fin 32) (imm : BitVec 16)
  /-- `STB` (R126) -/
  | stb (x : Fin 96) (dd a : Fin 32) (imm : BitVec 16)
  /-- `LDV` (R126) -/
  | ldv (x : Fin 96) (dd a : Fin 32) (imm : BitVec 16)
  /-- `STV` (R126) -/
  | stv (x : Fin 96) (dd a : Fin 32) (imm : BitVec 16)
  /-- `SLD` (R128) -/
  | sld (x : Fin 96) (dd a b : Fin 32) (fn : BitVec 11)
  /-- `SST` (R129) -/
  | sst (x : Fin 96) (dd a b : Fin 32) (fn : BitVec 11)
  /-- `STAG` (R129) -/
  | stag (x : Fin 96) (dd a b : Fin 32) (fn : BitVec 11)
  /-- `TAGMAX` (R130) -/
  | tagmax (x : Fin 96) (dd a b : Fin 32) (fn : BitVec 11)
  /-- `VADD` (R131) -/
  | vadd (x : Fin 96) (dd a b : Fin 32) (m : BitVec 7)
  /-- `VSUB` (R131) -/
  | vsub (x : Fin 96) (dd a b : Fin 32) (m : BitVec 7)
  /-- `VMUL` (R131) -/
  | vmul (x : Fin 96) (dd a b : Fin 32) (m : BitVec 7)
  /-- `VMAC` (R131) -/
  | vmac (x : Fin 96) (dd a b : Fin 32) (m : BitVec 7)
  /-- `VRND` (R131) -/
  | vrnd (x : Fin 96) (dd a b : Fin 32) (m : BitVec 7)
  /-- `VGAIN` (R133) -/
  | vgain (x : Fin 96) (dd a b : Fin 32) (m : BitVec 7)
  /-- `VABS` (R131) -/
  | vabs (x : Fin 96) (dd a b : Fin 32) (m : BitVec 7)
  /-- `VMAX` (R131) -/
  | vmax (x : Fin 96) (dd a b : Fin 32) (m : BitVec 7)
  /-- `VSEL` (R131) -/
  | vsel (x : Fin 96) (dd a b : Fin 32) (m : BitVec 7)
  /-- `VSPLAT` (R131) -/
  | vsplat (x : Fin 96) (dd a b : Fin 32) (m : BitVec 7)
  /-- `VCVTF` (R131) -/
  | vcvtf (x : Fin 96) (dd a b : Fin 32) (m : BitVec 7)
  /-- `VCVTI` (R131) -/
  | vcvti (x : Fin 96) (dd a b : Fin 32) (m : BitVec 7)
  /-- `VFADD` (R131) -/
  | vfadd (x : Fin 96) (dd a b : Fin 32) (m : BitVec 7)
  /-- `VFMUL` (R131) -/
  | vfmul (x : Fin 96) (dd a b : Fin 32) (m : BitVec 7)
  /-- `VFMAC` (R131) -/
  | vfmac (x : Fin 96) (dd a b : Fin 32) (m : BitVec 7)
  /-- `UGET` (R134) -/
  | uget (x : Fin 96) (dd a : Fin 32) (imm : BitVec 16)
  /-- `USET` (R134) -/
  | uset (x : Fin 96) (dd a : Fin 32) (imm : BitVec 16)
  /-- `UCMD` (R136) -/
  | ucmd (x : Fin 96) (dd a : Fin 32) (imm : BitVec 16)
  /-- `UWAIT` (R136) -/
  | uwait (x : Fin 96) (dd a : Fin 32) (imm : BitVec 16)
  /-- `UNIT_OP_DONE` (R136) -/
  | unitOpDone (x : Fin 96)
  /-- `UWAIT_TIMEOUT` (R136) -/
  | uwaitTimeout (x : Fin 96)
  /-- `QPUT` (R139) -/
  | qput (x : Fin 96) (dd a b : Fin 32) (fn : BitVec 11)
  /-- `QGET` (R139) -/
  | qget (x : Fin 96) (dd a b : Fin 32) (fn : BitVec 11)
  /-- `QCRED` (R139) -/
  | qcred (x : Fin 96) (dd a b : Fin 32) (fn : BitVec 11)
  /-- `ARM` (R140) -/
  | arm (x : Fin 96) (dd a b : Fin 32) (fn : BitVec 11)
  /-- `WAITEV` (R140) -/
  | waitev (x : Fin 96) (dd a : Fin 32) (imm : BitVec 16)
  /-- `TICKWAIT` (R141) -/
  | tickwait (x : Fin 96) (dd a b : Fin 32) (fn : BitVec 11)
  /-- `TIME` (R142) -/
  | time (x : Fin 96) (dd a b : Fin 32) (fn : BitVec 11)
  /-- `SNAP` (R142) -/
  | snap (x : Fin 96) (dd a b : Fin 32) (fn : BitVec 11)
  /-- `NOP` (R121) -/
  | nop (x : Fin 96) (dd a b : Fin 32)
  /-- `FENCE` (R143) -/
  | fence (x : Fin 96) (dd a b : Fin 32)
  /-- `HALT` (R144) -/
  | halt (x : Fin 96) (dd a b : Fin 32)
  /-- `WAIT` (R145) -/
  | wait (x : Fin 96) (dd a b : Fin 32)
  /-- `TRAP` (R147) -/
  | trap (x : Fin 96) (dd a b : Fin 32) (code : BitVec 10)
  /-- `CSRR` (R146) -/
  | csrr (x : Fin 96) (dd a : Fin 32) (imm : BitVec 16)
  /-- `CSRW` (R146) -/
  | csrw (x : Fin 96) (dd a : Fin 32) (imm : BitVec 16)
  /-- `XRET` (R148) -/
  | xret (x : Fin 96) (a : Fin 32)
  /-- `TIMER_EXPIRE` (R140) -/
  | timerExpire (k : TimerRef)
  /-- `TICK_BUDGET_EXPIRE` (R157) -/
  | tickBudgetExpire (e : Fin 64)
  /-- `ELOAD` (R165) -/
  | eload (p : Path) (t : Fin 4) (v : Word)
  /-- `ELOAD_COMPLETE` (R165) -/
  | eloadComplete (t : Fin 4)
  /-- `TRIGGER_FIRE` (R169) -/
  | triggerFire (t : Fin 4) (n : Fin 1024)
  /-- `RUN_START` (R167) -/
  | runStart (t : Fin 4)
  /-- `GCL_SWITCH` (R192) -/
  | gclSwitch (n : Fin 24)
  /-- `GATE_ENTRY_ADVANCE` (R193) -/
  | gateEntryAdvance (n : Fin 24)
  /-- `LC_PLL_TIMEOUT` (R177) -/
  | lcPllTimeout (n : Fin 24)
  /-- `LINK_HOLD_EXPIRE` (R181) -/
  | linkHoldExpire (n : Fin 24)
  /-- `LINK_DOWN` (R182) -/
  | linkDown (n : Fin 24) (cause : Fin 3)
  /-- `RX_FRAME` (R184) -/
  | rxFrame (n : Fin 24) (o : List Byte) (fcsOk : Bool) (sym corr uncorr : Nat)
  /-- `PAUSE_EXPIRE` (R199) -/
  | pauseExpire (n : Fin 24) (c : Option (Fin 8))
  /-- `PAUSE_WD` (R200) -/
  | pauseWd (n : Fin 24) (c : Fin 8)
  /-- `HOLDOFF_EXPIRE` (R200) -/
  | holdoffExpire (n : Fin 24) (c : Option (Fin 8))
  /-- `TX_ENQUEUE` (R195) -/
  | txEnqueue (n : Fin 24)
  /-- `TX_FRAME_START` (R196) -/
  | txFrameStart (n : Fin 24)
  /-- `TX_FRAME_DONE` (R251) -/
  | txFrameDone (n : Fin 24)
  /-- `PREEMPT_VERIFY` (R197) -/
  | preemptVerify (n : Fin 24) (ok : Bool)
  /-- `STC_REALIGN` (R201) -/
  | stcRealign (n : Fin 24)
  /-- `SPQ_HEAD_WRITE` (R207) -/
  | spqHeadWrite (p : Path) (q : Fin 8) (v : Word)
  /-- `LTX_TAIL_WRITE` (R208) -/
  | ltxTailWrite (p : Path) (t : Fin 4) (v : Word)
  /-- `LTX_DESCRIPTOR_DONE` (R209) -/
  | ltxDescriptorDone (t : Fin 4)
  /-- `WAKE_PATTERN_HIT` (R211) -/
  | wakePatternHit (f : Option (List Byte))
  /-- `TOKEN_EMIT` (R215) -/
  | tokenEmit (k : Fin 12)
  /-- `RX_TOKEN` (R222) -/
  | rxToken (k : Fin 12)
  /-- `TOKEN_RETURN` (R228) -/
  | tokenReturn (k : Fin 12)
  /-- `MANAGER_ELECTION_TIMEOUT` (R215) -/
  | managerElectionTimeout (k : Fin 12)
  /-- `RING_TOKEN_LOSS` (R236) -/
  | ringTokenLoss (k : Fin 12)
  /-- `PASS_THROUGH` (R223) -/
  | passThrough (k : Fin 12)
  /-- `WINDOW_START` (R227) -/
  | windowStart (k : Fin 12)
  /-- `RX_BLOCK` (R226) -/
  | rxBlock (k : Fin 12)
  /-- `RX_ASYNC` (R229) -/
  | rxAsync (k : Fin 12)
  /-- `ECHO_SEND` (R229) -/
  | echoSend (k : Fin 12)
  /-- `RX_ECHO` (R235) -/
  | rxEcho (k : Fin 12)
  /-- `CENSUS_START` (R230) -/
  | censusStart (k : Fin 12)
  /-- `CENSUS_PERIOD_EXPIRE` (R230) -/
  | censusPeriodExpire (k : Fin 12)
  /-- `RX_CENSUS` (R230) -/
  | rxCensus (k : Fin 12)
  /-- `CENSUS_RETURN` (R231) -/
  | censusReturn (k : Fin 12)
  /-- `TABLE_SEND` (R232) -/
  | tableSend (k : Fin 12)
  /-- `RING_WRAP` (R233) -/
  | ringWrap (k : Fin 12) (west : Bool)
  /-- `RING_UNWRAP` (R234) -/
  | ringUnwrap (k : Fin 12)
  /-- `SWITCH_FRAME` (R241) -/
  | switchFrame
  /-- `FDB_WRITE` (R246) -/
  | fdbWrite (p : Path) (v : Word)
  /-- `FDB_DELETE` (R246) -/
  | fdbDelete (p : Path) (v : Word)
  /-- `FDB_LOOKUP` (R246) -/
  | fdbLookup (p : Path) (v : Word)
  /-- `FDB_READ` (R246) -/
  | fdbRead (p : Path) (v : Word)
  /-- `FDB_FLUSH` (R246) -/
  | fdbFlush (p : Path) (v : Word)
  /-- `FDB_OP_COMPLETE` (R246) -/
  | fdbOpComplete
  /-- `FDB_AGE_EXPIRE` (R245) -/
  | fdbAgeExpire (i : Fin 4096)
  /-- `RX_STREAM_PACKET` (R266) -/
  | rxStreamPacket (f : Fin 2048)
  /-- `FLOW_HOLD_EXPIRE` (R277) -/
  | flowHoldExpire (f : Fin 2048)
  /-- `LEG_DOWN` (R279) -/
  | legDown (f : Fin 2048) (leg : Bool)
  /-- `FLOW_PACKET_RELEASE` (R281) -/
  | flowPacketRelease (f : Fin 2048)
  /-- `TICK_START` (R308) -/
  | tickStart (m : Fin 8) (c : Nat) (e : Int)
  /-- `AUDIT_CHECK` (R419) -/
  | auditCheck
  /-- `TIME_SET` (R296) -/
  | timeSet (p : Path) (v : Word)
  /-- `TIME_STEP` (R296) -/
  | timeStep (p : Path) (v : Word)
  /-- `TIME_CMD_APPLY` (R296) -/
  | timeCmdApply
  /-- `TIME_ADJ_WRITE` (R297) -/
  | timeAdjWrite (p : Path) (v : Word)
  /-- `STC_READ` (R295) -/
  | stcRead (p : Path)
  /-- `SERVO_OFS_WRITE` (R300) -/
  | servoOfsWrite (p : Path) (v : Word)
  /-- `SERVO_RING_SAMPLE` (R300) -/
  | servoRingSample
  /-- `SERVO_HOLDOVER` (R301) -/
  | servoHoldover
  /-- `PPS_OUT_EDGE` (R302) -/
  | ppsOutEdge
  /-- `PPS_OUT_END` (R302) -/
  | ppsOutEnd
  /-- `PPS_IN_EDGE` (R302) -/
  | ppsInEdge (fall : Bool)
  /-- `PPS_IN_READ` (R298) -/
  | ppsInRead (p : Path)
  /-- `MCS_COUNT_READ` (R312) -/
  | mcsCountRead (p : Path) (m : Fin 8)
  /-- `TICK_SIZE_CHANGE` (R311) -/
  | tickSizeChange (m : Fin 8)
  /-- `MCLK_PLL_TIMEOUT` (R323) -/
  | mclkPllTimeout (m : Fin 8)
  /-- `MCLK_LOCK` (R318) -/
  | mclkLock (m : Fin 8)
  /-- `MCLK_BYPASS` (R318) -/
  | mclkBypass (m : Fin 8)
  /-- `MCLK_HANDBACK` (R319) -/
  | mclkHandback (m : Fin 8) (p : Int)
  /-- `MCS_CAL_GO` (R314) -/
  | mcsCalGo (p : Path) (m : Fin 8) (v : Word)
  /-- `MCS_CAL_DONE` (R314) -/
  | mcsCalDone (m : Fin 8) (fmin fmax : BitVec 22)
  /-- `RATE_METER_GATE` (R326) -/
  | rateMeterGate (i : Fin 24) (edges span : Nat)
  /-- `FRAME_SYNC` (R328) -/
  | frameSync (g : Fin 16) (bclks : Nat) (ins : List (Nat × Word))
  /-- `PORT_BLOCK_TRANSFER` (R341) -/
  | portBlockTransfer (g : Fin 16)
  /-- `APG_FRAME_READ` (R330) -/
  | apgFrameRead (p : Path) (g : Fin 16)
  /-- `GROUP_CLK_LOST` (R339) -/
  | groupClkLost (g : Fin 16)
  /-- `DECIM_SETTLED` (R351) -/
  | decimSettled (k : Fin 128)
  /-- `BRIDGE_LOCK` (R355) -/
  | bridgeLock (b : Fin 16) (ratio : Word) (phase : Int)
  /-- `REGION_SWAP` (R366) -/
  | regionSwap (src : OrderSrc) (r : Fin 64) (v : Word)
  /-- `SWAP_CAPTURE_DONE` (R366) -/
  | swapCaptureDone (r : Fin 64)
  /-- `REGION_WDATA_WRITE` (R364) -/
  | regionWdataWrite (src : OrderSrc) (r : Fin 64) (v : Word)
  /-- `LOUDNESS_RESTART` (R375) -/
  | loudnessRestart (p : Path) (c : Fin 256) (v : Word)
  /-- `HISTOGRAM_CLEAR` (R376) -/
  | histogramClear (p : Path) (f : Fin 2048) (v : Word)
  /-- `PWR_CMD_ACTIVE` (R385) -/
  | pwrCmdActive (p : Path) (v : Word)
  /-- `PWR_CMD_QUIET` (R385) -/
  | pwrCmdQuiet (p : Path) (v : Word)
  /-- `PWR_CMD_RETAIN` (R386) -/
  | pwrCmdRetain (p : Path) (v : Word)
  /-- `PWR_CMD_LISTEN` (R386) -/
  | pwrCmdListen (p : Path) (v : Word)
  /-- `ENTRY_COMMIT` (R386) -/
  | entryCommit (core sram : PmbEnd)
  /-- `WAKE_IN` (R388) -/
  | wakeIn (level : Bool)
  /-- `PCIE_WAKE` (R388) -/
  | pcieWake
  /-- `WAKE_TIMER_EXPIRE` (R388) -/
  | wakeTimerExpire
  /-- `MSPI_WAKE` (R388) -/
  | mspiWake
  /-- `RETAIN_EXIT` (R391) -/
  | retainExit
  /-- `LISTEN_EXIT` (R393) -/
  | listenExit
  /-- `PWR_WAKE_ACK` (R389) -/
  | pwrWakeAck (p : Path) (v : Word)
  /-- `DOMAIN_POWER_REQUEST` (R399) -/
  | domainPowerRequest (p : Path) (v : Word)
  /-- `DOMAIN_POWER_DONE` (R399) -/
  | domainPowerDone (i : Fin 18) (ok : Bool)
  /-- `OPP_REQUEST` (R396) -/
  | oppRequest (p : Path) (v : Word)
  /-- `OPP_FREQ_SWITCH` (R397) -/
  | oppFreqSwitch
  /-- `OPP_VOUT_TAKEN` (R397) -/
  | oppVoutTaken (e : PmbEnd)
  /-- `OPP_POWER_GOOD` (R397) -/
  | oppPowerGood (e : PmbEnd) (w : BitVec 16)
  /-- `OPP_POWER_GOOD_TIMEOUT` (R398) -/
  | oppPowerGoodTimeout
  /-- `ERR_ACK` (R410) -/
  | errAck (p : Path) (v : Word)
  /-- `ERR_RESTART` (R414) -/
  | errRestart (p : Path) (v : Word)
  /-- `ERR_RESTART_DONE` (R414) -/
  | errRestartDone
  /-- `LOG_DEFERRED_APPEND` (R412) -/
  | logDeferredAppend
  /-- `PEAT_READ` (R424) -/
  | peatRead (p : Path) (v : Word)
  /-- `PEAT_WRITE` (R424) -/
  | peatWrite (p : Path) (v : Word)
  /-- `PEAT_ACCESS_DONE` (R424) -/
  | peatAccessDone
  /-- `KEY_LOAD` (R426) -/
  | keyLoad (p : Path) (v : Word)
  /-- `KEY_ERASE` (R426) -/
  | keyErase (p : Path) (v : Word)
  /-- `KEY_GENERATE` (R426) -/
  | keyGenerate (p : Path) (v : Word)
  /-- `KEY_CMD_DONE` (R426) -/
  | keyCmdDone
  /-- `SEC_LOCK_WRITE` (R436) -/
  | secLockWrite (p : Path) (v : Word)
  /-- `FUSE_PROGRAM` (R430) -/
  | fuseProgram (p : Path) (v : Word)
  /-- `SEC_MIN_SVN_WRITE` (R431) -/
  | secMinSvnWrite (p : Path) (v : Word)
  /-- `DEBUG_OPEN` (R433) -/
  | debugOpen (p : Path) (v : Word)
  /-- `DEBUG_ERASE_DONE` (R434) -/
  | debugEraseDone (fail : Option (Fin 256 × Fin 16))
  /-- `REGACC` (R433) -/
  | regacc
  /-- `FRAGAL_START` (R444) -/
  | fragalStart (p : Path) (v : Word)
  /-- `FRAGAL_ARM_COMPLETE` (R444) -/
  | fragalArmComplete
  /-- `FRAGAL_STOP` (R448) -/
  | fragalStop (p : Path) (v : Word)
  /-- `CHECKPOINT` (R446) -/
  | checkpoint (p : Path) (v : Word)
  /-- `CHECKPOINT_PERIOD_EXPIRE` (R446) -/
  | checkpointPeriodExpire
  /-- `CHECKPOINT_DONE` (R445) -/
  | checkpointDone
  /-- `DIGEST_INTERVAL_CLOSE` (R443) -/
  | digestIntervalClose
  /-- `FRAGAL_REPLAY_START` (R451) -/
  | fragalReplayStart (p : Path) (v : Word) (chunks : List (List Byte))
  /-- `FRG_HOSTPTR_WRITE` (R447) -/
  | frgHostptrWrite (p : Path) (v : Word)
  /-- `FRG_OCB_DATA_ACCESS` (R453) -/
  | frgOcbDataAccess (p : Path) (w : Option Word)
  /-- `TRACE_TAIL_DONE` (R449) -/
  | traceTailDone
  /-- `SUPPLY_TRIP` (R457) -/
  | supplyTrip
  /-- `RESET_N_ASSERT` (R458) -/
  | resetNAssert
  /-- `RESET_RELEASE` (R459) -/
  | resetRelease (boot : Fin 4) (hostif : Bool)
  /-- `RESET_SEQUENCE_COMPLETE` (R459) -/
  | resetSequenceComplete
  /-- `PERST_ASSERT` (R461) -/
  | perstAssert
  /-- `PERST_RELEASE` (R461) -/
  | perstRelease
  /-- `BOOT_IMAGE_READ_DONE` (R470) -/
  | bootImageReadDone (image : List Byte)
  /-- `LOAD_TABLE_ENTRY` (R469) -/
  | loadTableEntry (expired : Bool)
  /-- `BOOT_COMPLETE` (R470) -/
  | bootComplete
  /-- `THERM_SAMPLE` (R509) -/
  | thermSample (t0 t1 t2 t3 : BitVec 16)
  /-- `THERM_SHUTDOWN` (R510) -/
  | thermShutdown
  /-- `THERM_RECOVER` (R510) -/
  | thermRecover (boot : Fin 4) (hostif : Bool)
  /-- `GPIO_EDGE` (R487) -/
  | gpioEdge (i : Fin 16) (level : Bool)
  /-- `GPIO_SET` (R486) -/
  | gpioSet (p : Path) (v : Word)
  /-- `GPIO_CLR` (R486) -/
  | gpioClr (p : Path) (v : Word)
  /-- `PMB_SEND_BYTE` (R489) -/
  | pmbSendByte (p : Path) (v : Word)
  /-- `PMB_WRITE_BYTE` (R489) -/
  | pmbWriteByte (p : Path) (v : Word)
  /-- `PMB_WRITE_WORD` (R489) -/
  | pmbWriteWord (p : Path) (v : Word)
  /-- `PMB_READ_BYTE` (R489) -/
  | pmbReadByte (p : Path) (v : Word)
  /-- `PMB_READ_WORD` (R489) -/
  | pmbReadWord (p : Path) (v : Word)
  /-- `PMB_XFER_DONE` (R489) -/
  | pmbXferDone (e : PmbEnd) (data : BitVec 16)
  /-- `PCS_LOCK` (R181) -/
  | pcsLock (n : Fin 24) (an : Bool) (partner : BitVec 16)
  /-- `TOKEN_MISS` (R237) -/
  | tokenMiss (k : Fin 12)
  /-- `RX_TABLE` (R232) -/
  | rxTable (k : Fin 12)
  /-- `VDDIO_SUPPLY_LOSS` (R484) -/
  | vddioSupplyLoss (b : Fin 8)
  /-- `VDDIO_SUPPLY_RETURN` (R485) -/
  | vddioSupplyReturn (b : Fin 8) (v33 : Bool)
  /-- `REGISTER_WINDOW_DONE` (R126) -/
  | registerWindowDone (x : Fin 96)
  /-- `FUSE_PROGRAM_DONE` (R430) -/
  | fuseProgramDone
  /-- `REPLAY_RECORD_RELEASE` (R450) -/
  | replayRecordRelease (more : List (List Byte))
  /-- `TAP_TRANSITION` (R21) -/
  | tapTransition (tms tdi : Bool)
deriving DecidableEq, Repr

end Sys2Proof
end

