-- ==== Sys2Proof/Config.lean ====
section
/-! DEFINITION. What the spec leaves open: each a constant with no body, so that nothing can be proved of its value. The
log entry named beside it says where the spec is silent. -/
namespace Sys2Proof

/-- A fresh value for the `n`-th draw: a result the spec leaves open (log 59). -/
opaque Config.freeWord : Nat → BitVec 32
/-- A fresh natural number for the `n`-th draw (log 59). -/
opaque Config.freeNat : Nat → Nat
/-- A fresh truth value for the `n`-th draw: a choice the spec leaves open (log 59). -/
opaque Config.freeBool : Nat → Bool

/-- Where within ±0.0005 dB of 2^l the gain of a level l lies, in parts per 10⁹, for the `n`-th draw (R133, R369; log 11). -/
opaque Config.gainTrim : Nat → Int → Int

/-- One step of a meter's exponential mean (R374): averaging code, nominal rate in Hz, the mean before, the sample. The spec
gives the recurrence and no arithmetic for it (log 34). -/
opaque Config.meanSquare : Nat → Nat → BitVec 32 → BitVec 32 → BitVec 32

/-- GCM-AES protection of a frame's secured octets (R204, IEEE 802.1AE, which the spec cites and does not restate: log 58): key
size 256 bits or not, confidentiality offset code, key words, SCI, packet number, the octets before the secured ones, and
the secured octets; gives the protected octets with their ICV. -/
opaque Config.gcmSeal : Bool → Nat → List (BitVec 32) → Nat → Nat → List (BitVec 8) → List (BitVec 8) → List (BitVec 8)
/-- GCM-AES verification (R204, R206): the octets in clear, or none where the ICV does not verify. -/
opaque Config.gcmOpen :
  Bool → Nat → List (BitVec 32) → Nat → Nat → List (BitVec 8) → List (BitVec 8) → Option (List (BitVec 8))

/-- Fragal's AES-256-GCM (R440; the cipher is not restated: log 58): the ciphertext of a chunk's record octets from key, NONCE and
CHUNK; and the tag from key, NONCE, CHUNK, the first sixteen octets and the ciphertext. -/
opaque Config.chunkSeal : List (BitVec 32) → BitVec 32 → Nat → List (BitVec 8) → List (BitVec 8)
/-- The tag of a chunk. -/
opaque Config.chunkTag : List (BitVec 32) → BitVec 32 → Nat → List (BitVec 8) → List (BitVec 8) → Nat
/-- The record octets of a chunk from its ciphertext. -/
opaque Config.chunkOpen : List (BitVec 32) → BitVec 32 → Nat → List (BitVec 8) → List (BitVec 8)

/-- ECDSA P-256 (R426, R428, R441; FIPS 186, which the spec does not restate: log 58): word `i` of the public key of a private key;
octet `i` of a signature of some octets; and whether a signature verifies. -/
opaque Config.publicKey : List (BitVec 32) → Nat → BitVec 32
/-- Octet `i` of a signature with a private key. -/
opaque Config.ecdsaSign : List (BitVec 32) → List (BitVec 8) → Nat → BitVec 8
/-- A signature of some octets verifies under a public key. -/
opaque Config.ecdsaOk : List (BitVec 8) → List (BitVec 8) → List (BitVec 8) → Bool
/-- Word `i` of the SHA-256 hash of some octets (R429; log 58). -/
opaque Config.sha256 : List (BitVec 8) → Nat → BitVec 32

end Sys2Proof
end

