-- ==== Sys2Proof/Machine/RegFields.lean ====
section
/-! DEFINITION. The places of the registers and their fields, register by register as the tables of spec/ give them
(the base of each block: R47; the offsets and bits: the rule named beside each register). Generated from those tables. -/
namespace Sys2Proof.Machine

/-- A field of a register: the byte address of its word, its lowest bit and its width. -/
structure Fld where
  addr : Nat
  lo : Nat
  width : Nat
deriving DecidableEq, Repr

/-- Base of the UNIT block (R47). -/
abbrev Base.UNIT (u : Nat) : Nat := 0x10000 + u * 0x40
/-- Base of the CFG block (R47). -/
abbrev Base.CFG : Nat := 0x5000
/-- Base of the TNT block (R47). -/
abbrev Base.TNT (t : Nat) : Nat := 0x400000 + t * 0x1000
/-- Base of the HOST block (R47). -/
abbrev Base.HOST : Nat := 0x9000
/-- Base of the SENG block (R47). -/
abbrev Base.SENG (e : Nat) : Nat := 0x300000 + e * 0x400
/-- Base of the STW block (R47). -/
abbrev Base.STW (s : Nat) : Nat := 0x310000 + s * 0x400
/-- Base of the LNK block (R47). -/
abbrev Base.LNK (n : Nat) : Nat := 0x100000 + n * 0x4000
/-- Base of the SWC block (R47). -/
abbrev Base.SWC : Nat := 0x170000
/-- Base of the PWR block (R47). -/
abbrev Base.PWR : Nat := 0x1000
/-- Base of the RING block (R47). -/
abbrev Base.RING (k : Nat) : Nat := 0x160000 + k * 0x1000
/-- Base of the STRM block (R47). -/
abbrev Base.STRM (s : Nat) : Nat := 0x200000 + s * 0x1000
/-- Base of the FLOW block (R47). -/
abbrev Base.FLOW (f : Nat) : Nat := 0x200000 + f / 8 * 0x1000 + 0x400 + f % 8 * 0x100
/-- Base of the TIME block (R47). -/
abbrev Base.TIME : Nat := 0x8000
/-- Base of the MCS block (R47). -/
abbrev Base.MCS (m : Nat) : Nat := 0x1B0000 + m * 0x1000
/-- Base of the APG block (R47). -/
abbrev Base.APG (g : Nat) : Nat := 0x180000 + g * 0x1000
/-- Base of the AP block (R47). -/
abbrev Base.AP (n : Nat) : Nat := 0x180000 + n / 4 * 0x1000 + 0x200 + n % 4 * 0x100
/-- Base of the DEC block (R47). -/
abbrev Base.DEC (d : Nat) : Nat := 0x190000 + d * 0x100
/-- Base of the BRG block (R47). -/
abbrev Base.BRG (b : Nat) : Nat := 0x1A0000 + b * 0x400
/-- Base of the PR block (R47). -/
abbrev Base.PR : Nat := 0x1C0000
/-- Base of the MTR block (R47). -/
abbrev Base.MTR : Nat := 0x1D0000
/-- Base of the CLK block (R47). -/
abbrev Base.CLK : Nat := 0x2000
/-- Base of the ERR block (R47). -/
abbrev Base.ERR : Nat := 0x3000
/-- Base of the AUD block (R47). -/
abbrev Base.AUD : Nat := 0x7000
/-- Base of the SEC block (R47). -/
abbrev Base.SEC : Nat := 0x4000
/-- Base of the FRG block (R47). -/
abbrev Base.FRG : Nat := 0x6000
/-- Base of the MGT block (R47). -/
abbrev Base.MGT : Nat := 0xA000
/-- Base of the THERM block (R47). -/
abbrev Base.THERM : Nat := 0xB000
/-- `UNIT_ID` (R25). -/
abbrev A.UNIT_ID (u : Nat) : Nat := Base.UNIT u + 0x0
abbrev F.UNIT_ID_ID (u : Nat) : Fld := ⟨A.UNIT_ID u, 0, 12⟩
abbrev F.UNIT_ID_CLASS (u : Nat) : Fld := ⟨A.UNIT_ID u, 16, 8⟩
/-- `UNIT_STATE` (R25). -/
abbrev A.UNIT_STATE (u : Nat) : Nat := Base.UNIT u + 0x4
abbrev F.UNIT_STATE_STATE (u : Nat) : Fld := ⟨A.UNIT_STATE u, 0, 3⟩
abbrev F.UNIT_STATE_REASON (u : Nat) : Fld := ⟨A.UNIT_STATE u, 8, 8⟩
abbrev F.UNIT_STATE_DETAIL (u : Nat) : Fld := ⟨A.UNIT_STATE u, 16, 12⟩
/-- `UNIT_OWNER` (R25). -/
abbrev A.UNIT_OWNER (u : Nat) : Nat := Base.UNIT u + 0x8
abbrev F.UNIT_OWNER_OWNER (u : Nat) : Fld := ⟨A.UNIT_OWNER u, 0, 9⟩
/-- `UNIT_LINK` (R25). -/
abbrev A.UNIT_LINK (u : Nat) : Nat := Base.UNIT u + 0xC
abbrev F.UNIT_LINK_PARENT (u : Nat) : Fld := ⟨A.UNIT_LINK u, 0, 12⟩
abbrev F.UNIT_LINK_NEXT (u : Nat) : Fld := ⟨A.UNIT_LINK u, 16, 12⟩
/-- `UNIT_EVT` (R25). -/
abbrev A.UNIT_EVT (u : Nat) : Nat := Base.UNIT u + 0x10
abbrev F.UNIT_EVT_SUM (u : Nat) : Fld := ⟨A.UNIT_EVT u, 0, 1⟩
abbrev F.UNIT_EVT_STATE_CHG (u : Nat) : Fld := ⟨A.UNIT_EVT u, 1, 1⟩
abbrev F.UNIT_EVT_REFUSED (u : Nat) : Fld := ⟨A.UNIT_EVT u, 2, 1⟩
abbrev F.UNIT_EVT_FAULT (u : Nat) : Fld := ⟨A.UNIT_EVT u, 3, 1⟩
/-- `UNIT_EVT_EN` (R25). -/
abbrev A.UNIT_EVT_EN (u : Nat) : Nat := Base.UNIT u + 0x14
abbrev F.UNIT_EVT_EN_CLASS_EN (u : Nat) : Fld := ⟨A.UNIT_EVT_EN u, 0, 1⟩
abbrev F.UNIT_EVT_EN_LEAF_EN (u : Nat) : Fld := ⟨A.UNIT_EVT_EN u, 1, 3⟩
abbrev F.UNIT_EVT_EN_NOTIFY (u : Nat) : Fld := ⟨A.UNIT_EVT_EN u, 4, 1⟩
abbrev F.UNIT_EVT_EN_PROPAGATE (u : Nat) : Fld := ⟨A.UNIT_EVT_EN u, 5, 1⟩
/-- `UNIT_CMD` (R25). -/
abbrev A.UNIT_CMD (u : Nat) : Nat := Base.UNIT u + 0x18
abbrev F.UNIT_CMD_ORDER (u : Nat) : Fld := ⟨A.UNIT_CMD u, 0, 4⟩
abbrev F.UNIT_CMD_BUSY (u : Nat) : Fld := ⟨A.UNIT_CMD u, 8, 1⟩
abbrev F.UNIT_CMD_TARGET (u : Nat) : Fld := ⟨A.UNIT_CMD u, 9, 2⟩
/-- `UNIT_BOUNDARY` (R25). -/
abbrev A.UNIT_BOUNDARY (u : Nat) : Nat := Base.UNIT u + 0x1C
abbrev F.UNIT_BOUNDARY_BTYPE (u : Nat) : Fld := ⟨A.UNIT_BOUNDARY u, 0, 4⟩
/-- `UNIT_SYNC_COUNT` (R25). -/
abbrev A.UNIT_SYNC_COUNT (u : Nat) : Nat := Base.UNIT u + 0x20
abbrev F.UNIT_SYNC_COUNT_SYNC_COUNT (u : Nat) : Fld := ⟨A.UNIT_SYNC_COUNT u, 0, 32⟩
/-- `UNIT_REFUSALS` (R25). -/
abbrev A.UNIT_REFUSALS (u : Nat) : Nat := Base.UNIT u + 0x24
abbrev F.UNIT_REFUSALS_REFUSALS (u : Nat) : Fld := ⟨A.UNIT_REFUSALS u, 0, 32⟩
/-- `UNIT_FAULTS` (R25). -/
abbrev A.UNIT_FAULTS (u : Nat) : Nat := Base.UNIT u + 0x28
abbrev F.UNIT_FAULTS_FAULTS (u : Nat) : Fld := ⟨A.UNIT_FAULTS u, 0, 16⟩
/-- `UNIT_RSV_WRITES` (R25). -/
abbrev A.UNIT_RSV_WRITES (u : Nat) : Nat := Base.UNIT u + 0x2C
abbrev F.UNIT_RSV_WRITES_RSV_WRITES (u : Nat) : Fld := ⟨A.UNIT_RSV_WRITES u, 0, 16⟩
/-- `UNIT_TIME_LO` (R25). -/
abbrev A.UNIT_TIME_LO (u : Nat) : Nat := Base.UNIT u + 0x30
abbrev F.UNIT_TIME_LO_TIME (u : Nat) : Fld := ⟨A.UNIT_TIME_LO u, 0, 32⟩
/-- `UNIT_TIME_HI` (R25). -/
abbrev A.UNIT_TIME_HI (u : Nat) : Nat := Base.UNIT u + 0x34
abbrev F.UNIT_TIME_HI_TIME (u : Nat) : Fld := ⟨A.UNIT_TIME_HI u, 0, 32⟩
/-- `UNIT_BLOCK` (R25). -/
abbrev A.UNIT_BLOCK (u : Nat) : Nat := Base.UNIT u + 0x38
abbrev F.UNIT_BLOCK_BLOCK (u : Nat) : Fld := ⟨A.UNIT_BLOCK u, 0, 28⟩
/-- `CAB_MEMBERS` (R25). -/
abbrev A.CAB_MEMBERS (u : Nat) : Nat := Base.UNIT u + 0x38
abbrev F.CAB_MEMBERS_FIRST (u : Nat) : Fld := ⟨A.CAB_MEMBERS u, 0, 12⟩
abbrev F.CAB_MEMBERS_COUNT (u : Nat) : Fld := ⟨A.CAB_MEMBERS u, 16, 12⟩
/-- `CFG_CTRL` (R71). -/
abbrev A.CFG_CTRL : Nat := Base.CFG + 0x0
abbrev F.CFG_CTRL_ACTION : Fld := ⟨A.CFG_CTRL, 0, 2⟩
abbrev F.CFG_CTRL_REF_VALID : Fld := ⟨A.CFG_CTRL, 4, 1⟩
/-- `CFG_CRC_NOW` (R71). -/
abbrev A.CFG_CRC_NOW : Nat := Base.CFG + 0x4
abbrev F.CFG_CRC_NOW_CRC : Fld := ⟨A.CFG_CRC_NOW, 0, 32⟩
/-- `CFG_CRC_REF` (R71). -/
abbrev A.CFG_CRC_REF : Nat := Base.CFG + 0x8
abbrev F.CFG_CRC_REF_CRC : Fld := ⟨A.CFG_CRC_REF, 0, 32⟩
/-- `CFG_CRC_CAPTURE` (R71). -/
abbrev A.CFG_CRC_CAPTURE : Nat := Base.CFG + 0xC
abbrev F.CFG_CRC_CAPTURE_GO : Fld := ⟨A.CFG_CRC_CAPTURE, 0, 1⟩
abbrev F.CFG_CRC_CAPTURE_BUSY : Fld := ⟨A.CFG_CRC_CAPTURE, 1, 1⟩
/-- `CFG_STATUS` (R71). -/
abbrev A.CFG_STATUS : Nat := Base.CFG + 0x10
abbrev F.CFG_STATUS_VALID : Fld := ⟨A.CFG_STATUS, 0, 1⟩
abbrev F.CFG_STATUS_MISMATCH : Fld := ⟨A.CFG_STATUS, 1, 1⟩
abbrev F.CFG_STATUS_MISMATCH_EVT : Fld := ⟨A.CFG_STATUS, 2, 1⟩
/-- `CFG_MISMATCH_COUNT` (R71). -/
abbrev A.CFG_MISMATCH_COUNT : Nat := Base.CFG + 0x14
abbrev F.CFG_MISMATCH_COUNT_COUNT : Fld := ⟨A.CFG_MISMATCH_COUNT, 0, 32⟩
/-- `GLB_ID` (R72). -/
abbrev A.GLB_ID : Nat := 0x0
abbrev F.GLB_ID_ID : Fld := ⟨A.GLB_ID, 0, 32⟩
/-- `GLB_CAPS` (R72). -/
abbrev A.GLB_CAPS : Nat := 0x4
abbrev F.GLB_CAPS_LINKS : Fld := ⟨A.GLB_CAPS, 0, 8⟩
abbrev F.GLB_CAPS_SENGS : Fld := ⟨A.GLB_CAPS, 8, 8⟩
abbrev F.GLB_CAPS_STEWARDS : Fld := ⟨A.GLB_CAPS, 16, 4⟩
abbrev F.GLB_CAPS_MACSEC : Fld := ⟨A.GLB_CAPS, 20, 1⟩
abbrev F.GLB_CAPS_SRIOV : Fld := ⟨A.GLB_CAPS, 21, 1⟩
abbrev F.GLB_CAPS_RSFEC : Fld := ⟨A.GLB_CAPS, 22, 1⟩
abbrev F.GLB_CAPS_PREEMPT : Fld := ⟨A.GLB_CAPS, 23, 1⟩
/-- `GLB_COMMIT` (R72). -/
abbrev A.GLB_COMMIT : Nat := 0x10
abbrev F.GLB_COMMIT_GO : Fld := ⟨A.GLB_COMMIT, 0, 1⟩
/-- `GLB_COMMIT_STATUS` (R72). -/
abbrev A.GLB_COMMIT_STATUS : Nat := 0x14
abbrev F.GLB_COMMIT_STATUS_BUSY : Fld := ⟨A.GLB_COMMIT_STATUS, 0, 1⟩
abbrev F.GLB_COMMIT_STATUS_PENDING : Fld := ⟨A.GLB_COMMIT_STATUS, 1, 1⟩
abbrev F.GLB_COMMIT_STATUS_REASON : Fld := ⟨A.GLB_COMMIT_STATUS, 8, 8⟩
abbrev F.GLB_COMMIT_STATUS_UNIT : Fld := ⟨A.GLB_COMMIT_STATUS, 16, 12⟩
/-- `GLB_SNAP` (R72). -/
abbrev A.GLB_SNAP : Nat := 0x20
abbrev F.GLB_SNAP_GO : Fld := ⟨A.GLB_SNAP, 0, 1⟩
abbrev F.GLB_SNAP_BUSY : Fld := ⟨A.GLB_SNAP, 1, 1⟩
abbrev F.GLB_SNAP_PENDING : Fld := ⟨A.GLB_SNAP, 2, 1⟩
abbrev F.GLB_SNAP_COALESCED : Fld := ⟨A.GLB_SNAP, 16, 16⟩
/-- `GLB_SNAP_TIME_LO` (R72). -/
abbrev A.GLB_SNAP_TIME_LO : Nat := 0x24
abbrev F.GLB_SNAP_TIME_LO_TIME : Fld := ⟨A.GLB_SNAP_TIME_LO, 0, 32⟩
/-- `GLB_SNAP_TIME_HI` (R72). -/
abbrev A.GLB_SNAP_TIME_HI : Nat := 0x28
abbrev F.GLB_SNAP_TIME_HI_TIME : Fld := ⟨A.GLB_SNAP_TIME_HI, 0, 32⟩
/-- `GLB_SNAP_SEQ` (R72). -/
abbrev A.GLB_SNAP_SEQ : Nat := 0x2C
abbrev F.GLB_SNAP_SEQ_SEQ : Fld := ⟨A.GLB_SNAP_SEQ, 0, 32⟩
/-- `GLB_BUSERR_ADDR` (R72). -/
abbrev A.GLB_BUSERR_ADDR : Nat := 0x30
abbrev F.GLB_BUSERR_ADDR_ADDR : Fld := ⟨A.GLB_BUSERR_ADDR, 0, 27⟩
/-- `GLB_BUSERR_INFO` (R72). -/
abbrev A.GLB_BUSERR_INFO : Nat := 0x34
abbrev F.GLB_BUSERR_INFO_KIND : Fld := ⟨A.GLB_BUSERR_INFO, 0, 3⟩
abbrev F.GLB_BUSERR_INFO_PATH : Fld := ⟨A.GLB_BUSERR_INFO, 4, 1⟩
abbrev F.GLB_BUSERR_INFO_WRITE : Fld := ⟨A.GLB_BUSERR_INFO, 5, 1⟩
abbrev F.GLB_BUSERR_INFO_VALID : Fld := ⟨A.GLB_BUSERR_INFO, 31, 1⟩
/-- `GLB_BUSERR_COUNT` (R72). -/
abbrev A.GLB_BUSERR_COUNT : Nat := 0x38
abbrev F.GLB_BUSERR_COUNT_COUNT : Fld := ⟨A.GLB_BUSERR_COUNT, 0, 32⟩
/-- `GLB_RSV_WRITES` (R72). -/
abbrev A.GLB_RSV_WRITES : Nat := 0x3C
abbrev F.GLB_RSV_WRITES_COUNT : Fld := ⟨A.GLB_RSV_WRITES, 0, 16⟩
/-- `GLB_POST_BUSY` (R72). -/
abbrev A.GLB_POST_BUSY : Nat := 0x40
abbrev F.GLB_POST_BUSY_PWR : Fld := ⟨A.GLB_POST_BUSY, 0, 1⟩
abbrev F.GLB_POST_BUSY_CLK : Fld := ⟨A.GLB_POST_BUSY, 1, 1⟩
abbrev F.GLB_POST_BUSY_PMB : Fld := ⟨A.GLB_POST_BUSY, 2, 1⟩
abbrev F.GLB_POST_BUSY_SDQ : Fld := ⟨A.GLB_POST_BUSY, 8, 6⟩
abbrev F.GLB_POST_BUSY_MCS : Fld := ⟨A.GLB_POST_BUSY, 16, 8⟩
/-- `GLB_ARB_PRIO` (R72). -/
abbrev A.GLB_ARB_PRIO : Nat := 0x60
abbrev F.GLB_ARB_PRIO_SPI_FIRST : Fld := ⟨A.GLB_ARB_PRIO, 0, 1⟩
/-- `GLB_CONFLICT` (R72). -/
abbrev A.GLB_CONFLICT : Nat := 0x64
abbrev F.GLB_CONFLICT_ADDR : Fld := ⟨A.GLB_CONFLICT, 0, 27⟩
abbrev F.GLB_CONFLICT_PATH : Fld := ⟨A.GLB_CONFLICT, 27, 1⟩
abbrev F.GLB_CONFLICT_CMD : Fld := ⟨A.GLB_CONFLICT, 28, 1⟩
abbrev F.GLB_CONFLICT_VALID : Fld := ⟨A.GLB_CONFLICT, 31, 1⟩
/-- `GLB_EVT_SUMMARY` (R72). -/
abbrev A.GLB_EVT_SUMMARY : Nat := 0x80
abbrev F.GLB_EVT_SUMMARY_UNITS : Fld := ⟨A.GLB_EVT_SUMMARY, 0, 1⟩
abbrev F.GLB_EVT_SUMMARY_ERR : Fld := ⟨A.GLB_EVT_SUMMARY, 1, 1⟩
abbrev F.GLB_EVT_SUMMARY_CFG : Fld := ⟨A.GLB_EVT_SUMMARY, 2, 1⟩
abbrev F.GLB_EVT_SUMMARY_AUDIT : Fld := ⟨A.GLB_EVT_SUMMARY, 3, 1⟩
abbrev F.GLB_EVT_SUMMARY_THERM : Fld := ⟨A.GLB_EVT_SUMMARY, 4, 1⟩
abbrev F.GLB_EVT_SUMMARY_BUSERR : Fld := ⟨A.GLB_EVT_SUMMARY, 5, 1⟩
abbrev F.GLB_EVT_SUMMARY_CONFLICT : Fld := ⟨A.GLB_EVT_SUMMARY, 6, 1⟩
/-- `GLB_SOFT_RESET` (R72). -/
abbrev A.GLB_SOFT_RESET : Nat := 0x100
abbrev F.GLB_SOFT_RESET_GO : Fld := ⟨A.GLB_SOFT_RESET, 0, 1⟩
abbrev F.GLB_SOFT_RESET_KEY : Fld := ⟨A.GLB_SOFT_RESET, 16, 16⟩
/-- `TNT_INFO` (R95). -/
abbrev A.TNT_INFO (t : Nat) : Nat := Base.TNT t + 0x0
abbrev F.TNT_INFO_TENANT (t : Nat) : Fld := ⟨A.TNT_INFO t, 0, 9⟩
abbrev F.TNT_INFO_PATH (t : Nat) : Fld := ⟨A.TNT_INFO t, 12, 1⟩
abbrev F.TNT_INFO_VF (t : Nat) : Fld := ⟨A.TNT_INFO t, 16, 6⟩
/-- `SQ_BASE_LO` (R95). -/
abbrev A.SQ_BASE_LO (t : Nat) : Nat := Base.TNT t + 0x10
abbrev F.SQ_BASE_LO_BASE (t : Nat) : Fld := ⟨A.SQ_BASE_LO t, 12, 20⟩
/-- `SQ_BASE_HI` (R95). -/
abbrev A.SQ_BASE_HI (t : Nat) : Nat := Base.TNT t + 0x14
abbrev F.SQ_BASE_HI_BASE (t : Nat) : Fld := ⟨A.SQ_BASE_HI t, 0, 32⟩
/-- `SQ_CFG` (R95). -/
abbrev A.SQ_CFG (t : Nat) : Nat := Base.TNT t + 0x18
abbrev F.SQ_CFG_DEPTH_LOG2 (t : Nat) : Fld := ⟨A.SQ_CFG t, 0, 4⟩
abbrev F.SQ_CFG_THRESH (t : Nat) : Fld := ⟨A.SQ_CFG t, 8, 12⟩
abbrev F.SQ_CFG_IRQ (t : Nat) : Fld := ⟨A.SQ_CFG t, 30, 1⟩
abbrev F.SQ_CFG_EN (t : Nat) : Fld := ⟨A.SQ_CFG t, 31, 1⟩
/-- `SQ_TAIL` (R95). -/
abbrev A.SQ_TAIL (t : Nat) : Nat := Base.TNT t + 0x40
abbrev F.SQ_TAIL_TAIL (t : Nat) : Fld := ⟨A.SQ_TAIL t, 0, 16⟩
/-- `CQ_HEAD` (R95). -/
abbrev A.CQ_HEAD (t : Nat) : Nat := Base.TNT t + 0x44
abbrev F.CQ_HEAD_HEAD (t : Nat) : Fld := ⟨A.CQ_HEAD t, 0, 16⟩
/-- `EQ_HEAD` (R95). -/
abbrev A.EQ_HEAD (t : Nat) : Nat := Base.TNT t + 0x48
abbrev F.EQ_HEAD_HEAD (t : Nat) : Fld := ⟨A.EQ_HEAD t, 0, 16⟩
/-- `SQ_CREDIT` (R95). -/
abbrev A.SQ_CREDIT (t : Nat) : Nat := Base.TNT t + 0x50
abbrev F.SQ_CREDIT_CREDIT (t : Nat) : Fld := ⟨A.SQ_CREDIT t, 0, 16⟩
/-- `SQ_HEAD` (R95). -/
abbrev A.SQ_HEAD (t : Nat) : Nat := Base.TNT t + 0x54
abbrev F.SQ_HEAD_HEAD (t : Nat) : Fld := ⟨A.SQ_HEAD t, 0, 16⟩
/-- `CQ_FILL` (R95). -/
abbrev A.CQ_FILL (t : Nat) : Nat := Base.TNT t + 0x58
abbrev F.CQ_FILL_FILL (t : Nat) : Fld := ⟨A.CQ_FILL t, 0, 16⟩
/-- `EQ_FILL` (R95). -/
abbrev A.EQ_FILL (t : Nat) : Nat := Base.TNT t + 0x5C
abbrev F.EQ_FILL_FILL (t : Nat) : Fld := ⟨A.EQ_FILL t, 0, 16⟩
/-- `QSTAT` (R95). -/
abbrev A.QSTAT (t : Nat) : Nat := Base.TNT t + 0x60
abbrev F.QSTAT_SQ_OVERCREDIT (t : Nat) : Fld := ⟨A.QSTAT t, 0, 1⟩
abbrev F.QSTAT_CQ_UNDERRUN (t : Nat) : Fld := ⟨A.QSTAT t, 1, 1⟩
abbrev F.QSTAT_EQ_UNDERRUN (t : Nat) : Fld := ⟨A.QSTAT t, 2, 1⟩
abbrev F.QSTAT_THR (t : Nat) : Fld := ⟨A.QSTAT t, 3, 3⟩
abbrev F.QSTAT_REGRANT (t : Nat) : Fld := ⟨A.QSTAT t, 6, 1⟩
abbrev F.QSTAT_REASON (t : Nat) : Fld := ⟨A.QSTAT t, 8, 8⟩
/-- `QRESETS` (R95). -/
abbrev A.QRESETS (t : Nat) : Nat := Base.TNT t + 0x64
abbrev F.QRESETS_RESETS (t : Nat) : Fld := ⟨A.QRESETS t, 0, 16⟩
abbrev F.QRESETS_DISCARDS (t : Nat) : Fld := ⟨A.QRESETS t, 16, 16⟩
/-- `USER_DB` (R95). -/
abbrev A.USER_DB (t : Nat) : Nat := Base.TNT t + 0xF0
abbrev F.USER_DB_VALUE (t : Nat) : Fld := ⟨A.USER_DB t, 0, 32⟩
/-- `HOST_T0_PATH` (R107). -/
abbrev A.HOST_T0_PATH : Nat := Base.HOST + 0x0
abbrev F.HOST_T0_PATH_PATH : Fld := ⟨A.HOST_T0_PATH, 0, 1⟩
/-- `HOST_STATUS` (R107). -/
abbrev A.HOST_STATUS : Nat := Base.HOST + 0x4
abbrev F.HOST_STATUS_IGNORED : Fld := ⟨A.HOST_STATUS, 0, 16⟩
abbrev F.HOST_STATUS_CONFLICTS : Fld := ⟨A.HOST_STATUS, 16, 16⟩
/-- `HOST_SPI_TENANTS` (R107). -/
abbrev A.HOST_SPI_TENANTS : Nat := Base.HOST + 0x8
abbrev F.HOST_SPI_TENANTS_COUNT : Fld := ⟨A.HOST_SPI_TENANTS, 0, 7⟩
/-- `HOST_INTPIN_EN` (R107). -/
abbrev A.HOST_INTPIN_EN : Nat := Base.HOST + 0xC
abbrev F.HOST_INTPIN_EN_INT0_MASK : Fld := ⟨A.HOST_INTPIN_EN, 0, 7⟩
abbrev F.HOST_INTPIN_EN_INT1_EN : Fld := ⟨A.HOST_INTPIN_EN, 16, 1⟩
/-- `HCH_BASE_LO` (R107). -/
abbrev A.HCH_BASE_LO (i : Nat) : Nat := Base.HOST + 0x800 + i * 16
abbrev F.HCH_BASE_LO_BASE (i : Nat) : Fld := ⟨A.HCH_BASE_LO i, 6, 26⟩
/-- `ENG_CFG` (R151). -/
abbrev A.ENG_CFG (e : Nat) : Nat := Base.SENG e + 0x0
abbrev F.ENG_CFG_DOMAIN (e : Nat) : Fld := ⟨A.ENG_CFG e, 0, 3⟩
abbrev F.ENG_CFG_OVR_LIMIT (e : Nat) : Fld := ⟨A.ENG_CFG e, 8, 8⟩
/-- `ENG_DECL` (R151). -/
abbrev A.ENG_DECL (e : Nat) : Nat := Base.SENG e + 0x4
abbrev F.ENG_DECL_DECL (e : Nat) : Fld := ⟨A.ENG_DECL e, 0, 32⟩
/-- `ENG_ENTRY` (R151). -/
abbrev A.ENG_ENTRY (e : Nat) : Nat := Base.SENG e + 0x8
abbrev F.ENG_ENTRY_ENTRY (e : Nat) : Fld := ⟨A.ENG_ENTRY e, 2, 30⟩
/-- `ENG_COMMIT` (R151). -/
abbrev A.ENG_COMMIT (e : Nat) : Nat := Base.SENG e + 0xC
abbrev F.ENG_COMMIT_GO (e : Nat) : Fld := ⟨A.ENG_COMMIT e, 0, 1⟩
abbrev F.ENG_COMMIT_PENDING (e : Nat) : Fld := ⟨A.ENG_COMMIT e, 1, 1⟩
abbrev F.ENG_COMMIT_REASON (e : Nat) : Fld := ⟨A.ENG_COMMIT e, 8, 8⟩
/-- `ENG_STAT` (R151). -/
abbrev A.ENG_STAT (e : Nat) : Nat := Base.SENG e + 0x10
abbrev F.ENG_STAT_OVR_EVT (e : Nat) : Fld := ⟨A.ENG_STAT e, 0, 1⟩
abbrev F.ENG_STAT_EXC_EVT (e : Nat) : Fld := ⟨A.ENG_STAT e, 1, 1⟩
abbrev F.ENG_STAT_HALTED (e : Nat) : Fld := ⟨A.ENG_STAT e, 2, 1⟩
/-- `ENG_BUDGET` (R151). -/
abbrev A.ENG_BUDGET (e : Nat) : Nat := Base.SENG e + 0x14
abbrev F.ENG_BUDGET_BUDGET (e : Nat) : Fld := ⟨A.ENG_BUDGET e, 0, 32⟩
/-- `ENG_MAXCYC` (R151). -/
abbrev A.ENG_MAXCYC (e : Nat) : Nat := Base.SENG e + 0x18
abbrev F.ENG_MAXCYC_MAXCYC (e : Nat) : Fld := ⟨A.ENG_MAXCYC e, 0, 32⟩
/-- `STW_RESUME` (R161). -/
abbrev A.STW_RESUME (s : Nat) : Nat := Base.STW s + 0x0
abbrev F.STW_RESUME_VEC (s : Nat) : Fld := ⟨A.STW_RESUME s, 2, 30⟩
/-- `STW_ETAB_BASE` (R161). -/
abbrev A.STW_ETAB_BASE (s : Nat) : Nat := Base.STW s + 0x4
abbrev F.STW_ETAB_BASE_BASE (s : Nat) : Fld := ⟨A.STW_ETAB_BASE s, 5, 15⟩
/-- `STW_ETAB_COUNT` (R161). -/
abbrev A.STW_ETAB_COUNT (s : Nat) : Nat := Base.STW s + 0x8
abbrev F.STW_ETAB_COUNT_COUNT (s : Nat) : Fld := ⟨A.STW_ETAB_COUNT s, 0, 11⟩
/-- `STW_ELOAD` (R161). -/
abbrev A.STW_ELOAD (s : Nat) : Nat := Base.STW s + 0xC
abbrev F.STW_ELOAD_GO (s : Nat) : Fld := ⟨A.STW_ELOAD s, 0, 1⟩
abbrev F.STW_ELOAD_BUSY (s : Nat) : Fld := ⟨A.STW_ELOAD s, 1, 1⟩
abbrev F.STW_ELOAD_REASON (s : Nat) : Fld := ⟨A.STW_ELOAD s, 8, 8⟩
abbrev F.STW_ELOAD_ENTRY (s : Nat) : Fld := ⟨A.STW_ELOAD s, 16, 11⟩
/-- `STW_STACK` (R161). -/
abbrev A.STW_STACK (s : Nat) : Nat := Base.STW s + 0x10
abbrev F.STW_STACK_BASE (s : Nat) : Fld := ⟨A.STW_STACK s, 4, 16⟩
abbrev F.STW_STACK_SIZE_LOG2 (s : Nat) : Fld := ⟨A.STW_STACK s, 24, 4⟩
/-- `STW_THREADS` (R161). -/
abbrev A.STW_THREADS (s : Nat) : Nat := Base.STW s + 0x14
abbrev F.STW_THREADS_BUSY (s : Nat) : Fld := ⟨A.STW_THREADS s, 0, 8⟩
abbrev F.STW_THREADS_STARTQ (s : Nat) : Fld := ⟨A.STW_THREADS s, 16, 8⟩
/-- `STW_STAT` (R161). -/
abbrev A.STW_STAT (s : Nat) : Nat := Base.STW s + 0x18
abbrev F.STW_STAT_EXC_EVT (s : Nat) : Fld := ⟨A.STW_STAT s, 0, 1⟩
abbrev F.STW_STAT_DROP_EVT (s : Nat) : Fld := ⟨A.STW_STAT s, 1, 1⟩
/-- `LNK_CTRL` (R179). -/
abbrev A.LNK_CTRL (n : Nat) : Nat := Base.LNK n + 0x0
abbrev F.LNK_CTRL_SPEED (n : Nat) : Fld := ⟨A.LNK_CTRL n, 0, 3⟩
abbrev F.LNK_CTRL_MODE (n : Nat) : Fld := ⟨A.LNK_CTRL n, 4, 1⟩
abbrev F.LNK_CTRL_AN_EN (n : Nat) : Fld := ⟨A.LNK_CTRL n, 5, 1⟩
abbrev F.LNK_CTRL_RX_INV (n : Nat) : Fld := ⟨A.LNK_CTRL n, 6, 1⟩
abbrev F.LNK_CTRL_TX_INV (n : Nat) : Fld := ⟨A.LNK_CTRL n, 7, 1⟩
abbrev F.LNK_CTRL_LINK_HOLD (n : Nat) : Fld := ⟨A.LNK_CTRL n, 8, 8⟩
/-- `LNK_STATUS` (R179). -/
abbrev A.LNK_STATUS (n : Nat) : Nat := Base.LNK n + 0x4
abbrev F.LNK_STATUS_PCS_LOCK (n : Nat) : Fld := ⟨A.LNK_STATUS n, 0, 1⟩
abbrev F.LNK_STATUS_AN_DONE (n : Nat) : Fld := ⟨A.LNK_STATUS n, 1, 1⟩
abbrev F.LNK_STATUS_LINK_UP (n : Nat) : Fld := ⟨A.LNK_STATUS n, 2, 1⟩
abbrev F.LNK_STATUS_REMOTE_FAULT (n : Nat) : Fld := ⟨A.LNK_STATUS n, 3, 1⟩
abbrev F.LNK_STATUS_PARTNER (n : Nat) : Fld := ⟨A.LNK_STATUS n, 16, 16⟩
/-- `LNK_EVT` (R179). -/
abbrev A.LNK_EVT (n : Nat) : Nat := Base.LNK n + 0x8
abbrev F.LNK_EVT_UP (n : Nat) : Fld := ⟨A.LNK_EVT n, 0, 1⟩
abbrev F.LNK_EVT_DOWN (n : Nat) : Fld := ⟨A.LNK_EVT n, 1, 1⟩
abbrev F.LNK_EVT_PAUSE_WD (n : Nat) : Fld := ⟨A.LNK_EVT n, 2, 1⟩
abbrev F.LNK_EVT_GATE_DROP (n : Nat) : Fld := ⟨A.LNK_EVT n, 3, 1⟩
abbrev F.LNK_EVT_GCL_SWITCH (n : Nat) : Fld := ⟨A.LNK_EVT n, 4, 1⟩
abbrev F.LNK_EVT_FEC_UNCORR (n : Nat) : Fld := ⟨A.LNK_EVT n, 5, 1⟩
abbrev F.LNK_EVT_MACSEC (n : Nat) : Fld := ⟨A.LNK_EVT n, 6, 1⟩
abbrev F.LNK_EVT_VERIFY (n : Nat) : Fld := ⟨A.LNK_EVT n, 7, 1⟩
/-- `LNK_COMMIT` (R179). -/
abbrev A.LNK_COMMIT (n : Nat) : Nat := Base.LNK n + 0xC
abbrev F.LNK_COMMIT_GO (n : Nat) : Fld := ⟨A.LNK_COMMIT n, 0, 1⟩
abbrev F.LNK_COMMIT_PENDING (n : Nat) : Fld := ⟨A.LNK_COMMIT n, 1, 1⟩
abbrev F.LNK_COMMIT_REASON (n : Nat) : Fld := ⟨A.LNK_COMMIT n, 8, 8⟩
/-- `LNK_SERDES` (R179). -/
abbrev A.LNK_SERDES (n : Nat) : Nat := Base.LNK n + 0x10
abbrev F.LNK_SERDES_TX_AMP (n : Nat) : Fld := ⟨A.LNK_SERDES n, 0, 5⟩
abbrev F.LNK_SERDES_TX_PRE (n : Nat) : Fld := ⟨A.LNK_SERDES n, 5, 5⟩
abbrev F.LNK_SERDES_TX_POST (n : Nat) : Fld := ⟨A.LNK_SERDES n, 10, 5⟩
abbrev F.LNK_SERDES_RX_EQ_HOLD (n : Nat) : Fld := ⟨A.LNK_SERDES n, 16, 1⟩
abbrev F.LNK_SERDES_BUSY (n : Nat) : Fld := ⟨A.LNK_SERDES n, 31, 1⟩
/-- `LNK_MAXLEN` (R179). -/
abbrev A.LNK_MAXLEN (n : Nat) : Nat := Base.LNK n + 0x14
abbrev F.LNK_MAXLEN_MAXLEN (n : Nat) : Fld := ⟨A.LNK_MAXLEN n, 0, 14⟩
/-- `LNK_FILTER` (R189). -/
abbrev A.LNK_FILTER (n : Nat) : Nat := Base.LNK n + 0x18
abbrev F.LNK_FILTER_BCAST (n : Nat) : Fld := ⟨A.LNK_FILTER n, 0, 1⟩
abbrev F.LNK_FILTER_MHASH (n : Nat) : Fld := ⟨A.LNK_FILTER n, 1, 1⟩
abbrev F.LNK_FILTER_BYPASS (n : Nat) : Fld := ⟨A.LNK_FILTER n, 2, 1⟩
/-- `LNK_UCAST_LO` (R189). -/
abbrev A.LNK_UCAST_LO (n i : Nat) : Nat := Base.LNK n + 0x20 + i * 8
abbrev F.LNK_UCAST_LO_ADDR_LO (n i : Nat) : Fld := ⟨A.LNK_UCAST_LO n i, 0, 32⟩
/-- `LNK_UCAST_HI` (R189). -/
abbrev A.LNK_UCAST_HI (n i : Nat) : Nat := Base.LNK n + 0x24 + i * 8
abbrev F.LNK_UCAST_HI_ADDR_HI (n i : Nat) : Fld := ⟨A.LNK_UCAST_HI n i, 0, 16⟩
abbrev F.LNK_UCAST_HI_EN (n i : Nat) : Fld := ⟨A.LNK_UCAST_HI n i, 31, 1⟩
/-- `LNK_HASH` (R189). -/
abbrev A.LNK_HASH (n i : Nat) : Nat := Base.LNK n + 0x100 + i * 4
abbrev F.LNK_HASH_BITS (n i : Nat) : Fld := ⟨A.LNK_HASH n i, 0, 32⟩
/-- `LNK_VLAN` (R191). -/
abbrev A.LNK_VLAN (n : Nat) : Nat := Base.LNK n + 0x40
abbrev F.LNK_VLAN_TPID_OUTER (n : Nat) : Fld := ⟨A.LNK_VLAN n, 0, 1⟩
abbrev F.LNK_VLAN_VFILTER_EN (n : Nat) : Fld := ⟨A.LNK_VLAN n, 1, 1⟩
abbrev F.LNK_VLAN_UNTAG_PVID (n : Nat) : Fld := ⟨A.LNK_VLAN n, 2, 1⟩
abbrev F.LNK_VLAN_PVID (n : Nat) : Fld := ⟨A.LNK_VLAN n, 16, 12⟩
/-- `LNK_CLASS` (R191). -/
abbrev A.LNK_CLASS (n : Nat) : Nat := Base.LNK n + 0x44
abbrev F.LNK_CLASS_CLASS_SRC (n : Nat) : Fld := ⟨A.LNK_CLASS n, 0, 2⟩
abbrev F.LNK_CLASS_DEFAULT_CLASS (n : Nat) : Fld := ⟨A.LNK_CLASS n, 4, 3⟩
abbrev F.LNK_CLASS_AUDIO (n : Nat) : Fld := ⟨A.LNK_CLASS n, 8, 8⟩
/-- `LNK_PCP_MAP` (R191). -/
abbrev A.LNK_PCP_MAP (n : Nat) : Nat := Base.LNK n + 0x48
abbrev F.LNK_PCP_MAP_MAP (n : Nat) : Fld := ⟨A.LNK_PCP_MAP n, 0, 32⟩
/-- `LNK_DSCP_MAP` (R191). -/
abbrev A.LNK_DSCP_MAP (n i : Nat) : Nat := Base.LNK n + 0x50 + i * 4
abbrev F.LNK_DSCP_MAP_MAP (n i : Nat) : Fld := ⟨A.LNK_DSCP_MAP n i, 0, 32⟩
/-- `LNK_VLANMAP` (R191). -/
abbrev A.LNK_VLANMAP (n i : Nat) : Nat := Base.LNK n + 0x800 + i * 4
abbrev F.LNK_VLANMAP_MEMBER (n i : Nat) : Fld := ⟨A.LNK_VLANMAP n i, 0, 32⟩
/-- `LNK_GCL_CTRL` (R191). -/
abbrev A.LNK_GCL_CTRL (n : Nat) : Nat := Base.LNK n + 0x200
abbrev F.LNK_GCL_CTRL_EN (n : Nat) : Fld := ⟨A.LNK_GCL_CTRL n, 0, 1⟩
abbrev F.LNK_GCL_CTRL_LEN (n : Nat) : Fld := ⟨A.LNK_GCL_CTRL n, 16, 9⟩
/-- `LNK_GCL_CYCLE` (R191). -/
abbrev A.LNK_GCL_CYCLE (n : Nat) : Nat := Base.LNK n + 0x204
abbrev F.LNK_GCL_CYCLE_CYCLE (n : Nat) : Fld := ⟨A.LNK_GCL_CYCLE n, 0, 30⟩
/-- `LNK_GCL_BASE_LO` (R191). -/
abbrev A.LNK_GCL_BASE_LO (n : Nat) : Nat := Base.LNK n + 0x208
abbrev F.LNK_GCL_BASE_LO_BASE (n : Nat) : Fld := ⟨A.LNK_GCL_BASE_LO n, 0, 32⟩
/-- `LNK_GCL_BASE_HI` (R191). -/
abbrev A.LNK_GCL_BASE_HI (n : Nat) : Nat := Base.LNK n + 0x20C
abbrev F.LNK_GCL_BASE_HI_BASE (n : Nat) : Fld := ⟨A.LNK_GCL_BASE_HI n, 0, 32⟩
/-- `LNK_GCL_STATUS` (R191). -/
abbrev A.LNK_GCL_STATUS (n : Nat) : Nat := Base.LNK n + 0x210
abbrev F.LNK_GCL_STATUS_PENDING (n : Nat) : Fld := ⟨A.LNK_GCL_STATUS n, 0, 1⟩
abbrev F.LNK_GCL_STATUS_ENTRY (n : Nat) : Fld := ⟨A.LNK_GCL_STATUS n, 16, 8⟩
/-- `LNK_WMAX` (R191). -/
abbrev A.LNK_WMAX (n i : Nat) : Nat := Base.LNK n + 0x220 + i * 4
abbrev F.LNK_WMAX_WMAX (n i : Nat) : Fld := ⟨A.LNK_WMAX n i, 0, 32⟩
/-- `LNK_GCL` (R191). -/
abbrev A.LNK_GCL (n i : Nat) : Nat := Base.LNK n + 0x400 + i * 4
abbrev F.LNK_GCL_GATES (n i : Nat) : Fld := ⟨A.LNK_GCL n i, 0, 8⟩
abbrev F.LNK_GCL_INTERVAL (n i : Nat) : Fld := ⟨A.LNK_GCL n i, 8, 24⟩
/-- `LNK_GCL_OPER` (R191). -/
abbrev A.LNK_GCL_OPER (n i : Nat) : Nat := Base.LNK n + 0x3000 + i * 4
abbrev F.LNK_GCL_OPER_GATES (n i : Nat) : Fld := ⟨A.LNK_GCL_OPER n i, 0, 8⟩
abbrev F.LNK_GCL_OPER_INTERVAL (n i : Nat) : Fld := ⟨A.LNK_GCL_OPER n i, 8, 24⟩
/-- `LNK_PREEMPT` (R197). -/
abbrev A.LNK_PREEMPT (n : Nat) : Nat := Base.LNK n + 0x240
abbrev F.LNK_PREEMPT_EN (n : Nat) : Fld := ⟨A.LNK_PREEMPT n, 0, 1⟩
abbrev F.LNK_PREEMPT_PREEMPTABLE (n : Nat) : Fld := ⟨A.LNK_PREEMPT n, 8, 8⟩
abbrev F.LNK_PREEMPT_ADD_FRAG (n : Nat) : Fld := ⟨A.LNK_PREEMPT n, 16, 2⟩
abbrev F.LNK_PREEMPT_VERIFY_EN (n : Nat) : Fld := ⟨A.LNK_PREEMPT n, 20, 1⟩
abbrev F.LNK_PREEMPT_VERIFY (n : Nat) : Fld := ⟨A.LNK_PREEMPT n, 24, 2⟩
/-- `LNK_CBS` (R198). -/
abbrev A.LNK_CBS (n i : Nat) : Nat := Base.LNK n + 0x250 + i * 8
abbrev F.LNK_CBS_CLASS (n i : Nat) : Fld := ⟨A.LNK_CBS n i, 0, 3⟩
abbrev F.LNK_CBS_EN (n i : Nat) : Fld := ⟨A.LNK_CBS n i, 31, 1⟩
/-- `LNK_CBS_SLOPE` (R198). -/
abbrev A.LNK_CBS_SLOPE (n i : Nat) : Nat := Base.LNK n + 0x254 + i * 8
abbrev F.LNK_CBS_SLOPE_IDLE_SLOPE (n i : Nat) : Fld := ⟨A.LNK_CBS_SLOPE n i, 0, 25⟩
/-- `LNK_PAUSE` (R200). -/
abbrev A.LNK_PAUSE (n : Nat) : Nat := Base.LNK n + 0x260
abbrev F.LNK_PAUSE_RX_PAUSE (n : Nat) : Fld := ⟨A.LNK_PAUSE n, 0, 1⟩
abbrev F.LNK_PAUSE_PFC_AUDIO (n : Nat) : Fld := ⟨A.LNK_PAUSE n, 1, 1⟩
abbrev F.LNK_PAUSE_RX_PFC (n : Nat) : Fld := ⟨A.LNK_PAUSE n, 8, 8⟩
/-- `LNK_PAUSE_WD` (R200). -/
abbrev A.LNK_PAUSE_WD (n : Nat) : Nat := Base.LNK n + 0x264
abbrev F.LNK_PAUSE_WD_LIMIT (n : Nat) : Fld := ⟨A.LNK_PAUSE_WD n, 0, 10⟩
abbrev F.LNK_PAUSE_WD_HOLDOFF (n : Nat) : Fld := ⟨A.LNK_PAUSE_WD n, 16, 10⟩
/-- `LNK_PAUSE_STAT` (R200). -/
abbrev A.LNK_PAUSE_STAT (n : Nat) : Nat := Base.LNK n + 0x268
abbrev F.LNK_PAUSE_STAT_PAUSED (n : Nat) : Fld := ⟨A.LNK_PAUSE_STAT n, 0, 8⟩
abbrev F.LNK_PAUSE_STAT_HELD_OFF (n : Nat) : Fld := ⟨A.LNK_PAUSE_STAT n, 8, 8⟩
/-- `LNK_TS_RX_DELAY` (R202). -/
abbrev A.LNK_TS_RX_DELAY (n : Nat) : Nat := Base.LNK n + 0x280
abbrev F.LNK_TS_RX_DELAY_DELAY (n : Nat) : Fld := ⟨A.LNK_TS_RX_DELAY n, 0, 32⟩
/-- `LNK_TS_TX_DELAY` (R202). -/
abbrev A.LNK_TS_TX_DELAY (n : Nat) : Nat := Base.LNK n + 0x284
abbrev F.LNK_TS_TX_DELAY_DELAY (n : Nat) : Fld := ⟨A.LNK_TS_TX_DELAY n, 0, 32⟩
/-- `LNK_MACSEC` (R204). -/
abbrev A.LNK_MACSEC (n : Nat) : Nat := Base.LNK n + 0x2C0
abbrev F.LNK_MACSEC_TX_EN (n : Nat) : Fld := ⟨A.LNK_MACSEC n, 0, 1⟩
abbrev F.LNK_MACSEC_RX_EN (n : Nat) : Fld := ⟨A.LNK_MACSEC n, 1, 1⟩
abbrev F.LNK_MACSEC_CIPHER (n : Nat) : Fld := ⟨A.LNK_MACSEC n, 2, 1⟩
abbrev F.LNK_MACSEC_OFFSET (n : Nat) : Fld := ⟨A.LNK_MACSEC n, 4, 2⟩
abbrev F.LNK_MACSEC_TX_AN (n : Nat) : Fld := ⟨A.LNK_MACSEC n, 8, 2⟩
/-- `SPQ_BASE` (R210). -/
abbrev A.SPQ_BASE (i : Nat) : Nat := Base.SWC + 0x8000 + i * 32
abbrev F.SPQ_BASE_BASE (i : Nat) : Fld := ⟨A.SPQ_BASE i, 6, 14⟩
/-- `SPQ_CFG` (R210). -/
abbrev A.SPQ_CFG (i : Nat) : Nat := Base.SWC + 0x8004 + i * 32
abbrev F.SPQ_CFG_EN (i : Nat) : Fld := ⟨A.SPQ_CFG i, 0, 1⟩
abbrev F.SPQ_CFG_SLOT (i : Nat) : Fld := ⟨A.SPQ_CFG i, 1, 1⟩
abbrev F.SPQ_CFG_DEPTH_LOG2 (i : Nat) : Fld := ⟨A.SPQ_CFG i, 2, 3⟩
abbrev F.SPQ_CFG_STEWARD (i : Nat) : Fld := ⟨A.SPQ_CFG i, 5, 2⟩
abbrev F.SPQ_CFG_REASON (i : Nat) : Fld := ⟨A.SPQ_CFG i, 8, 8⟩
/-- `SPQ_HEAD` (R210). -/
abbrev A.SPQ_HEAD (i : Nat) : Nat := Base.SWC + 0x8008 + i * 32
abbrev F.SPQ_HEAD_HEAD (i : Nat) : Fld := ⟨A.SPQ_HEAD i, 0, 16⟩
/-- `SPQ_FILL` (R210). -/
abbrev A.SPQ_FILL (i : Nat) : Nat := Base.SWC + 0x800C + i * 32
abbrev F.SPQ_FILL_FILL (i : Nat) : Fld := ⟨A.SPQ_FILL i, 0, 16⟩
/-- `SPQ_DROPS` (R210). -/
abbrev A.SPQ_DROPS (i : Nat) : Nat := Base.SWC + 0x8010 + i * 32
abbrev F.SPQ_DROPS_DROPS (i : Nat) : Fld := ⟨A.SPQ_DROPS i, 0, 32⟩
/-- `SPQ_RULE` (R210). -/
abbrev A.SPQ_RULE (i : Nat) : Nat := Base.SWC + 0x8100 + i * 8
abbrev F.SPQ_RULE_KIND (i : Nat) : Fld := ⟨A.SPQ_RULE i, 0, 2⟩
abbrev F.SPQ_RULE_QUEUE (i : Nat) : Fld := ⟨A.SPQ_RULE i, 4, 3⟩
abbrev F.SPQ_RULE_COPY (i : Nat) : Fld := ⟨A.SPQ_RULE i, 7, 1⟩
abbrev F.SPQ_RULE_VALUE (i : Nat) : Fld := ⟨A.SPQ_RULE i, 16, 16⟩
/-- `SPQ_LINKS` (R210). -/
abbrev A.SPQ_LINKS (i : Nat) : Nat := Base.SWC + 0x8104 + i * 8
abbrev F.SPQ_LINKS_LINKS (i : Nat) : Fld := ⟨A.SPQ_LINKS i, 0, 24⟩
/-- `LTX_CFG` (R210). -/
abbrev A.LTX_CFG (i : Nat) : Nat := Base.SWC + 0x8200 + i * 16
abbrev F.LTX_CFG_BASE (i : Nat) : Fld := ⟨A.LTX_CFG i, 5, 15⟩
abbrev F.LTX_CFG_DEPTH_LOG2 (i : Nat) : Fld := ⟨A.LTX_CFG i, 24, 4⟩
abbrev F.LTX_CFG_EN (i : Nat) : Fld := ⟨A.LTX_CFG i, 31, 1⟩
/-- `LTX_TAIL` (R210). -/
abbrev A.LTX_TAIL (i : Nat) : Nat := Base.SWC + 0x8204 + i * 16
abbrev F.LTX_TAIL_TAIL (i : Nat) : Fld := ⟨A.LTX_TAIL i, 0, 16⟩
/-- `LTX_HEAD` (R210). -/
abbrev A.LTX_HEAD (i : Nat) : Nat := Base.SWC + 0x8208 + i * 16
abbrev F.LTX_HEAD_HEAD (i : Nat) : Fld := ⟨A.LTX_HEAD i, 0, 16⟩
/-- `PWR_WAKE_LNK` (R211). -/
abbrev A.PWR_WAKE_LNK : Nat := Base.PWR + 0x400
abbrev F.PWR_WAKE_LNK_LINK : Fld := ⟨A.PWR_WAKE_LNK, 0, 1⟩
abbrev F.PWR_WAKE_LNK_MAGIC : Fld := ⟨A.PWR_WAKE_LNK, 1, 1⟩
abbrev F.PWR_WAKE_LNK_LINKUP : Fld := ⟨A.PWR_WAKE_LNK, 2, 1⟩
abbrev F.PWR_WAKE_LNK_PAT_EN : Fld := ⟨A.PWR_WAKE_LNK, 4, 4⟩
/-- `PWR_WAKE_HIT` (R211). -/
abbrev A.PWR_WAKE_HIT : Nat := Base.PWR + 0x404
abbrev F.PWR_WAKE_HIT_HIT : Fld := ⟨A.PWR_WAKE_HIT, 0, 6⟩
/-- `PWR_WAKE_MASK` (R211). -/
abbrev A.PWR_WAKE_MASK (i : Nat) : Nat := Base.PWR + 0x460 + i * 36
abbrev F.PWR_WAKE_MASK_MASK (i : Nat) : Fld := ⟨A.PWR_WAKE_MASK i, 0, 32⟩
/-- `RING_CTRL` (R216). -/
abbrev A.RING_CTRL (k : Nat) : Nat := Base.RING k + 0x0
abbrev F.RING_CTRL_CYCLE (k : Nat) : Fld := ⟨A.RING_CTRL k, 0, 2⟩
abbrev F.RING_CTRL_MGR_PRIO (k : Nat) : Fld := ⟨A.RING_CTRL k, 4, 4⟩
abbrev F.RING_CTRL_RING_ID (k : Nat) : Fld := ⟨A.RING_CTRL k, 16, 16⟩
/-- `RING_LINKS` (R216). -/
abbrev A.RING_LINKS (k : Nat) : Nat := Base.RING k + 0x4
abbrev F.RING_LINKS_WEST (k : Nat) : Fld := ⟨A.RING_LINKS k, 0, 5⟩
abbrev F.RING_LINKS_EAST (k : Nat) : Fld := ⟨A.RING_LINKS k, 8, 5⟩
/-- `RING_NAME_LO` (R216). -/
abbrev A.RING_NAME_LO (k : Nat) : Nat := Base.RING k + 0x8
abbrev F.RING_NAME_LO_NAME (k : Nat) : Fld := ⟨A.RING_NAME_LO k, 0, 32⟩
/-- `RING_NAME_HI` (R216). -/
abbrev A.RING_NAME_HI (k : Nat) : Nat := Base.RING k + 0xC
abbrev F.RING_NAME_HI_NAME (k : Nat) : Fld := ⟨A.RING_NAME_HI k, 0, 16⟩
/-- `RING_WIN` (R216). -/
abbrev A.RING_WIN (k : Nat) : Nat := Base.RING k + 0x10
abbrev F.RING_WIN_ISO_OCTETS (k : Nat) : Fld := ⟨A.RING_WIN k, 0, 20⟩
/-- `RING_GUARD` (R216). -/
abbrev A.RING_GUARD (k : Nat) : Nat := Base.RING k + 0x14
abbrev F.RING_GUARD_GUARD_NS (k : Nat) : Fld := ⟨A.RING_GUARD k, 0, 14⟩
/-- `RING_CENSUS` (R216). -/
abbrev A.RING_CENSUS (k : Nat) : Nat := Base.RING k + 0x18
abbrev F.RING_CENSUS_PERIOD (k : Nat) : Fld := ⟨A.RING_CENSUS k, 0, 8⟩
/-- `RING_COMMIT` (R216). -/
abbrev A.RING_COMMIT (k : Nat) : Nat := Base.RING k + 0x1C
abbrev F.RING_COMMIT_GO (k : Nat) : Fld := ⟨A.RING_COMMIT k, 0, 1⟩
abbrev F.RING_COMMIT_PENDING (k : Nat) : Fld := ⟨A.RING_COMMIT k, 1, 1⟩
abbrev F.RING_COMMIT_REASON (k : Nat) : Fld := ⟨A.RING_COMMIT k, 8, 8⟩
/-- `RING_STATUS` (R216). -/
abbrev A.RING_STATUS (k : Nat) : Nat := Base.RING k + 0x20
abbrev F.RING_STATUS_ROLE (k : Nat) : Fld := ⟨A.RING_STATUS k, 0, 2⟩
abbrev F.RING_STATUS_EAST_WRAP (k : Nat) : Fld := ⟨A.RING_STATUS k, 2, 1⟩
abbrev F.RING_STATUS_WEST_WRAP (k : Nat) : Fld := ⟨A.RING_STATUS k, 3, 1⟩
abbrev F.RING_STATUS_STABLE (k : Nat) : Fld := ⟨A.RING_STATUS k, 4, 1⟩
abbrev F.RING_STATUS_GRANTED (k : Nat) : Fld := ⟨A.RING_STATUS k, 5, 1⟩
abbrev F.RING_STATUS_NODES (k : Nat) : Fld := ⟨A.RING_STATUS k, 8, 7⟩
abbrev F.RING_STATUS_POSITION (k : Nat) : Fld := ⟨A.RING_STATUS k, 16, 6⟩
abbrev F.RING_STATUS_HOLD (k : Nat) : Fld := ⟨A.RING_STATUS k, 22, 2⟩
abbrev F.RING_STATUS_TABLE_VER (k : Nat) : Fld := ⟨A.RING_STATUS k, 24, 8⟩
/-- `RING_EVT` (R216). -/
abbrev A.RING_EVT (k : Nat) : Nat := Base.RING k + 0x24
abbrev F.RING_EVT_WRAP (k : Nat) : Fld := ⟨A.RING_EVT k, 0, 1⟩
abbrev F.RING_EVT_UNWRAP (k : Nat) : Fld := ⟨A.RING_EVT k, 1, 1⟩
abbrev F.RING_EVT_TABLE (k : Nat) : Fld := ⟨A.RING_EVT k, 2, 1⟩
abbrev F.RING_EVT_ROLE_CHG (k : Nat) : Fld := ⟨A.RING_EVT k, 3, 1⟩
abbrev F.RING_EVT_TOKEN_MISS (k : Nat) : Fld := ⟨A.RING_EVT k, 4, 1⟩
abbrev F.RING_EVT_WIN_REFUSED (k : Nat) : Fld := ⟨A.RING_EVT k, 5, 1⟩
abbrev F.RING_EVT_TOO_LONG (k : Nat) : Fld := ⟨A.RING_EVT k, 6, 1⟩
abbrev F.RING_EVT_FOREIGN (k : Nat) : Fld := ⟨A.RING_EVT k, 7, 1⟩
/-- `RING_ALLOC` (R216). -/
abbrev A.RING_ALLOC (k : Nat) : Nat := Base.RING k + 0x28
abbrev F.RING_ALLOC_ALLOC (k : Nat) : Fld := ⟨A.RING_ALLOC k, 0, 20⟩
/-- `RING_OFFSET` (R216). -/
abbrev A.RING_OFFSET (k : Nat) : Nat := Base.RING k + 0x2C
abbrev F.RING_OFFSET_OFFSET (k : Nat) : Fld := ⟨A.RING_OFFSET k, 0, 20⟩
/-- `RING_ASYNC` (R216). -/
abbrev A.RING_ASYNC (k : Nat) : Nat := Base.RING k + 0x30
abbrev F.RING_ASYNC_PASS (k : Nat) : Fld := ⟨A.RING_ASYNC k, 0, 20⟩
/-- `RING_RTT` (R216). -/
abbrev A.RING_RTT (k : Nat) : Nat := Base.RING k + 0x34
abbrev F.RING_RTT_RTT (k : Nat) : Fld := ⟨A.RING_RTT k, 0, 20⟩
/-- `RING_WDELAY` (R216). -/
abbrev A.RING_WDELAY (k : Nat) : Nat := Base.RING k + 0x38
abbrev F.RING_WDELAY_DELAY (k : Nat) : Fld := ⟨A.RING_WDELAY k, 0, 32⟩
/-- `RING_TOFS` (R216). -/
abbrev A.RING_TOFS (k : Nat) : Nat := Base.RING k + 0x3C
abbrev F.RING_TOFS_OFFSET (k : Nat) : Fld := ⟨A.RING_TOFS k, 0, 32⟩
/-- `SWC_CTRL` (R247). -/
abbrev A.SWC_CTRL : Nat := Base.SWC + 0x0
abbrev F.SWC_CTRL_AGE : Fld := ⟨A.SWC_CTRL, 0, 16⟩
/-- `SWC_STATUS` (R247). -/
abbrev A.SWC_STATUS : Nat := Base.SWC + 0x4
abbrev F.SWC_STATUS_CELLS_FREE : Fld := ⟨A.SWC_STATUS, 0, 17⟩
/-- `SWC_IGNORED` (R247). -/
abbrev A.SWC_IGNORED : Nat := Base.SWC + 0x8
abbrev F.SWC_IGNORED_COUNT : Fld := ⟨A.SWC_IGNORED, 0, 16⟩
/-- `SWC_FDB_KEY_LO` (R247). -/
abbrev A.SWC_FDB_KEY_LO : Nat := Base.SWC + 0x10
abbrev F.SWC_FDB_KEY_LO_DA_LO : Fld := ⟨A.SWC_FDB_KEY_LO, 0, 32⟩
/-- `SWC_FDB_KEY_HI` (R247). -/
abbrev A.SWC_FDB_KEY_HI : Nat := Base.SWC + 0x14
abbrev F.SWC_FDB_KEY_HI_DA_HI : Fld := ⟨A.SWC_FDB_KEY_HI, 0, 16⟩
abbrev F.SWC_FDB_KEY_HI_VID : Fld := ⟨A.SWC_FDB_KEY_HI, 16, 12⟩
/-- `SWC_FDB_DATA_LO` (R247). -/
abbrev A.SWC_FDB_DATA_LO : Nat := Base.SWC + 0x18
abbrev F.SWC_FDB_DATA_LO_PORTS : Fld := ⟨A.SWC_FDB_DATA_LO, 0, 32⟩
/-- `SWC_FDB_DATA_HI` (R247). -/
abbrev A.SWC_FDB_DATA_HI : Nat := Base.SWC + 0x1C
abbrev F.SWC_FDB_DATA_HI_PORTS : Fld := ⟨A.SWC_FDB_DATA_HI, 0, 4⟩
abbrev F.SWC_FDB_DATA_HI_STATIC : Fld := ⟨A.SWC_FDB_DATA_HI, 8, 1⟩
abbrev F.SWC_FDB_DATA_HI_VALID : Fld := ⟨A.SWC_FDB_DATA_HI, 9, 1⟩
/-- `SWC_FDB_CMD` (R247). -/
abbrev A.SWC_FDB_CMD : Nat := Base.SWC + 0x20
abbrev F.SWC_FDB_CMD_OP : Fld := ⟨A.SWC_FDB_CMD, 0, 3⟩
abbrev F.SWC_FDB_CMD_REASON : Fld := ⟨A.SWC_FDB_CMD, 8, 8⟩
abbrev F.SWC_FDB_CMD_INDEX : Fld := ⟨A.SWC_FDB_CMD, 16, 12⟩
abbrev F.SWC_FDB_CMD_BUSY : Fld := ⟨A.SWC_FDB_CMD, 31, 1⟩
/-- `SWC_QUOTA_RES` (R247). -/
abbrev A.SWC_QUOTA_RES (i : Nat) : Nat := Base.SWC + 0x40 + i * 8
abbrev F.SWC_QUOTA_RES_RESERVED (i : Nat) : Fld := ⟨A.SWC_QUOTA_RES i, 0, 17⟩
/-- `SWC_QUOTA_MAX` (R247). -/
abbrev A.SWC_QUOTA_MAX (i : Nat) : Nat := Base.SWC + 0x44 + i * 8
abbrev F.SWC_QUOTA_MAX_MAX (i : Nat) : Fld := ⟨A.SWC_QUOTA_MAX i, 0, 17⟩
/-- `SWC_EQLIMIT` (R247). -/
abbrev A.SWC_EQLIMIT (i : Nat) : Nat := Base.SWC + 0x80 + i * 4
abbrev F.SWC_EQLIMIT_LIMIT (i : Nat) : Fld := ⟨A.SWC_EQLIMIT i, 0, 17⟩
/-- `SWC_CLASS_USE` (R247). -/
abbrev A.SWC_CLASS_USE (i : Nat) : Nat := Base.SWC + 0xA0 + i * 4
abbrev F.SWC_CLASS_USE_USE (i : Nat) : Fld := ⟨A.SWC_CLASS_USE i, 0, 17⟩
/-- `SWC_PORT_CTRL` (R247). -/
abbrev A.SWC_PORT_CTRL (i : Nat) : Nat := Base.SWC + 0x100 + i * 32
abbrev F.SWC_PORT_CTRL_LEARN (i : Nat) : Fld := ⟨A.SWC_PORT_CTRL i, 0, 1⟩
abbrev F.SWC_PORT_CTRL_FLOOD_UC (i : Nat) : Fld := ⟨A.SWC_PORT_CTRL i, 1, 1⟩
abbrev F.SWC_PORT_CTRL_FLOOD_MC (i : Nat) : Fld := ⟨A.SWC_PORT_CTRL i, 2, 1⟩
/-- `SWC_PORT_FLOOD_LO` (R247). -/
abbrev A.SWC_PORT_FLOOD_LO (i : Nat) : Nat := Base.SWC + 0x104 + i * 32
abbrev F.SWC_PORT_FLOOD_LO_PORTS (i : Nat) : Fld := ⟨A.SWC_PORT_FLOOD_LO i, 0, 32⟩
/-- `SWC_PORT_FLOOD_HI` (R247). -/
abbrev A.SWC_PORT_FLOOD_HI (i : Nat) : Nat := Base.SWC + 0x108 + i * 32
abbrev F.SWC_PORT_FLOOD_HI_PORTS (i : Nat) : Fld := ⟨A.SWC_PORT_FLOOD_HI i, 0, 4⟩
/-- `SWC_PEVT` (R247). -/
abbrev A.SWC_PEVT (i : Nat) : Nat := Base.SWC + 0x10C + i * 32
abbrev F.SWC_PEVT_EVT (i : Nat) : Fld := ⟨A.SWC_PEVT i, 0, 8⟩
/-- `STRM_CFG` (R260). -/
abbrev A.STRM_CFG (s : Nat) : Nat := Base.STRM s + 0x0
abbrev F.STRM_CFG_RX_DECL (s : Nat) : Fld := ⟨A.STRM_CFG s, 0, 8⟩
abbrev F.STRM_CFG_TX_DECL (s : Nat) : Fld := ⟨A.STRM_CFG s, 8, 8⟩
/-- `STRM_STATUS` (R260). -/
abbrev A.STRM_STATUS (s : Nat) : Nat := Base.STRM s + 0x4
abbrev F.STRM_STATUS_RX_USED (s : Nat) : Fld := ⟨A.STRM_STATUS s, 0, 8⟩
abbrev F.STRM_STATUS_TX_USED (s : Nat) : Fld := ⟨A.STRM_STATUS s, 8, 8⟩
abbrev F.STRM_STATUS_FLOWS_ON (s : Nat) : Fld := ⟨A.STRM_STATUS s, 16, 8⟩
/-- `STRM_POOL` (R260). -/
abbrev A.STRM_POOL (s : Nat) : Nat := Base.STRM s + 0x8
abbrev F.STRM_POOL_FREE (s : Nat) : Fld := ⟨A.STRM_POOL s, 0, 16⟩
/-- `STRM_COMMIT` (R260). -/
abbrev A.STRM_COMMIT (s : Nat) : Nat := Base.STRM s + 0xC
abbrev F.STRM_COMMIT_GO (s : Nat) : Fld := ⟨A.STRM_COMMIT s, 0, 1⟩
abbrev F.STRM_COMMIT_PENDING (s : Nat) : Fld := ⟨A.STRM_COMMIT s, 1, 1⟩
abbrev F.STRM_COMMIT_REASON (s : Nat) : Fld := ⟨A.STRM_COMMIT s, 8, 8⟩
/-- `FLOW_CFG` (R263). -/
abbrev A.FLOW_CFG (f : Nat) : Nat := Base.FLOW f + 0x0
abbrev F.FLOW_CFG_DIR (f : Nat) : Fld := ⟨A.FLOW_CFG f, 0, 1⟩
abbrev F.FLOW_CFG_FMT (f : Nat) : Fld := ⟨A.FLOW_CFG f, 1, 3⟩
abbrev F.FLOW_CFG_ENC (f : Nat) : Fld := ⟨A.FLOW_CFG f, 4, 2⟩
abbrev F.FLOW_CFG_RATE (f : Nat) : Fld := ⟨A.FLOW_CFG f, 6, 3⟩
abbrev F.FLOW_CFG_DOMAIN (f : Nat) : Fld := ⟨A.FLOW_CFG f, 9, 3⟩
abbrev F.FLOW_CFG_LEG_B (f : Nat) : Fld := ⟨A.FLOW_CFG f, 12, 1⟩
abbrev F.FLOW_CFG_CLASS (f : Nat) : Fld := ⟨A.FLOW_CFG f, 13, 3⟩
abbrev F.FLOW_CFG_SPP (f : Nat) : Fld := ⟨A.FLOW_CFG f, 16, 8⟩
/-- `FLOW_CHANS` (R263). -/
abbrev A.FLOW_CHANS (f : Nat) : Nat := Base.FLOW f + 0x4
abbrev F.FLOW_CHANS_CHANS (f : Nat) : Fld := ⟨A.FLOW_CHANS f, 0, 8⟩
/-- `FLOW_FIRST` (R263). -/
abbrev A.FLOW_FIRST (f : Nat) : Nat := Base.FLOW f + 0x8
abbrev F.FLOW_FIRST_FIRST (f : Nat) : Fld := ⟨A.FLOW_FIRST f, 0, 17⟩
/-- `FLOW_LATENCY` (R263). -/
abbrev A.FLOW_LATENCY (f : Nat) : Nat := Base.FLOW f + 0xC
abbrev F.FLOW_LATENCY_LATENCY (f : Nat) : Fld := ⟨A.FLOW_LATENCY f, 0, 27⟩
/-- `FLOW_BUF` (R263). -/
abbrev A.FLOW_BUF (f : Nat) : Nat := Base.FLOW f + 0x10
abbrev F.FLOW_BUF_BUF_LOG2 (f : Nat) : Fld := ⟨A.FLOW_BUF f, 0, 4⟩
abbrev F.FLOW_BUF_HOLD (f : Nat) : Fld := ⟨A.FLOW_BUF f, 8, 8⟩
/-- `FLOW_PORTS` (R263). -/
abbrev A.FLOW_PORTS (f : Nat) : Nat := Base.FLOW f + 0x14
abbrev F.FLOW_PORTS_PORT_A (f : Nat) : Fld := ⟨A.FLOW_PORTS f, 0, 6⟩
abbrev F.FLOW_PORTS_PORT_B (f : Nat) : Fld := ⟨A.FLOW_PORTS f, 8, 6⟩
/-- `FLOW_UDP` (R263). -/
abbrev A.FLOW_UDP (f : Nat) : Nat := Base.FLOW f + 0x18
abbrev F.FLOW_UDP_DPORT (f : Nat) : Fld := ⟨A.FLOW_UDP f, 0, 16⟩
abbrev F.FLOW_UDP_SPORT (f : Nat) : Fld := ⟨A.FLOW_UDP f, 16, 16⟩
/-- `FLOW_IPOPT` (R263). -/
abbrev A.FLOW_IPOPT (f : Nat) : Nat := Base.FLOW f + 0x1C
abbrev F.FLOW_IPOPT_DSCP (f : Nat) : Fld := ⟨A.FLOW_IPOPT f, 0, 6⟩
abbrev F.FLOW_IPOPT_TTL (f : Nat) : Fld := ⟨A.FLOW_IPOPT f, 8, 8⟩
abbrev F.FLOW_IPOPT_UDP_CSUM (f : Nat) : Fld := ⟨A.FLOW_IPOPT f, 16, 1⟩
abbrev F.FLOW_IPOPT_SRC_FILT (f : Nat) : Fld := ⟨A.FLOW_IPOPT f, 17, 1⟩
abbrev F.FLOW_IPOPT_SSRC_FILT (f : Nat) : Fld := ⟨A.FLOW_IPOPT f, 18, 1⟩
abbrev F.FLOW_IPOPT_PT_ANY (f : Nat) : Fld := ⟨A.FLOW_IPOPT f, 19, 1⟩
/-- `FLOW_RTP` (R263). -/
abbrev A.FLOW_RTP (f : Nat) : Nat := Base.FLOW f + 0x20
abbrev F.FLOW_RTP_PT (f : Nat) : Fld := ⟨A.FLOW_RTP f, 0, 7⟩
/-- `FLOW_SSRC` (R263). -/
abbrev A.FLOW_SSRC (f : Nat) : Nat := Base.FLOW f + 0x24
abbrev F.FLOW_SSRC_SSRC (f : Nat) : Fld := ⟨A.FLOW_SSRC f, 0, 32⟩
/-- `FLOW_RTP_OFS` (R263). -/
abbrev A.FLOW_RTP_OFS (f : Nat) : Nat := Base.FLOW f + 0x28
abbrev F.FLOW_RTP_OFS_RTP_OFS (f : Nat) : Fld := ⟨A.FLOW_RTP_OFS f, 0, 32⟩
/-- `FLOW_VLAN` (R263). -/
abbrev A.FLOW_VLAN (f : Nat) : Nat := Base.FLOW f + 0x2C
abbrev F.FLOW_VLAN_VID (f : Nat) : Fld := ⟨A.FLOW_VLAN f, 0, 12⟩
abbrev F.FLOW_VLAN_PCP (f : Nat) : Fld := ⟨A.FLOW_VLAN f, 12, 3⟩
abbrev F.FLOW_VLAN_TAGGED (f : Nat) : Fld := ⟨A.FLOW_VLAN f, 15, 1⟩
/-- `FLOW_DADDR_A` (R263). -/
abbrev A.FLOW_DADDR_A (f i : Nat) : Nat := Base.FLOW f + 0x30 + i * 4
abbrev F.FLOW_DADDR_A_DADDR_A (f i : Nat) : Fld := ⟨A.FLOW_DADDR_A f i, 0, 32⟩
/-- `FLOW_DADDR_B` (R263). -/
abbrev A.FLOW_DADDR_B (f i : Nat) : Nat := Base.FLOW f + 0x40 + i * 4
abbrev F.FLOW_DADDR_B_DADDR_B (f i : Nat) : Fld := ⟨A.FLOW_DADDR_B f i, 0, 32⟩
/-- `FLOW_SADDR` (R263). -/
abbrev A.FLOW_SADDR (f i : Nat) : Nat := Base.FLOW f + 0x50 + i * 4
abbrev F.FLOW_SADDR_SADDR (f i : Nat) : Fld := ⟨A.FLOW_SADDR f i, 0, 32⟩
/-- `FLOW_DMAC_A_LO` (R263). -/
abbrev A.FLOW_DMAC_A_LO (f : Nat) : Nat := Base.FLOW f + 0x60
abbrev F.FLOW_DMAC_A_LO_DMAC_A (f : Nat) : Fld := ⟨A.FLOW_DMAC_A_LO f, 0, 32⟩
/-- `FLOW_DMAC_A_HI` (R263). -/
abbrev A.FLOW_DMAC_A_HI (f : Nat) : Nat := Base.FLOW f + 0x64
abbrev F.FLOW_DMAC_A_HI_DMAC_A (f : Nat) : Fld := ⟨A.FLOW_DMAC_A_HI f, 0, 16⟩
/-- `FLOW_DMAC_B_LO` (R263). -/
abbrev A.FLOW_DMAC_B_LO (f : Nat) : Nat := Base.FLOW f + 0x68
abbrev F.FLOW_DMAC_B_LO_DMAC_B (f : Nat) : Fld := ⟨A.FLOW_DMAC_B_LO f, 0, 32⟩
/-- `FLOW_DMAC_B_HI` (R263). -/
abbrev A.FLOW_DMAC_B_HI (f : Nat) : Nat := Base.FLOW f + 0x6C
abbrev F.FLOW_DMAC_B_HI_DMAC_B (f : Nat) : Fld := ⟨A.FLOW_DMAC_B_HI f, 0, 16⟩
/-- `FLOW_STATUS` (R263). -/
abbrev A.FLOW_STATUS (f : Nat) : Nat := Base.FLOW f + 0x70
abbrev F.FLOW_STATUS_DEPTH (f : Nat) : Fld := ⟨A.FLOW_STATUS f, 0, 16⟩
abbrev F.FLOW_STATUS_LEG_A_UP (f : Nat) : Fld := ⟨A.FLOW_STATUS f, 16, 1⟩
abbrev F.FLOW_STATUS_LEG_B_UP (f : Nat) : Fld := ⟨A.FLOW_STATUS f, 17, 1⟩
/-- `FLOW_EVT` (R263). -/
abbrev A.FLOW_EVT (f : Nat) : Nat := Base.FLOW f + 0x74
abbrev F.FLOW_EVT_CONCEAL (f : Nat) : Fld := ⟨A.FLOW_EVT f, 0, 1⟩
abbrev F.FLOW_EVT_LATE (f : Nat) : Fld := ⟨A.FLOW_EVT f, 1, 1⟩
abbrev F.FLOW_EVT_EARLY (f : Nat) : Fld := ⟨A.FLOW_EVT f, 2, 1⟩
abbrev F.FLOW_EVT_BAD (f : Nat) : Fld := ⟨A.FLOW_EVT f, 3, 1⟩
abbrev F.FLOW_EVT_LEG_A_DOWN (f : Nat) : Fld := ⟨A.FLOW_EVT f, 4, 1⟩
abbrev F.FLOW_EVT_LEG_B_DOWN (f : Nat) : Fld := ⟨A.FLOW_EVT f, 5, 1⟩
abbrev F.FLOW_EVT_HOLD (f : Nat) : Fld := ⟨A.FLOW_EVT f, 6, 1⟩
abbrev F.FLOW_EVT_SSRC_CHANGE (f : Nat) : Fld := ⟨A.FLOW_EVT f, 7, 1⟩
abbrev F.FLOW_EVT_TX_DROP (f : Nat) : Fld := ⟨A.FLOW_EVT f, 8, 1⟩
/-- `FLOW_LAST_TS` (R263). -/
abbrev A.FLOW_LAST_TS (f : Nat) : Nat := Base.FLOW f + 0x78
abbrev F.FLOW_LAST_TS_TS (f : Nat) : Fld := ⟨A.FLOW_LAST_TS f, 0, 32⟩
/-- `FLOW_SSRC_RX` (R263). -/
abbrev A.FLOW_SSRC_RX (f : Nat) : Nat := Base.FLOW f + 0x7C
abbrev F.FLOW_SSRC_RX_SSRC (f : Nat) : Fld := ⟨A.FLOW_SSRC_RX f, 0, 32⟩
/-- `TIME_STC_NS` (R298). -/
abbrev A.TIME_STC_NS : Nat := Base.TIME + 0x0
abbrev F.TIME_STC_NS_NS : Fld := ⟨A.TIME_STC_NS, 0, 30⟩
/-- `TIME_STC_SEC_LO` (R298). -/
abbrev A.TIME_STC_SEC_LO : Nat := Base.TIME + 0x4
abbrev F.TIME_STC_SEC_LO_SEC : Fld := ⟨A.TIME_STC_SEC_LO, 0, 32⟩
/-- `TIME_STC_SEC_HI` (R298). -/
abbrev A.TIME_STC_SEC_HI : Nat := Base.TIME + 0x8
abbrev F.TIME_STC_SEC_HI_SEC : Fld := ⟨A.TIME_STC_SEC_HI, 0, 16⟩
abbrev F.TIME_STC_SEC_HI_FRAC : Fld := ⟨A.TIME_STC_SEC_HI, 16, 16⟩
/-- `TIME_ADJ` (R298). -/
abbrev A.TIME_ADJ : Nat := Base.TIME + 0x10
abbrev F.TIME_ADJ_ADJ : Fld := ⟨A.TIME_ADJ, 0, 32⟩
/-- `TIME_SET_NS` (R298). -/
abbrev A.TIME_SET_NS : Nat := Base.TIME + 0x14
abbrev F.TIME_SET_NS_NS : Fld := ⟨A.TIME_SET_NS, 0, 30⟩
/-- `TIME_SET_SEC_LO` (R298). -/
abbrev A.TIME_SET_SEC_LO : Nat := Base.TIME + 0x18
abbrev F.TIME_SET_SEC_LO_SEC : Fld := ⟨A.TIME_SET_SEC_LO, 0, 32⟩
/-- `TIME_SET_SEC_HI` (R298). -/
abbrev A.TIME_SET_SEC_HI : Nat := Base.TIME + 0x1C
abbrev F.TIME_SET_SEC_HI_SEC : Fld := ⟨A.TIME_SET_SEC_HI, 0, 16⟩
/-- `TIME_STEP_LO` (R298). -/
abbrev A.TIME_STEP_LO : Nat := Base.TIME + 0x20
abbrev F.TIME_STEP_LO_STEP : Fld := ⟨A.TIME_STEP_LO, 0, 32⟩
/-- `TIME_STEP_HI` (R298). -/
abbrev A.TIME_STEP_HI : Nat := Base.TIME + 0x24
abbrev F.TIME_STEP_HI_STEP : Fld := ⟨A.TIME_STEP_HI, 0, 32⟩
/-- `TIME_CMD` (R298). -/
abbrev A.TIME_CMD : Nat := Base.TIME + 0x28
abbrev F.TIME_CMD_OP : Fld := ⟨A.TIME_CMD, 0, 2⟩
abbrev F.TIME_CMD_BUSY : Fld := ⟨A.TIME_CMD, 4, 1⟩
abbrev F.TIME_CMD_REASON : Fld := ⟨A.TIME_CMD, 8, 8⟩
/-- `TIME_SERVO` (R298). -/
abbrev A.TIME_SERVO : Nat := Base.TIME + 0x30
abbrev F.TIME_SERVO_EN : Fld := ⟨A.TIME_SERVO, 0, 1⟩
abbrev F.TIME_SERVO_SOURCE : Fld := ⟨A.TIME_SERVO, 1, 2⟩
abbrev F.TIME_SERVO_RING : Fld := ⟨A.TIME_SERVO, 4, 4⟩
abbrev F.TIME_SERVO_STEP_EN : Fld := ⟨A.TIME_SERVO, 8, 1⟩
/-- `TIME_SERVO_GAIN` (R298). -/
abbrev A.TIME_SERVO_GAIN : Nat := Base.TIME + 0x34
abbrev F.TIME_SERVO_GAIN_KP : Fld := ⟨A.TIME_SERVO_GAIN, 0, 16⟩
abbrev F.TIME_SERVO_GAIN_KI : Fld := ⟨A.TIME_SERVO_GAIN, 16, 16⟩
/-- `TIME_SERVO_LOCK` (R298). -/
abbrev A.TIME_SERVO_LOCK : Nat := Base.TIME + 0x38
abbrev F.TIME_SERVO_LOCK_LOCK_NS : Fld := ⟨A.TIME_SERVO_LOCK, 0, 16⟩
abbrev F.TIME_SERVO_LOCK_LOCK_N : Fld := ⟨A.TIME_SERVO_LOCK, 16, 8⟩
/-- `TIME_SERVO_LIMIT` (R298). -/
abbrev A.TIME_SERVO_LIMIT : Nat := Base.TIME + 0x3C
abbrev F.TIME_SERVO_LIMIT_STEP_US : Fld := ⟨A.TIME_SERVO_LIMIT, 0, 16⟩
abbrev F.TIME_SERVO_LIMIT_HOLD_MS : Fld := ⟨A.TIME_SERVO_LIMIT, 16, 16⟩
/-- `TIME_SERVO_OFS` (R298). -/
abbrev A.TIME_SERVO_OFS : Nat := Base.TIME + 0x40
abbrev F.TIME_SERVO_OFS_OFS : Fld := ⟨A.TIME_SERVO_OFS, 0, 32⟩
/-- `TIME_SERVO_INTEG` (R298). -/
abbrev A.TIME_SERVO_INTEG : Nat := Base.TIME + 0x44
abbrev F.TIME_SERVO_INTEG_INTEG : Fld := ⟨A.TIME_SERVO_INTEG, 0, 32⟩
/-- `TIME_STATUS` (R298). -/
abbrev A.TIME_STATUS : Nat := Base.TIME + 0x48
abbrev F.TIME_STATUS_LOCKED : Fld := ⟨A.TIME_STATUS, 0, 1⟩
abbrev F.TIME_STATUS_HOLDOVER : Fld := ⟨A.TIME_STATUS, 1, 1⟩
/-- `TIME_EVT` (R298). -/
abbrev A.TIME_EVT : Nat := Base.TIME + 0x4C
abbrev F.TIME_EVT_EVT : Fld := ⟨A.TIME_EVT, 0, 5⟩
/-- `TIME_PPS` (R298). -/
abbrev A.TIME_PPS : Nat := Base.TIME + 0x50
abbrev F.TIME_PPS_OUT_EN : Fld := ⟨A.TIME_PPS, 0, 1⟩
abbrev F.TIME_PPS_IN_EN : Fld := ⟨A.TIME_PPS, 1, 1⟩
abbrev F.TIME_PPS_IN_FALL : Fld := ⟨A.TIME_PPS, 2, 1⟩
abbrev F.TIME_PPS_WIDTH : Fld := ⟨A.TIME_PPS, 8, 10⟩
/-- `TIME_PPS_OUT_OFS` (R298). -/
abbrev A.TIME_PPS_OUT_OFS : Nat := Base.TIME + 0x54
abbrev F.TIME_PPS_OUT_OFS_OFS : Fld := ⟨A.TIME_PPS_OUT_OFS, 0, 32⟩
/-- `TIME_PPS_IN_DELAY` (R298). -/
abbrev A.TIME_PPS_IN_DELAY : Nat := Base.TIME + 0x58
abbrev F.TIME_PPS_IN_DELAY_DELAY : Fld := ⟨A.TIME_PPS_IN_DELAY, 0, 32⟩
/-- `TIME_IGNORED` (R298). -/
abbrev A.TIME_IGNORED : Nat := Base.TIME + 0x5C
abbrev F.TIME_IGNORED_COUNT : Fld := ⟨A.TIME_IGNORED, 0, 16⟩
/-- `TIME_PPS_IN_NS` (R298). -/
abbrev A.TIME_PPS_IN_NS : Nat := Base.TIME + 0x60
abbrev F.TIME_PPS_IN_NS_NS : Fld := ⟨A.TIME_PPS_IN_NS, 0, 30⟩
/-- `TIME_PPS_IN_SEC_LO` (R298). -/
abbrev A.TIME_PPS_IN_SEC_LO : Nat := Base.TIME + 0x64
abbrev F.TIME_PPS_IN_SEC_LO_SEC : Fld := ⟨A.TIME_PPS_IN_SEC_LO, 0, 32⟩
/-- `TIME_PPS_IN_SEC_HI` (R298). -/
abbrev A.TIME_PPS_IN_SEC_HI : Nat := Base.TIME + 0x68
abbrev F.TIME_PPS_IN_SEC_HI_SEC : Fld := ⟨A.TIME_PPS_IN_SEC_HI, 0, 16⟩
abbrev F.TIME_PPS_IN_SEC_HI_SEQ : Fld := ⟨A.TIME_PPS_IN_SEC_HI, 16, 16⟩
/-- `LNK_PTP_CTRL` (R307). -/
abbrev A.LNK_PTP_CTRL (n : Nat) : Nat := Base.LNK n + 0x300
abbrev F.LNK_PTP_CTRL_L2 (n : Nat) : Fld := ⟨A.LNK_PTP_CTRL n, 0, 1⟩
abbrev F.LNK_PTP_CTRL_UDP4 (n : Nat) : Fld := ⟨A.LNK_PTP_CTRL n, 1, 1⟩
abbrev F.LNK_PTP_CTRL_UDP6 (n : Nat) : Fld := ⟨A.LNK_PTP_CTRL n, 2, 1⟩
abbrev F.LNK_PTP_CTRL_ONE_STEP (n : Nat) : Fld := ⟨A.LNK_PTP_CTRL n, 3, 1⟩
abbrev F.LNK_PTP_CTRL_TC (n : Nat) : Fld := ⟨A.LNK_PTP_CTRL n, 4, 1⟩
abbrev F.LNK_PTP_CTRL_TC_P2P (n : Nat) : Fld := ⟨A.LNK_PTP_CTRL n, 5, 1⟩
abbrev F.LNK_PTP_CTRL_ASYM_EN (n : Nat) : Fld := ⟨A.LNK_PTP_CTRL n, 6, 1⟩
/-- `LNK_PTP_ASYM` (R307). -/
abbrev A.LNK_PTP_ASYM (n : Nat) : Nat := Base.LNK n + 0x304
abbrev F.LNK_PTP_ASYM_ASYM (n : Nat) : Fld := ⟨A.LNK_PTP_ASYM n, 0, 32⟩
/-- `LNK_PTP_LINKDELAY` (R307). -/
abbrev A.LNK_PTP_LINKDELAY (n : Nat) : Nat := Base.LNK n + 0x308
abbrev F.LNK_PTP_LINKDELAY_DELAY (n : Nat) : Fld := ⟨A.LNK_PTP_LINKDELAY n, 0, 32⟩
/-- `MCS_CTRL` (R312). -/
abbrev A.MCS_CTRL (m : Nat) : Nat := Base.MCS m + 0x0
abbrev F.MCS_CTRL_SRC (m : Nat) : Fld := ⟨A.MCS_CTRL m, 0, 3⟩
abbrev F.MCS_CTRL_SRC_SEL (m : Nat) : Fld := ⟨A.MCS_CTRL m, 4, 12⟩
abbrev F.MCS_CTRL_OUT_SEL (m : Nat) : Fld := ⟨A.MCS_CTRL m, 16, 2⟩
abbrev F.MCS_CTRL_BW (m : Nat) : Fld := ⟨A.MCS_CTRL m, 18, 2⟩
abbrev F.MCS_CTRL_PIN_DIV (m : Nat) : Fld := ⟨A.MCS_CTRL m, 20, 12⟩
/-- `MCS_DOMAIN` (R312). -/
abbrev A.MCS_DOMAIN (m : Nat) : Nat := Base.MCS m + 0x4
abbrev F.MCS_DOMAIN_RATE (m : Nat) : Fld := ⟨A.MCS_DOMAIN m, 0, 3⟩
abbrev F.MCS_DOMAIN_TICK_LOG2 (m : Nat) : Fld := ⟨A.MCS_DOMAIN m, 4, 3⟩
abbrev F.MCS_DOMAIN_PULL (m : Nat) : Fld := ⟨A.MCS_DOMAIN m, 8, 2⟩
/-- `MCS_LOCK` (R312). -/
abbrev A.MCS_LOCK (m : Nat) : Nat := Base.MCS m + 0x8
abbrev F.MCS_LOCK_LOCK_MS (m : Nat) : Fld := ⟨A.MCS_LOCK m, 0, 10⟩
abbrev F.MCS_LOCK_LOCK_WIN (m : Nat) : Fld := ⟨A.MCS_LOCK m, 16, 8⟩
abbrev F.MCS_LOCK_UNLOCK_WIN (m : Nat) : Fld := ⟨A.MCS_LOCK m, 24, 8⟩
/-- `MCS_ANCHOR` (R312). -/
abbrev A.MCS_ANCHOR (m : Nat) : Nat := Base.MCS m + 0xC
abbrev F.MCS_ANCHOR_LIMIT (m : Nat) : Fld := ⟨A.MCS_ANCHOR m, 0, 16⟩
/-- `MCS_DITHER` (R312). -/
abbrev A.MCS_DITHER (m : Nat) : Nat := Base.MCS m + 0x10
abbrev F.MCS_DITHER_EN (m : Nat) : Fld := ⟨A.MCS_DITHER m, 0, 1⟩
/-- `MCS_SEED` (R312). -/
abbrev A.MCS_SEED (m : Nat) : Nat := Base.MCS m + 0x14
abbrev F.MCS_SEED_SEED (m : Nat) : Fld := ⟨A.MCS_SEED m, 0, 32⟩
/-- `MCS_BAND_SEL` (R312). -/
abbrev A.MCS_BAND_SEL (m : Nat) : Nat := Base.MCS m + 0x20
abbrev F.MCS_BAND_SEL_BAND (m : Nat) : Fld := ⟨A.MCS_BAND_SEL m, 0, 6⟩
/-- `MCS_DIV_N` (R312). -/
abbrev A.MCS_DIV_N (m : Nat) : Nat := Base.MCS m + 0x24
abbrev F.MCS_DIV_N_N (m : Nat) : Fld := ⟨A.MCS_DIV_N m, 0, 8⟩
/-- `MCS_DIV_FRAC` (R312). -/
abbrev A.MCS_DIV_FRAC (m : Nat) : Nat := Base.MCS m + 0x28
abbrev F.MCS_DIV_FRAC_FRAC (m : Nat) : Fld := ⟨A.MCS_DIV_FRAC m, 0, 24⟩
/-- `MCS_DIV_POST` (R312). -/
abbrev A.MCS_DIV_POST (m : Nat) : Nat := Base.MCS m + 0x2C
abbrev F.MCS_DIV_POST_POST (m : Nat) : Fld := ⟨A.MCS_DIV_POST m, 0, 8⟩
abbrev F.MCS_DIV_POST_MULT (m : Nat) : Fld := ⟨A.MCS_DIV_POST m, 8, 2⟩
/-- `MCS_COMMIT` (R312). -/
abbrev A.MCS_COMMIT (m : Nat) : Nat := Base.MCS m + 0x30
abbrev F.MCS_COMMIT_GO (m : Nat) : Fld := ⟨A.MCS_COMMIT m, 0, 1⟩
abbrev F.MCS_COMMIT_PENDING (m : Nat) : Fld := ⟨A.MCS_COMMIT m, 1, 1⟩
abbrev F.MCS_COMMIT_REASON (m : Nat) : Fld := ⟨A.MCS_COMMIT m, 8, 8⟩
/-- `MCS_STATUS` (R312). -/
abbrev A.MCS_STATUS (m : Nat) : Nat := Base.MCS m + 0x40
abbrev F.MCS_STATUS_PLL_LOCK (m : Nat) : Fld := ⟨A.MCS_STATUS m, 0, 1⟩
abbrev F.MCS_STATUS_REF_OK (m : Nat) : Fld := ⟨A.MCS_STATUS m, 1, 1⟩
abbrev F.MCS_STATUS_LOCKED (m : Nat) : Fld := ⟨A.MCS_STATUS m, 2, 1⟩
abbrev F.MCS_STATUS_BYPASS (m : Nat) : Fld := ⟨A.MCS_STATUS m, 3, 1⟩
abbrev F.MCS_STATUS_TRIM (m : Nat) : Fld := ⟨A.MCS_STATUS m, 16, 16⟩
/-- `MCS_PHASE` (R312). -/
abbrev A.MCS_PHASE (m : Nat) : Nat := Base.MCS m + 0x44
abbrev F.MCS_PHASE_PHASE (m : Nat) : Fld := ⟨A.MCS_PHASE m, 0, 32⟩
/-- `MCS_EVT` (R312). -/
abbrev A.MCS_EVT (m : Nat) : Nat := Base.MCS m + 0x48
abbrev F.MCS_EVT_EVT (m : Nat) : Fld := ⟨A.MCS_EVT m, 0, 6⟩
/-- `MCS_COUNT_LO` (R312). -/
abbrev A.MCS_COUNT_LO (m : Nat) : Nat := Base.MCS m + 0x4C
abbrev F.MCS_COUNT_LO_COUNT (m : Nat) : Fld := ⟨A.MCS_COUNT_LO m, 0, 32⟩
/-- `MCS_COUNT_HI` (R312). -/
abbrev A.MCS_COUNT_HI (m : Nat) : Nat := Base.MCS m + 0x50
abbrev F.MCS_COUNT_HI_COUNT (m : Nat) : Fld := ⟨A.MCS_COUNT_HI m, 0, 32⟩
/-- `MCS_TICK_TIME_LO` (R312). -/
abbrev A.MCS_TICK_TIME_LO (m : Nat) : Nat := Base.MCS m + 0x54
abbrev F.MCS_TICK_TIME_LO_TIME (m : Nat) : Fld := ⟨A.MCS_TICK_TIME_LO m, 0, 32⟩
/-- `MCS_TICK_TIME_HI` (R312). -/
abbrev A.MCS_TICK_TIME_HI (m : Nat) : Nat := Base.MCS m + 0x58
abbrev F.MCS_TICK_TIME_HI_TIME (m : Nat) : Fld := ⟨A.MCS_TICK_TIME_HI m, 0, 32⟩
/-- `MCS_CAL` (R312). -/
abbrev A.MCS_CAL (m : Nat) : Nat := Base.MCS m + 0x60
abbrev F.MCS_CAL_BAND (m : Nat) : Fld := ⟨A.MCS_CAL m, 0, 6⟩
abbrev F.MCS_CAL_GO (m : Nat) : Fld := ⟨A.MCS_CAL m, 8, 1⟩
abbrev F.MCS_CAL_CAL_REASON (m : Nat) : Fld := ⟨A.MCS_CAL m, 16, 8⟩
abbrev F.MCS_CAL_POST_BUSY (m : Nat) : Fld := ⟨A.MCS_CAL m, 30, 1⟩
abbrev F.MCS_CAL_CAL_BUSY (m : Nat) : Fld := ⟨A.MCS_CAL m, 31, 1⟩
/-- `MCS_CAL_FMIN` (R312). -/
abbrev A.MCS_CAL_FMIN (m : Nat) : Nat := Base.MCS m + 0x64
abbrev F.MCS_CAL_FMIN_FMIN (m : Nat) : Fld := ⟨A.MCS_CAL_FMIN m, 0, 22⟩
/-- `MCS_CAL_FMAX` (R312). -/
abbrev A.MCS_CAL_FMAX (m : Nat) : Nat := Base.MCS m + 0x68
abbrev F.MCS_CAL_FMAX_FMAX (m : Nat) : Fld := ⟨A.MCS_CAL_FMAX m, 0, 22⟩
/-- `MCS_BAND_MIN` (R312). -/
abbrev A.MCS_BAND_MIN (m i : Nat) : Nat := Base.MCS m + 0x100 + i * 8
abbrev F.MCS_BAND_MIN_FMIN (m i : Nat) : Fld := ⟨A.MCS_BAND_MIN m i, 0, 22⟩
abbrev F.MCS_BAND_MIN_VALID (m i : Nat) : Fld := ⟨A.MCS_BAND_MIN m i, 31, 1⟩
/-- `MCS_BAND_MAX` (R312). -/
abbrev A.MCS_BAND_MAX (m i : Nat) : Nat := Base.MCS m + 0x104 + i * 8
abbrev F.MCS_BAND_MAX_FMAX (m i : Nat) : Fld := ⟨A.MCS_BAND_MAX m i, 0, 22⟩
/-- `RM_CFG` (R326). -/
abbrev A.RM_CFG (i : Nat) : Nat := Base.TIME + 0x400 + i * 16
abbrev F.RM_CFG_DIV (i : Nat) : Fld := ⟨A.RM_CFG i, 0, 10⟩
abbrev F.RM_CFG_TOL (i : Nat) : Fld := ⟨A.RM_CFG i, 16, 16⟩
/-- `RM_FREQ` (R326). -/
abbrev A.RM_FREQ (i : Nat) : Nat := Base.TIME + 0x404 + i * 16
abbrev F.RM_FREQ_FREQ (i : Nat) : Fld := ⟨A.RM_FREQ i, 0, 32⟩
/-- `RM_STAT` (R326). -/
abbrev A.RM_STAT (i : Nat) : Nat := Base.TIME + 0x408 + i * 16
abbrev F.RM_STAT_CLASS (i : Nat) : Fld := ⟨A.RM_STAT i, 0, 3⟩
abbrev F.RM_STAT_PRESENT (i : Nat) : Fld := ⟨A.RM_STAT i, 3, 1⟩
abbrev F.RM_STAT_CHANGE (i : Nat) : Fld := ⟨A.RM_STAT i, 4, 1⟩
/-- `APG_CFG` (R330). -/
abbrev A.APG_CFG (g : Nat) : Nat := Base.APG g + 0x0
abbrev F.APG_CFG_FMT (g : Nat) : Fld := ⟨A.APG_CFG g, 0, 2⟩
abbrev F.APG_CFG_RATE (g : Nat) : Fld := ⟨A.APG_CFG g, 2, 3⟩
abbrev F.APG_CFG_SLOT_W (g : Nat) : Fld := ⟨A.APG_CFG g, 6, 2⟩
abbrev F.APG_CFG_DELAY (g : Nat) : Fld := ⟨A.APG_CFG g, 8, 1⟩
abbrev F.APG_CFG_FS_INV (g : Nat) : Fld := ⟨A.APG_CFG g, 9, 1⟩
abbrev F.APG_CFG_BCLK_INV (g : Nat) : Fld := ⟨A.APG_CFG g, 10, 1⟩
abbrev F.APG_CFG_DOMAIN (g : Nat) : Fld := ⟨A.APG_CFG g, 12, 3⟩
abbrev F.APG_CFG_BRIDGED (g : Nat) : Fld := ⟨A.APG_CFG g, 15, 1⟩
abbrev F.APG_CFG_BLK_LOG2 (g : Nat) : Fld := ⟨A.APG_CFG g, 16, 3⟩
/-- `APG_LAT` (R330). -/
abbrev A.APG_LAT (g : Nat) : Nat := Base.APG g + 0x4
abbrev F.APG_LAT_LAT (g : Nat) : Fld := ⟨A.APG_LAT g, 0, 25⟩
/-- `APG_TS_DELAY` (R330). -/
abbrev A.APG_TS_DELAY (g : Nat) : Nat := Base.APG g + 0x8
abbrev F.APG_TS_DELAY_DELAY (g : Nat) : Fld := ⟨A.APG_TS_DELAY g, 0, 32⟩
/-- `APG_COMMIT` (R330). -/
abbrev A.APG_COMMIT (g : Nat) : Nat := Base.APG g + 0xC
abbrev F.APG_COMMIT_GO (g : Nat) : Fld := ⟨A.APG_COMMIT g, 0, 1⟩
abbrev F.APG_COMMIT_PENDING (g : Nat) : Fld := ⟨A.APG_COMMIT g, 1, 1⟩
abbrev F.APG_COMMIT_REASON (g : Nat) : Fld := ⟨A.APG_COMMIT g, 8, 8⟩
/-- `APG_STATUS` (R330). -/
abbrev A.APG_STATUS (g : Nat) : Nat := Base.APG g + 0x10
abbrev F.APG_STATUS_BCLKS (g : Nat) : Fld := ⟨A.APG_STATUS g, 0, 16⟩
abbrev F.APG_STATUS_FRAMING (g : Nat) : Fld := ⟨A.APG_STATUS g, 16, 1⟩
/-- `APG_DELTA` (R330). -/
abbrev A.APG_DELTA (g : Nat) : Nat := Base.APG g + 0x14
abbrev F.APG_DELTA_D_IN (g : Nat) : Fld := ⟨A.APG_DELTA g, 0, 16⟩
abbrev F.APG_DELTA_D_OUT (g : Nat) : Fld := ⟨A.APG_DELTA g, 16, 16⟩
/-- `APG_EVT` (R330). -/
abbrev A.APG_EVT (g : Nat) : Nat := Base.APG g + 0x18
abbrev F.APG_EVT_EVT (g : Nat) : Fld := ⟨A.APG_EVT g, 0, 6⟩
/-- `APG_FRAME_LO` (R330). -/
abbrev A.APG_FRAME_LO (g : Nat) : Nat := Base.APG g + 0x20
abbrev F.APG_FRAME_LO_COUNT (g : Nat) : Fld := ⟨A.APG_FRAME_LO g, 0, 32⟩
/-- `APG_FRAME_TIME_LO` (R330). -/
abbrev A.APG_FRAME_TIME_LO (g : Nat) : Nat := Base.APG g + 0x24
abbrev F.APG_FRAME_TIME_LO_TIME (g : Nat) : Fld := ⟨A.APG_FRAME_TIME_LO g, 0, 32⟩
/-- `APG_FRAME_TIME_HI` (R330). -/
abbrev A.APG_FRAME_TIME_HI (g : Nat) : Nat := Base.APG g + 0x28
abbrev F.APG_FRAME_TIME_HI_TIME (g : Nat) : Fld := ⟨A.APG_FRAME_TIME_HI g, 0, 32⟩
/-- `AP_PIN0` (R335). -/
abbrev A.AP_PIN0 (n : Nat) : Nat := Base.AP n + 0x0
abbrev F.AP_PIN0_DIR (n : Nat) : Fld := ⟨A.AP_PIN0 n, 0, 2⟩
abbrev F.AP_PIN0_SLOTS (n : Nat) : Fld := ⟨A.AP_PIN0 n, 8, 6⟩
abbrev F.AP_PIN0_TRI (n : Nat) : Fld := ⟨A.AP_PIN0 n, 16, 1⟩
/-- `AP_PIN1` (R335). -/
abbrev A.AP_PIN1 (n : Nat) : Nat := Base.AP n + 0x4
abbrev F.AP_PIN1_DIR (n : Nat) : Fld := ⟨A.AP_PIN1 n, 0, 2⟩
abbrev F.AP_PIN1_SLOTS (n : Nat) : Fld := ⟨A.AP_PIN1 n, 8, 6⟩
abbrev F.AP_PIN1_TRI (n : Nat) : Fld := ⟨A.AP_PIN1 n, 16, 1⟩
/-- `AP_SLOT_EN0` (R335). -/
abbrev A.AP_SLOT_EN0 (n : Nat) : Nat := Base.AP n + 0x8
abbrev F.AP_SLOT_EN0_EN (n : Nat) : Fld := ⟨A.AP_SLOT_EN0 n, 0, 32⟩
/-- `AP_SLOT_EN1` (R335). -/
abbrev A.AP_SLOT_EN1 (n : Nat) : Nat := Base.AP n + 0xC
abbrev F.AP_SLOT_EN1_EN (n : Nat) : Fld := ⟨A.AP_SLOT_EN1 n, 0, 32⟩
/-- `AP_NA` (R335). -/
abbrev A.AP_NA (n : Nat) : Nat := Base.AP n + 0x10
abbrev F.AP_NA_DET (n : Nat) : Fld := ⟨A.AP_NA n, 0, 1⟩
abbrev F.AP_NA_PASS (n : Nat) : Fld := ⟨A.AP_NA n, 1, 1⟩
abbrev F.AP_NA_HOLD_LOG2 (n : Nat) : Fld := ⟨A.AP_NA n, 8, 4⟩
/-- `AP_COMMIT` (R335). -/
abbrev A.AP_COMMIT (n : Nat) : Nat := Base.AP n + 0x1C
abbrev F.AP_COMMIT_GO (n : Nat) : Fld := ⟨A.AP_COMMIT n, 0, 1⟩
abbrev F.AP_COMMIT_PENDING (n : Nat) : Fld := ⟨A.AP_COMMIT n, 1, 1⟩
abbrev F.AP_COMMIT_REASON (n : Nat) : Fld := ⟨A.AP_COMMIT n, 8, 8⟩
/-- `AP_NA_STAT` (R335). -/
abbrev A.AP_NA_STAT (n : Nat) : Nat := Base.AP n + 0x20
abbrev F.AP_NA_STAT_PIN0 (n : Nat) : Fld := ⟨A.AP_NA_STAT n, 0, 16⟩
abbrev F.AP_NA_STAT_PIN1 (n : Nat) : Fld := ⟨A.AP_NA_STAT n, 16, 16⟩
/-- `AP_EVT` (R335). -/
abbrev A.AP_EVT (n : Nat) : Nat := Base.AP n + 0x24
abbrev F.AP_EVT_EVT (n : Nat) : Fld := ⟨A.AP_EVT n, 0, 3⟩
/-- `DEC_CFG` (R349). -/
abbrev A.DEC_CFG (d : Nat) : Nat := Base.DEC d + 0x0
abbrev F.DEC_CFG_FILT (d : Nat) : Fld := ⟨A.DEC_CFG d, 0, 4⟩
abbrev F.DEC_CFG_EN_R (d : Nat) : Fld := ⟨A.DEC_CFG d, 4, 1⟩
abbrev F.DEC_CFG_EN_F (d : Nat) : Fld := ⟨A.DEC_CFG d, 5, 1⟩
/-- `DEC_COMMIT` (R349). -/
abbrev A.DEC_COMMIT (d : Nat) : Nat := Base.DEC d + 0xC
abbrev F.DEC_COMMIT_GO (d : Nat) : Fld := ⟨A.DEC_COMMIT d, 0, 1⟩
abbrev F.DEC_COMMIT_PENDING (d : Nat) : Fld := ⟨A.DEC_COMMIT d, 1, 1⟩
abbrev F.DEC_COMMIT_REASON (d : Nat) : Fld := ⟨A.DEC_COMMIT d, 8, 8⟩
/-- `DEC_STATUS` (R349). -/
abbrev A.DEC_STATUS (d : Nat) : Nat := Base.DEC d + 0x10
abbrev F.DEC_STATUS_SETTLE_LEFT (d : Nat) : Fld := ⟨A.DEC_STATUS d, 0, 16⟩
/-- `DEC_EVT` (R349). -/
abbrev A.DEC_EVT (d : Nat) : Nat := Base.DEC d + 0x14
abbrev F.DEC_EVT_EVT (d : Nat) : Fld := ⟨A.DEC_EVT d, 0, 3⟩
/-- `BRG_CFG` (R353). -/
abbrev A.BRG_CFG (b : Nat) : Nat := Base.BRG b + 0x0
abbrev F.BRG_CFG_BW (b : Nat) : Fld := ⟨A.BRG_CFG b, 0, 2⟩
/-- `BRG_COMMIT` (R353). -/
abbrev A.BRG_COMMIT (b : Nat) : Nat := Base.BRG b + 0xC
abbrev F.BRG_COMMIT_GO (b : Nat) : Fld := ⟨A.BRG_COMMIT b, 0, 1⟩
abbrev F.BRG_COMMIT_PENDING (b : Nat) : Fld := ⟨A.BRG_COMMIT b, 1, 1⟩
abbrev F.BRG_COMMIT_REASON (b : Nat) : Fld := ⟨A.BRG_COMMIT b, 8, 8⟩
/-- `BRG_STATUS` (R353). -/
abbrev A.BRG_STATUS (b : Nat) : Nat := Base.BRG b + 0x10
abbrev F.BRG_STATUS_LOCKED (b : Nat) : Fld := ⟨A.BRG_STATUS b, 0, 1⟩
abbrev F.BRG_STATUS_LOAD (b : Nat) : Fld := ⟨A.BRG_STATUS b, 16, 9⟩
/-- `BRG_RATIO` (R353). -/
abbrev A.BRG_RATIO (b : Nat) : Nat := Base.BRG b + 0x14
abbrev F.BRG_RATIO_RATIO (b : Nat) : Fld := ⟨A.BRG_RATIO b, 0, 32⟩
/-- `BRG_PHASE` (R353). -/
abbrev A.BRG_PHASE (b : Nat) : Nat := Base.BRG b + 0x18
abbrev F.BRG_PHASE_PHASE (b : Nat) : Fld := ⟨A.BRG_PHASE b, 0, 32⟩
/-- `BRG_EVT` (R353). -/
abbrev A.BRG_EVT (b : Nat) : Nat := Base.BRG b + 0x1C
abbrev F.BRG_EVT_EVT (b : Nat) : Fld := ⟨A.BRG_EVT b, 0, 4⟩
/-- `PR_LOAD` (R364). -/
abbrev A.PR_LOAD : Nat := Base.PR + 0x0
abbrev F.PR_LOAD_LOAD : Fld := ⟨A.PR_LOAD, 0, 17⟩
/-- `PR_IGNORED` (R364). -/
abbrev A.PR_IGNORED : Nat := Base.PR + 0x4
abbrev F.PR_IGNORED_COUNT : Fld := ⟨A.PR_IGNORED, 0, 16⟩
/-- `PR_COMMIT` (R364). -/
abbrev A.PR_COMMIT : Nat := Base.PR + 0x8
abbrev F.PR_COMMIT_GO : Fld := ⟨A.PR_COMMIT, 0, 1⟩
abbrev F.PR_COMMIT_PENDING : Fld := ⟨A.PR_COMMIT, 1, 1⟩
abbrev F.PR_COMMIT_REASON : Fld := ⟨A.PR_COMMIT, 8, 8⟩
/-- `PR_REGION_BASE` (R364). -/
abbrev A.PR_REGION_BASE (i : Nat) : Nat := Base.PR + 0x100 + i * 32
abbrev F.PR_REGION_BASE_BASE (i : Nat) : Fld := ⟨A.PR_REGION_BASE i, 0, 16⟩
/-- `PR_REGION_CFG` (R364). -/
abbrev A.PR_REGION_CFG (i : Nat) : Nat := Base.PR + 0x104 + i * 32
abbrev F.PR_REGION_CFG_COUNT (i : Nat) : Fld := ⟨A.PR_REGION_CFG i, 0, 17⟩
abbrev F.PR_REGION_CFG_DOMAIN (i : Nat) : Fld := ⟨A.PR_REGION_CFG i, 20, 3⟩
/-- `PR_REGION_SWAP` (R364). -/
abbrev A.PR_REGION_SWAP (i : Nat) : Nat := Base.PR + 0x108 + i * 32
abbrev F.PR_REGION_SWAP_GO (i : Nat) : Fld := ⟨A.PR_REGION_SWAP i, 0, 1⟩
abbrev F.PR_REGION_SWAP_CHAIN (i : Nat) : Fld := ⟨A.PR_REGION_SWAP i, 1, 1⟩
abbrev F.PR_REGION_SWAP_CAPTURE (i : Nat) : Fld := ⟨A.PR_REGION_SWAP i, 2, 1⟩
abbrev F.PR_REGION_SWAP_PENDING (i : Nat) : Fld := ⟨A.PR_REGION_SWAP i, 3, 1⟩
abbrev F.PR_REGION_SWAP_CHAINED (i : Nat) : Fld := ⟨A.PR_REGION_SWAP i, 4, 1⟩
abbrev F.PR_REGION_SWAP_REASON (i : Nat) : Fld := ⟨A.PR_REGION_SWAP i, 8, 8⟩
/-- `PR_REGION_EVT` (R364). -/
abbrev A.PR_REGION_EVT (i : Nat) : Nat := Base.PR + 0x10C + i * 32
abbrev F.PR_REGION_EVT_EVT (i : Nat) : Fld := ⟨A.PR_REGION_EVT i, 0, 3⟩
/-- `PR_REGION_WPTR` (R364). -/
abbrev A.PR_REGION_WPTR (i : Nat) : Nat := Base.PR + 0x110 + i * 32
abbrev F.PR_REGION_WPTR_PTR (i : Nat) : Fld := ⟨A.PR_REGION_WPTR i, 0, 16⟩
/-- `PR_REGION_WDATA` (R364). -/
abbrev A.PR_REGION_WDATA (i : Nat) : Nat := Base.PR + 0x114 + i * 32
abbrev F.PR_REGION_WDATA_ENTRY (i : Nat) : Fld := ⟨A.PR_REGION_WDATA i, 0, 32⟩
/-- `PR_GAIN_LEVEL` (R364). -/
abbrev A.PR_GAIN_LEVEL (i : Nat) : Nat := Base.PR + 0x1000 + i * 8
abbrev F.PR_GAIN_LEVEL_LEVEL (i : Nat) : Fld := ⟨A.PR_GAIN_LEVEL i, 0, 32⟩
/-- `PR_GAIN_RAMP` (R364). -/
abbrev A.PR_GAIN_RAMP (i : Nat) : Nat := Base.PR + 0x1004 + i * 8
abbrev F.PR_GAIN_RAMP_RAMP (i : Nat) : Fld := ⟨A.PR_GAIN_RAMP i, 0, 10⟩
/-- `MTR_STATUS` (R372). -/
abbrev A.MTR_STATUS : Nat := Base.MTR + 0x0
abbrev F.MTR_STATUS_CELLS : Fld := ⟨A.MTR_STATUS, 0, 15⟩
abbrev F.MTR_STATUS_LOUD : Fld := ⟨A.MTR_STATUS, 16, 9⟩
/-- `MTR_IGNORED` (R372). -/
abbrev A.MTR_IGNORED : Nat := Base.MTR + 0x4
abbrev F.MTR_IGNORED_COUNT : Fld := ⟨A.MTR_IGNORED, 0, 16⟩
/-- `MTR_COMMIT` (R372). -/
abbrev A.MTR_COMMIT : Nat := Base.MTR + 0xC
abbrev F.MTR_COMMIT_GO : Fld := ⟨A.MTR_COMMIT, 0, 1⟩
abbrev F.MTR_COMMIT_PENDING : Fld := ⟨A.MTR_COMMIT, 1, 1⟩
abbrev F.MTR_COMMIT_REASON : Fld := ⟨A.MTR_COMMIT, 8, 8⟩
/-- `MTR_RANGE_INDEX` (R372). -/
abbrev A.MTR_RANGE_INDEX (i : Nat) : Nat := Base.MTR + 0x100 + i * 16
abbrev F.MTR_RANGE_INDEX_INDEX (i : Nat) : Fld := ⟨A.MTR_RANGE_INDEX i, 0, 17⟩
/-- `MTR_RANGE_CELLS` (R372). -/
abbrev A.MTR_RANGE_CELLS (i : Nat) : Nat := Base.MTR + 0x104 + i * 16
abbrev F.MTR_RANGE_CELLS_FIRST (i : Nat) : Fld := ⟨A.MTR_RANGE_CELLS i, 0, 14⟩
abbrev F.MTR_RANGE_CELLS_COUNT (i : Nat) : Fld := ⟨A.MTR_RANGE_CELLS i, 16, 15⟩
/-- `MTR_RANGE_CFG` (R372). -/
abbrev A.MTR_RANGE_CFG (i : Nat) : Nat := Base.MTR + 0x108 + i * 16
abbrev F.MTR_RANGE_CFG_DOMAIN (i : Nat) : Fld := ⟨A.MTR_RANGE_CFG i, 0, 3⟩
abbrev F.MTR_RANGE_CFG_TAU (i : Nat) : Fld := ⟨A.MTR_RANGE_CFG i, 4, 3⟩
abbrev F.MTR_RANGE_CFG_EN (i : Nat) : Fld := ⟨A.MTR_RANGE_CFG i, 31, 1⟩
/-- `MTR_LD_CFG` (R372). -/
abbrev A.MTR_LD_CFG (i : Nat) : Nat := Base.MTR + 0x800 + i * 16
abbrev F.MTR_LD_CFG_INDEX (i : Nat) : Fld := ⟨A.MTR_LD_CFG i, 0, 17⟩
abbrev F.MTR_LD_CFG_COUNT (i : Nat) : Fld := ⟨A.MTR_LD_CFG i, 20, 4⟩
abbrev F.MTR_LD_CFG_DOMAIN (i : Nat) : Fld := ⟨A.MTR_LD_CFG i, 24, 3⟩
abbrev F.MTR_LD_CFG_EN (i : Nat) : Fld := ⟨A.MTR_LD_CFG i, 31, 1⟩
/-- `MTR_LD_WEIGHT` (R372). -/
abbrev A.MTR_LD_WEIGHT (i : Nat) : Nat := Base.MTR + 0x804 + i * 16
abbrev F.MTR_LD_WEIGHT_W (i : Nat) : Fld := ⟨A.MTR_LD_WEIGHT i, 0, 16⟩
/-- `MTR_LD_CTRL` (R372). -/
abbrev A.MTR_LD_CTRL (i : Nat) : Nat := Base.MTR + 0x808 + i * 16
abbrev F.MTR_LD_CTRL_RESTART (i : Nat) : Fld := ⟨A.MTR_LD_CTRL i, 0, 1⟩
/-- `MTR_HISTW` (R372). -/
abbrev A.MTR_HISTW (i : Nat) : Nat := Base.MTR + 0x2000 + i * 4
abbrev F.MTR_HISTW_W (i : Nat) : Fld := ⟨A.MTR_HISTW i, 0, 10⟩
abbrev F.MTR_HISTW_CLR (i : Nat) : Fld := ⟨A.MTR_HISTW i, 31, 1⟩
/-- `PWR_CMD` (R383). -/
abbrev A.PWR_CMD : Nat := Base.PWR + 0x0
abbrev F.PWR_CMD_TARGET : Fld := ⟨A.PWR_CMD, 0, 3⟩
abbrev F.PWR_CMD_BUSY : Fld := ⟨A.PWR_CMD, 31, 1⟩
/-- `PWR_MODE` (R383). -/
abbrev A.PWR_MODE : Nat := Base.PWR + 0x4
abbrev F.PWR_MODE_REQ : Fld := ⟨A.PWR_MODE, 0, 3⟩
/-- `PWR_STATUS` (R383). -/
abbrev A.PWR_STATUS : Nat := Base.PWR + 0x8
abbrev F.PWR_STATUS_STATE : Fld := ⟨A.PWR_STATUS, 0, 3⟩
abbrev F.PWR_STATUS_TRANSIT : Fld := ⟨A.PWR_STATUS, 3, 1⟩
abbrev F.PWR_STATUS_REASON : Fld := ⟨A.PWR_STATUS, 8, 8⟩
abbrev F.PWR_STATUS_UNIT : Fld := ⟨A.PWR_STATUS, 16, 12⟩
/-- `PWR_DOMAIN_REQ` (R383). -/
abbrev A.PWR_DOMAIN_REQ : Nat := Base.PWR + 0xC
abbrev F.PWR_DOMAIN_REQ_CLUSTER : Fld := ⟨A.PWR_DOMAIN_REQ, 0, 4⟩
abbrev F.PWR_DOMAIN_REQ_QUAD : Fld := ⟨A.PWR_DOMAIN_REQ, 4, 6⟩
abbrev F.PWR_DOMAIN_REQ_MCS : Fld := ⟨A.PWR_DOMAIN_REQ, 10, 8⟩
/-- `PWR_DOMAIN_STATE` (R383). -/
abbrev A.PWR_DOMAIN_STATE : Nat := Base.PWR + 0x10
abbrev F.PWR_DOMAIN_STATE_ON : Fld := ⟨A.PWR_DOMAIN_STATE, 0, 18⟩
abbrev F.PWR_DOMAIN_STATE_ISLANDS : Fld := ⟨A.PWR_DOMAIN_STATE, 18, 6⟩
abbrev F.PWR_DOMAIN_STATE_VDDIO : Fld := ⟨A.PWR_DOMAIN_STATE, 24, 8⟩
/-- `PWR_DOMAIN_REASON` (R383). -/
abbrev A.PWR_DOMAIN_REASON : Nat := Base.PWR + 0x14
abbrev F.PWR_DOMAIN_REASON_REASON : Fld := ⟨A.PWR_DOMAIN_REASON, 8, 8⟩
abbrev F.PWR_DOMAIN_REASON_UNIT : Fld := ⟨A.PWR_DOMAIN_REASON, 16, 12⟩
/-- `PWR_RETAIN_MASK_LO` (R383). -/
abbrev A.PWR_RETAIN_MASK_LO : Nat := Base.PWR + 0x18
abbrev F.PWR_RETAIN_MASK_LO_BANKS : Fld := ⟨A.PWR_RETAIN_MASK_LO, 0, 32⟩
/-- `PWR_RETAIN_MASK_HI` (R383). -/
abbrev A.PWR_RETAIN_MASK_HI : Nat := Base.PWR + 0x1C
abbrev F.PWR_RETAIN_MASK_HI_BANKS : Fld := ⟨A.PWR_RETAIN_MASK_HI, 0, 9⟩
/-- `PWR_WAKE_EN` (R383). -/
abbrev A.PWR_WAKE_EN : Nat := Base.PWR + 0x20
abbrev F.PWR_WAKE_EN_WAKE_IN : Fld := ⟨A.PWR_WAKE_EN, 0, 1⟩
abbrev F.PWR_WAKE_EN_IN_LEVEL : Fld := ⟨A.PWR_WAKE_EN, 1, 1⟩
abbrev F.PWR_WAKE_EN_PCIE : Fld := ⟨A.PWR_WAKE_EN, 2, 1⟩
abbrev F.PWR_WAKE_EN_TIMER : Fld := ⟨A.PWR_WAKE_EN, 3, 1⟩
abbrev F.PWR_WAKE_EN_MSPI : Fld := ⟨A.PWR_WAKE_EN, 4, 1⟩
abbrev F.PWR_WAKE_EN_OUT_EN : Fld := ⟨A.PWR_WAKE_EN, 5, 1⟩
/-- `PWR_WAKE_TIMER` (R383). -/
abbrev A.PWR_WAKE_TIMER : Nat := Base.PWR + 0x24
abbrev F.PWR_WAKE_TIMER_MS : Fld := ⟨A.PWR_WAKE_TIMER, 0, 32⟩
/-- `PWR_WAKE_CAUSE` (R383). -/
abbrev A.PWR_WAKE_CAUSE : Nat := Base.PWR + 0x28
abbrev F.PWR_WAKE_CAUSE_CAUSE : Fld := ⟨A.PWR_WAKE_CAUSE, 0, 6⟩
/-- `PWR_WAKE_ACK` (R383). -/
abbrev A.PWR_WAKE_ACK : Nat := Base.PWR + 0x2C
abbrev F.PWR_WAKE_ACK_ACK : Fld := ⟨A.PWR_WAKE_ACK, 0, 1⟩
/-- `PWR_EVT` (R383). -/
abbrev A.PWR_EVT : Nat := Base.PWR + 0x30
abbrev F.PWR_EVT_EVT : Fld := ⟨A.PWR_EVT, 0, 3⟩
/-- `CLK_OPP` (R395). -/
abbrev A.CLK_OPP : Nat := Base.CLK + 0x0
abbrev F.CLK_OPP_REQ : Fld := ⟨A.CLK_OPP, 0, 2⟩
abbrev F.CLK_OPP_BUSY : Fld := ⟨A.CLK_OPP, 31, 1⟩
/-- `CLK_OPP_STATUS` (R395). -/
abbrev A.CLK_OPP_STATUS : Nat := Base.CLK + 0x4
abbrev F.CLK_OPP_STATUS_CUR : Fld := ⟨A.CLK_OPP_STATUS, 0, 2⟩
abbrev F.CLK_OPP_STATUS_CHANGING : Fld := ⟨A.CLK_OPP_STATUS, 2, 1⟩
abbrev F.CLK_OPP_STATUS_REASON : Fld := ⟨A.CLK_OPP_STATUS, 8, 8⟩
abbrev F.CLK_OPP_STATUS_RESOURCE : Fld := ⟨A.CLK_OPP_STATUS, 16, 12⟩
/-- `CLK_PMB_CORE` (R395). -/
abbrev A.CLK_PMB_CORE : Nat := Base.CLK + 0x8
abbrev F.CLK_PMB_CORE_ADDR : Fld := ⟨A.CLK_PMB_CORE, 0, 7⟩
abbrev F.CLK_PMB_CORE_PAGE : Fld := ⟨A.CLK_PMB_CORE, 8, 8⟩
abbrev F.CLK_PMB_CORE_PAGE_EN : Fld := ⟨A.CLK_PMB_CORE, 16, 1⟩
/-- `CLK_PMB_SRAM` (R395). -/
abbrev A.CLK_PMB_SRAM : Nat := Base.CLK + 0xC
abbrev F.CLK_PMB_SRAM_ADDR : Fld := ⟨A.CLK_PMB_SRAM, 0, 7⟩
abbrev F.CLK_PMB_SRAM_PAGE : Fld := ⟨A.CLK_PMB_SRAM, 8, 8⟩
abbrev F.CLK_PMB_SRAM_PAGE_EN : Fld := ⟨A.CLK_PMB_SRAM, 16, 1⟩
/-- `CLK_VOUT_OPP` (R395). -/
abbrev A.CLK_VOUT_OPP (i : Nat) : Nat := Base.CLK + 0x10 + i * 4
abbrev F.CLK_VOUT_OPP_CODE (i : Nat) : Fld := ⟨A.CLK_VOUT_OPP i, 0, 16⟩
/-- `CLK_VOUT_CORE_RET` (R395). -/
abbrev A.CLK_VOUT_CORE_RET : Nat := Base.CLK + 0x20
abbrev F.CLK_VOUT_CORE_RET_CODE : Fld := ⟨A.CLK_VOUT_CORE_RET, 0, 16⟩
/-- `CLK_VOUT_SRAM_RUN` (R395). -/
abbrev A.CLK_VOUT_SRAM_RUN : Nat := Base.CLK + 0x24
abbrev F.CLK_VOUT_SRAM_RUN_CODE : Fld := ⟨A.CLK_VOUT_SRAM_RUN, 0, 16⟩
/-- `CLK_VOUT_SRAM_RET` (R395). -/
abbrev A.CLK_VOUT_SRAM_RET : Nat := Base.CLK + 0x28
abbrev F.CLK_VOUT_SRAM_RET_CODE : Fld := ⟨A.CLK_VOUT_SRAM_RET, 0, 16⟩
/-- `ERR_FIRST_HDR` (R407). -/
abbrev A.ERR_FIRST_HDR : Nat := Base.ERR + 0x0
abbrev F.ERR_FIRST_HDR_SEQ : Fld := ⟨A.ERR_FIRST_HDR, 0, 16⟩
abbrev F.ERR_FIRST_HDR_CLASS : Fld := ⟨A.ERR_FIRST_HDR, 16, 2⟩
abbrev F.ERR_FIRST_HDR_SUBSYS : Fld := ⟨A.ERR_FIRST_HDR, 20, 4⟩
abbrev F.ERR_FIRST_HDR_VALID : Fld := ⟨A.ERR_FIRST_HDR, 31, 1⟩
/-- `ERR_NEXT_HDR` (R407). -/
abbrev A.ERR_NEXT_HDR : Nat := Base.ERR + 0x20
abbrev F.ERR_NEXT_HDR_SEQ : Fld := ⟨A.ERR_NEXT_HDR, 0, 16⟩
abbrev F.ERR_NEXT_HDR_CLASS : Fld := ⟨A.ERR_NEXT_HDR, 16, 2⟩
abbrev F.ERR_NEXT_HDR_SUBSYS : Fld := ⟨A.ERR_NEXT_HDR, 20, 4⟩
abbrev F.ERR_NEXT_HDR_VALID : Fld := ⟨A.ERR_NEXT_HDR, 31, 1⟩
/-- `ERR_FIRST_SRC` (R407). -/
abbrev A.ERR_FIRST_SRC : Nat := Base.ERR + 0x4
abbrev F.ERR_FIRST_SRC_UNIT : Fld := ⟨A.ERR_FIRST_SRC, 0, 12⟩
abbrev F.ERR_FIRST_SRC_CODE : Fld := ⟨A.ERR_FIRST_SRC, 16, 8⟩
/-- `ERR_NEXT_SRC` (R407). -/
abbrev A.ERR_NEXT_SRC : Nat := Base.ERR + 0x24
abbrev F.ERR_NEXT_SRC_UNIT : Fld := ⟨A.ERR_NEXT_SRC, 0, 12⟩
abbrev F.ERR_NEXT_SRC_CODE : Fld := ⟨A.ERR_NEXT_SRC, 16, 8⟩
/-- `ERR_FIRST_TIME_LO` (R407). -/
abbrev A.ERR_FIRST_TIME_LO : Nat := Base.ERR + 0x8
abbrev F.ERR_FIRST_TIME_LO_TIME : Fld := ⟨A.ERR_FIRST_TIME_LO, 0, 32⟩
/-- `ERR_FIRST_TIME_HI` (R407). -/
abbrev A.ERR_FIRST_TIME_HI : Nat := Base.ERR + 0xC
abbrev F.ERR_FIRST_TIME_HI_TIME : Fld := ⟨A.ERR_FIRST_TIME_HI, 0, 32⟩
/-- `ERR_NEXT_TIME_LO` (R407). -/
abbrev A.ERR_NEXT_TIME_LO : Nat := Base.ERR + 0x28
abbrev F.ERR_NEXT_TIME_LO_TIME : Fld := ⟨A.ERR_NEXT_TIME_LO, 0, 32⟩
/-- `ERR_NEXT_TIME_HI` (R407). -/
abbrev A.ERR_NEXT_TIME_HI : Nat := Base.ERR + 0x2C
abbrev F.ERR_NEXT_TIME_HI_TIME : Fld := ⟨A.ERR_NEXT_TIME_HI, 0, 32⟩
/-- `ERR_FIRST_INFO0` (R407). -/
abbrev A.ERR_FIRST_INFO0 : Nat := Base.ERR + 0x10
abbrev F.ERR_FIRST_INFO0_INFO : Fld := ⟨A.ERR_FIRST_INFO0, 0, 32⟩
/-- `ERR_FIRST_INFO1` (R407). -/
abbrev A.ERR_FIRST_INFO1 : Nat := Base.ERR + 0x14
abbrev F.ERR_FIRST_INFO1_INFO : Fld := ⟨A.ERR_FIRST_INFO1, 0, 32⟩
/-- `ERR_NEXT_INFO0` (R407). -/
abbrev A.ERR_NEXT_INFO0 : Nat := Base.ERR + 0x30
abbrev F.ERR_NEXT_INFO0_INFO : Fld := ⟨A.ERR_NEXT_INFO0, 0, 32⟩
/-- `ERR_NEXT_INFO1` (R407). -/
abbrev A.ERR_NEXT_INFO1 : Nat := Base.ERR + 0x34
abbrev F.ERR_NEXT_INFO1_INFO : Fld := ⟨A.ERR_NEXT_INFO1, 0, 32⟩
/-- `ERR_LOST` (R407). -/
abbrev A.ERR_LOST : Nat := Base.ERR + 0x40
abbrev F.ERR_LOST_COUNT : Fld := ⟨A.ERR_LOST, 0, 16⟩
abbrev F.ERR_LOST_MAXCLASS : Fld := ⟨A.ERR_LOST, 16, 2⟩
/-- `ERR_ACK` (R407). -/
abbrev A.ERR_ACK : Nat := Base.ERR + 0x44
abbrev F.ERR_ACK_SEQ : Fld := ⟨A.ERR_ACK, 0, 16⟩
/-- `ERR_STATUS` (R407). -/
abbrev A.ERR_STATUS : Nat := Base.ERR + 0x48
abbrev F.ERR_STATUS_SAFE : Fld := ⟨A.ERR_STATUS, 0, 1⟩
abbrev F.ERR_STATUS_ESCALATED : Fld := ⟨A.ERR_STATUS, 1, 1⟩
abbrev F.ERR_STATUS_STOPPED : Fld := ⟨A.ERR_STATUS, 4, 12⟩
abbrev F.ERR_STATUS_ACK_BAD : Fld := ⟨A.ERR_STATUS, 16, 16⟩
/-- `ERR_RESTART` (R407). -/
abbrev A.ERR_RESTART : Nat := Base.ERR + 0x4C
abbrev F.ERR_RESTART_SUBSYS : Fld := ⟨A.ERR_RESTART, 0, 4⟩
abbrev F.ERR_RESTART_GO : Fld := ⟨A.ERR_RESTART, 8, 1⟩
abbrev F.ERR_RESTART_BUSY : Fld := ⟨A.ERR_RESTART, 9, 1⟩
abbrev F.ERR_RESTART_REASON : Fld := ⟨A.ERR_RESTART, 16, 8⟩
/-- `ERR_LOG` (R407). -/
abbrev A.ERR_LOG : Nat := Base.ERR + 0x50
abbrev F.ERR_LOG_HEAD : Fld := ⟨A.ERR_LOG, 0, 8⟩
/-- `AUD_STATUS` (R421). -/
abbrev A.AUD_STATUS : Nat := Base.AUD + 0x0
abbrev F.AUD_STATUS_PASS : Fld := ⟨A.AUD_STATUS, 0, 6⟩
abbrev F.AUD_STATUS_OUTSIDE : Fld := ⟨A.AUD_STATUS, 8, 1⟩
/-- `AUD_EVT` (R421). -/
abbrev A.AUD_EVT : Nat := Base.AUD + 0x4
abbrev F.AUD_EVT_VIOL : Fld := ⟨A.AUD_EVT, 0, 6⟩
/-- `AUD_VIOL_INFO` (R421). -/
abbrev A.AUD_VIOL_INFO : Nat := Base.AUD + 0x8
abbrev F.AUD_VIOL_INFO_INV : Fld := ⟨A.AUD_VIOL_INFO, 0, 3⟩
abbrev F.AUD_VIOL_INFO_INDEX : Fld := ⟨A.AUD_VIOL_INFO, 8, 20⟩
/-- `AUD_VIOL_EXPECT` (R421). -/
abbrev A.AUD_VIOL_EXPECT : Nat := Base.AUD + 0xC
abbrev F.AUD_VIOL_EXPECT_VALUE : Fld := ⟨A.AUD_VIOL_EXPECT, 0, 32⟩
/-- `AUD_VIOL_ACTUAL` (R421). -/
abbrev A.AUD_VIOL_ACTUAL : Nat := Base.AUD + 0x10
abbrev F.AUD_VIOL_ACTUAL_VALUE : Fld := ⟨A.AUD_VIOL_ACTUAL, 0, 32⟩
/-- `LNK_SC_SCI_LO` (R427). -/
abbrev A.LNK_SC_SCI_LO (n i : Nat) : Nat := Base.LNK n + 0x2000 + i * 32
abbrev F.LNK_SC_SCI_LO_SCI (n i : Nat) : Fld := ⟨A.LNK_SC_SCI_LO n i, 0, 32⟩
/-- `LNK_SC_SCI_HI` (R427). -/
abbrev A.LNK_SC_SCI_HI (n i : Nat) : Nat := Base.LNK n + 0x2004 + i * 32
abbrev F.LNK_SC_SCI_HI_SCI (n i : Nat) : Fld := ⟨A.LNK_SC_SCI_HI n i, 0, 32⟩
/-- `LNK_SC_CFG` (R427). -/
abbrev A.LNK_SC_CFG (n i : Nat) : Nat := Base.LNK n + 0x2008 + i * 32
abbrev F.LNK_SC_CFG_EN (n i : Nat) : Fld := ⟨A.LNK_SC_CFG n i, 0, 1⟩
abbrev F.LNK_SC_CFG_VALIDATE (n i : Nat) : Fld := ⟨A.LNK_SC_CFG n i, 1, 2⟩
/-- `LNK_SC_REPLAY` (R427). -/
abbrev A.LNK_SC_REPLAY (n i : Nat) : Nat := Base.LNK n + 0x200C + i * 32
abbrev F.LNK_SC_REPLAY_WINDOW (n i : Nat) : Fld := ⟨A.LNK_SC_REPLAY n i, 0, 32⟩
/-- `LNK_SA_CFG` (R427). -/
abbrev A.LNK_SA_CFG (n i : Nat) : Nat := Base.LNK n + 0x2400 + i * 16
abbrev F.LNK_SA_CFG_KEYSLOT (n i : Nat) : Fld := ⟨A.LNK_SA_CFG n i, 0, 8⟩
abbrev F.LNK_SA_CFG_EN (n i : Nat) : Fld := ⟨A.LNK_SA_CFG n i, 31, 1⟩
/-- `LNK_SA_PN` (R427). -/
abbrev A.LNK_SA_PN (n i : Nat) : Nat := Base.LNK n + 0x2404 + i * 16
abbrev F.LNK_SA_PN_PN (n i : Nat) : Fld := ⟨A.LNK_SA_PN n i, 0, 32⟩
/-- `SEC_STATUS` (R436). -/
abbrev A.SEC_STATUS : Nat := Base.SEC + 0x0
abbrev F.SEC_STATUS_ERASED : Fld := ⟨A.SEC_STATUS, 0, 1⟩
abbrev F.SEC_STATUS_DBG_OPENED : Fld := ⟨A.SEC_STATUS, 1, 1⟩
abbrev F.SEC_STATUS_TAP_OPEN : Fld := ⟨A.SEC_STATUS, 2, 1⟩
abbrev F.SEC_STATUS_BOOT_SIGNED : Fld := ⟨A.SEC_STATUS, 3, 1⟩
abbrev F.SEC_STATUS_BOOT_OK : Fld := ⟨A.SEC_STATUS, 4, 1⟩
abbrev F.SEC_STATUS_ERASE_FAIL : Fld := ⟨A.SEC_STATUS, 5, 1⟩
/-- `SEC_LOCK` (R436). -/
abbrev A.SEC_LOCK : Nat := Base.SEC + 0x4
abbrev F.SEC_LOCK_LOCKS : Fld := ⟨A.SEC_LOCK, 0, 4⟩
/-- `SEC_DBG_OPEN` (R436). -/
abbrev A.SEC_DBG_OPEN : Nat := Base.SEC + 0x8
abbrev F.SEC_DBG_OPEN_GO : Fld := ⟨A.SEC_DBG_OPEN, 0, 1⟩
abbrev F.SEC_DBG_OPEN_KEY : Fld := ⟨A.SEC_DBG_OPEN, 16, 16⟩
/-- `SEC_KEY_CMD` (R436). -/
abbrev A.SEC_KEY_CMD : Nat := Base.SEC + 0x10
abbrev F.SEC_KEY_CMD_SLOT : Fld := ⟨A.SEC_KEY_CMD, 0, 8⟩
abbrev F.SEC_KEY_CMD_OP : Fld := ⟨A.SEC_KEY_CMD, 8, 3⟩
abbrev F.SEC_KEY_CMD_TYPE : Fld := ⟨A.SEC_KEY_CMD, 12, 4⟩
abbrev F.SEC_KEY_CMD_BUSY : Fld := ⟨A.SEC_KEY_CMD, 16, 1⟩
abbrev F.SEC_KEY_CMD_REASON : Fld := ⟨A.SEC_KEY_CMD, 24, 8⟩
/-- `SEC_KEY_DATA` (R436). -/
abbrev A.SEC_KEY_DATA (i : Nat) : Nat := Base.SEC + 0x20 + i * 4
abbrev F.SEC_KEY_DATA_DATA (i : Nat) : Fld := ⟨A.SEC_KEY_DATA i, 0, 32⟩
/-- `SEC_ID_PUB` (R436). -/
abbrev A.SEC_ID_PUB (i : Nat) : Nat := Base.SEC + 0x40 + i * 4
abbrev F.SEC_ID_PUB_PUB (i : Nat) : Fld := ⟨A.SEC_ID_PUB i, 0, 32⟩
/-- `SEC_PEAT_ADDR` (R436). -/
abbrev A.SEC_PEAT_ADDR : Nat := Base.SEC + 0x80
abbrev F.SEC_PEAT_ADDR_ADDR : Fld := ⟨A.SEC_PEAT_ADDR, 3, 17⟩
/-- `SEC_PEAT_DATA_LO` (R436). -/
abbrev A.SEC_PEAT_DATA_LO : Nat := Base.SEC + 0x84
abbrev F.SEC_PEAT_DATA_LO_DATA : Fld := ⟨A.SEC_PEAT_DATA_LO, 0, 32⟩
/-- `SEC_PEAT_DATA_HI` (R436). -/
abbrev A.SEC_PEAT_DATA_HI : Nat := Base.SEC + 0x88
abbrev F.SEC_PEAT_DATA_HI_DATA : Fld := ⟨A.SEC_PEAT_DATA_HI, 0, 32⟩
/-- `SEC_PEAT_CMD` (R436). -/
abbrev A.SEC_PEAT_CMD : Nat := Base.SEC + 0x8C
abbrev F.SEC_PEAT_CMD_OP : Fld := ⟨A.SEC_PEAT_CMD, 0, 2⟩
abbrev F.SEC_PEAT_CMD_BUSY : Fld := ⟨A.SEC_PEAT_CMD, 8, 1⟩
abbrev F.SEC_PEAT_CMD_REASON : Fld := ⟨A.SEC_PEAT_CMD, 16, 8⟩
/-- `SEC_MIN_SVN` (R436). -/
abbrev A.SEC_MIN_SVN : Nat := Base.SEC + 0x90
abbrev F.SEC_MIN_SVN_MIN : Fld := ⟨A.SEC_MIN_SVN, 0, 16⟩
/-- `SEC_IGNORED` (R436). -/
abbrev A.SEC_IGNORED : Nat := Base.SEC + 0x94
abbrev F.SEC_IGNORED_COUNT : Fld := ⟨A.SEC_IGNORED, 0, 16⟩
/-- `SEC_FUSE_HASH` (R436). -/
abbrev A.SEC_FUSE_HASH (i : Nat) : Nat := Base.SEC + 0xA0 + i * 4
abbrev F.SEC_FUSE_HASH_HASH (i : Nat) : Fld := ⟨A.SEC_FUSE_HASH i, 0, 32⟩
/-- `SEC_FUSE_STAGE` (R436). -/
abbrev A.SEC_FUSE_STAGE (i : Nat) : Nat := Base.SEC + 0xC0 + i * 4
abbrev F.SEC_FUSE_STAGE_HASH (i : Nat) : Fld := ⟨A.SEC_FUSE_STAGE i, 0, 32⟩
/-- `SEC_FUSE_PROG` (R436). -/
abbrev A.SEC_FUSE_PROG : Nat := Base.SEC + 0xE0
abbrev F.SEC_FUSE_PROG_GO : Fld := ⟨A.SEC_FUSE_PROG, 0, 1⟩
abbrev F.SEC_FUSE_PROG_KEY : Fld := ⟨A.SEC_FUSE_PROG, 16, 16⟩
/-- `FRG_CTRL` (R453). -/
abbrev A.FRG_CTRL : Nat := Base.FRG + 0x0
abbrev F.FRG_CTRL_MODE : Fld := ⟨A.FRG_CTRL, 0, 2⟩
abbrev F.FRG_CTRL_SINK : Fld := ⟨A.FRG_CTRL, 2, 1⟩
abbrev F.FRG_CTRL_FULL : Fld := ⟨A.FRG_CTRL, 3, 1⟩
abbrev F.FRG_CTRL_WRAP : Fld := ⟨A.FRG_CTRL, 4, 1⟩
abbrev F.FRG_CTRL_ENCRYPT : Fld := ⟨A.FRG_CTRL, 5, 1⟩
abbrev F.FRG_CTRL_DOMAIN : Fld := ⟨A.FRG_CTRL, 8, 3⟩
abbrev F.FRG_CTRL_DIG_TICKS : Fld := ⟨A.FRG_CTRL, 16, 8⟩
/-- `FRG_CKPT` (R453). -/
abbrev A.FRG_CKPT : Nat := Base.FRG + 0x4
abbrev F.FRG_CKPT_PERIOD : Fld := ⟨A.FRG_CKPT, 0, 16⟩
/-- `FRG_CMD` (R453). -/
abbrev A.FRG_CMD : Nat := Base.FRG + 0x8
abbrev F.FRG_CMD_OP : Fld := ⟨A.FRG_CMD, 0, 2⟩
abbrev F.FRG_CMD_BUSY : Fld := ⟨A.FRG_CMD, 8, 1⟩
abbrev F.FRG_CMD_REASON : Fld := ⟨A.FRG_CMD, 16, 8⟩
/-- `FRG_STATUS` (R453). -/
abbrev A.FRG_STATUS : Nat := Base.FRG + 0xC
abbrev F.FRG_STATUS_STATE : Fld := ⟨A.FRG_STATUS, 0, 3⟩
abbrev F.FRG_STATUS_END_CAUSE : Fld := ⟨A.FRG_STATUS, 8, 8⟩
/-- `FRG_EVT` (R453). -/
abbrev A.FRG_EVT : Nat := Base.FRG + 0x10
abbrev F.FRG_EVT_EVT : Fld := ⟨A.FRG_EVT, 0, 6⟩
/-- `FRG_IGNORED` (R453). -/
abbrev A.FRG_IGNORED : Nat := Base.FRG + 0x14
abbrev F.FRG_IGNORED_COUNT : Fld := ⟨A.FRG_IGNORED, 0, 16⟩
/-- `FRG_SCOPE` (R453). -/
abbrev A.FRG_SCOPE (i : Nat) : Nat := Base.FRG + 0x20 + i * 4
abbrev F.FRG_SCOPE_UNIT (i : Nat) : Fld := ⟨A.FRG_SCOPE i, 0, 12⟩
abbrev F.FRG_SCOPE_EN (i : Nat) : Fld := ⟨A.FRG_SCOPE i, 31, 1⟩
/-- `FRG_HRING_BASE_LO` (R453). -/
abbrev A.FRG_HRING_BASE_LO : Nat := Base.FRG + 0x60
abbrev F.FRG_HRING_BASE_LO_BASE : Fld := ⟨A.FRG_HRING_BASE_LO, 12, 20⟩
/-- `FRG_HRING_BASE_HI` (R453). -/
abbrev A.FRG_HRING_BASE_HI : Nat := Base.FRG + 0x64
abbrev F.FRG_HRING_BASE_HI_BASE : Fld := ⟨A.FRG_HRING_BASE_HI, 0, 32⟩
/-- `FRG_HRING_CFG` (R453). -/
abbrev A.FRG_HRING_CFG : Nat := Base.FRG + 0x68
abbrev F.FRG_HRING_CFG_SIZE_LOG2 : Fld := ⟨A.FRG_HRING_CFG, 0, 5⟩
/-- `FRG_HRING_HOSTPTR` (R453). -/
abbrev A.FRG_HRING_HOSTPTR : Nat := Base.FRG + 0x6C
abbrev F.FRG_HRING_HOSTPTR_PTR : Fld := ⟨A.FRG_HRING_HOSTPTR, 0, 32⟩
/-- `FRG_HRING_DEVPTR` (R453). -/
abbrev A.FRG_HRING_DEVPTR : Nat := Base.FRG + 0x70
abbrev F.FRG_HRING_DEVPTR_PTR : Fld := ⟨A.FRG_HRING_DEVPTR, 0, 32⟩
/-- `FRG_OCB_ADDR` (R453). -/
abbrev A.FRG_OCB_ADDR : Nat := Base.FRG + 0x74
abbrev F.FRG_OCB_ADDR_ADDR : Fld := ⟨A.FRG_OCB_ADDR, 2, 20⟩
/-- `FRG_OCB_DATA` (R453). -/
abbrev A.FRG_OCB_DATA : Nat := Base.FRG + 0x78
abbrev F.FRG_OCB_DATA_DATA : Fld := ⟨A.FRG_OCB_DATA, 0, 32⟩
/-- `FRG_OCB_FILL` (R453). -/
abbrev A.FRG_OCB_FILL : Nat := Base.FRG + 0x7C
abbrev F.FRG_OCB_FILL_CHUNKS : Fld := ⟨A.FRG_OCB_FILL, 0, 11⟩
/-- `FRG_DIV_INFO` (R453). -/
abbrev A.FRG_DIV_INFO : Nat := Base.FRG + 0x80
abbrev F.FRG_DIV_INFO_KIND : Fld := ⟨A.FRG_DIV_INFO, 0, 4⟩
abbrev F.FRG_DIV_INFO_UNIT : Fld := ⟨A.FRG_DIV_INFO, 16, 12⟩
/-- `FRG_DIV_TICK` (R453). -/
abbrev A.FRG_DIV_TICK : Nat := Base.FRG + 0x84
abbrev F.FRG_DIV_TICK_TICK : Fld := ⟨A.FRG_DIV_TICK, 0, 32⟩
/-- `FRG_DIV_CYCLE_LO` (R453). -/
abbrev A.FRG_DIV_CYCLE_LO : Nat := Base.FRG + 0x88
abbrev F.FRG_DIV_CYCLE_LO_CYCLE : Fld := ⟨A.FRG_DIV_CYCLE_LO, 0, 32⟩
/-- `FRG_DIV_CYCLE_HI` (R453). -/
abbrev A.FRG_DIV_CYCLE_HI : Nat := Base.FRG + 0x8C
abbrev F.FRG_DIV_CYCLE_HI_CYCLE : Fld := ⟨A.FRG_DIV_CYCLE_HI, 0, 32⟩
/-- `FRG_DIV_EXPECT` (R453). -/
abbrev A.FRG_DIV_EXPECT : Nat := Base.FRG + 0x90
abbrev F.FRG_DIV_EXPECT_VALUE : Fld := ⟨A.FRG_DIV_EXPECT, 0, 32⟩
/-- `FRG_DIV_FOUND` (R453). -/
abbrev A.FRG_DIV_FOUND : Nat := Base.FRG + 0x94
abbrev F.FRG_DIV_FOUND_VALUE : Fld := ⟨A.FRG_DIV_FOUND, 0, 32⟩
/-- `MGT_BOOT_STATUS` (R466). -/
abbrev A.MGT_BOOT_STATUS : Nat := Base.MGT + 0x0
abbrev F.MGT_BOOT_STATUS_STATE : Fld := ⟨A.MGT_BOOT_STATUS, 0, 3⟩
abbrev F.MGT_BOOT_STATUS_BOOT : Fld := ⟨A.MGT_BOOT_STATUS, 4, 2⟩
abbrev F.MGT_BOOT_STATUS_HOSTIF : Fld := ⟨A.MGT_BOOT_STATUS, 6, 1⟩
abbrev F.MGT_BOOT_STATUS_FALLBACK : Fld := ⟨A.MGT_BOOT_STATUS, 7, 1⟩
abbrev F.MGT_BOOT_STATUS_ENTRIES : Fld := ⟨A.MGT_BOOT_STATUS, 16, 16⟩
/-- `MGT_RESET_CAUSE` (R466). -/
abbrev A.MGT_RESET_CAUSE : Nat := Base.MGT + 0x4
abbrev F.MGT_RESET_CAUSE_CAUSE : Fld := ⟨A.MGT_RESET_CAUSE, 0, 7⟩
/-- `MGT_BOOT_TIME` (R466). -/
abbrev A.MGT_BOOT_TIME : Nat := Base.MGT + 0x8
abbrev F.MGT_BOOT_TIME_US : Fld := ⟨A.MGT_BOOT_TIME, 0, 32⟩
/-- `MGT_PIN_LEVEL` (R485). -/
abbrev A.MGT_PIN_LEVEL : Nat := Base.MGT + 0x40
abbrev F.MGT_PIN_LEVEL_PMB_ALERT : Fld := ⟨A.MGT_PIN_LEVEL, 0, 1⟩
abbrev F.MGT_PIN_LEVEL_WAKE_IN : Fld := ⟨A.MGT_PIN_LEVEL, 1, 1⟩
abbrev F.MGT_PIN_LEVEL_PERST : Fld := ⟨A.MGT_PIN_LEVEL, 2, 1⟩
/-- `MGT_VDDIO_LEVEL` (R485). -/
abbrev A.MGT_VDDIO_LEVEL : Nat := Base.MGT + 0x44
abbrev F.MGT_VDDIO_LEVEL_V33 : Fld := ⟨A.MGT_VDDIO_LEVEL, 0, 8⟩
abbrev F.MGT_VDDIO_LEVEL_MEASURED : Fld := ⟨A.MGT_VDDIO_LEVEL, 8, 8⟩
/-- `MGT_AP_DRIVE` (R485). -/
abbrev A.MGT_AP_DRIVE : Nat := Base.MGT + 0x48
abbrev F.MGT_AP_DRIVE_DRV : Fld := ⟨A.MGT_AP_DRIVE, 0, 16⟩
/-- `GPIO_DIR` (R486). -/
abbrev A.GPIO_DIR : Nat := Base.MGT + 0x100
abbrev F.GPIO_DIR_DIR : Fld := ⟨A.GPIO_DIR, 0, 16⟩
/-- `GPIO_FUNC` (R486). -/
abbrev A.GPIO_FUNC : Nat := Base.MGT + 0x104
abbrev F.GPIO_FUNC_FUNC : Fld := ⟨A.GPIO_FUNC, 0, 32⟩
/-- `GPIO_COMMIT` (R486). -/
abbrev A.GPIO_COMMIT : Nat := Base.MGT + 0x108
abbrev F.GPIO_COMMIT_GO : Fld := ⟨A.GPIO_COMMIT, 0, 1⟩
abbrev F.GPIO_COMMIT_PENDING : Fld := ⟨A.GPIO_COMMIT, 1, 1⟩
abbrev F.GPIO_COMMIT_REASON : Fld := ⟨A.GPIO_COMMIT, 8, 8⟩
/-- `GPIO_OUT` (R486). -/
abbrev A.GPIO_OUT : Nat := Base.MGT + 0x10C
abbrev F.GPIO_OUT_OUT : Fld := ⟨A.GPIO_OUT, 0, 16⟩
/-- `GPIO_SET` (R486). -/
abbrev A.GPIO_SET : Nat := Base.MGT + 0x110
abbrev F.GPIO_SET_SET : Fld := ⟨A.GPIO_SET, 0, 16⟩
/-- `GPIO_CLR` (R486). -/
abbrev A.GPIO_CLR : Nat := Base.MGT + 0x114
abbrev F.GPIO_CLR_CLR : Fld := ⟨A.GPIO_CLR, 0, 16⟩
/-- `GPIO_IN` (R486). -/
abbrev A.GPIO_IN : Nat := Base.MGT + 0x118
abbrev F.GPIO_IN_IN : Fld := ⟨A.GPIO_IN, 0, 16⟩
/-- `GPIO_EDGE` (R486). -/
abbrev A.GPIO_EDGE : Nat := Base.MGT + 0x11C
abbrev F.GPIO_EDGE_EDGE : Fld := ⟨A.GPIO_EDGE, 0, 32⟩
/-- `GPIO_EVT` (R486). -/
abbrev A.GPIO_EVT : Nat := Base.MGT + 0x120
abbrev F.GPIO_EVT_EVT : Fld := ⟨A.GPIO_EVT, 0, 16⟩
/-- `GPIO_DEBOUNCE` (R486). -/
abbrev A.GPIO_DEBOUNCE : Nat := Base.MGT + 0x124
abbrev F.GPIO_DEBOUNCE_MS : Fld := ⟨A.GPIO_DEBOUNCE, 0, 8⟩
/-- `PMB_CTRL` (R488). -/
abbrev A.PMB_CTRL : Nat := Base.MGT + 0x200
abbrev F.PMB_CTRL_FAST : Fld := ⟨A.PMB_CTRL, 0, 1⟩
abbrev F.PMB_CTRL_PEC : Fld := ⟨A.PMB_CTRL, 1, 1⟩
/-- `PMB_XFER` (R488). -/
abbrev A.PMB_XFER : Nat := Base.MGT + 0x204
abbrev F.PMB_XFER_ADDR : Fld := ⟨A.PMB_XFER, 0, 7⟩
abbrev F.PMB_XFER_CODE : Fld := ⟨A.PMB_XFER, 8, 8⟩
abbrev F.PMB_XFER_KIND : Fld := ⟨A.PMB_XFER, 16, 3⟩
abbrev F.PMB_XFER_BUSY : Fld := ⟨A.PMB_XFER, 31, 1⟩
/-- `PMB_DATA` (R488). -/
abbrev A.PMB_DATA : Nat := Base.MGT + 0x208
abbrev F.PMB_DATA_DATA : Fld := ⟨A.PMB_DATA, 0, 16⟩
/-- `PMB_STATUS` (R488). -/
abbrev A.PMB_STATUS : Nat := Base.MGT + 0x20C
abbrev F.PMB_STATUS_REASON : Fld := ⟨A.PMB_STATUS, 0, 8⟩
abbrev F.PMB_STATUS_NACK : Fld := ⟨A.PMB_STATUS, 8, 1⟩
abbrev F.PMB_STATUS_TIMEOUT : Fld := ⟨A.PMB_STATUS, 9, 1⟩
abbrev F.PMB_STATUS_PEC_ERR : Fld := ⟨A.PMB_STATUS, 10, 1⟩
/-- `THERM_TEMP` (R509). -/
abbrev A.THERM_TEMP (i : Nat) : Nat := Base.THERM + 0x0 + i * 4
abbrev F.THERM_TEMP_TEMP (i : Nat) : Fld := ⟨A.THERM_TEMP i, 0, 16⟩
/-- `THERM_MAX` (R509). -/
abbrev A.THERM_MAX : Nat := Base.THERM + 0x10
abbrev F.THERM_MAX_TEMP : Fld := ⟨A.THERM_MAX, 0, 16⟩
/-- `THERM_PEAK` (R509). -/
abbrev A.THERM_PEAK : Nat := Base.THERM + 0x14
abbrev F.THERM_PEAK_TEMP : Fld := ⟨A.THERM_PEAK, 0, 16⟩
/-- `THERM_WARN` (R509). -/
abbrev A.THERM_WARN : Nat := Base.THERM + 0x20
abbrev F.THERM_WARN_LIMIT : Fld := ⟨A.THERM_WARN, 0, 16⟩
/-- `THERM_EVT` (R509). -/
abbrev A.THERM_EVT : Nat := Base.THERM + 0x24
abbrev F.THERM_EVT_EVT : Fld := ⟨A.THERM_EVT, 0, 2⟩
/-- `CQ_BASE_LO` (R95). -/
abbrev A.CQ_BASE_LO (t : Nat) : Nat := Base.TNT t + 0x20
abbrev F.CQ_BASE_LO_BASE (t : Nat) : Fld := ⟨A.CQ_BASE_LO t, 12, 20⟩
/-- `CQ_BASE_HI` (R95). -/
abbrev A.CQ_BASE_HI (t : Nat) : Nat := Base.TNT t + 0x24
abbrev F.CQ_BASE_HI_BASE (t : Nat) : Fld := ⟨A.CQ_BASE_HI t, 0, 32⟩
/-- `CQ_CFG` (R95). -/
abbrev A.CQ_CFG (t : Nat) : Nat := Base.TNT t + 0x28
abbrev F.CQ_CFG_DEPTH_LOG2 (t : Nat) : Fld := ⟨A.CQ_CFG t, 0, 4⟩
abbrev F.CQ_CFG_THRESH (t : Nat) : Fld := ⟨A.CQ_CFG t, 8, 12⟩
abbrev F.CQ_CFG_IRQ (t : Nat) : Fld := ⟨A.CQ_CFG t, 30, 1⟩
abbrev F.CQ_CFG_EN (t : Nat) : Fld := ⟨A.CQ_CFG t, 31, 1⟩
/-- `EQ_BASE_LO` (R95). -/
abbrev A.EQ_BASE_LO (t : Nat) : Nat := Base.TNT t + 0x30
abbrev F.EQ_BASE_LO_BASE (t : Nat) : Fld := ⟨A.EQ_BASE_LO t, 12, 20⟩
/-- `EQ_BASE_HI` (R95). -/
abbrev A.EQ_BASE_HI (t : Nat) : Nat := Base.TNT t + 0x34
abbrev F.EQ_BASE_HI_BASE (t : Nat) : Fld := ⟨A.EQ_BASE_HI t, 0, 32⟩
/-- `EQ_CFG` (R95). -/
abbrev A.EQ_CFG (t : Nat) : Nat := Base.TNT t + 0x38
abbrev F.EQ_CFG_DEPTH_LOG2 (t : Nat) : Fld := ⟨A.EQ_CFG t, 0, 4⟩
abbrev F.EQ_CFG_THRESH (t : Nat) : Fld := ⟨A.EQ_CFG t, 8, 12⟩
abbrev F.EQ_CFG_IRQ (t : Nat) : Fld := ⟨A.EQ_CFG t, 30, 1⟩
abbrev F.EQ_CFG_EN (t : Nat) : Fld := ⟨A.EQ_CFG t, 31, 1⟩
/-- `SQ_PORT` (R95). -/
abbrev A.SQ_PORT (t i : Nat) : Nat := Base.TNT t + 0x80 + i * 4
abbrev F.SQ_PORT_ENTRY (t i : Nat) : Fld := ⟨A.SQ_PORT t i, 0, 32⟩
/-- `CQ_PORT` (R95). -/
abbrev A.CQ_PORT (t i : Nat) : Nat := Base.TNT t + 0xC0 + i * 4
abbrev F.CQ_PORT_ENTRY (t i : Nat) : Fld := ⟨A.CQ_PORT t i, 0, 32⟩
/-- `EQ_PORT` (R95). -/
abbrev A.EQ_PORT (t i : Nat) : Nat := Base.TNT t + 0xE0 + i * 4
abbrev F.EQ_PORT_ENTRY (t i : Nat) : Fld := ⟨A.EQ_PORT t i, 0, 32⟩
/-- `HCH_PTR` (R95). -/
abbrev A.HCH_PTR (t i : Nat) : Nat := Base.TNT t + 0x400 + i * 4
abbrev F.HCH_PTR_PTR (t i : Nat) : Fld := ⟨A.HCH_PTR t i, 0, 16⟩
/-- `HOST_BIND` (R107). -/
abbrev A.HOST_BIND (i : Nat) : Nat := Base.HOST + 0x40 + i * 4
abbrev F.HOST_BIND_SPI (i : Nat) : Fld := ⟨A.HOST_BIND i, 0, 32⟩
/-- `HOST_PEND` (R107). -/
abbrev A.HOST_PEND (i : Nat) : Nat := Base.HOST + 0x80 + i * 4
abbrev F.HOST_PEND_PEND (i : Nat) : Fld := ⟨A.HOST_PEND i, 0, 32⟩
/-- `HOST_VF_MAP` (R107). -/
abbrev A.HOST_VF_MAP (i : Nat) : Nat := Base.HOST + 0x104 + i * 4
abbrev F.HOST_VF_MAP_FIRST (i : Nat) : Fld := ⟨A.HOST_VF_MAP i, 0, 9⟩
abbrev F.HOST_VF_MAP_COUNT (i : Nat) : Fld := ⟨A.HOST_VF_MAP i, 16, 6⟩
/-- `HOST_VF_BAD` (R107). -/
abbrev A.HOST_VF_BAD (i : Nat) : Nat := Base.HOST + 0x200 + i * 4
abbrev F.HOST_VF_BAD_BAD (i : Nat) : Fld := ⟨A.HOST_VF_BAD i, 0, 32⟩
/-- `HCH_BASE_HI` (R107). -/
abbrev A.HCH_BASE_HI (i : Nat) : Nat := Base.HOST + 0x804 + i * 16
abbrev F.HCH_BASE_HI_BASE (i : Nat) : Fld := ⟨A.HCH_BASE_HI i, 0, 32⟩
/-- `HCH_CFG` (R107). -/
abbrev A.HCH_CFG (i : Nat) : Nat := Base.HOST + 0x808 + i * 16
abbrev F.HCH_CFG_DEPTH_LOG2 (i : Nat) : Fld := ⟨A.HCH_CFG i, 0, 4⟩
abbrev F.HCH_CFG_FIRST_CH (i : Nat) : Fld := ⟨A.HCH_CFG i, 4, 10⟩
abbrev F.HCH_CFG_CHANS (i : Nat) : Fld := ⟨A.HCH_CFG i, 14, 7⟩
abbrev F.HCH_CFG_DOMAIN (i : Nat) : Fld := ⟨A.HCH_CFG i, 21, 3⟩
abbrev F.HCH_CFG_TAGS (i : Nat) : Fld := ⟨A.HCH_CFG i, 24, 1⟩
abbrev F.HCH_CFG_EN (i : Nat) : Fld := ⟨A.HCH_CFG i, 31, 1⟩
/-- `HCH_STAT` (R107). -/
abbrev A.HCH_STAT (i : Nat) : Nat := Base.HOST + 0x80C + i * 16
abbrev F.HCH_STAT_FILL (i : Nat) : Fld := ⟨A.HCH_STAT i, 0, 16⟩
abbrev F.HCH_STAT_UNDERRUN (i : Nat) : Fld := ⟨A.HCH_STAT i, 16, 1⟩
abbrev F.HCH_STAT_DROP (i : Nat) : Fld := ⟨A.HCH_STAT i, 17, 1⟩
abbrev F.HCH_STAT_STOPPED (i : Nat) : Fld := ⟨A.HCH_STAT i, 18, 1⟩
/-- `HCH_COMMIT` (R107). -/
abbrev A.HCH_COMMIT : Nat := Base.HOST + 0x7F0
abbrev F.HCH_COMMIT_GO : Fld := ⟨A.HCH_COMMIT, 0, 1⟩
abbrev F.HCH_COMMIT_PENDING : Fld := ⟨A.HCH_COMMIT, 1, 1⟩
abbrev F.HCH_COMMIT_REASON : Fld := ⟨A.HCH_COMMIT, 8, 8⟩
/-- `PWR_WAKE_PAT` (R211). -/
abbrev A.PWR_WAKE_PAT (p w : Nat) : Nat := Base.PWR + 0x440 + p * 0x24 + w * 4
abbrev F.PWR_WAKE_PAT_OCTETS (p w : Nat) : Fld := ⟨A.PWR_WAKE_PAT p w, 0, 32⟩
/-- `SWC_SLUICE` (R247). -/
abbrev A.SWC_SLUICE (p c : Nat) : Nat := Base.SWC + 0x1000 + p * 0x40 + c * 8
abbrev F.SWC_SLUICE_RATE (p c : Nat) : Fld := ⟨A.SWC_SLUICE p c, 0, 25⟩
abbrev F.SWC_SLUICE_EN (p c : Nat) : Fld := ⟨A.SWC_SLUICE p c, 31, 1⟩
/-- `SWC_BURST` (R247). -/
abbrev A.SWC_BURST (p c : Nat) : Nat := Base.SWC + 0x1004 + p * 0x40 + c * 8
abbrev F.SWC_BURST_BURST (p c : Nat) : Fld := ⟨A.SWC_BURST p c, 0, 24⟩

end Sys2Proof.Machine
end

