-- ==== Sys2Proof/Machine/RegRows.lean ====
section
/-! DEFINITION. The register tables of spec/, block by block: for each register its offset, how often it repeats, and for
each field its place, its access code (R9), its reset value (R11) and, for a WS field, the commit set it belongs to
(0, 1, 2 within the unit's sets; none for a field that applies at the boundary, R52). Generated from those tables. -/
namespace Sys2Proof.Machine

/-- The access codes of R9. -/
inductive Acc where
  | rw | ro | ws | wp | rcl | lvl | wo
deriving DecidableEq, Repr

/-- One field of a register table. -/
structure FieldRow where
  lo : Nat
  width : Nat
  acc : Acc
  reset : Nat
  inSet : Option Nat
deriving DecidableEq, Repr

/-- One register of a register table: `count` copies `stride` apart, in `count2` groups `stride2` apart. -/
structure RegRow where
  off : Nat
  count : Nat
  stride : Nat
  count2 : Nat
  stride2 : Nat
  fields : List FieldRow
deriving DecidableEq, Repr

/-- Registers of the UNIT block, part 0. -/
def Rows.UNIT_0 : List RegRow := [
  ⟨0x0, 1, 4, 1, 0x0, [⟨0, 12, .ro, 0x0, none⟩, ⟨16, 8, .ro, 0x0, none⟩]⟩,
  ⟨0x4, 1, 4, 1, 0x0, [⟨0, 3, .ro, 0x0, none⟩, ⟨8, 8, .ro, 0x0, none⟩, ⟨16, 12, .ro, 0x0, none⟩]⟩,
  ⟨0x8, 1, 4, 1, 0x0, [⟨0, 9, .rw, 0x0, none⟩]⟩,
  ⟨0xC, 1, 4, 1, 0x0, [⟨0, 12, .ws, 0x0, some 0⟩, ⟨16, 12, .ws, 0xFFF, some 0⟩]⟩,
  ⟨0x10, 1, 4, 1, 0x0, [⟨0, 1, .lvl, 0x0, none⟩, ⟨1, 1, .rcl, 0x0, none⟩, ⟨2, 1, .rcl, 0x0, none⟩, ⟨3, 1, .lvl, 0x0, none⟩]⟩,
  ⟨0x14, 1, 4, 1, 0x0, [⟨0, 1, .rw, 0x0, none⟩, ⟨1, 3, .rw, 0x0, none⟩, ⟨4, 1, .rw, 0x0, none⟩, ⟨5, 1, .rw, 0x0, none⟩]⟩,
  ⟨0x18, 1, 4, 1, 0x0, [⟨0, 4, .wo, 0x0, none⟩, ⟨8, 1, .ro, 0x0, none⟩, ⟨9, 2, .ro, 0x3, none⟩]⟩,
  ⟨0x1C, 1, 4, 1, 0x0, [⟨0, 4, .ro, 0x0, none⟩]⟩,
  ⟨0x20, 1, 4, 1, 0x0, [⟨0, 32, .ro, 0x0, none⟩]⟩,
  ⟨0x24, 1, 4, 1, 0x0, [⟨0, 32, .ro, 0x0, none⟩]⟩,
  ⟨0x28, 1, 4, 1, 0x0, [⟨0, 16, .ro, 0x0, none⟩]⟩,
  ⟨0x2C, 1, 4, 1, 0x0, [⟨0, 16, .rcl, 0x0, none⟩]⟩]
/-- Registers of the UNIT block, part 1. -/
def Rows.UNIT_1 : List RegRow := [
  ⟨0x30, 1, 4, 1, 0x0, [⟨0, 32, .ro, 0x0, none⟩]⟩,
  ⟨0x34, 1, 4, 1, 0x0, [⟨0, 32, .ro, 0x0, none⟩]⟩]
/-- Registers of the UNIT block. -/
def Rows.UNIT : List RegRow := Rows.UNIT_0 ++ Rows.UNIT_1
/-- Registers of the GLB block, part 0. -/
def Rows.GLB_0 : List RegRow := [
  ⟨0x0, 1, 4, 1, 0x0, [⟨0, 32, .ro, 0x9616B04E, none⟩]⟩,
  ⟨0x4, 1, 4, 1, 0x0, [⟨0, 8, .ro, 0x18, none⟩, ⟨8, 8, .ro, 0x40, none⟩, ⟨16, 4, .ro, 0x4, none⟩, ⟨20, 1, .ro, 0x1, none⟩, ⟨21, 1, .ro, 0x1, none⟩, ⟨22, 1, .ro, 0x1, none⟩, ⟨23, 1, .ro, 0x1, none⟩]⟩,
  ⟨0x10, 1, 4, 1, 0x0, [⟨0, 1, .wo, 0x0, none⟩]⟩,
  ⟨0x14, 1, 4, 1, 0x0, [⟨0, 1, .ro, 0x0, none⟩, ⟨1, 1, .ro, 0x0, none⟩, ⟨8, 8, .ro, 0x0, none⟩, ⟨16, 12, .ro, 0xFFF, none⟩]⟩,
  ⟨0x20, 1, 4, 1, 0x0, [⟨0, 1, .wo, 0x0, none⟩, ⟨1, 1, .ro, 0x0, none⟩, ⟨2, 1, .ro, 0x0, none⟩, ⟨16, 16, .ro, 0x0, none⟩]⟩,
  ⟨0x24, 1, 4, 1, 0x0, [⟨0, 32, .ro, 0x0, none⟩]⟩,
  ⟨0x28, 1, 4, 1, 0x0, [⟨0, 32, .ro, 0x0, none⟩]⟩,
  ⟨0x2C, 1, 4, 1, 0x0, [⟨0, 32, .ro, 0x0, none⟩]⟩,
  ⟨0x30, 1, 4, 1, 0x0, [⟨0, 27, .rcl, 0x0, none⟩]⟩,
  ⟨0x34, 1, 4, 1, 0x0, [⟨0, 3, .ro, 0x0, none⟩, ⟨4, 1, .ro, 0x0, none⟩, ⟨5, 1, .ro, 0x0, none⟩, ⟨31, 1, .ro, 0x0, none⟩]⟩,
  ⟨0x38, 1, 4, 1, 0x0, [⟨0, 32, .ro, 0x0, none⟩]⟩,
  ⟨0x3C, 1, 4, 1, 0x0, [⟨0, 16, .rcl, 0x0, none⟩]⟩]
/-- Registers of the GLB block, part 1. -/
def Rows.GLB_1 : List RegRow := [
  ⟨0x40, 1, 4, 1, 0x0, [⟨0, 1, .ro, 0x0, none⟩, ⟨1, 1, .ro, 0x0, none⟩, ⟨2, 1, .ro, 0x0, none⟩, ⟨8, 6, .ro, 0x0, none⟩, ⟨16, 8, .ro, 0x0, none⟩]⟩,
  ⟨0x60, 1, 4, 1, 0x0, [⟨0, 1, .rw, 0x1, none⟩]⟩,
  ⟨0x64, 1, 4, 1, 0x0, [⟨0, 27, .ro, 0x0, none⟩, ⟨27, 1, .ro, 0x0, none⟩, ⟨28, 1, .ro, 0x0, none⟩, ⟨31, 1, .rcl, 0x0, none⟩]⟩,
  ⟨0x80, 1, 4, 1, 0x0, [⟨0, 1, .lvl, 0x0, none⟩, ⟨1, 1, .lvl, 0x0, none⟩, ⟨2, 1, .lvl, 0x0, none⟩, ⟨3, 1, .lvl, 0x0, none⟩, ⟨4, 1, .lvl, 0x0, none⟩, ⟨5, 1, .lvl, 0x0, none⟩, ⟨6, 1, .lvl, 0x0, none⟩]⟩,
  ⟨0x100, 1, 4, 1, 0x0, [⟨0, 1, .wo, 0x0, none⟩, ⟨16, 16, .wo, 0x0, none⟩]⟩]
/-- Registers of the GLB block. -/
def Rows.GLB : List RegRow := Rows.GLB_0 ++ Rows.GLB_1
/-- Registers of the CFG block. -/
def Rows.CFG : List RegRow := [
  ⟨0x0, 1, 4, 1, 0x0, [⟨0, 2, .rw, 0x0, none⟩, ⟨4, 1, .rw, 0x0, none⟩]⟩,
  ⟨0x4, 1, 4, 1, 0x0, [⟨0, 32, .ro, 0x0, none⟩]⟩,
  ⟨0x8, 1, 4, 1, 0x0, [⟨0, 32, .rw, 0x0, none⟩]⟩,
  ⟨0xC, 1, 4, 1, 0x0, [⟨0, 1, .wo, 0x0, none⟩, ⟨1, 1, .ro, 0x0, none⟩]⟩,
  ⟨0x10, 1, 4, 1, 0x0, [⟨0, 1, .ro, 0x0, none⟩, ⟨1, 1, .lvl, 0x0, none⟩, ⟨2, 1, .rcl, 0x0, none⟩]⟩,
  ⟨0x14, 1, 4, 1, 0x0, [⟨0, 32, .ro, 0x0, none⟩]⟩]
/-- Registers of the TNT block, part 0. -/
def Rows.TNT_0 : List RegRow := [
  ⟨0x0, 1, 4, 1, 0x0, [⟨0, 9, .ro, 0x0, none⟩, ⟨12, 1, .ro, 0x0, none⟩, ⟨16, 6, .ro, 0x0, none⟩]⟩,
  ⟨0x10, 1, 4, 1, 0x0, [⟨12, 20, .rw, 0x0, none⟩]⟩,
  ⟨0x14, 1, 4, 1, 0x0, [⟨0, 32, .rw, 0x0, none⟩]⟩,
  ⟨0x18, 1, 4, 1, 0x0, [⟨0, 4, .rw, 0x4, none⟩, ⟨8, 12, .rw, 0x0, none⟩, ⟨30, 1, .rw, 0x0, none⟩, ⟨31, 1, .rw, 0x0, none⟩]⟩,
  ⟨0x40, 1, 4, 1, 0x0, [⟨0, 16, .wo, 0x0, none⟩]⟩,
  ⟨0x44, 1, 4, 1, 0x0, [⟨0, 16, .wo, 0x0, none⟩]⟩,
  ⟨0x48, 1, 4, 1, 0x0, [⟨0, 16, .wo, 0x0, none⟩]⟩,
  ⟨0x50, 1, 4, 1, 0x0, [⟨0, 16, .ro, 0x0, none⟩]⟩,
  ⟨0x54, 1, 4, 1, 0x0, [⟨0, 16, .ro, 0x0, none⟩]⟩,
  ⟨0x58, 1, 4, 1, 0x0, [⟨0, 16, .ro, 0x0, none⟩]⟩,
  ⟨0x5C, 1, 4, 1, 0x0, [⟨0, 16, .ro, 0x0, none⟩]⟩,
  ⟨0x60, 1, 4, 1, 0x0, [⟨0, 1, .rcl, 0x0, none⟩, ⟨1, 1, .rcl, 0x0, none⟩, ⟨2, 1, .rcl, 0x0, none⟩, ⟨3, 3, .rcl, 0x0, none⟩, ⟨6, 1, .rcl, 0x0, none⟩, ⟨8, 8, .ro, 0x0, none⟩]⟩]
/-- Registers of the TNT block, part 1. -/
def Rows.TNT_1 : List RegRow := [
  ⟨0x64, 1, 4, 1, 0x0, [⟨0, 16, .ro, 0x0, none⟩, ⟨16, 16, .ro, 0x0, none⟩]⟩,
  ⟨0xF0, 1, 4, 1, 0x0, [⟨0, 32, .wo, 0x0, none⟩]⟩,
  ⟨0x20, 1, 4, 1, 0x0, [⟨12, 20, .rw, 0x0, none⟩]⟩,
  ⟨0x24, 1, 4, 1, 0x0, [⟨0, 32, .rw, 0x0, none⟩]⟩,
  ⟨0x28, 1, 4, 1, 0x0, [⟨0, 4, .rw, 0x4, none⟩, ⟨8, 12, .rw, 0x0, none⟩, ⟨30, 1, .rw, 0x0, none⟩, ⟨31, 1, .rw, 0x0, none⟩]⟩,
  ⟨0x30, 1, 4, 1, 0x0, [⟨12, 20, .rw, 0x0, none⟩]⟩,
  ⟨0x34, 1, 4, 1, 0x0, [⟨0, 32, .rw, 0x0, none⟩]⟩,
  ⟨0x38, 1, 4, 1, 0x0, [⟨0, 4, .rw, 0x4, none⟩, ⟨8, 12, .rw, 0x0, none⟩, ⟨30, 1, .rw, 0x0, none⟩, ⟨31, 1, .rw, 0x0, none⟩]⟩,
  ⟨0x80, 16, 4, 1, 0x0, [⟨0, 32, .wo, 0x0, none⟩]⟩,
  ⟨0xC0, 8, 4, 1, 0x0, [⟨0, 32, .ro, 0x0, none⟩]⟩,
  ⟨0xE0, 4, 4, 1, 0x0, [⟨0, 32, .ro, 0x0, none⟩]⟩,
  ⟨0x400, 128, 4, 1, 0x0, [⟨0, 16, .wo, 0x0, none⟩]⟩]
/-- Registers of the TNT block. -/
def Rows.TNT : List RegRow := Rows.TNT_0 ++ Rows.TNT_1
/-- Registers of the HOST block, part 0. -/
def Rows.HOST_0 : List RegRow := [
  ⟨0x0, 1, 4, 1, 0x0, [⟨0, 1, .rw, 0x0, none⟩]⟩,
  ⟨0x4, 1, 4, 1, 0x0, [⟨0, 16, .rcl, 0x0, none⟩, ⟨16, 16, .ro, 0x0, none⟩]⟩,
  ⟨0x8, 1, 4, 1, 0x0, [⟨0, 7, .ro, 0x0, none⟩]⟩,
  ⟨0xC, 1, 4, 1, 0x0, [⟨0, 7, .rw, 0x0, none⟩, ⟨16, 1, .rw, 0x0, none⟩]⟩,
  ⟨0x800, 128, 16, 1, 0x0, [⟨6, 26, .ws, 0x0, some 0⟩]⟩,
  ⟨0x40, 16, 4, 1, 0x0, [⟨0, 32, .rw, 0x0, none⟩]⟩,
  ⟨0x80, 16, 4, 1, 0x0, [⟨0, 32, .lvl, 0x0, none⟩]⟩,
  ⟨0x104, 63, 4, 1, 0x0, [⟨0, 9, .rw, 0x0, none⟩, ⟨16, 6, .rw, 0x0, none⟩]⟩,
  ⟨0x200, 2, 4, 1, 0x0, [⟨0, 32, .ro, 0x0, none⟩]⟩,
  ⟨0x804, 128, 16, 1, 0x0, [⟨0, 32, .ws, 0x0, some 0⟩]⟩,
  ⟨0x808, 128, 16, 1, 0x0, [⟨0, 4, .ws, 0x2, some 0⟩, ⟨4, 10, .ws, 0x0, some 0⟩, ⟨14, 7, .ws, 0x0, some 0⟩, ⟨21, 3, .ws, 0x0, some 0⟩, ⟨24, 1, .ws, 0x0, some 0⟩, ⟨31, 1, .ws, 0x0, some 0⟩]⟩,
  ⟨0x80C, 128, 16, 1, 0x0, [⟨0, 16, .ro, 0x0, none⟩, ⟨16, 1, .rcl, 0x0, none⟩, ⟨17, 1, .rcl, 0x0, none⟩, ⟨18, 1, .rcl, 0x0, none⟩]⟩]
/-- Registers of the HOST block, part 1. -/
def Rows.HOST_1 : List RegRow := [
  ⟨0x7F0, 1, 4, 1, 0x0, [⟨0, 1, .wo, 0x0, none⟩, ⟨1, 1, .ro, 0x0, none⟩, ⟨8, 8, .ro, 0x0, none⟩]⟩]
/-- Registers of the HOST block. -/
def Rows.HOST : List RegRow := Rows.HOST_0 ++ Rows.HOST_1
/-- Registers of the SENG block. -/
def Rows.SENG : List RegRow := [
  ⟨0x0, 1, 4, 1, 0x0, [⟨0, 3, .ws, 0x0, some 0⟩, ⟨8, 8, .ws, 0x10, some 0⟩]⟩,
  ⟨0x4, 1, 4, 1, 0x0, [⟨0, 32, .ws, 0x0, some 0⟩]⟩,
  ⟨0x8, 1, 4, 1, 0x0, [⟨2, 30, .ws, 0x0, some 0⟩]⟩,
  ⟨0xC, 1, 4, 1, 0x0, [⟨0, 1, .wo, 0x0, none⟩, ⟨1, 1, .ro, 0x0, none⟩, ⟨8, 8, .ro, 0x0, none⟩]⟩,
  ⟨0x10, 1, 4, 1, 0x0, [⟨0, 1, .rcl, 0x0, none⟩, ⟨1, 1, .rcl, 0x0, none⟩, ⟨2, 1, .ro, 0x0, none⟩]⟩,
  ⟨0x14, 1, 4, 1, 0x0, [⟨0, 32, .ro, 0x0, none⟩]⟩,
  ⟨0x18, 1, 4, 1, 0x0, [⟨0, 32, .rcl, 0x0, none⟩]⟩]
/-- Registers of the STW block. -/
def Rows.STW : List RegRow := [
  ⟨0x0, 1, 4, 1, 0x0, [⟨2, 30, .rw, 0x0, none⟩]⟩,
  ⟨0x4, 1, 4, 1, 0x0, [⟨5, 15, .rw, 0x2000, none⟩]⟩,
  ⟨0x8, 1, 4, 1, 0x0, [⟨0, 11, .rw, 0x0, none⟩]⟩,
  ⟨0xC, 1, 4, 1, 0x0, [⟨0, 1, .wo, 0x0, none⟩, ⟨1, 1, .ro, 0x0, none⟩, ⟨8, 8, .ro, 0x0, none⟩, ⟨16, 11, .ro, 0x0, none⟩]⟩,
  ⟨0x10, 1, 4, 1, 0x0, [⟨4, 16, .rw, 0xE000, none⟩, ⟨24, 4, .rw, 0xE, none⟩]⟩,
  ⟨0x14, 1, 4, 1, 0x0, [⟨0, 8, .ro, 0x0, none⟩, ⟨16, 8, .ro, 0x0, none⟩]⟩,
  ⟨0x18, 1, 4, 1, 0x0, [⟨0, 1, .rcl, 0x0, none⟩, ⟨1, 1, .rcl, 0x0, none⟩]⟩]
/-- Registers of the LNK block, part 0. -/
def Rows.LNK_0 : List RegRow := [
  ⟨0x0, 1, 4, 1, 0x0, [⟨0, 3, .ws, 0x0, some 0⟩, ⟨4, 1, .ws, 0x0, some 0⟩, ⟨5, 1, .ws, 0x1, some 0⟩, ⟨6, 1, .ws, 0x0, some 0⟩, ⟨7, 1, .ws, 0x0, some 0⟩, ⟨8, 8, .ws, 0xA, some 0⟩]⟩,
  ⟨0x4, 1, 4, 1, 0x0, [⟨0, 1, .ro, 0x0, none⟩, ⟨1, 1, .ro, 0x0, none⟩, ⟨2, 1, .ro, 0x0, none⟩, ⟨3, 1, .ro, 0x0, none⟩, ⟨16, 16, .ro, 0x0, none⟩]⟩,
  ⟨0x8, 1, 4, 1, 0x0, [⟨0, 1, .rcl, 0x0, none⟩, ⟨1, 1, .rcl, 0x0, none⟩, ⟨2, 1, .rcl, 0x0, none⟩, ⟨3, 1, .rcl, 0x0, none⟩, ⟨4, 1, .rcl, 0x0, none⟩, ⟨5, 1, .rcl, 0x0, none⟩, ⟨6, 1, .rcl, 0x0, none⟩, ⟨7, 1, .rcl, 0x0, none⟩]⟩,
  ⟨0xC, 1, 4, 1, 0x0, [⟨0, 1, .wo, 0x0, none⟩, ⟨1, 1, .ro, 0x0, none⟩, ⟨8, 8, .ro, 0x0, none⟩]⟩,
  ⟨0x10, 1, 4, 1, 0x0, [⟨0, 5, .wp, 0x10, none⟩, ⟨5, 5, .wp, 0x0, none⟩, ⟨10, 5, .wp, 0x0, none⟩, ⟨16, 1, .wp, 0x0, none⟩, ⟨31, 1, .ro, 0x0, none⟩]⟩,
  ⟨0x14, 1, 4, 1, 0x0, [⟨0, 14, .ws, 0x5EE, none⟩]⟩,
  ⟨0x18, 1, 4, 1, 0x0, [⟨0, 1, .rw, 0x0, none⟩, ⟨1, 1, .rw, 0x0, none⟩, ⟨2, 1, .rw, 0x0, none⟩]⟩,
  ⟨0x20, 4, 8, 1, 0x0, [⟨0, 32, .rw, 0x0, none⟩]⟩,
  ⟨0x24, 4, 8, 1, 0x0, [⟨0, 16, .rw, 0x0, none⟩, ⟨31, 1, .rw, 0x0, none⟩]⟩,
  ⟨0x100, 32, 4, 1, 0x0, [⟨0, 32, .rw, 0x0, none⟩]⟩,
  ⟨0x40, 1, 4, 1, 0x0, [⟨0, 1, .ws, 0x0, none⟩, ⟨1, 1, .ws, 0x0, none⟩, ⟨2, 1, .ws, 0x0, none⟩, ⟨16, 12, .ws, 0x1, none⟩]⟩,
  ⟨0x44, 1, 4, 1, 0x0, [⟨0, 2, .ws, 0x0, none⟩, ⟨4, 3, .ws, 0x0, none⟩, ⟨8, 8, .ws, 0xE0, none⟩]⟩]
/-- Registers of the LNK block, part 1. -/
def Rows.LNK_1 : List RegRow := [
  ⟨0x48, 1, 4, 1, 0x0, [⟨0, 32, .ws, 0x76543210, none⟩]⟩,
  ⟨0x50, 8, 4, 1, 0x0, [⟨0, 32, .ws, 0x0, none⟩]⟩,
  ⟨0x800, 128, 4, 1, 0x0, [⟨0, 32, .rw, 0x2, none⟩]⟩,
  ⟨0x200, 1, 4, 1, 0x0, [⟨0, 1, .ws, 0x0, some 1⟩, ⟨16, 9, .ws, 0x1, some 1⟩]⟩,
  ⟨0x204, 1, 4, 1, 0x0, [⟨0, 30, .ws, 0x1E848, some 1⟩]⟩,
  ⟨0x208, 1, 4, 1, 0x0, [⟨0, 32, .ws, 0x0, some 1⟩]⟩,
  ⟨0x20C, 1, 4, 1, 0x0, [⟨0, 32, .ws, 0x0, some 1⟩]⟩,
  ⟨0x210, 1, 4, 1, 0x0, [⟨0, 1, .ro, 0x0, none⟩, ⟨16, 8, .ro, 0x0, none⟩]⟩,
  ⟨0x220, 8, 4, 1, 0x0, [⟨0, 32, .ro, 0xFFFFFFFF, none⟩]⟩,
  ⟨0x400, 256, 4, 1, 0x0, [⟨0, 8, .ws, 0xFF, some 1⟩, ⟨8, 24, .ws, 0x0, some 1⟩]⟩,
  ⟨0x240, 1, 4, 1, 0x0, [⟨0, 1, .ws, 0x0, some 2⟩, ⟨8, 8, .ws, 0x0, some 2⟩, ⟨16, 2, .ws, 0x0, some 2⟩, ⟨20, 1, .ws, 0x1, some 2⟩, ⟨24, 2, .ro, 0x0, none⟩]⟩,
  ⟨0x250, 2, 8, 1, 0x0, [⟨0, 3, .ws, 0x5, some 2⟩, ⟨31, 1, .ws, 0x0, some 2⟩]⟩]
/-- Registers of the LNK block, part 2. -/
def Rows.LNK_2 : List RegRow := [
  ⟨0x254, 2, 8, 1, 0x0, [⟨0, 25, .ws, 0x0, some 2⟩]⟩,
  ⟨0x260, 1, 4, 1, 0x0, [⟨0, 1, .rw, 0x0, none⟩, ⟨1, 1, .rw, 0x0, none⟩, ⟨8, 8, .rw, 0x0, none⟩]⟩,
  ⟨0x264, 1, 4, 1, 0x0, [⟨0, 10, .rw, 0x64, none⟩, ⟨16, 10, .rw, 0x64, none⟩]⟩,
  ⟨0x268, 1, 4, 1, 0x0, [⟨0, 8, .ro, 0x0, none⟩, ⟨8, 8, .ro, 0x0, none⟩]⟩,
  ⟨0x280, 1, 4, 1, 0x0, [⟨0, 32, .rw, 0x0, none⟩]⟩,
  ⟨0x284, 1, 4, 1, 0x0, [⟨0, 32, .rw, 0x0, none⟩]⟩,
  ⟨0x2C0, 1, 4, 1, 0x0, [⟨0, 1, .ws, 0x0, none⟩, ⟨1, 1, .ws, 0x0, none⟩, ⟨2, 1, .ws, 0x0, none⟩, ⟨4, 2, .ws, 0x0, none⟩, ⟨8, 2, .ws, 0x0, none⟩]⟩,
  ⟨0x300, 1, 4, 1, 0x0, [⟨0, 1, .ws, 0x0, none⟩, ⟨1, 1, .ws, 0x0, none⟩, ⟨2, 1, .ws, 0x0, none⟩, ⟨3, 1, .ws, 0x0, none⟩, ⟨4, 1, .ws, 0x0, none⟩, ⟨5, 1, .ws, 0x0, none⟩, ⟨6, 1, .ws, 0x0, none⟩]⟩,
  ⟨0x304, 1, 4, 1, 0x0, [⟨0, 32, .ws, 0x0, none⟩]⟩,
  ⟨0x308, 1, 4, 1, 0x0, [⟨0, 32, .ws, 0x0, none⟩]⟩,
  ⟨0x2000, 16, 32, 1, 0x0, [⟨0, 32, .ws, 0x0, none⟩]⟩,
  ⟨0x2004, 16, 32, 1, 0x0, [⟨0, 32, .ws, 0x0, none⟩]⟩]
/-- Registers of the LNK block, part 3. -/
def Rows.LNK_3 : List RegRow := [
  ⟨0x2008, 16, 32, 1, 0x0, [⟨0, 1, .ws, 0x0, none⟩, ⟨1, 2, .ws, 0x2, none⟩]⟩,
  ⟨0x200C, 16, 32, 1, 0x0, [⟨0, 32, .ws, 0x0, none⟩]⟩,
  ⟨0x2400, 64, 16, 1, 0x0, [⟨0, 8, .ws, 0x0, none⟩, ⟨31, 1, .ws, 0x0, none⟩]⟩,
  ⟨0x2404, 64, 16, 1, 0x0, [⟨0, 32, .rw, 0x1, none⟩]⟩,
  ⟨0x3000, 256, 4, 1, 0x0, [⟨0, 8, .ro, 0xFF, none⟩, ⟨8, 24, .ro, 0x0, none⟩]⟩]
/-- Registers of the LNK block. -/
def Rows.LNK : List RegRow := Rows.LNK_0 ++ Rows.LNK_1 ++ Rows.LNK_2 ++ Rows.LNK_3
/-- Registers of the SWC block, part 0. -/
def Rows.SWC_0 : List RegRow := [
  ⟨0x8000, 8, 32, 1, 0x0, [⟨6, 14, .rw, 0x0, none⟩]⟩,
  ⟨0x8004, 8, 32, 1, 0x0, [⟨0, 1, .rw, 0x0, none⟩, ⟨1, 1, .rw, 0x0, none⟩, ⟨2, 3, .rw, 0x1, none⟩, ⟨5, 2, .rw, 0x0, none⟩, ⟨8, 8, .ro, 0x0, none⟩]⟩,
  ⟨0x8008, 8, 32, 1, 0x0, [⟨0, 16, .wo, 0x0, none⟩]⟩,
  ⟨0x800C, 8, 32, 1, 0x0, [⟨0, 16, .ro, 0x0, none⟩]⟩,
  ⟨0x8010, 8, 32, 1, 0x0, [⟨0, 32, .ro, 0x0, none⟩]⟩,
  ⟨0x8100, 16, 8, 1, 0x0, [⟨0, 2, .rw, 0x0, none⟩, ⟨4, 3, .rw, 0x0, none⟩, ⟨7, 1, .rw, 0x0, none⟩, ⟨16, 16, .rw, 0x0, none⟩]⟩,
  ⟨0x8104, 16, 8, 1, 0x0, [⟨0, 24, .rw, 0x0, none⟩]⟩,
  ⟨0x8200, 4, 16, 1, 0x0, [⟨5, 15, .rw, 0x0, none⟩, ⟨24, 4, .rw, 0x2, none⟩, ⟨31, 1, .rw, 0x0, none⟩]⟩,
  ⟨0x8204, 4, 16, 1, 0x0, [⟨0, 16, .wo, 0x0, none⟩]⟩,
  ⟨0x8208, 4, 16, 1, 0x0, [⟨0, 16, .ro, 0x0, none⟩]⟩,
  ⟨0x0, 1, 4, 1, 0x0, [⟨0, 16, .rw, 0x12C, none⟩]⟩,
  ⟨0x4, 1, 4, 1, 0x0, [⟨0, 17, .ro, 0x10000, none⟩]⟩]
/-- Registers of the SWC block, part 1. -/
def Rows.SWC_1 : List RegRow := [
  ⟨0x8, 1, 4, 1, 0x0, [⟨0, 16, .rcl, 0x0, none⟩]⟩,
  ⟨0x10, 1, 4, 1, 0x0, [⟨0, 32, .rw, 0x0, none⟩]⟩,
  ⟨0x14, 1, 4, 1, 0x0, [⟨0, 16, .rw, 0x0, none⟩, ⟨16, 12, .rw, 0x0, none⟩]⟩,
  ⟨0x18, 1, 4, 1, 0x0, [⟨0, 32, .rw, 0x0, none⟩]⟩,
  ⟨0x1C, 1, 4, 1, 0x0, [⟨0, 4, .rw, 0x0, none⟩, ⟨8, 1, .rw, 0x0, none⟩, ⟨9, 1, .rw, 0x0, none⟩]⟩,
  ⟨0x20, 1, 4, 1, 0x0, [⟨0, 3, .wo, 0x0, none⟩, ⟨8, 8, .ro, 0x0, none⟩, ⟨16, 12, .rw, 0x0, none⟩, ⟨31, 1, .ro, 0x0, none⟩]⟩,
  ⟨0x40, 8, 8, 1, 0x0, [⟨0, 17, .rw, 0x1000, none⟩]⟩,
  ⟨0x44, 8, 8, 1, 0x0, [⟨0, 17, .rw, 0x10000, none⟩]⟩,
  ⟨0x80, 8, 4, 1, 0x0, [⟨0, 17, .rw, 0x1000, none⟩]⟩,
  ⟨0xA0, 8, 4, 1, 0x0, [⟨0, 17, .ro, 0x0, none⟩]⟩,
  ⟨0x100, 36, 32, 1, 0x0, [⟨0, 1, .rw, 0x0, none⟩, ⟨1, 1, .rw, 0x0, none⟩, ⟨2, 1, .rw, 0x0, none⟩]⟩,
  ⟨0x104, 36, 32, 1, 0x0, [⟨0, 32, .rw, 0x0, none⟩]⟩]
/-- Registers of the SWC block, part 2. -/
def Rows.SWC_2 : List RegRow := [
  ⟨0x108, 36, 32, 1, 0x0, [⟨0, 4, .rw, 0x0, none⟩]⟩,
  ⟨0x10C, 36, 32, 1, 0x0, [⟨0, 8, .rcl, 0x0, none⟩]⟩,
  ⟨0x1000, 8, 8, 36, 0x40, [⟨0, 25, .rw, 0x0, none⟩, ⟨31, 1, .rw, 0x0, none⟩]⟩,
  ⟨0x1004, 8, 8, 36, 0x40, [⟨0, 24, .rw, 0x2800, none⟩]⟩]
/-- Registers of the SWC block. -/
def Rows.SWC : List RegRow := Rows.SWC_0 ++ Rows.SWC_1 ++ Rows.SWC_2
/-- Registers of the PWR block, part 0. -/
def Rows.PWR_0 : List RegRow := [
  ⟨0x400, 1, 4, 1, 0x0, [⟨0, 1, .wp, 0x0, none⟩, ⟨1, 1, .wp, 0x0, none⟩, ⟨2, 1, .wp, 0x0, none⟩, ⟨4, 4, .wp, 0x0, none⟩]⟩,
  ⟨0x404, 1, 4, 1, 0x0, [⟨0, 6, .rcl, 0x0, none⟩]⟩,
  ⟨0x460, 4, 36, 1, 0x0, [⟨0, 32, .wp, 0x0, none⟩]⟩,
  ⟨0x0, 1, 4, 1, 0x0, [⟨0, 3, .wp, 0x0, none⟩, ⟨31, 1, .ro, 0x0, none⟩]⟩,
  ⟨0x4, 1, 4, 1, 0x0, [⟨0, 3, .wp, 0x0, none⟩]⟩,
  ⟨0x8, 1, 4, 1, 0x0, [⟨0, 3, .ro, 0x0, none⟩, ⟨3, 1, .ro, 0x0, none⟩, ⟨8, 8, .ro, 0x0, none⟩, ⟨16, 12, .ro, 0xFFF, none⟩]⟩,
  ⟨0xC, 1, 4, 1, 0x0, [⟨0, 4, .wp, 0x0, none⟩, ⟨4, 6, .wp, 0x0, none⟩, ⟨10, 8, .wp, 0x0, none⟩]⟩,
  ⟨0x10, 1, 4, 1, 0x0, [⟨0, 18, .ro, 0x0, none⟩, ⟨18, 6, .ro, 0x3F, none⟩, ⟨24, 8, .ro, 0x0, none⟩]⟩,
  ⟨0x14, 1, 4, 1, 0x0, [⟨8, 8, .ro, 0x0, none⟩, ⟨16, 12, .ro, 0xFFF, none⟩]⟩,
  ⟨0x18, 1, 4, 1, 0x0, [⟨0, 32, .wp, 0x0, none⟩]⟩,
  ⟨0x1C, 1, 4, 1, 0x0, [⟨0, 9, .wp, 0x100, none⟩]⟩,
  ⟨0x20, 1, 4, 1, 0x0, [⟨0, 1, .wp, 0x0, none⟩, ⟨1, 1, .wp, 0x0, none⟩, ⟨2, 1, .wp, 0x0, none⟩, ⟨3, 1, .wp, 0x0, none⟩, ⟨4, 1, .wp, 0x0, none⟩, ⟨5, 1, .wp, 0x0, none⟩]⟩]
/-- Registers of the PWR block, part 1. -/
def Rows.PWR_1 : List RegRow := [
  ⟨0x24, 1, 4, 1, 0x0, [⟨0, 32, .wp, 0x0, none⟩]⟩,
  ⟨0x28, 1, 4, 1, 0x0, [⟨0, 6, .ro, 0x0, none⟩]⟩,
  ⟨0x2C, 1, 4, 1, 0x0, [⟨0, 1, .wo, 0x0, none⟩]⟩,
  ⟨0x30, 1, 4, 1, 0x0, [⟨0, 3, .rcl, 0x0, none⟩]⟩,
  ⟨0x440, 8, 4, 4, 0x24, [⟨0, 32, .wp, 0x0, none⟩]⟩]
/-- Registers of the PWR block. -/
def Rows.PWR : List RegRow := Rows.PWR_0 ++ Rows.PWR_1
/-- Registers of the RING block, part 0. -/
def Rows.RING_0 : List RegRow := [
  ⟨0x0, 1, 4, 1, 0x0, [⟨0, 2, .ws, 0x0, some 0⟩, ⟨4, 4, .ws, 0x0, some 0⟩, ⟨16, 16, .ws, 0x0, some 0⟩]⟩,
  ⟨0x4, 1, 4, 1, 0x0, [⟨0, 5, .ws, 0x1F, some 0⟩, ⟨8, 5, .ws, 0x1F, some 0⟩]⟩,
  ⟨0x8, 1, 4, 1, 0x0, [⟨0, 32, .ws, 0x0, some 0⟩]⟩,
  ⟨0xC, 1, 4, 1, 0x0, [⟨0, 16, .ws, 0x0, some 0⟩]⟩,
  ⟨0x10, 1, 4, 1, 0x0, [⟨0, 20, .ws, 0x0, some 0⟩]⟩,
  ⟨0x14, 1, 4, 1, 0x0, [⟨0, 14, .ws, 0x7D0, some 0⟩]⟩,
  ⟨0x18, 1, 4, 1, 0x0, [⟨0, 8, .rw, 0xA, none⟩]⟩,
  ⟨0x1C, 1, 4, 1, 0x0, [⟨0, 1, .wo, 0x0, none⟩, ⟨1, 1, .ro, 0x0, none⟩, ⟨8, 8, .ro, 0x0, none⟩]⟩,
  ⟨0x20, 1, 4, 1, 0x0, [⟨0, 2, .ro, 0x0, none⟩, ⟨2, 1, .ro, 0x0, none⟩, ⟨3, 1, .ro, 0x0, none⟩, ⟨4, 1, .ro, 0x0, none⟩, ⟨5, 1, .ro, 0x0, none⟩, ⟨8, 7, .ro, 0x0, none⟩, ⟨16, 6, .ro, 0x0, none⟩, ⟨22, 2, .ro, 0x0, none⟩, ⟨24, 8, .ro, 0x0, none⟩]⟩,
  ⟨0x24, 1, 4, 1, 0x0, [⟨0, 1, .rcl, 0x0, none⟩, ⟨1, 1, .rcl, 0x0, none⟩, ⟨2, 1, .rcl, 0x0, none⟩, ⟨3, 1, .rcl, 0x0, none⟩, ⟨4, 1, .rcl, 0x0, none⟩, ⟨5, 1, .rcl, 0x0, none⟩, ⟨6, 1, .rcl, 0x0, none⟩, ⟨7, 1, .rcl, 0x0, none⟩]⟩,
  ⟨0x28, 1, 4, 1, 0x0, [⟨0, 20, .ro, 0x0, none⟩]⟩,
  ⟨0x2C, 1, 4, 1, 0x0, [⟨0, 20, .ro, 0x0, none⟩]⟩]
/-- Registers of the RING block, part 1. -/
def Rows.RING_1 : List RegRow := [
  ⟨0x30, 1, 4, 1, 0x0, [⟨0, 20, .ro, 0x0, none⟩]⟩,
  ⟨0x34, 1, 4, 1, 0x0, [⟨0, 20, .ro, 0x0, none⟩]⟩,
  ⟨0x38, 1, 4, 1, 0x0, [⟨0, 32, .ro, 0x0, none⟩]⟩,
  ⟨0x3C, 1, 4, 1, 0x0, [⟨0, 32, .ro, 0x0, none⟩]⟩]
/-- Registers of the RING block. -/
def Rows.RING : List RegRow := Rows.RING_0 ++ Rows.RING_1
/-- Registers of the STRM block. -/
def Rows.STRM : List RegRow := [
  ⟨0x0, 1, 4, 1, 0x0, [⟨0, 8, .ws, 0x80, some 0⟩, ⟨8, 8, .ws, 0x80, some 0⟩]⟩,
  ⟨0x4, 1, 4, 1, 0x0, [⟨0, 8, .ro, 0x0, none⟩, ⟨8, 8, .ro, 0x0, none⟩, ⟨16, 8, .ro, 0x0, none⟩]⟩,
  ⟨0x8, 1, 4, 1, 0x0, [⟨0, 16, .ro, 0x8000, none⟩]⟩,
  ⟨0xC, 1, 4, 1, 0x0, [⟨0, 1, .wo, 0x0, none⟩, ⟨1, 1, .ro, 0x0, none⟩, ⟨8, 8, .ro, 0x0, none⟩]⟩]
/-- Registers of the FLOW block, part 0. -/
def Rows.FLOW_0 : List RegRow := [
  ⟨0x0, 1, 4, 1, 0x0, [⟨0, 1, .ws, 0x0, some 0⟩, ⟨1, 3, .ws, 0x0, some 0⟩, ⟨4, 2, .ws, 0x1, some 0⟩, ⟨6, 3, .ws, 0x1, some 0⟩, ⟨9, 3, .ws, 0x0, some 0⟩, ⟨12, 1, .ws, 0x0, some 0⟩, ⟨13, 3, .ws, 0x5, some 0⟩, ⟨16, 8, .ws, 0x6, some 0⟩]⟩,
  ⟨0x4, 1, 4, 1, 0x0, [⟨0, 8, .ws, 0x8, some 0⟩]⟩,
  ⟨0x8, 1, 4, 1, 0x0, [⟨0, 17, .ws, 0x0, some 0⟩]⟩,
  ⟨0xC, 1, 4, 1, 0x0, [⟨0, 27, .ws, 0xF4240, some 0⟩]⟩,
  ⟨0x10, 1, 4, 1, 0x0, [⟨0, 4, .ws, 0x7, some 0⟩, ⟨8, 8, .ws, 0x30, some 0⟩]⟩,
  ⟨0x14, 1, 4, 1, 0x0, [⟨0, 6, .ws, 0x3F, some 0⟩, ⟨8, 6, .ws, 0x3F, some 0⟩]⟩,
  ⟨0x18, 1, 4, 1, 0x0, [⟨0, 16, .ws, 0x138C, some 0⟩, ⟨16, 16, .ws, 0x138C, some 0⟩]⟩,
  ⟨0x1C, 1, 4, 1, 0x0, [⟨0, 6, .ws, 0x22, some 0⟩, ⟨8, 8, .ws, 0x40, some 0⟩, ⟨16, 1, .ws, 0x0, some 0⟩, ⟨17, 1, .ws, 0x0, some 0⟩, ⟨18, 1, .ws, 0x0, some 0⟩, ⟨19, 1, .ws, 0x0, some 0⟩]⟩,
  ⟨0x20, 1, 4, 1, 0x0, [⟨0, 7, .ws, 0x60, some 0⟩]⟩,
  ⟨0x24, 1, 4, 1, 0x0, [⟨0, 32, .ws, 0x0, some 0⟩]⟩,
  ⟨0x28, 1, 4, 1, 0x0, [⟨0, 32, .ws, 0x0, some 0⟩]⟩,
  ⟨0x2C, 1, 4, 1, 0x0, [⟨0, 12, .ws, 0x0, some 0⟩, ⟨12, 3, .ws, 0x5, some 0⟩, ⟨15, 1, .ws, 0x0, some 0⟩]⟩]
/-- Registers of the FLOW block, part 1. -/
def Rows.FLOW_1 : List RegRow := [
  ⟨0x30, 4, 4, 1, 0x0, [⟨0, 32, .ws, 0x0, some 0⟩]⟩,
  ⟨0x40, 4, 4, 1, 0x0, [⟨0, 32, .ws, 0x0, some 0⟩]⟩,
  ⟨0x50, 4, 4, 1, 0x0, [⟨0, 32, .ws, 0x0, some 0⟩]⟩,
  ⟨0x60, 1, 4, 1, 0x0, [⟨0, 32, .ws, 0x0, some 0⟩]⟩,
  ⟨0x64, 1, 4, 1, 0x0, [⟨0, 16, .ws, 0x0, some 0⟩]⟩,
  ⟨0x68, 1, 4, 1, 0x0, [⟨0, 32, .ws, 0x0, some 0⟩]⟩,
  ⟨0x6C, 1, 4, 1, 0x0, [⟨0, 16, .ws, 0x0, some 0⟩]⟩,
  ⟨0x70, 1, 4, 1, 0x0, [⟨0, 16, .ro, 0x0, none⟩, ⟨16, 1, .ro, 0x0, none⟩, ⟨17, 1, .ro, 0x0, none⟩]⟩,
  ⟨0x74, 1, 4, 1, 0x0, [⟨0, 1, .rcl, 0x0, none⟩, ⟨1, 1, .rcl, 0x0, none⟩, ⟨2, 1, .rcl, 0x0, none⟩, ⟨3, 1, .rcl, 0x0, none⟩, ⟨4, 1, .rcl, 0x0, none⟩, ⟨5, 1, .rcl, 0x0, none⟩, ⟨6, 1, .rcl, 0x0, none⟩, ⟨7, 1, .rcl, 0x0, none⟩, ⟨8, 1, .rcl, 0x0, none⟩]⟩,
  ⟨0x78, 1, 4, 1, 0x0, [⟨0, 32, .ro, 0x0, none⟩]⟩,
  ⟨0x7C, 1, 4, 1, 0x0, [⟨0, 32, .ro, 0x0, none⟩]⟩]
/-- Registers of the FLOW block. -/
def Rows.FLOW : List RegRow := Rows.FLOW_0 ++ Rows.FLOW_1
/-- Registers of the TIME block, part 0. -/
def Rows.TIME_0 : List RegRow := [
  ⟨0x0, 1, 4, 1, 0x0, [⟨0, 30, .ro, 0x0, none⟩]⟩,
  ⟨0x4, 1, 4, 1, 0x0, [⟨0, 32, .ro, 0x0, none⟩]⟩,
  ⟨0x8, 1, 4, 1, 0x0, [⟨0, 16, .ro, 0x0, none⟩, ⟨16, 16, .ro, 0x0, none⟩]⟩,
  ⟨0x10, 1, 4, 1, 0x0, [⟨0, 32, .rw, 0x0, none⟩]⟩,
  ⟨0x14, 1, 4, 1, 0x0, [⟨0, 30, .rw, 0x0, none⟩]⟩,
  ⟨0x18, 1, 4, 1, 0x0, [⟨0, 32, .rw, 0x0, none⟩]⟩,
  ⟨0x1C, 1, 4, 1, 0x0, [⟨0, 16, .rw, 0x0, none⟩]⟩,
  ⟨0x20, 1, 4, 1, 0x0, [⟨0, 32, .rw, 0x0, none⟩]⟩,
  ⟨0x24, 1, 4, 1, 0x0, [⟨0, 32, .rw, 0x0, none⟩]⟩,
  ⟨0x28, 1, 4, 1, 0x0, [⟨0, 2, .wo, 0x0, none⟩, ⟨4, 1, .ro, 0x0, none⟩, ⟨8, 8, .ro, 0x0, none⟩]⟩,
  ⟨0x30, 1, 4, 1, 0x0, [⟨0, 1, .rw, 0x0, none⟩, ⟨1, 2, .rw, 0x0, none⟩, ⟨4, 4, .rw, 0x0, none⟩, ⟨8, 1, .rw, 0x0, none⟩]⟩,
  ⟨0x34, 1, 4, 1, 0x0, [⟨0, 16, .rw, 0x898, none⟩, ⟨16, 16, .rw, 0x89, none⟩]⟩]
/-- Registers of the TIME block, part 1. -/
def Rows.TIME_1 : List RegRow := [
  ⟨0x38, 1, 4, 1, 0x0, [⟨0, 16, .rw, 0x3E8, none⟩, ⟨16, 8, .rw, 0x8, none⟩]⟩,
  ⟨0x3C, 1, 4, 1, 0x0, [⟨0, 16, .rw, 0x3E8, none⟩, ⟨16, 16, .rw, 0xBB8, none⟩]⟩,
  ⟨0x40, 1, 4, 1, 0x0, [⟨0, 32, .wo, 0x0, none⟩]⟩,
  ⟨0x44, 1, 4, 1, 0x0, [⟨0, 32, .ro, 0x0, none⟩]⟩,
  ⟨0x48, 1, 4, 1, 0x0, [⟨0, 1, .ro, 0x0, none⟩, ⟨1, 1, .ro, 0x0, none⟩]⟩,
  ⟨0x4C, 1, 4, 1, 0x0, [⟨0, 5, .rcl, 0x0, none⟩]⟩,
  ⟨0x50, 1, 4, 1, 0x0, [⟨0, 1, .rw, 0x0, none⟩, ⟨1, 1, .rw, 0x0, none⟩, ⟨2, 1, .rw, 0x0, none⟩, ⟨8, 10, .rw, 0x64, none⟩]⟩,
  ⟨0x54, 1, 4, 1, 0x0, [⟨0, 32, .rw, 0x0, none⟩]⟩,
  ⟨0x58, 1, 4, 1, 0x0, [⟨0, 32, .rw, 0x0, none⟩]⟩,
  ⟨0x5C, 1, 4, 1, 0x0, [⟨0, 16, .rcl, 0x0, none⟩]⟩,
  ⟨0x60, 1, 4, 1, 0x0, [⟨0, 30, .ro, 0x0, none⟩]⟩,
  ⟨0x64, 1, 4, 1, 0x0, [⟨0, 32, .ro, 0x0, none⟩]⟩]
/-- Registers of the TIME block, part 2. -/
def Rows.TIME_2 : List RegRow := [
  ⟨0x68, 1, 4, 1, 0x0, [⟨0, 16, .ro, 0x0, none⟩, ⟨16, 16, .ro, 0x0, none⟩]⟩,
  ⟨0x400, 24, 16, 1, 0x0, [⟨0, 10, .rw, 0x1, none⟩, ⟨16, 16, .rw, 0x3E8, none⟩]⟩,
  ⟨0x404, 24, 16, 1, 0x0, [⟨0, 32, .ro, 0x0, none⟩]⟩,
  ⟨0x408, 24, 16, 1, 0x0, [⟨0, 3, .ro, 0x7, none⟩, ⟨3, 1, .ro, 0x0, none⟩, ⟨4, 1, .rcl, 0x0, none⟩]⟩]
/-- Registers of the TIME block. -/
def Rows.TIME : List RegRow := Rows.TIME_0 ++ Rows.TIME_1 ++ Rows.TIME_2
/-- Registers of the MCS block, part 0. -/
def Rows.MCS_0 : List RegRow := [
  ⟨0x0, 1, 4, 1, 0x0, [⟨0, 3, .ws, 0x0, some 0⟩, ⟨4, 12, .ws, 0x0, some 0⟩, ⟨16, 2, .ws, 0x0, some 0⟩, ⟨18, 2, .ws, 0x1, some 0⟩, ⟨20, 12, .ws, 0x1, some 0⟩]⟩,
  ⟨0x4, 1, 4, 1, 0x0, [⟨0, 3, .ws, 0x1, some 0⟩, ⟨4, 3, .ws, 0x3, some 0⟩, ⟨8, 2, .ws, 0x0, some 0⟩]⟩,
  ⟨0x8, 1, 4, 1, 0x0, [⟨0, 10, .ws, 0x64, some 0⟩, ⟨16, 8, .ws, 0xA, some 0⟩, ⟨24, 8, .ws, 0x32, some 0⟩]⟩,
  ⟨0xC, 1, 4, 1, 0x0, [⟨0, 16, .ws, 0x3E8, some 0⟩]⟩,
  ⟨0x10, 1, 4, 1, 0x0, [⟨0, 1, .ws, 0x1, some 0⟩]⟩,
  ⟨0x14, 1, 4, 1, 0x0, [⟨0, 32, .ws, 0x0, some 0⟩]⟩,
  ⟨0x20, 1, 4, 1, 0x0, [⟨0, 6, .ws, 0x0, some 1⟩]⟩,
  ⟨0x24, 1, 4, 1, 0x0, [⟨0, 8, .ws, 0x62, some 1⟩]⟩,
  ⟨0x28, 1, 4, 1, 0x0, [⟨0, 24, .ws, 0x4DD2F2, some 1⟩]⟩,
  ⟨0x2C, 1, 4, 1, 0x0, [⟨0, 8, .ws, 0xC8, some 1⟩, ⟨8, 2, .ws, 0x1, some 1⟩]⟩,
  ⟨0x30, 1, 4, 1, 0x0, [⟨0, 1, .wo, 0x0, none⟩, ⟨1, 1, .ro, 0x0, none⟩, ⟨8, 8, .ro, 0x0, none⟩]⟩,
  ⟨0x40, 1, 4, 1, 0x0, [⟨0, 1, .ro, 0x0, none⟩, ⟨1, 1, .ro, 0x0, none⟩, ⟨2, 1, .ro, 0x0, none⟩, ⟨3, 1, .ro, 0x0, none⟩, ⟨16, 16, .ro, 0x0, none⟩]⟩]
/-- Registers of the MCS block, part 1. -/
def Rows.MCS_1 : List RegRow := [
  ⟨0x44, 1, 4, 1, 0x0, [⟨0, 32, .ro, 0x0, none⟩]⟩,
  ⟨0x48, 1, 4, 1, 0x0, [⟨0, 6, .rcl, 0x0, none⟩]⟩,
  ⟨0x4C, 1, 4, 1, 0x0, [⟨0, 32, .ro, 0x0, none⟩]⟩,
  ⟨0x50, 1, 4, 1, 0x0, [⟨0, 32, .ro, 0x0, none⟩]⟩,
  ⟨0x54, 1, 4, 1, 0x0, [⟨0, 32, .ro, 0x0, none⟩]⟩,
  ⟨0x58, 1, 4, 1, 0x0, [⟨0, 32, .ro, 0x0, none⟩]⟩,
  ⟨0x60, 1, 4, 1, 0x0, [⟨0, 6, .wp, 0x0, none⟩, ⟨8, 1, .wp, 0x0, none⟩, ⟨16, 8, .ro, 0x0, none⟩, ⟨30, 1, .ro, 0x0, none⟩, ⟨31, 1, .ro, 0x0, none⟩]⟩,
  ⟨0x64, 1, 4, 1, 0x0, [⟨0, 22, .ro, 0x0, none⟩]⟩,
  ⟨0x68, 1, 4, 1, 0x0, [⟨0, 22, .ro, 0x0, none⟩]⟩,
  ⟨0x100, 64, 8, 1, 0x0, [⟨0, 22, .wp, 0x0, none⟩, ⟨31, 1, .wp, 0x0, none⟩]⟩,
  ⟨0x104, 64, 8, 1, 0x0, [⟨0, 22, .wp, 0x0, none⟩]⟩]
/-- Registers of the MCS block. -/
def Rows.MCS : List RegRow := Rows.MCS_0 ++ Rows.MCS_1
/-- Registers of the APG block. -/
def Rows.APG : List RegRow := [
  ⟨0x0, 1, 4, 1, 0x0, [⟨0, 2, .ws, 0x0, some 0⟩, ⟨2, 3, .ws, 0x1, some 0⟩, ⟨6, 2, .ws, 0x2, some 0⟩, ⟨8, 1, .ws, 0x1, some 0⟩, ⟨9, 1, .ws, 0x0, some 0⟩, ⟨10, 1, .ws, 0x0, some 0⟩, ⟨12, 3, .ws, 0x0, some 0⟩, ⟨15, 1, .ws, 0x0, some 0⟩, ⟨16, 3, .ws, 0x3, some 0⟩]⟩,
  ⟨0x4, 1, 4, 1, 0x0, [⟨0, 25, .ws, 0x1E8480, some 0⟩]⟩,
  ⟨0x8, 1, 4, 1, 0x0, [⟨0, 32, .rw, 0x0, none⟩]⟩,
  ⟨0xC, 1, 4, 1, 0x0, [⟨0, 1, .wo, 0x0, none⟩, ⟨1, 1, .ro, 0x0, none⟩, ⟨8, 8, .ro, 0x0, none⟩]⟩,
  ⟨0x10, 1, 4, 1, 0x0, [⟨0, 16, .ro, 0x0, none⟩, ⟨16, 1, .ro, 0x0, none⟩]⟩,
  ⟨0x14, 1, 4, 1, 0x0, [⟨0, 16, .ro, 0x0, none⟩, ⟨16, 16, .ro, 0x0, none⟩]⟩,
  ⟨0x18, 1, 4, 1, 0x0, [⟨0, 6, .rcl, 0x0, none⟩]⟩,
  ⟨0x20, 1, 4, 1, 0x0, [⟨0, 32, .ro, 0x0, none⟩]⟩,
  ⟨0x24, 1, 4, 1, 0x0, [⟨0, 32, .ro, 0x0, none⟩]⟩,
  ⟨0x28, 1, 4, 1, 0x0, [⟨0, 32, .ro, 0x0, none⟩]⟩]
/-- Registers of the AP block. -/
def Rows.AP : List RegRow := [
  ⟨0x0, 1, 4, 1, 0x0, [⟨0, 2, .ws, 0x0, some 0⟩, ⟨8, 6, .ws, 0x2, some 0⟩, ⟨16, 1, .ws, 0x0, some 0⟩]⟩,
  ⟨0x4, 1, 4, 1, 0x0, [⟨0, 2, .ws, 0x0, some 0⟩, ⟨8, 6, .ws, 0x2, some 0⟩, ⟨16, 1, .ws, 0x0, some 0⟩]⟩,
  ⟨0x8, 1, 4, 1, 0x0, [⟨0, 32, .ws, 0xFFFFFFFF, some 0⟩]⟩,
  ⟨0xC, 1, 4, 1, 0x0, [⟨0, 32, .ws, 0xFFFFFFFF, some 0⟩]⟩,
  ⟨0x10, 1, 4, 1, 0x0, [⟨0, 1, .ws, 0x1, some 0⟩, ⟨1, 1, .ws, 0x0, some 0⟩, ⟨8, 4, .ws, 0xD, some 0⟩]⟩,
  ⟨0x1C, 1, 4, 1, 0x0, [⟨0, 1, .wo, 0x0, none⟩, ⟨1, 1, .ro, 0x0, none⟩, ⟨8, 8, .ro, 0x0, none⟩]⟩,
  ⟨0x20, 1, 4, 1, 0x0, [⟨0, 16, .ro, 0x0, none⟩, ⟨16, 16, .ro, 0x0, none⟩]⟩,
  ⟨0x24, 1, 4, 1, 0x0, [⟨0, 3, .rcl, 0x0, none⟩]⟩]
/-- Registers of the DEC block. -/
def Rows.DEC : List RegRow := [
  ⟨0x0, 1, 4, 1, 0x0, [⟨0, 4, .ws, 0x0, some 0⟩, ⟨4, 1, .ws, 0x1, some 0⟩, ⟨5, 1, .ws, 0x1, some 0⟩]⟩,
  ⟨0xC, 1, 4, 1, 0x0, [⟨0, 1, .wo, 0x0, none⟩, ⟨1, 1, .ro, 0x0, none⟩, ⟨8, 8, .ro, 0x0, none⟩]⟩,
  ⟨0x10, 1, 4, 1, 0x0, [⟨0, 16, .ro, 0x0, none⟩]⟩,
  ⟨0x14, 1, 4, 1, 0x0, [⟨0, 3, .rcl, 0x0, none⟩]⟩]
/-- Registers of the BRG block. -/
def Rows.BRG : List RegRow := [
  ⟨0x0, 1, 4, 1, 0x0, [⟨0, 2, .ws, 0x1, some 0⟩]⟩,
  ⟨0xC, 1, 4, 1, 0x0, [⟨0, 1, .wo, 0x0, none⟩, ⟨1, 1, .ro, 0x0, none⟩, ⟨8, 8, .ro, 0x0, none⟩]⟩,
  ⟨0x10, 1, 4, 1, 0x0, [⟨0, 1, .ro, 0x0, none⟩, ⟨16, 9, .ro, 0x0, none⟩]⟩,
  ⟨0x14, 1, 4, 1, 0x0, [⟨0, 32, .ro, 0x0, none⟩]⟩,
  ⟨0x18, 1, 4, 1, 0x0, [⟨0, 32, .ro, 0x0, none⟩]⟩,
  ⟨0x1C, 1, 4, 1, 0x0, [⟨0, 4, .rcl, 0x0, none⟩]⟩]
/-- Registers of the PR block. -/
def Rows.PR : List RegRow := [
  ⟨0x0, 1, 4, 1, 0x0, [⟨0, 17, .ro, 0x0, none⟩]⟩,
  ⟨0x4, 1, 4, 1, 0x0, [⟨0, 16, .rcl, 0x0, none⟩]⟩,
  ⟨0x8, 1, 4, 1, 0x0, [⟨0, 1, .wo, 0x0, none⟩, ⟨1, 1, .ro, 0x0, none⟩, ⟨8, 8, .ro, 0x0, none⟩]⟩,
  ⟨0x100, 64, 32, 1, 0x0, [⟨0, 16, .ws, 0x0, some 0⟩]⟩,
  ⟨0x104, 64, 32, 1, 0x0, [⟨0, 17, .ws, 0x0, some 0⟩, ⟨20, 3, .ws, 0x0, some 0⟩]⟩,
  ⟨0x108, 64, 32, 1, 0x0, [⟨0, 1, .wo, 0x0, none⟩, ⟨1, 1, .wo, 0x0, none⟩, ⟨2, 1, .ro, 0x0, none⟩, ⟨3, 1, .ro, 0x0, none⟩, ⟨4, 1, .ro, 0x0, none⟩, ⟨8, 8, .ro, 0x0, none⟩]⟩,
  ⟨0x10C, 64, 32, 1, 0x0, [⟨0, 3, .rcl, 0x0, none⟩]⟩,
  ⟨0x110, 64, 32, 1, 0x0, [⟨0, 16, .rw, 0x0, none⟩]⟩,
  ⟨0x114, 64, 32, 1, 0x0, [⟨0, 32, .rw, 0x0, none⟩]⟩,
  ⟨0x1000, 256, 8, 1, 0x0, [⟨0, 32, .ws, 0x0, none⟩]⟩,
  ⟨0x1004, 256, 8, 1, 0x0, [⟨0, 10, .ws, 0x14, none⟩]⟩]
/-- Registers of the MTR block. -/
def Rows.MTR : List RegRow := [
  ⟨0x0, 1, 4, 1, 0x0, [⟨0, 15, .ro, 0x0, none⟩, ⟨16, 9, .ro, 0x0, none⟩]⟩,
  ⟨0x4, 1, 4, 1, 0x0, [⟨0, 16, .rcl, 0x0, none⟩]⟩,
  ⟨0xC, 1, 4, 1, 0x0, [⟨0, 1, .wo, 0x0, none⟩, ⟨1, 1, .ro, 0x0, none⟩, ⟨8, 8, .ro, 0x0, none⟩]⟩,
  ⟨0x100, 64, 16, 1, 0x0, [⟨0, 17, .ws, 0x0, some 0⟩]⟩,
  ⟨0x104, 64, 16, 1, 0x0, [⟨0, 14, .ws, 0x0, some 0⟩, ⟨16, 15, .ws, 0x0, some 0⟩]⟩,
  ⟨0x108, 64, 16, 1, 0x0, [⟨0, 3, .ws, 0x0, some 0⟩, ⟨4, 3, .ws, 0x3, some 0⟩, ⟨31, 1, .ws, 0x0, some 0⟩]⟩,
  ⟨0x800, 256, 16, 1, 0x0, [⟨0, 17, .ws, 0x0, some 0⟩, ⟨20, 4, .ws, 0x0, some 0⟩, ⟨24, 3, .ws, 0x0, some 0⟩, ⟨31, 1, .ws, 0x0, some 0⟩]⟩,
  ⟨0x804, 256, 16, 1, 0x0, [⟨0, 16, .ws, 0x0, some 0⟩]⟩,
  ⟨0x808, 256, 16, 1, 0x0, [⟨0, 1, .wo, 0x0, none⟩]⟩,
  ⟨0x2000, 2048, 4, 1, 0x0, [⟨0, 10, .rw, 0x14, none⟩, ⟨31, 1, .wo, 0x0, none⟩]⟩]
/-- Registers of the CLK block. -/
def Rows.CLK : List RegRow := [
  ⟨0x0, 1, 4, 1, 0x0, [⟨0, 2, .wp, 0x1, none⟩, ⟨31, 1, .ro, 0x0, none⟩]⟩,
  ⟨0x4, 1, 4, 1, 0x0, [⟨0, 2, .ro, 0x1, none⟩, ⟨2, 1, .ro, 0x0, none⟩, ⟨8, 8, .ro, 0x0, none⟩, ⟨16, 12, .ro, 0x0, none⟩]⟩,
  ⟨0x8, 1, 4, 1, 0x0, [⟨0, 7, .rw, 0x0, none⟩, ⟨8, 8, .rw, 0x0, none⟩, ⟨16, 1, .rw, 0x0, none⟩]⟩,
  ⟨0xC, 1, 4, 1, 0x0, [⟨0, 7, .rw, 0x0, none⟩, ⟨8, 8, .rw, 0x0, none⟩, ⟨16, 1, .rw, 0x0, none⟩]⟩,
  ⟨0x10, 4, 4, 1, 0x0, [⟨0, 16, .rw, 0x0, none⟩]⟩,
  ⟨0x20, 1, 4, 1, 0x0, [⟨0, 16, .rw, 0x0, none⟩]⟩,
  ⟨0x24, 1, 4, 1, 0x0, [⟨0, 16, .rw, 0x0, none⟩]⟩,
  ⟨0x28, 1, 4, 1, 0x0, [⟨0, 16, .rw, 0x0, none⟩]⟩]
/-- Registers of the ERR block, part 0. -/
def Rows.ERR_0 : List RegRow := [
  ⟨0x0, 1, 4, 1, 0x0, [⟨0, 16, .ro, 0x0, none⟩, ⟨16, 2, .ro, 0x0, none⟩, ⟨20, 4, .ro, 0x0, none⟩, ⟨31, 1, .ro, 0x0, none⟩]⟩,
  ⟨0x20, 1, 4, 1, 0x0, [⟨0, 16, .ro, 0x0, none⟩, ⟨16, 2, .ro, 0x0, none⟩, ⟨20, 4, .ro, 0x0, none⟩, ⟨31, 1, .ro, 0x0, none⟩]⟩,
  ⟨0x4, 1, 4, 1, 0x0, [⟨0, 12, .ro, 0x0, none⟩, ⟨16, 8, .ro, 0x0, none⟩]⟩,
  ⟨0x24, 1, 4, 1, 0x0, [⟨0, 12, .ro, 0x0, none⟩, ⟨16, 8, .ro, 0x0, none⟩]⟩,
  ⟨0x8, 1, 4, 1, 0x0, [⟨0, 32, .ro, 0x0, none⟩]⟩,
  ⟨0xC, 1, 4, 1, 0x0, [⟨0, 32, .ro, 0x0, none⟩]⟩,
  ⟨0x28, 1, 4, 1, 0x0, [⟨0, 32, .ro, 0x0, none⟩]⟩,
  ⟨0x2C, 1, 4, 1, 0x0, [⟨0, 32, .ro, 0x0, none⟩]⟩,
  ⟨0x10, 1, 4, 1, 0x0, [⟨0, 32, .ro, 0x0, none⟩]⟩,
  ⟨0x14, 1, 4, 1, 0x0, [⟨0, 32, .ro, 0x0, none⟩]⟩,
  ⟨0x30, 1, 4, 1, 0x0, [⟨0, 32, .ro, 0x0, none⟩]⟩,
  ⟨0x34, 1, 4, 1, 0x0, [⟨0, 32, .ro, 0x0, none⟩]⟩]
/-- Registers of the ERR block, part 1. -/
def Rows.ERR_1 : List RegRow := [
  ⟨0x40, 1, 4, 1, 0x0, [⟨0, 16, .ro, 0x0, none⟩, ⟨16, 2, .ro, 0x0, none⟩]⟩,
  ⟨0x44, 1, 4, 1, 0x0, [⟨0, 16, .wo, 0x0, none⟩]⟩,
  ⟨0x48, 1, 4, 1, 0x0, [⟨0, 1, .ro, 0x0, none⟩, ⟨1, 1, .rcl, 0x0, none⟩, ⟨4, 12, .ro, 0x0, none⟩, ⟨16, 16, .ro, 0x0, none⟩]⟩,
  ⟨0x4C, 1, 4, 1, 0x0, [⟨0, 4, .wo, 0x0, none⟩, ⟨8, 1, .wo, 0x0, none⟩, ⟨9, 1, .ro, 0x0, none⟩, ⟨16, 8, .ro, 0x0, none⟩]⟩,
  ⟨0x50, 1, 4, 1, 0x0, [⟨0, 8, .ro, 0x0, none⟩]⟩]
/-- Registers of the ERR block. -/
def Rows.ERR : List RegRow := Rows.ERR_0 ++ Rows.ERR_1
/-- Registers of the AUD block. -/
def Rows.AUD : List RegRow := [
  ⟨0x0, 1, 4, 1, 0x0, [⟨0, 6, .ro, 0x3F, none⟩, ⟨8, 1, .ro, 0x0, none⟩]⟩,
  ⟨0x4, 1, 4, 1, 0x0, [⟨0, 6, .rcl, 0x0, none⟩]⟩,
  ⟨0x8, 1, 4, 1, 0x0, [⟨0, 3, .ro, 0x0, none⟩, ⟨8, 20, .ro, 0x0, none⟩]⟩,
  ⟨0xC, 1, 4, 1, 0x0, [⟨0, 32, .ro, 0x0, none⟩]⟩,
  ⟨0x10, 1, 4, 1, 0x0, [⟨0, 32, .ro, 0x0, none⟩]⟩]
/-- Registers of the SEC block, part 0. -/
def Rows.SEC_0 : List RegRow := [
  ⟨0x0, 1, 4, 1, 0x0, [⟨0, 1, .ro, 0x0, none⟩, ⟨1, 1, .ro, 0x0, none⟩, ⟨2, 1, .ro, 0x0, none⟩, ⟨3, 1, .ro, 0x0, none⟩, ⟨4, 1, .ro, 0x0, none⟩, ⟨5, 1, .ro, 0x0, none⟩]⟩,
  ⟨0x4, 1, 4, 1, 0x0, [⟨0, 4, .rw, 0x0, none⟩]⟩,
  ⟨0x8, 1, 4, 1, 0x0, [⟨0, 1, .wo, 0x0, none⟩, ⟨16, 16, .wo, 0x0, none⟩]⟩,
  ⟨0x10, 1, 4, 1, 0x0, [⟨0, 8, .wo, 0x0, none⟩, ⟨8, 3, .wo, 0x0, none⟩, ⟨12, 4, .wo, 0x0, none⟩, ⟨16, 1, .ro, 0x0, none⟩, ⟨24, 8, .ro, 0x0, none⟩]⟩,
  ⟨0x20, 8, 4, 1, 0x0, [⟨0, 32, .wo, 0x0, none⟩]⟩,
  ⟨0x40, 16, 4, 1, 0x0, [⟨0, 32, .ro, 0x0, none⟩]⟩,
  ⟨0x80, 1, 4, 1, 0x0, [⟨3, 17, .rw, 0x0, none⟩]⟩,
  ⟨0x84, 1, 4, 1, 0x0, [⟨0, 32, .rw, 0x0, none⟩]⟩,
  ⟨0x88, 1, 4, 1, 0x0, [⟨0, 32, .rw, 0x0, none⟩]⟩,
  ⟨0x8C, 1, 4, 1, 0x0, [⟨0, 2, .wo, 0x0, none⟩, ⟨8, 1, .ro, 0x0, none⟩, ⟨16, 8, .ro, 0x0, none⟩]⟩,
  ⟨0x90, 1, 4, 1, 0x0, [⟨0, 16, .rw, 0x0, none⟩]⟩,
  ⟨0x94, 1, 4, 1, 0x0, [⟨0, 16, .rcl, 0x0, none⟩]⟩]
/-- Registers of the SEC block, part 1. -/
def Rows.SEC_1 : List RegRow := [
  ⟨0xA0, 8, 4, 1, 0x0, [⟨0, 32, .ro, 0x0, none⟩]⟩,
  ⟨0xC0, 8, 4, 1, 0x0, [⟨0, 32, .rw, 0x0, none⟩]⟩,
  ⟨0xE0, 1, 4, 1, 0x0, [⟨0, 1, .wo, 0x0, none⟩, ⟨16, 16, .wo, 0x0, none⟩]⟩]
/-- Registers of the SEC block. -/
def Rows.SEC : List RegRow := Rows.SEC_0 ++ Rows.SEC_1
/-- Registers of the FRG block, part 0. -/
def Rows.FRG_0 : List RegRow := [
  ⟨0x0, 1, 4, 1, 0x0, [⟨0, 2, .rw, 0x0, none⟩, ⟨2, 1, .rw, 0x0, none⟩, ⟨3, 1, .rw, 0x0, none⟩, ⟨4, 1, .rw, 0x0, none⟩, ⟨5, 1, .rw, 0x0, none⟩, ⟨8, 3, .rw, 0x0, none⟩, ⟨16, 8, .rw, 0x1, none⟩]⟩,
  ⟨0x4, 1, 4, 1, 0x0, [⟨0, 16, .rw, 0x3E8, none⟩]⟩,
  ⟨0x8, 1, 4, 1, 0x0, [⟨0, 2, .wo, 0x0, none⟩, ⟨8, 1, .ro, 0x0, none⟩, ⟨16, 8, .ro, 0x0, none⟩]⟩,
  ⟨0xC, 1, 4, 1, 0x0, [⟨0, 3, .ro, 0x0, none⟩, ⟨8, 8, .ro, 0x0, none⟩]⟩,
  ⟨0x10, 1, 4, 1, 0x0, [⟨0, 6, .rcl, 0x0, none⟩]⟩,
  ⟨0x14, 1, 4, 1, 0x0, [⟨0, 16, .rcl, 0x0, none⟩]⟩,
  ⟨0x20, 16, 4, 1, 0x0, [⟨0, 12, .rw, 0x0, none⟩, ⟨31, 1, .rw, 0x0, none⟩]⟩,
  ⟨0x60, 1, 4, 1, 0x0, [⟨12, 20, .rw, 0x0, none⟩]⟩,
  ⟨0x64, 1, 4, 1, 0x0, [⟨0, 32, .rw, 0x0, none⟩]⟩,
  ⟨0x68, 1, 4, 1, 0x0, [⟨0, 5, .rw, 0x14, none⟩]⟩,
  ⟨0x6C, 1, 4, 1, 0x0, [⟨0, 32, .wo, 0x0, none⟩]⟩,
  ⟨0x70, 1, 4, 1, 0x0, [⟨0, 32, .ro, 0x0, none⟩]⟩]
/-- Registers of the FRG block, part 1. -/
def Rows.FRG_1 : List RegRow := [
  ⟨0x74, 1, 4, 1, 0x0, [⟨2, 20, .rw, 0x0, none⟩]⟩,
  ⟨0x78, 1, 4, 1, 0x0, [⟨0, 32, .rw, 0x0, none⟩]⟩,
  ⟨0x7C, 1, 4, 1, 0x0, [⟨0, 11, .ro, 0x0, none⟩]⟩,
  ⟨0x80, 1, 4, 1, 0x0, [⟨0, 4, .ro, 0x0, none⟩, ⟨16, 12, .ro, 0x0, none⟩]⟩,
  ⟨0x84, 1, 4, 1, 0x0, [⟨0, 32, .ro, 0x0, none⟩]⟩,
  ⟨0x88, 1, 4, 1, 0x0, [⟨0, 32, .ro, 0x0, none⟩]⟩,
  ⟨0x8C, 1, 4, 1, 0x0, [⟨0, 32, .ro, 0x0, none⟩]⟩,
  ⟨0x90, 1, 4, 1, 0x0, [⟨0, 32, .ro, 0x0, none⟩]⟩,
  ⟨0x94, 1, 4, 1, 0x0, [⟨0, 32, .ro, 0x0, none⟩]⟩]
/-- Registers of the FRG block. -/
def Rows.FRG : List RegRow := Rows.FRG_0 ++ Rows.FRG_1
/-- Registers of the MGT block, part 0. -/
def Rows.MGT_0 : List RegRow := [
  ⟨0x0, 1, 4, 1, 0x0, [⟨0, 3, .ro, 0x0, none⟩, ⟨4, 2, .ro, 0x0, none⟩, ⟨6, 1, .ro, 0x0, none⟩, ⟨7, 1, .ro, 0x0, none⟩, ⟨16, 16, .ro, 0x0, none⟩]⟩,
  ⟨0x4, 1, 4, 1, 0x0, [⟨0, 7, .rcl, 0x0, none⟩]⟩,
  ⟨0x8, 1, 4, 1, 0x0, [⟨0, 32, .ro, 0x0, none⟩]⟩,
  ⟨0x40, 1, 4, 1, 0x0, [⟨0, 1, .ro, 0x0, none⟩, ⟨1, 1, .ro, 0x0, none⟩, ⟨2, 1, .ro, 0x0, none⟩]⟩,
  ⟨0x44, 1, 4, 1, 0x0, [⟨0, 8, .ro, 0x0, none⟩, ⟨8, 8, .ro, 0x0, none⟩]⟩,
  ⟨0x48, 1, 4, 1, 0x0, [⟨0, 16, .rw, 0x5555, none⟩]⟩,
  ⟨0x100, 1, 4, 1, 0x0, [⟨0, 16, .ws, 0x0, some 0⟩]⟩,
  ⟨0x104, 1, 4, 1, 0x0, [⟨0, 32, .ws, 0x0, some 0⟩]⟩,
  ⟨0x108, 1, 4, 1, 0x0, [⟨0, 1, .wo, 0x0, none⟩, ⟨1, 1, .ro, 0x0, none⟩, ⟨8, 8, .ro, 0x0, none⟩]⟩,
  ⟨0x10C, 1, 4, 1, 0x0, [⟨0, 16, .rw, 0x0, none⟩]⟩,
  ⟨0x110, 1, 4, 1, 0x0, [⟨0, 16, .wo, 0x0, none⟩]⟩,
  ⟨0x114, 1, 4, 1, 0x0, [⟨0, 16, .wo, 0x0, none⟩]⟩]
/-- Registers of the MGT block, part 1. -/
def Rows.MGT_1 : List RegRow := [
  ⟨0x118, 1, 4, 1, 0x0, [⟨0, 16, .ro, 0x0, none⟩]⟩,
  ⟨0x11C, 1, 4, 1, 0x0, [⟨0, 32, .rw, 0x0, none⟩]⟩,
  ⟨0x120, 1, 4, 1, 0x0, [⟨0, 16, .rcl, 0x0, none⟩]⟩,
  ⟨0x124, 1, 4, 1, 0x0, [⟨0, 8, .rw, 0x0, none⟩]⟩,
  ⟨0x200, 1, 4, 1, 0x0, [⟨0, 1, .rw, 0x1, none⟩, ⟨1, 1, .rw, 0x0, none⟩]⟩,
  ⟨0x204, 1, 4, 1, 0x0, [⟨0, 7, .wp, 0x0, none⟩, ⟨8, 8, .wp, 0x0, none⟩, ⟨16, 3, .wp, 0x0, none⟩, ⟨31, 1, .ro, 0x0, none⟩]⟩,
  ⟨0x208, 1, 4, 1, 0x0, [⟨0, 16, .rw, 0x0, none⟩]⟩,
  ⟨0x20C, 1, 4, 1, 0x0, [⟨0, 8, .ro, 0x0, none⟩, ⟨8, 1, .rcl, 0x0, none⟩, ⟨9, 1, .rcl, 0x0, none⟩, ⟨10, 1, .rcl, 0x0, none⟩]⟩]
/-- Registers of the MGT block. -/
def Rows.MGT : List RegRow := Rows.MGT_0 ++ Rows.MGT_1
/-- Registers of the THERM block. -/
def Rows.THERM : List RegRow := [
  ⟨0x0, 4, 4, 1, 0x0, [⟨0, 16, .ro, 0x0, none⟩]⟩,
  ⟨0x10, 1, 4, 1, 0x0, [⟨0, 16, .ro, 0x0, none⟩]⟩,
  ⟨0x14, 1, 4, 1, 0x0, [⟨0, 16, .rcl, 0x0, none⟩]⟩,
  ⟨0x20, 1, 4, 1, 0x0, [⟨0, 16, .rw, 0x7D0, none⟩]⟩,
  ⟨0x24, 1, 4, 1, 0x0, [⟨0, 2, .rcl, 0x0, none⟩]⟩]
/-- `UNIT_BLOCK` (R25). -/
def Rows.UNIT_BLOCK : List RegRow := [⟨0x38, 1, 4, 1, 0x0, [⟨0, 28, .ro, 0x0, none⟩]⟩]
/-- `CAB_MEMBERS` (R25). -/
def Rows.CAB_MEMBERS : List RegRow := [⟨0x38, 1, 4, 1, 0x0, [⟨0, 12, .ws, 0xFFF, some 0⟩, ⟨16, 12, .ro, 0x0, none⟩]⟩]

end Sys2Proof.Machine
end

