-- ==== Sys2Proof/Machine/RegMap.lean ====
section
/-! DEFINITION. The address map (R47): which block, which table row, which unit an address belongs to; the units and
their classes (R24); the value every register word has after a device reset (R11). -/
namespace Sys2Proof.Machine

/-- The blocks of the register map, with the instance (R47). -/
inductive Block where
  | glb | pwr | clk | err | sec | cfg | frg | aud | time | host | mgt | therm
  | unit (u : Nat) | lnk (n : Nat) | ring (k : Nat) | swc | apg (g : Nat) | ap (n : Nat) | dec (d : Nat) | brg (b : Nat)
  | mcs (m : Nat) | pr | mtr | strm (s : Nat) | flow (f : Nat) | seng (e : Nat) | stw (s : Nat) | tnt (t : Nat)
deriving DecidableEq, Repr

/-- What an address of the map names. -/
inductive Loc where
  /-- a word of a register block, at this offset -/
  | reg (b : Block) (off : Nat)
  /-- a live counter word, the one held in the shelf at this address -/
  | live (shelf : Nat)
  /-- the active patch table, entry `i` (R360) -/
  | patchActive (i : Nat)
  /-- the shadow patch table, entry `i` (R360) -/
  | patchShadow (i : Nat)
  /-- the statistics shelf (R67) -/
  | shelf
  /-- steward `s` memory, byte offset (R150) -/
  | stwMem (s off : Nat)
  /-- signal engine `e` memory, byte offset (R150) -/
  | sengMem (e off : Nat)
  /-- the bit alias of bit `b` of byte `x` (R63) -/
  | bitOf (x b : Nat)
  /-- reserved, or no such location -/
  | none
deriving DecidableEq, Repr

/-- Class codes of R24; `none` for a reserved unit ID. -/
def classOf (u : Nat) : Option Nat :=
  if u = 0 then some 0x10
  else if 0x010 ≤ u && u ≤ 0x027 then some 0x01
  else if 0x030 ≤ u && u ≤ 0x03B then some 0x02
  else if 0x040 ≤ u && u ≤ 0x04F then some 0x05
  else if 0x050 ≤ u && u ≤ 0x08F then some 0x06
  else if 0x090 ≤ u && u ≤ 0x09F then some 0x08
  else if 0x0A0 ≤ u && u ≤ 0x0A7 then some 0x09
  else if 0x0B0 ≤ u && u ≤ 0x0EF then some 0x0A
  else if 0x0F0 ≤ u && u ≤ 0x0F3 then some 0x0B
  else if u = 0x0F8 then some 0x0D
  else if u = 0x0F9 then some 0x0C
  else if u = 0x0FA then some 0x0F
  else if u = 0x0FB then some 0x0E
  else if u = 0x0FC then some 0x11
  else if 0x100 ≤ u && u ≤ 0x17F then some 0x07
  else if 0x200 ≤ u && u ≤ 0x2FF then some 0x03
  else if 0x400 ≤ u && u ≤ 0xBFF then some 0x04
  else if 0xC00 ≤ u && u ≤ 0xC3F then some 0x0C
  else if 0xD00 ≤ u && u ≤ 0xFFE then some 0x10
  else none

/-- The kinds of unit, with the number within the kind (R24). -/
inductive UnitKind where
  | root | link (n : Nat) | ring (k : Nat) | group (g : Nat) | port (n : Nat) | bridge (b : Nat) | mclk (m : Nat)
  | seng (e : Nat) | steward (s : Nat) | meters | router | hostch | gpio | time | decim (d : Nat) | stream (s : Nat)
  | flow (f : Nat) | region (r : Nat) | cabinet (u : Nat) | reserved
deriving DecidableEq, Repr

/-- The unit a 12-bit unit ID names (R24). -/
def unitKind (u : Nat) : UnitKind :=
  if u = 0 then .root
  else if 0x010 ≤ u && u ≤ 0x027 then .link (u - 0x010)
  else if 0x030 ≤ u && u ≤ 0x03B then .ring (u - 0x030)
  else if 0x040 ≤ u && u ≤ 0x04F then .group (u - 0x040)
  else if 0x050 ≤ u && u ≤ 0x08F then .port (u - 0x050)
  else if 0x090 ≤ u && u ≤ 0x09F then .bridge (u - 0x090)
  else if 0x0A0 ≤ u && u ≤ 0x0A7 then .mclk (u - 0x0A0)
  else if 0x0B0 ≤ u && u ≤ 0x0EF then .seng (u - 0x0B0)
  else if 0x0F0 ≤ u && u ≤ 0x0F3 then .steward (u - 0x0F0)
  else if u = 0x0F8 then .meters
  else if u = 0x0F9 then .router
  else if u = 0x0FA then .hostch
  else if u = 0x0FB then .gpio
  else if u = 0x0FC then .time
  else if 0x100 ≤ u && u ≤ 0x17F then .decim (u - 0x100)
  else if 0x200 ≤ u && u ≤ 0x2FF then .stream (u - 0x200)
  else if 0x400 ≤ u && u ≤ 0xBFF then .flow (u - 0x400)
  else if 0xC00 ≤ u && u ≤ 0xC3F then .region (u - 0xC00)
  else if 0xD00 ≤ u && u ≤ 0xFFE then .cabinet u
  else .reserved

/-- BTYPE of a class (R25). -/
def btypeOf (cls : Nat) : Nat :=
  match cls with
  | 0x01 => 1 | 0x02 => 2 | 0x03 => 3 | 0x04 => 3 | 0x05 => 4 | 0x06 => 4 | 0x07 => 5 | 0x08 => 6 | 0x09 => 7
  | 0x0A => 8 | 0x0C => 8 | 0x0D => 8 | 0x0B => 9 | 0x0E => 9 | 0x0F => 9 | 0x11 => 9 | _ => 0xA

/-- The register block of a unit, as `UNIT_BLOCK` names it: its base and its size in bytes; base 0 if none (R25). -/
def unitBlock (u : Nat) : Nat × Nat :=
  match unitKind u with
  | .link n => (Base.LNK n, 0x4000)
  | .ring k => (Base.RING k, 0x1000)
  | .group g => (Base.APG g, 0x1000)
  | .port n => (Base.AP n, 0x100)
  | .bridge b => (Base.BRG b, 0x400)
  | .mclk m => (Base.MCS m, 0x1000)
  | .seng e => (Base.SENG e, 0x400)
  | .steward s => (Base.STW s, 0x400)
  | .meters => (Base.MTR, 0x10000)
  | .router => (Base.PR, 0x10000)
  | .hostch => (Base.HOST, 0x1000)
  | .gpio => (Base.MGT + 0x100, 0x100)
  | .time => (Base.TIME, 0x1000)
  | .decim d => (Base.DEC d, 0x100)
  | .stream s => (Base.STRM s, 0x1000)
  | .flow f => (Base.FLOW f, 0x100)
  | .region r => (Base.PR + 0x100 + r * 0x20, 0x20)
  | .root | .cabinet _ | .reserved => (0, 0)

/-- Every implemented unit ID, ascending (R24). -/
def allUnits : List Nat := (List.range 0x1000).filter (fun u => (classOf u).isSome)

/-- Counter words: base, size, shelf base (R212, R238, R256, R292, R327, R357, R378, R403, R422, R454). -/
def liveOf (b : Block) (off : Nat) : Option Nat :=
  let win (lo size shelf : Nat) : Option Nat := if lo ≤ off && off < lo + size then some (shelf + (off - lo)) else none
  match b with
  | .lnk n => (win 0x1000 0x100 (0x810000 + n * 0x1000)).or (win 0x1100 0x40 (0x8E1000 + n * 0x40))
  | .ring k => win 0x800 0x400 (0x830000 + k * 0x400)
  | .swc => win 0x2000 0x6000 0x840000
  | .flow f => win 0xC0 0x40 (0x880000 + f * 0x40)
  | .strm s => win 0xC00 0x100 (0x8A0000 + s * 0x100)
  | .time =>
    if 0x900 ≤ off && off < 0x900 + 24 * 0x10 then some (0x8E3000 + (off - 0x900) / 0x10 * 0x20 + (off - 0x900) % 0x10)
    else win 0x800 0x100 0x8E0000
  | .mcs m => win 0x800 0x100 (0x8E2000 + m * 0x100)
  | .apg g => win 0x800 0x100 (0x8C0000 + g * 0x100)
  | .ap n => win 0x80 0x40 (0x8C1000 + n * 0x40)
  | .dec d => win 0x80 0x40 (0x8C2000 + d * 0x40)
  | .brg b => win 0x200 0x100 (0x8C4000 + b * 0x100)
  | .pr => win 0x1800 0x800 0x80A000
  | .pwr => win 0x800 0x100 0x803000
  | .err => win 0x800 0x100 0x800100
  | .aud => win 0x800 0x100 0x802000
  | .frg => win 0x800 0x100 0x804000
  | _ => none

/-- The block and offset of an address in the register ranges of R47. -/
def blockAt (a : Nat) : Option (Block × Nat) :=
  if a < 0x1000 then some (.glb, a)
  else if a < 0x2000 then some (.pwr, a - 0x1000)
  else if a < 0x3000 then some (.clk, a - 0x2000)
  else if a < 0x4000 then some (.err, a - 0x3000)
  else if a < 0x5000 then some (.sec, a - 0x4000)
  else if a < 0x6000 then some (.cfg, a - 0x5000)
  else if a < 0x7000 then some (.frg, a - 0x6000)
  else if a < 0x8000 then some (.aud, a - 0x7000)
  else if a < 0x9000 then some (.time, a - 0x8000)
  else if a < 0xA000 then some (.host, a - 0x9000)
  else if a < 0xB000 then some (.mgt, a - 0xA000)
  else if a < 0xC000 then some (.therm, a - 0xB000)
  else if a < 0x10000 then none
  else if a < 0x50000 then
    let u := (a - 0x10000) / 0x40
    if (classOf u).isSome then some (.unit u, a % 0x40) else none
  else if a < 0x100000 then none
  else if a < 0x160000 then some (.lnk ((a - 0x100000) / 0x4000), a % 0x4000)
  else if a < 0x16C000 then some (.ring ((a - 0x160000) / 0x1000), a % 0x1000)
  else if a < 0x170000 then none
  else if a < 0x180000 then some (.swc, a - 0x170000)
  else if a < 0x190000 then
    let g := (a - 0x180000) / 0x1000
    let o := a % 0x1000
    if 0x200 ≤ o && o < 0x600 then some (.ap (g * 4 + (o - 0x200) / 0x100), o % 0x100) else some (.apg g, o)
  else if a < 0x198000 then some (.dec ((a - 0x190000) / 0x100), a % 0x100)
  else if a < 0x1A0000 then none
  else if a < 0x1A4000 then some (.brg ((a - 0x1A0000) / 0x400), a % 0x400)
  else if a < 0x1B0000 then none
  else if a < 0x1B8000 then some (.mcs ((a - 0x1B0000) / 0x1000), a % 0x1000)
  else if a < 0x1C0000 then none
  else if a < 0x1D0000 then some (.pr, a - 0x1C0000)
  else if a < 0x1E0000 then some (.mtr, a - 0x1D0000)
  else if a < 0x200000 then none
  else if a < 0x300000 then
    let s := (a - 0x200000) / 0x1000
    let o := a % 0x1000
    if 0x400 ≤ o && o < 0xC00 then some (.flow (s * 8 + (o - 0x400) / 0x100), o % 0x100) else some (.strm s, o)
  else if a < 0x310000 then some (.seng ((a - 0x300000) / 0x400), a % 0x400)
  else if a < 0x311000 then some (.stw ((a - 0x310000) / 0x400), a % 0x400)
  else if a < 0x400000 then none
  else if a < 0x600000 then some (.tnt ((a - 0x400000) / 0x1000), a % 0x1000)
  else none

/-- The registers of a block. -/
def Block.rows : Block → List RegRow
  | .glb => Rows.GLB | .pwr => Rows.PWR | .clk => Rows.CLK | .err => Rows.ERR | .sec => Rows.SEC | .cfg => Rows.CFG
  | .frg => Rows.FRG | .aud => Rows.AUD | .time => Rows.TIME | .host => Rows.HOST | .mgt => Rows.MGT
  | .therm => Rows.THERM
  | .unit u => Rows.UNIT ++ (if 0xD00 ≤ u then Rows.CAB_MEMBERS else if u = 0 then [⟨0x38, 1, 4, 1, 0, []⟩] else Rows.UNIT_BLOCK)
      ++ [⟨0x3C, 1, 4, 1, 0, []⟩]
  | .lnk _ => Rows.LNK | .ring _ => Rows.RING | .swc => Rows.SWC | .apg _ => Rows.APG | .ap _ => Rows.AP
  | .dec _ => Rows.DEC | .brg _ => Rows.BRG | .mcs _ => Rows.MCS | .pr => Rows.PR | .mtr => Rows.MTR
  | .strm _ => Rows.STRM | .flow _ => Rows.FLOW | .seng _ => Rows.SENG | .stw _ => Rows.STW | .tnt _ => Rows.TNT

/-- The copy of a register row that the word offset names: its index, if it is one. -/
def RegRow.indexOf (r : RegRow) (off : Nat) : Option Nat :=
  if off < r.off then none
  else
    let d := off - r.off
    let j := if r.count2 ≤ 1 then 0 else d / r.stride2
    let e := if r.count2 ≤ 1 then d else d % r.stride2
    if j < r.count2 && e % r.stride = 0 && e / r.stride < r.count then some (j * r.count + e / r.stride) else none

/-- The row and index of the register word at an offset of a block; `none` for an unimplemented word. -/
def findRow (rows : List RegRow) (off : Nat) : Option (RegRow × Nat) :=
  match rows with
  | [] => none
  | r :: rs => match r.indexOf off with
    | some i => some (r, i)
    | none => findRow rs off

/-- Where an address of the map leads (R47). The address need not be aligned: the containing word is named. -/
def locate (a : Nat) : Loc :=
  let w := a / 4 * 4
  if w < 0x600000 then
    match blockAt w with
    | none => .none
    | some (b, off) =>
      match liveOf b off with
      | some sh => .live sh
      | none => if (findRow b.rows off).isSome then .reg b off else .none
  else if w < 0x640000 then .patchActive ((w - 0x600000) / 4)
  else if w < 0x680000 then .patchShadow ((w - 0x640000) / 4)
  else if w < 0x800000 then .none
  else if w < 0xC00000 then .shelf
  else if a < 0x1000000 then .stwMem ((a - 0xC00000) / 0x100000) (a % 0x100000)
  else if a < 0x2000000 then
    let o := a % 0x40000
    if o < 0x8000 || (0x10000 ≤ o && o < 0x30000) then .sengMem ((a - 0x1000000) / 0x40000) o else .none
  else if a < 0x4000000 then .bitOf ((a - 0x2000000) / 32) (a % 32 / 4)
  else .none

/-- The value of a row's fields at reset, as the Reset column gives it. -/
def fieldsReset : List FieldRow → Nat
  | [] => 0
  | f :: fs => f.reset % 2 ^ f.width * 2 ^ f.lo + fieldsReset fs

/-- Reset values that depend on the instance (R25, R95, R191, R198, R247, R263, R312). -/
def instanceReset (b : Block) (off base : Nat) : Nat :=
  match b with
  | .unit u =>
    if off = 0 then u + (classOf u).getD 0 * 2 ^ 16
    else if off = 0x1C then btypeOf ((classOf u).getD 0)
    else if off = 0x38 && u < 0xD00 then (unitBlock u).1
    else base
  | .tnt t => if off = 0 then t else base
  | .lnk _ =>
    if 0x50 ≤ off && off < 0x70 then (off - 0x50) / 4 * 0x11111111
    else if off = 0x800 then 2
    else if 0x800 < off && off < 0xA00 then 0
    else if off = 0x258 then 4
    else base
  | .swc =>
    if 0x40 ≤ off && off < 0x80 then
      let c := (off - 0x40) / 8
      if off % 8 = 0 then (if 5 ≤ c then 0x1000 else 0) else (if 5 ≤ c then 0x10000 else 0x8000)
    else base
  | .flow f => if off = 0x08 then 128 * (f / 8) else base
  | .mcs m => if off = 0x14 then 0x96160001 + m else base
  | _ => base

/-- The value of the register word at an address after a device reset (R11): what an unlisted word of the register file
reads as. -/
def resetWord (a : Nat) : Word :=
  if a < 0x600000 then
    match blockAt a with
    | none => 0
    | some (b, off) =>
      match findRow b.rows off with
      | none => 0
      | some (r, _) => BitVec.ofNat 32 (instanceReset b off (fieldsReset r.fields))
  else 0

/-- The unit whose descriptor or register block holds an address (R50). -/
def unitOfBlock (b : Block) (off : Nat) : Option Nat :=
  match b with
  | .unit u => some u
  | .lnk n => some (0x010 + n) | .ring k => some (0x030 + k) | .apg g => some (0x040 + g) | .ap n => some (0x050 + n)
  | .dec d => some (0x100 + d) | .brg x => some (0x090 + x) | .mcs m => some (0x0A0 + m)
  | .pr => if 0x100 ≤ off && off < 0x900 then some (0xC00 + (off - 0x100) / 0x20) else some 0x0F9
  | .mtr => some 0x0F8 | .strm s => some (0x200 + s) | .flow f => some (0x400 + f)
  | .seng e => some (0x0B0 + e) | .stw s => some (0x0F0 + s)
  | .time => some 0x0FC
  | .host => some 0x0FA
  | .mgt => if 0x100 ≤ off && off < 0x200 then some 0x0FB else none
  | _ => none

/-- The commit register of the block that holds a unit's commit sets, and the commit registers that also commit them
(R54, R260, R330): the first is the block's own. -/
def commitRegsOf (u : Nat) : List Nat :=
  match unitKind u with
  | .link n => [A.LNK_COMMIT n]
  | .ring k => [A.RING_COMMIT k]
  | .group g => [A.APG_COMMIT g]
  | .port n => [A.AP_COMMIT n, A.APG_COMMIT (n / 4)]
  | .bridge b => [A.BRG_COMMIT b]
  | .mclk m => [A.MCS_COMMIT m]
  | .seng e => [A.ENG_COMMIT e]
  | .meters => [A.MTR_COMMIT]
  | .hostch => [A.HCH_COMMIT]
  | .gpio => [A.GPIO_COMMIT]
  | .decim d => [A.DEC_COMMIT d]
  | .stream s => [A.STRM_COMMIT s]
  | .flow f => [A.STRM_COMMIT (f / 8)]
  | .region _ => [A.PR_COMMIT]
  | _ => []

/-- A commit set: the unit it belongs to and its number among the unit's sets. Host channel ring `r` is set `r` of unit
0x0FA (R107); the membership set is set 0 of unit 0 (R37). -/
abbrev SetId := Nat × Nat

/-- The commit set of a WS field (R54), if it is in one: by block, offset and the table's set number. -/
def setOf (b : Block) (off : Nat) (inSet : Option Nat) : Option SetId :=
  match inSet with
  | none => none
  | some i =>
    match b with
    | .unit _ => some (0, 0)
    | .host => some (0x0FA, (off - 0x800) / 0x10)
    | _ => match unitOfBlock b off with
      | some u => some (u, i)
      | none => none

end Sys2Proof.Machine
end

