-- ==== Sys2Proof/Machine/SMap.lean ====
section
/-! DEFINITION. Sparse maps by number, in ONE canonical form: keys strictly rising, and no entry equal to what an unlisted
key reads as. The default is a function of the key, so that a register file, a memory and a table of counters are all of
this form, and equal contents are equal data. -/
namespace Sys2Proof.Machine

/-- A sparse map: pairs of key and value. -/
abbrev SMap (α : Type) := List (Nat × α)

/-- What key `k` holds: its entry, or the default of an unlisted key. -/
def SMap.get {α : Type} (d : Nat → α) : SMap α → Nat → α
  | [], k => d k
  | (j, v) :: m, k => if j = k then v else SMap.get d m k

/-- The map without key `k`. -/
def SMap.erase {α : Type} (k : Nat) : SMap α → SMap α
  | [] => []
  | (j, v) :: m => if j = k then SMap.erase k m else (j, v) :: SMap.erase k m

/-- The map with the entry `(k, v)` placed before the first greater key. -/
def SMap.insert {α : Type} (k : Nat) (v : α) : SMap α → SMap α
  | [] => [(k, v)]
  | (j, w) :: m => if k < j then (k, v) :: (j, w) :: m else (j, w) :: SMap.insert k v m

/-- Key `k` now holds `v`; writing the default removes the entry. -/
def SMap.put {α : Type} [DecidableEq α] (d : Nat → α) (k : Nat) (v : α) (m : SMap α) : SMap α :=
  if v = d k then SMap.erase k m else SMap.insert k v (SMap.erase k m)

/-- Key `k` now holds `f` of what it held. -/
def SMap.upd {α : Type} [DecidableEq α] (d : Nat → α) (k : Nat) (f : α → α) (m : SMap α) : SMap α :=
  SMap.put d k (f (SMap.get d m k)) m

/-- The canonical form. -/
def SMap.wf {α : Type} [DecidableEq α] (d : Nat → α) : SMap α → Bool
  | [] => true
  | (k, v) :: m => decide (v ≠ d k) && m.all (fun e => decide (k < e.1)) && SMap.wf d m

end Sys2Proof.Machine
end

