-- ==== Sys2Proof/Machine/State.lean ====
section
/-! DEFINITION. The state of the ZW9616, all of it plain data: every register of the map in one sparse word map, and
beside it everything the spec gives the machine that no register shows (queues, engine contexts, link and ring state,
sample store, peat, keys and so on). notes/FILES.md and INVENTORY.md name the rules. -/
namespace Sys2Proof.Machine

/-- A sample: its value in Q1.31 and its tag (R18). An unwritten one is zero, tagged MUTED. -/
structure Sample where
  v : Word := 0
  tag : Nat := 2
deriving DecidableEq, Repr

/-- A write to the engine memories that a command makes, at register map addresses (R150): an octet, or a bank that loses
its content and reads zero (R390). -/
inductive MemOp where
  | byte (a : Nat) (b : Byte)
  | clear (lo hi : Nat)
deriving DecidableEq, Repr

/-- A written WS value that has not applied (R52, R55): the word, the bits written, their values, and the path. -/
structure Staged where
  addr : Nat
  mask : Word
  val : Word
  path : Path
deriving DecidableEq, Repr

/-- A WS write or an order of tenant 0 that stands in the current boundary interval (R112): a WS value at an address, or
an order on a unit. -/
inductive Stand where
  | ws (path : Path) (addr : Nat) (mask val : Word)
  | ord (path : Path) (unit order : Nat) (cmd : Bool)
deriving DecidableEq, Repr

/-- What a unit holds besides its descriptor registers. -/
structure UnitRt where
  /-- the order being carried out (R515), 0 if none -/
  order : Nat := 0
  /-- who gave that order -/
  src : Option OrderSrc := none
  /-- an accepted ENABLE whose entry to SYNCING waits for the boundary (R515) -/
  syncWait : Bool := false
  /-- clk when the drain began (R29) -/
  drainAt : Nat := 0
  /-- clk of the last event posted for the unit (R45) -/
  lastPost : Option Nat := none
  /-- an event is held by the 10 ms limit (R45) -/
  heldPost : Bool := false
  /-- the state the last accepted order of an empty cabinet names (R39) -/
  named : Nat := 0
deriving DecidableEq, Repr

/-- A cabinet order walking its members (R38). -/
structure Walk where
  cab : Nat
  order : Nat
  src : OrderSrc
  /-- the member ordered last, whose arrival the walk awaits -/
  awaiting : Option Nat
  /-- members not yet ordered, in walk order -/
  todo : List Nat
  /-- the first member that refused or entered FAULTED (R39) -/
  failed : Option Nat
deriving DecidableEq, Repr

/-- Who waits for an order to end: a command of a tenant's queue (by its SEQ), or an Ulfel context (R103, R136). -/
inductive Waiter where
  | cmd (t seq : Nat)
  | ctx (x : Nat)
deriving DecidableEq, Repr

/-- A wait for a unit to reach the TARGET of an order (R103). -/
structure WaitRec where
  unit : Nat
  target : Nat
  who : Waiter
deriving DecidableEq, Repr

/-- What the block sends out: the model's own record, which no rule reads. -/
inductive Output where
  /-- a completion with read data (R48) -/
  | data (p : Path) (ws : List Word)
  /-- a completion with an error, or a dropped request (R49, R78) -/
  | error (p : Path)
  /-- a management SPI frame's answer: status byte and data words (R81) -/
  | spi (status : Byte) (ws : List Word)
  /-- an MSI-X vector of a function (R76, R77) -/
  | vector (fn v : Nat)
  /-- a frame on a link, first octet first, without FCS (R185) -/
  | frame (link : Nat) (octets : List Byte)
  /-- a frame cut with a bad FCS (R183, R223) -/
  | cut (link : Nat) (octets : List Byte)
  /-- a PMBus transaction: address, command code, data bytes written (R489, R386, R397) -/
  | pmbus (addr code : Nat) (data : List Byte)
  /-- the samples that a frame of a port group begins to send, by destination index (R343) -/
  | slots (group : Nat) (ss : List (Nat × Word))
  /-- a pin's new level -/
  | pin (name : Nat) (level : Bool)
  /-- bits shifted to TDO (R21) -/
  | tdo (v : Nat)
deriving DecidableEq, Repr

/-- The statistics snapshot (R64, R65). -/
structure SnapRt where
  /-- the hidden copy being taken, with its T64 instant; none while no snapshot is BUSY -/
  taking : Option (SMap Dword × Dword) := none
deriving DecidableEq, Repr

/-- The configuration check (R69, R71). -/
structure CfgRt where
  /-- a field of the configuration set was written or committed since the last scan -/
  dirty : Bool := false
deriving DecidableEq, Repr

/-- One tenant queue (R89–R98). Pointers are free-running 16-bit counts, held twice (R93). -/
structure Queue where
  wr : BitVec 16 := 0
  wr2 : BitVec 16 := 0
  rd : BitVec 16 := 0
  rd2 : BitVec 16 := 0
  /-- device credits of a completion or event queue; for a command queue the credits are SQ_CREDIT -/
  credits : Nat := 0
  /-- entries held in the device, for an SPI-bound tenant -/
  entries : List (List Word) := []
  /-- the last entry read through a port (R91) -/
  last : List Word := []
  /-- completions held for lack of credit (R97) -/
  held : List (List Word) := []
  /-- events dropped since the last COALESCED event (R97) -/
  dropped : Nat := 0
  /-- the tenant's vector may be signalled (R106) -/
  armed : Bool := true
  /-- posting stopped until HEAD is written as 0 (R98) -/
  stopped : Bool := false
  /-- threshold crossings, exact (R92) -/
  crossings : Nat := 0
  /-- clk of the last threshold event (R92) -/
  thrPost : Option Nat := none
  /-- a threshold event is held (R92) -/
  thrHeld : Bool := false
deriving DecidableEq, Repr

/-- A command that was fetched and has not completed (R100). -/
structure Cmd where
  tenant : Nat
  seq : Nat
  /-- its completion is discarded (R79), or its credit lapsed (R96) -/
  discard : Bool := false
  lapsed : Bool := false
deriving DecidableEq, Repr

/-- One host channel ring (R109–R111). Its pointers are held twice (R93). -/
structure HchRt where
  /-- the pointer the host writes -/
  host : BitVec 16 := 0
  host2 : BitVec 16 := 0
  /-- the pointer the device writes -/
  dev : BitVec 16 := 0
  dev2 : BitVec 16 := 0
  /-- the host's pointer at the start of the running tick (R111) -/
  hostAt : BitVec 16 := 0
  /-- tick size when EN was committed (R110) -/
  tick : Nat := 0
  /-- the block read for the next tick: samples by period then channel (R111) -/
  block : List Sample := []
  /-- what each playback channel delivered last (R111) -/
  last : List Sample := []
  /-- recorded blocks that have not been written (R111) -/
  record : List (List Sample) := []
  /-- clk of the last RING event, and the cause of an event that the 10 ms limit holds, 0 if none (R111) -/
  lastPost : Option Nat := none
  heldCause : Nat := 0
deriving DecidableEq, Repr

/-- The host paths (R74–R87). -/
structure HostRt where
  /-- session tenant of the management SPI (R84) -/
  session : Nat := 0
  /-- the sticky part of ERR (R82) -/
  spiErr : Bool := false
  /-- VF Enable and the number of virtual functions (R78) -/
  vfEnable : Bool := false
  numVfs : Nat := 0
  /-- maps read at VF Enable: (VF, FIRST, COUNT) of the good ones (R78) -/
  vfMaps : List (Nat × Nat × Nat) := []
  /-- the MSI-X tables of BAR2/3 by function × 4096 + entry × 4 + word, and the pending bits (R75) -/
  msix : SMap Word := []
  pba : List (Nat × Nat) := []
  /-- functions in D3hot (R79) -/
  d3hot : List Nat := []
  /-- last bits of GLB_EVT_SUMMARY signalled, for rising edges (R76) -/
  sumPrev : Nat := 0
deriving DecidableEq, Repr

/-- An open hardware loop level: iterations left, body start and body end (R125). -/
structure LoopLevel where
  count : Word
  start : Word
  stop : Word
deriving DecidableEq, Repr

/-- An event slot or a trigger: its source and parameter as ARM gives them, and what has fired (R140). -/
structure Slot where
  src : Word := 0
  param : Word := 0
  fired : Bool := false
  data : Word := 0
  /-- intervals a timer has elapsed since ARM -/
  periods : Nat := 0
deriving DecidableEq, Repr

/-- What an engine context waits for. -/
inductive Wait where
  | none
  /-- a signal engine between TICKWAIT and the next tick; the register that gets TICK_NO (R141) -/
  | nextTick (d : Nat)
  /-- a finished unit instruction: the register and its value if one is written, and the result word (R134, R136) -/
  | unitDone (gd : Option (Nat × Word)) (result : Word)
  /-- USET to a posted field that waits for its block (R135) -/
  | uset (unit off : Nat) (v : Word) (commit : Bool)
  /-- UCMD with W, until the order ends (R136) -/
  | order (d unit : Nat)
  /-- UWAIT for a state of a unit, with its timeout in ms, 0 for none (R136) -/
  | state (d unit st ms : Nat)
  /-- QPUT with W, for a credit of mailbox `box` (R139) -/
  | qput (d box : Nat) (v : Word)
  /-- QGET with W, for an entry of mailbox `box` (R139) -/
  | qget (d box : Nat)
  /-- WAITEV for a slot of the mask (R140) -/
  | event (d mask : Nat)
  /-- TICKWAIT of a steward thread, for a tick of a domain (R141) -/
  | tick (d dom : Nat)
  /-- a load or a store through the register window (R126): register, map address, size, signed; or the value stored -/
  | load (d addr size : Nat) (signed : Bool)
  | store (addr : Nat) (bytes : List Byte)
  /-- WAIT, for the power entry and its return (R145, R173) -/
  | power (d : Nat)
deriving DecidableEq, Repr

/-- How a steward run was started (R101, R162, R167). -/
inductive RunKind where
  | resident
  /-- an entry's run; the tenant and SEQ of its RUN command, none for a trigger -/
  | entry (n : Nat) (cmd : Option (Nat × Nat))
  | inlineRun (t seq : Nat)
deriving DecidableEq, Repr

/-- An engine context: a signal engine, or one thread of a steward (R116), with its CSRs (R146). -/
structure Ctx where
  /-- it executes instructions (a signal engine between ENABLE and HALT; a thread with a run) -/
  running : Bool := false
  kind : RunKind := .resident
  wait : Wait := .none
  g : SMap Word := []
  pc : Word := 0
  /-- lane i of v n at 4n + i, of a n, of t n alike -/
  v : SMap Word := []
  a : SMap Dword := []
  p : SMap (BitVec 4) := []
  t : SMap (BitVec 4) := []
  tenant : Nat := 0
  tickNo : Word := 0
  budget : Nat := 0
  cycles : Nat := 0
  /-- for each register written, the cycle at which its result may be used (R123) -/
  ready : SMap Nat := []
  tickSize : Nat := 8
  tickEntry : Word := 0
  ovrTotal : Nat := 0
  ovrRun : Nat := 0
  excCause : Nat := 0
  excAddr : Word := 0
  excInfo : Word := 0
  excVec : Word := 0
  excUref : Bool := false
  excBudget : Bool := false
  excScratch : Word := 0
  excActive : Bool := false
  /-- the open loop levels, outer first, and the hidden copy an exception makes (R125, R147) -/
  loops : List LoopLevel := []
  hidden : List LoopLevel := []
  vstat : Nat := 0
  uresult : Word := 0x300
  underrun : Bool := false
  evlost : Nat := 0
  slots : List Slot := List.replicate 8 {}
  /-- the number of instructions of an INLINE (R101); the HALT follows them -/
  inlineLen : Nat := 0
  /-- the next tick's run begins in the handler (R149), or at TICK_ENTRY (R153, R157); else it resumes -/
  toEntry : Bool := true
  toHandler : Bool := false
  /-- the run of this tick has ended (TICKWAIT, HALT or overrun) -/
  ended : Bool := true
  /-- the run of this tick overran; its outputs repeat (R157) -/
  overran : Bool := false
  /-- a signal engine's tick in SYNCING has passed (R153) -/
  synced : Bool := false
  /-- output samples stored in this tick's run, by channel × 64 + period (R128) -/
  outNow : SMap Sample := []
deriving DecidableEq, Repr

/-- A start request of a steward (R167). -/
structure StartReq where
  kind : RunKind
  tenant : Nat
  /-- g1 onward at the start of the run -/
  args : List Word := []
  pc : Word := 0
deriving DecidableEq, Repr

/-- An entry of a steward's table, as the last load bound it, and its runs (R164–R169). -/
structure EntryRt where
  valid : Bool := false
  addr : Word := 0
  policy : Nat := 0
  tenant : Nat := 0
  anyTenant : Bool := false
  slot : Slot := {}
  reason : Nat := 0
  running : Bool := false
  /-- runs pending (PEND1, at most one) or queued (QUEUE), oldest first -/
  waiting : List StartReq := []
  lastExc : Nat := 0
  runs : Word := 0
  coalesced : Nat := 0
  dropped : Nat := 0
deriving DecidableEq, Repr

/-- A mailbox between a thread and a steward (R138): pointers held twice, the words, the last word taken. -/
structure Mailbox where
  wr : BitVec 16 := 0
  wr2 : BitVec 16 := 0
  rd : BitVec 16 := 0
  rd2 : BitVec 16 := 0
  credits : Nat := 8
  entries : List Word := []
  last : Word := 0
deriving DecidableEq, Repr

/-- A steward: start requests that wait for a thread, and the table base of the last load. -/
structure StewardRt where
  startq : List StartReq := []
  etabBase : Nat := 0x40000
deriving DecidableEq, Repr

/-- A received frame on its way through the core (R184): its octets from DA to the end, without FCS; the ingress port
(R239); the receive timestamp in 2⁻¹⁶ ns of STC time; class and VID. -/
structure Frame where
  octets : List Byte
  port : Nat
  ts : Nat
  cls : Nat
  vid : Nat
  /-- PCP, and the number of VLAN tags parsed -/
  pcp : Nat
  tags : Nat
deriving DecidableEq, Repr

/-- Where a frame to be sent comes from: another port, a stream engine's flow (the first period of the packet and
the leg, 0 or 1), or a descriptor of a local transmit ring with
the number of the segment (R186, R208). -/
inductive TxSrc where
  | port (p : Nat)
  | flow (f n leg : Nat)
  | ltx (s desc seg : Nat) (tsReq : Bool)
  | ring
deriving DecidableEq, Repr

/-- A frame in, or on its way to, a transmit class queue (R185): its octets without its outer tag, and that tag's control
information if it leaves tagged. -/
structure TxFrame where
  octets : List Byte
  tag : Option Nat
  /-- length on the wire, DA to FCS, after steps 3 to 7 of R185 -/
  len : Nat
  cls : Nat
  vid : Nat
  cells : Nat
  /-- the frame's number in the packet buffer -/
  pkt : Nat
  src : TxSrc
  /-- ingress timestamp in 2⁻¹⁶ ns, for a forwarded frame -/
  rxTs : Nat
  /-- fragments already sent (R197) -/
  frags : Nat := 0
deriving DecidableEq, Repr

/-- What a link holds besides its registers. -/
structure LinkRt where
  /-- frames in the two lanes of the causeway into CORE (R254) -/
  audio : List Frame := []
  other : List Frame := []
  /-- frames given to the link that are not yet in a class queue, and the class queues in one list, oldest first -/
  arriving : List TxFrame := []
  queue : List TxFrame := []
  sending : Option TxFrame := none
  /-- a preemptable frame that an express frame has cut (R197) -/
  preempted : Option TxFrame := none
  /-- classes stopped by PAUSE, and by PFC (R199); classes and the PAUSE frames in hold-off (R200) -/
  pauseMask : Nat := 0
  pfcMask : Nat := 0
  pauseHeld : Nat := 0
  pfcHeld : Nat := 0
  /-- STC time in ns at which the operative gate entry began (R193) -/
  entryAt : Nat := 0
  /-- STC time in ns at which a pending gate list starts (R192) -/
  gateStart : Nat := 0
  /-- the STC as last given to the link's shadow copies (R201) -/
  shadow : Nat := 0
  /-- verify attempts made (R197) -/
  verifies : Nat := 0
  /-- credits of the two shapers in 10⁻⁶ bits, and clk when they were last brought up to date (R198) -/
  credit0 : Int := 0
  credit1 : Int := 0
  creditAt : Nat := 0
deriving DecidableEq, Repr

/-- A frame held in the packet buffer (R251): its number, class, cells and references. -/
structure Buf where
  id : Nat
  cls : Nat
  cells : Nat
  refs : Nat
deriving DecidableEq, Repr

/-- An entry of the forwarding table (R243); `valid` false for an empty slot. -/
structure FdbEntry where
  valid : Bool := false
  da : Nat := 0
  vid : Nat := 0
  ports : Nat := 0
  static : Bool := false
  /-- clk of the last refresh of a learned entry -/
  at_ : Nat := 0
deriving DecidableEq, Repr

/-- A local transmit descriptor that has been read (R208): how many of its frames are still to leave, and what is written
back. -/
structure LtxDesc where
  ring : Nat
  index : Nat
  left : Nat
  /-- it asks for segmentation (R186) -/
  seg : Bool := false
  reason : Nat := 0
  segments : Nat := 0
  time : Nat := 0
deriving DecidableEq, Repr

/-- A steward packet queue or a local transmit ring: pointers held twice (R93, R207, R208). -/
structure PtrPair where
  wr : BitVec 16 := 0
  wr2 : BitVec 16 := 0
  rd : BitVec 16 := 0
  rd2 : BitVec 16 := 0
deriving DecidableEq, Repr

/-- The switch core (R239–R257), the steward packet queues and the local transmit rings (R207–R209). -/
structure SwcRt where
  bufs : List Buf := []
  nextId : Nat := 1
  /-- the port served last in each lane (R254) -/
  lastAudio : Nat := 35
  lastOther : Nat := 35
  /-- the forwarding table by bucket × 4 + slot (R243) -/
  fdb : SMap FdbEntry := []
  /-- the operation that runs (R246), and its INDEX -/
  fdbOp : Option Nat := none
  /-- for each egress sluice, port × 8 + class: what its bucket lacks, in octets × 8·10⁶, and clk of then (R249) -/
  sluice : SMap (Nat × Nat) := []
  spq : SMap PtrPair := []
  ltx : SMap PtrPair := []
  descs : List LtxDesc := []
deriving DecidableEq, Repr

/-- A frame received by a ring's controller: its octets without FCS, whether its FCS was good, the link it came from, its
receive timestamp in 2⁻¹⁶ ns, and its place in the train, in octet times from the last token (R219). -/
structure RingFrame where
  octets : List Byte
  fcsOk : Bool
  west : Bool
  ts : Nat
  pos : Nat
deriving DecidableEq, Repr

/-- A census entry (R230). -/
structure CensusEntry where
  name : Nat
  prio : Nat
  flags : Nat
  iso : Nat
deriving DecidableEq, Repr

/-- A table of a ring (R232): ALLOC and OFFSET of each position. -/
structure RingTable where
  ver : Nat
  s1 : Nat
  p : Nat
  slots : List (Nat × Nat)
deriving DecidableEq, Repr

/-- A sample block that a transmit flow has placed in a ring's queue (R227): the flow, the first period, its octets, and how
often it has been deferred. -/
structure RingBlock where
  flow : Nat
  n : Nat
  octets : List Byte
  defers : Nat := 0
deriving DecidableEq, Repr

/-- What a ring holds besides its registers (R214–R237). -/
structure RingRt where
  /-- frames to be passed on, and frames to be acted on, oldest first -/
  pass : List RingFrame := []
  rx : List RingFrame := []
  /-- frames in the two lanes of the causeway into CORE (R254) -/
  audio : List Frame := []
  other : List Frame := []
  /-- sample blocks to be sent, deferred ones first, and asynchronous frames to be sent, oldest first -/
  blocks : List RingBlock := []
  queue : List TxFrame := []
  /-- the train the manager holds: the cycle in which it is emitted again, and the octets (R224) -/
  heldTrain : List (Nat × List Byte) := []
  /-- CYCLE of the last token emitted or received; of the last one forwarded (R215) -/
  cycle : Nat := 0
  forwarded : Option Nat := none
  /-- MGR_PRIO and NAME of the manager whose tokens are forwarded (R215) -/
  manager : Option (Nat × Nat) := none
  /-- a token naming a higher-ranked manager has been received: this one stops at its next cycle (R215) -/
  stepDown : Bool := false
  /-- when the last token passed the west receiver, or was emitted, in 2⁻¹⁶ ns -/
  tokenAt : Nat := 0
  /-- the manager's last token has not returned (R237) -/
  tokenOut : Bool := false
  /-- nothing of the node's own is sent in this cycle (R232, R237) -/
  silent : Bool := false
  /-- the table in force, one received for a coming version, and the one sent that has not returned (R232) -/
  table : Option RingTable := none
  stored : Option RingTable := none
  tableOut : Option RingTable := none
  /-- the position the last census gave this node (R230) -/
  index : Option Nat := none
  /-- the manager's censuses: the one in force, the last completed, EPOCH and cycle of the one that is out (R230–R232) -/
  census : List CensusEntry := []
  lastCensus : Option (List CensusEntry) := none
  censusOut : Option (Nat × Nat) := none
  epoch : Nat := 0
  changeSeen : Bool := false
  unstable : Bool := false
  censusDue : Bool := false
  tableDue : Bool := false
  /-- a node misses the table in force, which is to be sent again (R232) -/
  tableAgain : Bool := false
  /-- tokens in which CHANGE is still set (R230), and the ISO_OCTETS in force -/
  changeFor : Nat := 0
  iso : Nat := 0
  /-- the head frame did not fit the last grant (R228) -/
  big : Bool := false
  /-- the grants of the next token, position and octets, and the position granted last (R228) -/
  grants : List (Nat × Nat) := []
  lastGrant : Nat := 63
  /-- consecutive good tokens or echoes on a wrapped side, and the cycle at which both folds go (R234) -/
  goodWest : Nat := 0
  goodEast : Nat := 0
  unwrapAt : Option Nat := none
  /-- the last echo sent, its CYCLE and departure; the last received (R235) -/
  echoSent : Nat × Nat := (0, 0)
  echoRx : Nat × Nat := (0, 0)
  /-- the last delays measured on the west link, at most 16, and the last offsets to ring time, at most 64 -/
  delays : List Int := []
  offsets : List Int := []
deriving DecidableEq, Repr

/-- A packet matched to a receive flow, on its way to the engine (R241, R270): its octets, the leg, its receive timestamp in
2⁻¹⁶ ns, and its number in the packet buffer, if it is held there. -/
structure FlowPacket where
  octets : List Byte
  tags : Nat
  leg : Nat
  ts : Nat
  pkt : Option Nat
deriving DecidableEq, Repr

/-- The samples of one period: the first channel index in force when they were parsed (R264), and one sample a channel. -/
structure Period where
  first : Nat := 0
  samples : List Sample := []
deriving DecidableEq, Repr

/-- What became of a period that a tick consumed and that has not closed (R290). -/
inductive Fate where
  | present | concealed | late | muted
deriving DecidableEq, Repr

/-- A transmit packet that has not left on, or been dropped on, every leg (R290): its first period, the combined tags of its
periods, the legs that are open, and whether it left on some leg. -/
structure TxPacket where
  n : Nat
  tags : List Nat
  left : Nat
  sent : Bool := false
deriving DecidableEq, Repr

/-- What a flow holds besides its registers (R262–R291). -/
structure FlowRt where
  /-- packets matched and not parsed -/
  rxq : List FlowPacket := []
  /-- the receive buffer, by media count of the domain (R274) -/
  buf : SMap Period := []
  /-- what each channel delivered last (R276), and the consecutive concealed periods (R277) -/
  last : List Sample := []
  run : Nat := 0
  /-- periods that the last tick consumed, with what became of each (R290) -/
  open_ : List (Nat × Fate) := []
  /-- periods closed while the flow was not OFF (R291) -/
  closed : Nat := 0
  /-- the SSRC last accepted; the last AVTP media time in 2⁻¹⁶ ns and the packets since (R268) -/
  ssrc : Option Nat := none
  avtp : Option (Nat × Nat) := none
  /-- blocks held of the receive pool (R275) -/
  blocks : Nat := 0
  /-- what the flow sluice lacks of its depth, in octets × 10¹¹, and clk of then (R248) -/
  sluice : Nat × Nat := (0, 0)
  /-- clk of the last accepted packet -/
  packetAt : Option Nat := none
  /-- samples that the patch router left on the transmit channels, by media count -/
  txbuf : SMap Period := []
  /-- the periods that are or will be in packets: from the first one, up to the end of the last one (R287, R288) -/
  txFrom : Option Nat := none
  txTo : Option Nat := none
  /-- first period of the next packet -/
  next : Nat := 0
  /-- the RTP sequence number, the AVTP one, and mr, once the flow has entered IN_SERVICE; packets a leg (R267, R268) -/
  seq : Option Nat := none
  mr : Bool := false
  idents : Nat × Nat := (0, 0)
  packets : List TxPacket := []
deriving DecidableEq, Repr

/-- The system time counter and its read latches (R293, R295), the last PPS_IN capture (R298, R302), and what the servo
counts (R301). -/
structure TimeRt where
  sec : BitVec 48 := 0
  ns : Nat := 0
  frac : BitVec 32 := 0
  /-- the latches of PCIe, the management SPI and the register window: seconds and fraction -/
  latchPcie : BitVec 48 × BitVec 16 := (0, 0)
  latchSpi : BitVec 48 × BitVec 16 := (0, 0)
  latchWindow : BitVec 48 × BitVec 16 := (0, 0)
  /-- the SET (1) or STEP (2) that waits for its instant, with its value in ns (R296); by the servo or not -/
  command : Option (Nat × Int × Bool) := none
  /-- the last capture: seconds, nanoseconds, captures since reset; and clk of it (R302) -/
  pps : Nat × Nat × Nat := (0, 0, 0)
  ppsAt : Option Nat := none
  /-- consecutive samples within the lock window, and beyond four of them (R301) -/
  good : Nat := 0
  bad : Nat := 0
  /-- PPS_OUT is high -/
  ppsOut : Bool := false
deriving DecidableEq, Repr

/-- What a synthesizer holds besides its registers (R308–R324). -/
structure McsRt where
  /-- a tick has started since entry to SYNCING -/
  ticking : Bool := false
  /-- the media count and the timestamp, in 2⁻¹⁶ ns of STC time, of the last tick start (R308) -/
  count : Nat := 0
  tickAt : Nat := 0
  /-- timestamps and media counts of the last tick starts, newest first, at most 17, since SYNCING or a re-anchor (R310) -/
  marks : List (Nat × Nat) := []
  /-- the size of the tick that runs, as its logarithm; TICK_LOG2 in force; and one committed that waits for its boundary
  (R311) -/
  running : Nat := 3
  tickLog : Nat := 3
  tickNew : Option Nat := none
  /-- the phase error has been within LOCK_WIN since clk; ticks in a row beyond UNLOCK_WIN (R318) -/
  goodSince : Option Nat := none
  badTicks : Nat := 0
  /-- REF_OK has held since clk (R319) -/
  refSince : Option Nat := none
  /-- what is still to be slewed out, in 2⁻¹⁶ ns (R319) -/
  slew : Int := 0
  /-- the dither register (R317) -/
  lfsr : Word := 0
  /-- what a read of MCSm_COUNT_LO latched: count high word, T64 (R312) -/
  latch : Nat × Nat := (0, 0)
  /-- the source as committed, to see a change (R313) -/
  source : Word := 0x00100000
deriving DecidableEq, Repr

/-- One frame of a port group on its way into CORE (R341): its time in 2⁻¹⁶ ns of STC time and its samples by source index. -/
structure PortFrame where
  t : Nat
  samples : List (Nat × Sample)
deriving DecidableEq, Repr

/-- What a port group holds besides its registers (R328–R347). -/
structure GroupRt where
  /-- the time of the frame in progress, if one has begun; frames begun since entry to SYNCING -/
  frameAt : Option Nat := none
  frames : Nat := 0
  /-- frames in a row without, and with, a frame error (R334, R339) -/
  good : Nat := 0
  errs : Nat := 0
  /-- the block being collected, and complete blocks that have not crossed into CORE, with the count of their first frame -/
  block : List PortFrame := []
  ready : List (Nat × List PortFrame) := []
  /-- the units of its ports that were SYNCING at the last frame sync (R340) -/
  seen : List Nat := []
  /-- the time of the last block's first frame that CORE holds (R330) -/
  blockAt : Nat := 0
  /-- times of the first frames of the last blocks, newest first, at most 17, since entry to SYNCING (R341) -/
  times : List Nat := []
  /-- the centring of inputs and outputs, fixed by the first block, in 2⁻¹⁶ ns (R342, R343) -/
  din : Option Int := none
  dout : Option Int := none
  /-- frames placed, by domain period; what each index delivered last (R345) -/
  inBuf : SMap (List (Nat × Sample)) := []
  last : SMap Sample := []
  /-- output samples by domain period, and the period the last output frame played (R343, R345) -/
  outBuf : SMap (List (Nat × Sample)) := []
  lastOut : Option Nat := none
  /-- for each pair, port × 32 + pin × 16 + pair: frames of non-audio still to go (R347) -/
  nonaudio : SMap Nat := []
  /-- for each pin, port × 2 + pin: frames of SETTLING still to go, and the SLOTS and EN last applied (R337) -/
  remap : SMap Nat := []
  slots : SMap (Nat × Word) := []
  /-- the last frames, newest first, for the rate bridge's filter (R352) -/
  window : List PortFrame := []
deriving DecidableEq, Repr

/-- What a decimator holds besides its registers: the filter and output enables last applied, and the settling counts of its
two outputs (R351). -/
structure DecimRt where
  filt : Nat := 0
  enR : Bool := true
  enF : Bool := true
  leftR : Nat := 0
  leftF : Nat := 0
  /-- a count has reached zero and SETTLED has not been set -/
  done : Bool := false
deriving DecidableEq, Repr

/-- The gain of a patch destination (R370): current level, the target it moves to, and the step of a period; Q8.24. -/
structure LevelRt where
  level : Int := 0
  target : Int := 0
  step : Int := 0
deriving DecidableEq, Repr

/-- What a patch region holds besides its registers: the captured copy of its shadow entries (R366), and whether its tick in
SYNCING has passed (R365). -/
structure RegionRt where
  copy : List Word := []
  synced : Bool := false
deriving DecidableEq, Repr

/-- A slot of the key store (R425): its type and its key. No path reads the key (R425). -/
structure KeySlot where
  kind : Nat := 0
  words : List Word := []
deriving DecidableEq, Repr

/-- One error record with the log entry that goes with it (R407, R412): the record's eight words, the source unit's
descriptor, and the four words at bytes 96 to 111. -/
structure LogEntry where
  cls : Nat
  code : Nat
  unit : Nat
  words : List Word
deriving DecidableEq, Repr

/-- The error machinery (R408–R415). -/
structure ErrRt where
  /-- sequence number of the next record (R407) -/
  seq : Nat := 1
  /-- records logged in the last 10 ms: code, unit, clk (R412) -/
  recent : List (Nat × Nat × Nat) := []
  /-- clk of the last limited append (R412) -/
  lastAppend : Option Nat := none
  /-- records waiting in the deferral queue (R412) -/
  deferred : List LogEntry := []
  /-- subsystem whose restart runs (R414) -/
  restarting : Option Nat := none
  /-- an ECC_UNCORR record has been raised since reset (R418) -/
  eccUncorr : Bool := false
  /-- clk of the last AUDIT record per invariant (R420) -/
  auditLast : List (Nat × Nat) := []
  /-- `AUD_VIOL_*` holds an unread failure (R421) -/
  auditLatched : Bool := false
deriving DecidableEq, Repr

/-- Power states and the operating point, beside their registers (R382–R398). -/
structure PowerRt where
  /-- the state that is being entered or left by the steps of R386, R391, R393, or held: 2 RETAIN, 3 LISTEN; 0 none -/
  toward : Nat := 0
  /-- the exit has begun (R391 step 1) -/
  waking : Bool := false
  /-- domains powered, and the operating point, at entry (R391, R394) -/
  domains : Nat := 0
  opp : Nat := 1
  /-- the individual address of the detector's link, as it stood at entry to LISTEN (R211) -/
  magic : Nat := 0
  /-- bits of PWR_DOMAIN_REQ on their way up, and down (R399) -/
  rising : Nat := 0
  falling : Nat := 0
  /-- an operating-point change (R397, R398): 0 none, 1 down: frequency, 2 down: voltage, 3 up: voltage, 4 up: power good,
  5 up: frequency, 6 back to the old frequency; the new point, and the point the core runs at -/
  change : Nat := 0
  newOpp : Nat := 1
  freq : Nat := 1
  /-- the last STATUS_WORD read in the change (R398) -/
  statusWord : Nat := 0
  /-- WAKE_OUT_N is to be driven low, while OUT_EN is set (R389) -/
  wakeOut : Bool := false
deriving DecidableEq, Repr

/-- Resets (R457–R462). The pins and straps are as the board drives them. -/
structure ResetRt where
  /-- 0 running; 1 held in reset; 2 released, steps 1 to 5 run -/
  phase : Nat := 0
  /-- RESET_N low, or a monitored supply out of range; a thermal shutdown -/
  board : Bool := false
  therm : Bool := false
  /-- PCIE_PERST_N is low -/
  perst : Bool := false
  /-- STRAP_BOOT1:0 and STRAP_HOSTIF -/
  boot : Nat := 0
  hostif : Bool := false
  /-- the reset ends LISTEN (R393): only what LISTEN loses starts anew -/
  warm : Bool := false
deriving DecidableEq, Repr

/-- A boot from an image (R467–R471). -/
structure BootRt where
  /-- the staged body, while STATE is LOADING (R470) -/
  body : List Byte := []
  /-- LOAD_OFS and RESUME of the header -/
  table : Nat := 0
  resume : Word := 0
  /-- the body has been accepted; its table runs -/
  running : Bool := false
  /-- clk at step 6 -/
  since : Nat := 0
deriving DecidableEq, Repr
/-- Security, beside its registers (R423–R436). -/
structure SecRt where
  /-- the system region of peat: the debug flag, the pending-erase flag, MIN_SVN (R423) -/
  debugFlag : Bool := false
  pendingErase : Bool := false
  minSvn : Nat := 0
  /-- steps 1 to 3 of R433 run -/
  erasing : Bool := false
  /-- an erase has failed: key operations answer INTERNAL (R434) -/
  eraseFailed : Bool := false
  /-- the key operation that runs: slot, OP, TYPE (R426) -/
  keyOp : Option (Nat × Nat × Nat) := none
  /-- the peat access that runs: a write or not, and the peat word it was ordered for (R424) -/
  peatOp : Option Bool := none
  peatAt : Nat := 0
  /-- the fuses are being programmed (R430) -/
  fusing : Bool := false
  /-- a FATAL record was raised during the erase: safe state follows it (R435) -/
  safeDue : Bool := false
deriving DecidableEq, Repr
/-- Fragal, beside its registers (R437–R455). -/
structure FragalRt where
  /-- the scope after expansion (R437), in ascending order -/
  scope : List Nat := []
  nonce : Word := 0
  /-- the number of the chunk being filled, its record octets so far, and FIRST (R440) -/
  chunk : Nat := 0
  body : List Byte := []
  first : Option Nat := none
  /-- chunks in which a HEADER starts, newest first (R445) -/
  headers : List Nat := []
  /-- the on-chip buffer by word (R447), and the chunks written into it since START -/
  ocb : SMap Word := []
  written : Nat := 0
  /-- HOSTPTR as last written (R453) -/
  host : Word := 0
  /-- records and octets dropped since the last GAP (R447) -/
  lost : Nat × Nat := (0, 0)
  /-- the CKPT records of the checkpoint that streams; a checkpoint follows it (R445, R446) -/
  ckpt : List (List Byte) := []
  ckptDue : Bool := false
  /-- clk at the start of the segment (R445), and the media count at which the digest interval began (R443) -/
  segment : Nat := 0
  start : Nat := 0
  /-- releases of each causeway not yet in an ORDER record, by name: cycles, oldest first (R442) -/
  orders : List (Nat × List Nat) := []
  /-- in replay: record octets read and not yet released (R450) -/
  trace : List Byte := []
  /-- the operating point that the trace records (R450) -/
  opp : Nat := 1
  /-- a record of the trace is being carried out -/
  driving : Bool := false
  /-- the copy of the trace tail that runs: its first chunk, and whether a HEADER starts there (R449) -/
  tail : Option (Nat × Bool) := none
deriving DecidableEq, Repr
/-- The states of the test access port's controller (IEEE 1149.1, R432). -/
inductive TapState where
  | testLogicReset | runTestIdle | selectDr | captureDr | shiftDr | exit1Dr | pauseDr | exit2Dr | updateDr
  | selectIr | captureIr | shiftIr | exit1Ir | pauseIr | exit2Ir | updateIr
deriving DecidableEq, Repr

/-- The management island's pins and the PMBus master (R485–R489), the sensors (R509), and the TAP (R432). -/
structure MgtRt where
  /-- the host transaction that runs: address, code, kind -/
  xfer : Option (Nat × Nat × Nat) := none
  /-- the warning has been given and not cleared (R509) -/
  warned : Bool := false
  /-- a sensor reads 140 °C or above (R510) -/
  tripped : Bool := false
  /-- the TAP: state, instruction, and the shift register of the path selected -/
  tapState : TapState := .testLogicReset
  tapIr : Nat := 1
  tapShift : Nat := 0
  /-- REGACC as last captured or updated -/
  tapReg : Nat := 0
  /-- an update with GO has been made and its access has not (R433) -/
  tapGo : Bool := false
deriving DecidableEq, Repr
/-- Everything inside the device but its command queue, the engine memories and the fuses. -/
structure Dev where
  /-- register words by byte address; an unlisted word holds its reset value (R11) -/
  regs : SMap Word := []
  /-- live counters and measurements, by shelf address (R66, R67) -/
  stat : SMap Dword := []
  /-- the statistics shelf: the last snapshot (R64) -/
  shelf : SMap Dword := []
  /-- the snapshot being taken (R64, R65) -/
  snap : SnapRt := {}
  /-- the configuration check (R68–R71) -/
  cfg : CfgRt := {}
  /-- WS values outside commit sets that have not applied (R52) -/
  staged : List Staged := []
  /-- written fields of commit sets not yet committed (R55) -/
  held : List Staged := []
  /-- accepted sets that have not applied (R56, R57) -/
  accepted : List (SetId × List Staged) := []
  /-- posted writes that the slow domain has not taken (R59) -/
  posted : List Staged := []
  /-- what stands from each path in the present boundary intervals (R112) -/
  stands : List Stand := []
  /-- what units hold besides their registers (R27–R45, R515) -/
  units : SMap UnitRt := []
  /-- cabinet orders walking their members (R38) -/
  walks : List Walk := []
  /-- waits for orders to end (R103, R136) -/
  waits : List WaitRec := []
  /-- the host paths (R74–R87) -/
  host : HostRt := {}
  /-- tenant queues: tenant × 4 + queue (0 command, 1 completion, 2 event) (R89–R98) -/
  queues : SMap Queue := []
  /-- commands fetched and not completed (R100) -/
  cmds : List Cmd := []
  /-- host channel rings (R109–R111) -/
  hch : SMap HchRt := []
  /-- error records, fault log, restarts (R404–R416) -/
  err : ErrRt := {}
  /-- the system time counter (R293–R297) -/
  time : TimeRt := {}
  /-- TIME cycles since reset, in nanoseconds: what the limits and timers of the rules are measured in -/
  clk : Nat := 0
  /-- the model's own: how many free values have been drawn -/
  free : Nat := 0
  /-- the model's own record of what left the device; no rule reads it -/
  out : List Output := []
  /-- what the device has written to host memory by DMA (R94, R111, R447) -/
  hostMem : SMap Byte := []
  /-- the persistent store, by 64-bit word number (R423); unlisted words read zero -/
  peat : SMap Dword := []
  /-- writes of the command being carried out to the engine memories; empty between commands -/
  memw : List MemOp := []
  /-- engine contexts: 0–63 signal engines, 64 + 8s + t thread t of steward s (R116) -/
  ctxs : SMap Ctx := []
  /-- steward entry tables as bound: steward × 1024 + entry (R164) -/
  entries : SMap EntryRt := []
  /-- mailboxes: steward × 32 + global thread (R138) -/
  boxes : SMap Mailbox := []
  /-- steward start queues (R167) -/
  stewards : SMap StewardRt := []
  /-- firings of entry triggers not yet handled: steward × 1024 + entry, and the data (R169) -/
  firings : List (Nat × Word) := []
  /-- the sample store by source index × 64 + period, as the sources left it for the patch router (R128, R359) -/
  src : SMap Sample := []
  /-- what the patch router delivered for the current tick, by destination index × 64 + period (R128, R361) -/
  dst : SMap Sample := []
  /-- links (R175–R206) -/
  links : SMap LinkRt := []
  /-- the switch core and the local frames (R207–R210, R239–R257) -/
  swc : SwcRt := {}
  /-- clk + 1 of the last setting of leaves limited to one per 10 ms, by word address × 32 + bit (R200, R213, R255) -/
  evLimit : SMap Nat := []
  /-- the key store (R425) -/
  keys : SMap KeySlot := []
  /-- rings (R214–R238) -/
  rings : SMap RingRt := []
  /-- flows (R258–R292) -/
  flows : SMap FlowRt := []
  /-- synthesizers and their domains (R308–R324) -/
  mcs : SMap McsRt := []
  /-- rate meters: the class of the last gate, and how many gates in a row gave it (R326) -/
  meters : SMap (Nat × Nat) := []
  /-- what the moves of the tick in progress write, by destination index × 64 + period (R361, R362) -/
  moving : SMap Sample := []
  /-- port groups (R328–R347) -/
  groups : SMap GroupRt := []
  /-- decimators (R348–R351) -/
  decims : SMap DecimRt := []
  /-- rate bridges whose measured ratio lies outside 0.25 to 4.0: 1 (R355) -/
  bridges : SMap Nat := []
  /-- patch regions (R364–R367) -/
  regions : SMap RegionRt := []
  /-- the gains of patch destinations, by table word (R370) -/
  levels : SMap LevelRt := []
  /-- meter cells: 1 + the index each is bound to; loudness cells at 0x10000 + c (R373) -/
  cells : SMap Nat := []
  /-- the model's own: units whose SUM is brought up to date when the command ends; empty between commands -/
  nudge : List Nat := []
  /-- power states, wake sources, the operating point (R382–R398) -/
  pwr : PowerRt := {}
  /-- resets and straps (R457–R462) -/
  rst : ResetRt := {}
  /-- a boot from an image (R467–R471) -/
  boot : BootRt := {}
  /-- security (R423–R436) -/
  sec : SecRt := {}
  /-- Fragal (R437–R455) -/
  frg : FragalRt := {}
  /-- the management island's pins, the PMBus master, the TAP (R432, R485–R489) -/
  mgt : MgtRt := {}
deriving DecidableEq, Repr

/-- The key hash fuses (R430): one-time programmable, kept by every reset. -/
structure Fuses where
  programmed : Bool := false
  hash : List Word := List.replicate 8 0
deriving DecidableEq, Repr

/-- The state of the block: the commands that wait, first in, first out; the memories of the Ulfel engines (R150) by
register map address, an unlisted byte reading 0 (R463); the fuses; and the rest of the device. -/
structure State where
  pending : List Instr
  mem : List Host.Cell
  fuses : Fuses
  dev : Dev
deriving DecidableEq, Repr

/-- Why a command stops the model. Closed. -/
inductive Fault where
  /-- a command's operand list is not of the spec's form. Raised by no command: such a list is cut or padded with zeros (log 2). Safe:
  no such transaction exists on the hardware. -/
  | illFormed
deriving DecidableEq, Repr

/-- Why a command is refused by the model. Closed. -/
inductive Refusal where
  /-- the command has no meaning yet; raised by exec's own arms alone. Safe: nothing is claimed of it. -/
  | notModelled (mnemonic : String)
deriving DecidableEq, Repr

/-- The machine at step 6 of the reset sequence after a cold start (R459, R463) with straps 0b00 and STRAP_HOSTIF 0
(DESIGN CHOICE, log 4): every register word unlisted, so at its reset value, but the two that
R466 and R467 give and the level of PCIE_PERST_N, which is high (R461, R485). -/
def State.reset : State :=
  { pending := [], mem := [], fuses := {},
    dev := { regs := [(A.MGT_BOOT_STATUS, 3), (A.MGT_RESET_CAUSE, 1), (A.MGT_PIN_LEVEL, 4)] } }

end Sys2Proof.Machine
end

