-- ==== Sys2Proof/Machine/Ops.lean ====
section
/-! DEFINITION. The named operations every command is written with: fields of words, registers and their fields, counters,
time, free values, what leaves the device. -/
namespace Sys2Proof.Machine

/-- Bits `lo + n - 1 … lo` of a word. -/
def bits (w : Word) (lo n : Nat) : Nat := w.toNat / 2 ^ lo % 2 ^ n

/-- The word with bits `lo + n - 1 … lo` replaced by the low `n` bits of `v`. -/
def putBits (w : Word) (lo n v : Nat) : Word := BitVec.ofNat 32 (w.toNat - bits w lo n * 2 ^ lo + v % 2 ^ n * 2 ^ lo)

/-- The mask of a field. -/
def fieldMask (lo n : Nat) : Word := BitVec.ofNat 32 ((2 ^ n - 1) * 2 ^ lo)

/-- The value of `n`-bit two's complement. -/
def toSigned (n v : Nat) : Int := if v % 2 ^ n < 2 ^ (n - 1) then (v % 2 ^ n : Nat) else (v % 2 ^ n : Nat) - (2 ^ n : Nat)

/-- A signed value as an `n`-bit two's complement number. -/
def ofSigned (n : Nat) (v : Int) : Nat := (v % (2 ^ n : Nat)).toNat

/-- `v` held within `lo … hi`. -/
def clampInt (lo hi v : Int) : Int := if v < lo then lo else if hi < v then hi else v

/-- A register word, as the register file holds it (R8). -/
def Dev.reg (d : Dev) (a : Nat) : Word := SMap.get resetWord d.regs a

/-- The register file with a new word. -/
def Dev.setReg (d : Dev) (a : Nat) (w : Word) : Dev := { d with regs := SMap.put resetWord a w d.regs }

/-- A register field. -/
def Dev.rd (d : Dev) (f : Fld) : Nat := bits (d.reg f.addr) f.lo f.width

/-- A register field is not zero. -/
def Dev.on (d : Dev) (f : Fld) : Bool := d.rd f != 0

/-- The register field holds `v`. -/
def Dev.wr (d : Dev) (f : Fld) (v : Nat) : Dev := d.setReg f.addr (putBits (d.reg f.addr) f.lo f.width v)

/-- A counter field counts `n`; it saturates. -/
def Dev.sat (d : Dev) (f : Fld) (n : Nat) : Dev := d.wr f (min (d.rd f + n) (2 ^ f.width - 1))

/-- A counter field counts one; it wraps. -/
def Dev.wrap (d : Dev) (f : Fld) : Dev := d.wr f (d.rd f + 1)

/-- Bit `b` of a leaf register is set. -/
def Dev.setBit (d : Dev) (a b : Nat) : Dev := d.setReg a (putBits (d.reg a) b 1 1)

/-- A 64-bit counter by its shelf address (R66). -/
def Dev.stat64 (d : Dev) (a : Nat) : Nat := (SMap.get (fun _ => 0) d.stat a).toNat

/-- A 64-bit counter holds `v`. -/
def Dev.setStat (d : Dev) (a v : Nat) : Dev := { d with stat := SMap.put (fun _ => 0) a (BitVec.ofNat 64 v) d.stat }

/-- A 64-bit counter counts `n`; it saturates (R66). -/
def Dev.count (d : Dev) (a n : Nat) : Dev := d.setStat a (min (d.stat64 a + n) (2 ^ 64 - 1))

/-- The system time as T64: seconds [33:0] in [63:30], nanoseconds in [29:0] (R294). -/
def Dev.t64 (d : Dev) : Nat := d.time.sec.toNat % 2 ^ 34 * 2 ^ 30 + d.time.ns % 2 ^ 30

/-- The low and the high word of a 64-bit number. -/
def loWord (v : Nat) : Word := BitVec.ofNat 32 (v % 2 ^ 32)
/-- The high word of a 64-bit number. -/
def hiWord (v : Nat) : Word := BitVec.ofNat 32 (v / 2 ^ 32)

/-- T64 of a system time in nanoseconds (R294). -/
def t64Of (ns : Nat) : Nat := ns / 1000000000 % 2 ^ 34 * 2 ^ 30 + ns % 1000000000

/-- The system time in nanoseconds since its zero. -/
def Dev.stcNs (d : Dev) : Nat := d.time.sec.toNat * 1000000000 + d.time.ns

/-- The system time with its fraction, in 2⁻³² ns. -/
def Dev.stcFine (d : Dev) : Nat := d.stcNs * 2 ^ 32 + d.time.frac.toNat

/-- The system time set to a count of 2⁻³² ns (R293, R296). -/
def Dev.setStcFine (d : Dev) (v : Nat) : Dev :=
  { d with time := { d.time with
      sec := BitVec.ofNat 48 (v / 2 ^ 32 / 1000000000), ns := v / 2 ^ 32 % 1000000000,
      frac := BitVec.ofNat 32 (v % 2 ^ 32) } }

/-- Something leaves the device: appended to the model's own record. -/
def Dev.emit (d : Dev) (o : Output) : Dev := { d with out := d.out ++ [o] }

/-- The next free value is drawn (the counter moves on). -/
def Dev.draw (d : Dev) : Dev := { d with free := d.free + 1 }

/-- A list of steps over the device. -/
def Dev.each {α : Type} (d : Dev) (xs : List α) (f : Dev → α → Dev) : Dev := xs.foldl f d

/-- `f` where `c` holds. -/
def Dev.when (d : Dev) (c : Bool) (f : Dev → Dev) : Dev := if c then f d else d

/-- One octet written to host memory. -/
def Dev.hostByte (d : Dev) (a : Nat) (b : Byte) : Dev := { d with hostMem := SMap.put (fun _ => 0) a b d.hostMem }

/-- The octets of a little-endian word (R8). -/
def wordBytes (w : Word) : List Byte := [w.extractLsb' 0 8, w.extractLsb' 8 8, w.extractLsb' 16 8, w.extractLsb' 24 8]

/-- The little-endian word of up to four octets. -/
def bytesWord : List Byte → Word
  | b0 :: b1 :: b2 :: b3 :: _ => b3 ++ b2 ++ b1 ++ b0
  | [b0, b1, b2] => (0 : Byte) ++ b2 ++ b1 ++ b0
  | [b0, b1] => (0 : BitVec 16) ++ b1 ++ b0
  | [b0] => (0 : BitVec 24) ++ b0
  | [] => 0

/-- Octets written to consecutive host addresses. -/
def Dev.hostBytes (d : Dev) (a : Nat) : List Byte → Dev
  | [] => d
  | b :: bs => Dev.hostBytes (d.hostByte a b) (a + 1) bs

/-- Words written to host memory by DMA. -/
def Dev.hostWords (d : Dev) (a : Nat) (ws : List Word) : Dev := d.hostBytes a (ws.flatMap wordBytes)

/-- A peat word (R423). -/
def Dev.peatWord (d : Dev) (i : Nat) : Dword := SMap.get (fun _ => 0) d.peat i

/-- A peat word is written. -/
def Dev.setPeat (d : Dev) (i : Nat) (w : Dword) : Dev := { d with peat := SMap.put (fun _ => 0) i w d.peat }

/-- 32-bit words into peat, two to a peat word, low word first, from peat word `i` on. -/
def Dev.peatWords (d : Dev) (i : Nat) : List Word → Dev
  | lo :: hi :: ws => Dev.peatWords (d.setPeat i (hi ++ lo)) (i + 1) ws
  | [lo] => d.setPeat i ((0 : Word) ++ lo)
  | [] => d

/-- What a unit holds besides its registers. -/
def Dev.unit (d : Dev) (u : Nat) : UnitRt := SMap.get (fun _ => {}) d.units u

/-- The unit's runtime part is replaced. -/
def Dev.setUnit (d : Dev) (u : Nat) (r : UnitRt) : Dev := { d with units := SMap.put (fun _ => {}) u r d.units }

/-- The state of a unit (R27): 0 OFF, 1 STANDBY, 2 SYNCING, 3 IN_SERVICE, 4 DRAINING, 5 FAULTED. -/
def Dev.ustate (d : Dev) (u : Nat) : Nat := d.rd (F.UNIT_STATE_STATE u)

/-- SYNCING or IN_SERVICE. -/
def Dev.active (d : Dev) (u : Nat) : Bool := d.ustate u == 2 || d.ustate u == 3

/-- An island of `PWR_DOMAIN_STATE`: 0 CORE, 1 HOST, 2 MGT, 3 TIME, 4 SEC, 5 AON (R383). -/
def Dev.island (d : Dev) (i : Nat) : Bool := d.rd F.PWR_DOMAIN_STATE_ISLANDS / 2 ^ i % 2 == 1

/-- A domain of `PWR_DOMAIN_STATE.ON`: clusters 0–3, quads 4–9, synthesizers 10–17 (R383). -/
def Dev.domainOn (d : Dev) (i : Nat) : Bool := d.rd F.PWR_DOMAIN_STATE_ON / 2 ^ i % 2 == 1

/-- The power state (R382): 0 ACTIVE, 1 QUIET, 2 RETAIN, 3 LISTEN. -/
def Dev.power (d : Dev) : Nat := d.rd F.PWR_STATUS_STATE

/-- CORE answers and runs: its island is powered (R47), and no power entry or exit keeps it away (R386). -/
def Dev.coreOn (d : Dev) : Bool := d.island 0 && d.pwr.toward == 0

/-- The device is held in reset or runs steps 1 to 5 of its reset sequence (R459). -/
def Dev.inReset (d : Dev) : Bool := d.rst.phase != 0

/-- Safe state (R415). -/
def Dev.safe (d : Dev) : Bool := d.on F.ERR_STATUS_SAFE

/-- A word of a function's MSI-X table (R75): entry × 4 + word; the fourth word of an entry has its mask bit, set until
software clears it (PRESUMED, log 9). -/
def Dev.msixWord (d : Dev) (fn k : Nat) : Word :=
  SMap.get (fun k => if k % 4 = 3 then 1 else 0) d.host.msix (fn * 4096 + k)

/-- A word of an MSI-X table is written. -/
def Dev.setMsix (d : Dev) (fn k : Nat) (w : Word) : Dev :=
  { d with host := { d.host with msix := SMap.put (fun k => if k % 4 = 3 then 1 else 0) (fn * 4096 + k) w d.host.msix } }

/-- An MSI-X vector of a function is signalled: sent, or left pending while its entry is masked; lost in D3hot and while
the HOST island is off (R76, R79). -/
def Dev.signal (d : Dev) (fn v : Nat) : Dev :=
  if d.host.d3hot.contains fn || !d.island 1 then d
  else if (d.msixWord fn (4 * v + 3)).getLsbD 0 then
    if d.host.pba.contains (fn, v) then d else { d with host := { d.host with pba := d.host.pba ++ [(fn, v)] } }
  else d.emit (.vector fn v)

/-- The virtual function and the page of a tenant, where a good map places it (R77). -/
def Dev.vfOf (d : Dev) (t : Nat) : Option (Nat × Nat) :=
  if d.host.vfEnable then
    (d.host.vfMaps.find? (fun m => m.2.1 ≤ t && t < m.2.1 + m.2.2)).map (fun m => (m.1, t - m.2.1))
  else none

/-- A tenant's vector is signalled (R76, R77). -/
def Dev.signalTenant (d : Dev) (t : Nat) : Dev :=
  match d.vfOf t with
  | some (v, i) => d.signal v i
  | none => d.signal 0 t

/-- A tenant is bound to the management SPI (R86); tenant 0 by its primary path (R87). -/
def Dev.spiBound (d : Dev) (t : Nat) : Bool :=
  if t = 0 then d.on F.HOST_T0_PATH_PATH else d.rd (F.HOST_BIND_SPI (t / 32)) / 2 ^ (t % 32) % 2 == 1

/-- The path an access counts for under R112 to R115: the management SPI, or PCIe. The test access port counts as the
SPI (R433); a steward's window and the boot load table count as tenant 0's primary path (R112, DEDUCED, log 5). -/
def Dev.pathIsSpi (d : Dev) : Path → Bool
  | .spi => true
  | .jtag => true
  | .pcie => false
  | .vf _ => false
  | .msix _ => false
  | .window => d.on F.HOST_T0_PATH_PATH
  | .boot => d.on F.HOST_T0_PATH_PATH

/-- SUM of a root member whose PROPAGATE is set (R45): of the units whose event word the register file lists. -/
def Dev.unitsSum (d : Dev) : Bool :=
  d.regs.any (fun e =>
    0x10000 ≤ e.1 && e.1 < 0x50000 && e.1 % 0x40 == 0x10 && bits e.2 0 1 == 1 &&
    (let u := (e.1 - 0x10000) / 0x40
     u != 0 && d.on (F.UNIT_EVT_EN_PROPAGATE u) && d.rd (F.UNIT_LINK_PARENT u) == 0))

/-- `GLB_EVT_SUMMARY` (R72). -/
def Dev.summary (d : Dev) : Nat :=
  (if d.unitsSum then 1 else 0) + (if d.on F.ERR_FIRST_HDR_VALID then 2 else 0) +
  (if d.on F.CFG_STATUS_MISMATCH then 4 else 0) + (if d.on F.AUD_EVT_VIOL then 8 else 0) +
  (if d.on F.THERM_EVT_EVT then 16 else 0) + (if d.on F.GLB_BUSERR_INFO_VALID then 32 else 0) +
  (if d.on F.GLB_CONFLICT_VALID then 64 else 0)

/-- The vectors of the bits of `GLB_EVT_SUMMARY`: ERR, UNITS, CFG, AUDIT, THERM, BUSERR, CONFLICT (R76). -/
def summaryVectors : List (Nat × Nat) := [(1, 512), (0, 513), (2, 514), (3, 515), (4, 516), (5, 517), (6, 518)]

/-- The rising edges of `GLB_EVT_SUMMARY` are signalled (R76). -/
def Dev.settle (d : Dev) : Dev :=
  let now := d.summary
  let d' := d.each summaryVectors (fun d b =>
    if now / 2 ^ b.1 % 2 = 1 && d.host.sumPrev / 2 ^ b.1 % 2 = 0 then d.signal 0 b.2 else d)
  { d' with host := { d'.host with sumPrev := now } }

/-! ### Engine memories, and the carrying out of a command -/

/-- What an operation may read besides the device: the engine memories and the fuses. -/
structure Env where
  mem : List Host.Cell
  fuses : Fuses
deriving DecidableEq, Repr

/-- An octet of the engine memories; an unlisted one reads zero (R463). -/
def memByte (m : List Host.Cell) (a : Nat) : Byte := SMap.get (fun _ => 0) m a

/-- An octet of the engine memories is written. -/
def memPut (m : List Host.Cell) (a : Nat) (b : Byte) : List Host.Cell := SMap.put (fun _ => 0) a b m

/-- The engine memories are in the canonical form: addresses strictly rising, no entry that reads as an unlisted one. -/
def Memory.wf (m : List Host.Cell) : Bool := SMap.wf (fun _ => (0 : Byte)) m

/-- One write of a command takes place: an octet, or a bank that reads zero from now on (R390). -/
def MemOp.apply (m : List Host.Cell) : MemOp → List Host.Cell
  | .byte a b => memPut m a b
  | .clear lo hi => m.filter (fun e => !(lo ≤ e.1 && e.1 < hi))

/-- The writes of a command take place in order. -/
def applyMem (ops : List MemOp) (m : List Host.Cell) : List Host.Cell := ops.foldl MemOp.apply m

/-- The engine memories as the command sees them: with what it has written itself. -/
def Dev.memNow (d : Dev) (env : Env) : List Host.Cell := applyMem d.memw env.mem

/-- Octets of the engine memories from a register map address on. -/
def memBytes (m : List Host.Cell) (a : Nat) : Nat → List Byte
  | 0 => []
  | n + 1 => memByte m a :: memBytes m (a + 1) n

/-- A word of the engine memories. -/
def memWordAt (m : List Host.Cell) (a : Nat) : Word := bytesWord (memBytes m a 4)

/-- Octets written to the engine memories. -/
def Dev.memStore (d : Dev) (a : Nat) (bs : List Byte) : Dev :=
  { d with memw := d.memw ++ bs.zipIdx.map (fun e => MemOp.byte (a + e.2) e.1) }

end Sys2Proof.Machine
end

