-- ==== Sys2Proof/Machine/Records.lean ====
section
/-! DEFINITION. Error records (R404–R412): their placement in `ERR_FIRST` and `ERR_NEXT`, and the fault log in peat. The
effect of a record's class on units is in Errors.lean. -/
namespace Sys2Proof.Machine

/-- The counters of the error machinery, by shelf address (R422). -/
abbrev Ctr.ERR_CLASS (c : Nat) : Nat := 0x800100 + 8 * c
abbrev Ctr.FATAL_IN_SAFE : Nat := 0x800120
abbrev Ctr.LOG_APPENDED : Nat := 0x800128
abbrev Ctr.LOG_MERGED : Nat := 0x800130
abbrev Ctr.LOG_DEFERRED : Nat := 0x800138
abbrev Ctr.ECC_CORR : Nat := 0x800140
abbrev Ctr.RESTARTS : Nat := 0x800148
abbrev Ctr.LOG_DROPPED : Nat := 0x800150
/-- The counters of the audit (R422). -/
abbrev Ctr.CHECKS : Nat := 0x802000
abbrev Ctr.VIOL (i : Nat) : Nat := 0x802008 + 8 * i
abbrev Ctr.REGEN_QUEUE : Nat := 0x802038
abbrev Ctr.REGEN_CAUSEWAY : Nat := 0x802040
abbrev Ctr.REGEN_TOKEN : Nat := 0x802048
abbrev Ctr.REGEN_RESTART : Nat := 0x802050

/-- The power counters, by shelf address (R403). -/
abbrev Ctr.PWR (i : Nat) : Nat := 0x803000 + 8 * i
/-- `n` causeways are re-granted (R381), deliberately and counted (R22, R403, R422). -/
def Dev.regrant (d : Dev) (n : Nat) : Dev := (d.count (Ctr.PWR 8) n).count Ctr.REGEN_CAUSEWAY n

/-- The subsystem of a class (R413). -/
def subsysOfClass (cls : Nat) : Nat :=
  match cls with
  | 0x01 => 0 | 0x02 => 1 | 0x03 => 3 | 0x04 => 3 | 0x11 => 4 | 0x09 => 5 | 0x05 => 6 | 0x06 => 6 | 0x07 => 6
  | 0x08 => 6 | 0x0C => 7 | 0x0A => 8 | 0x0B => 8 | 0x0D => 9 | 0x0F => 0xA | _ => 0xB

/-- The subsystem of a unit (R413). -/
def subsysOf (u : Nat) : Nat := subsysOfClass ((classOf u).getD 0x10)

/-- The words of a record (R407). -/
def recordWords (seq cls code subsys src : Nat) (t : Nat) (info0 info1 : Word) : List Word :=
  [BitVec.ofNat 32 (seq + cls * 2 ^ 16 + subsys * 2 ^ 20 + 2 ^ 31), BitVec.ofNat 32 (src + code * 2 ^ 16),
   loWord t, hiWord t, info0, info1, 0, 0]

/-- Consecutive register words are written. -/
def Dev.setRegs (d : Dev) (a : Nat) : List Word → Dev
  | [] => d
  | w :: ws => Dev.setRegs (d.setReg a w) (a + 4) ws

/-- Consecutive register words. -/
def Dev.regsAt (d : Dev) (a : Nat) : Nat → List Word
  | 0 => []
  | n + 1 => d.reg a :: Dev.regsAt d (a + 4) n

/-- A record counts in `ERR_LOST` (R408). -/
def Dev.lostRecord (d : Dev) (cls : Nat) : Dev :=
  (d.wr F.ERR_LOST_MAXCLASS (max (d.rd F.ERR_LOST_MAXCLASS) cls)).sat F.ERR_LOST_COUNT 1

/-- A record is placed (R408, R409). -/
def Dev.placeRecord (d : Dev) (cls : Nat) (ws : List Word) : Dev :=
  let escalate (d : Dev) : Dev :=
    d.when (d.rd F.ERR_FIRST_HDR_CLASS < cls) (fun d => (d.wr F.ERR_STATUS_ESCALATED 1).signal 0 512)
  if !d.on F.ERR_FIRST_HDR_VALID then d.setRegs A.ERR_FIRST_HDR ws
  else if !d.on F.ERR_NEXT_HDR_VALID then escalate (d.setRegs A.ERR_NEXT_HDR ws)
  else if d.rd F.ERR_NEXT_HDR_CLASS < cls then
    escalate ((d.lostRecord (d.rd F.ERR_NEXT_HDR_CLASS)).setRegs A.ERR_NEXT_HDR ws)
  else d.lostRecord cls

/-- A log entry is written to peat, and the head moves on (R412). -/
def Dev.appendLog (d : Dev) (e : LogEntry) : Dev :=
  ((d.peatWords (0x4000 / 8 + d.rd F.ERR_LOG_HEAD * 32) (e.words ++ List.replicate 36 0)).wrap
    F.ERR_LOG_HEAD).count Ctr.LOG_APPENDED 1

/-- The log entry of a record at this moment (R412): the record, the source unit's descriptor, `GLB_EVT_SUMMARY`,
`PWR_STATUS`, `CLK_OPP_STATUS`, `ERR_LOST`. -/
def Dev.logEntry (d : Dev) (cls code src : Nat) (ws : List Word) : LogEntry :=
  { cls, code, unit := src,
    words := ws ++ d.regsAt (0x10000 + src * 0x40) 16 ++
      [BitVec.ofNat 32 d.summary, d.reg A.PWR_STATUS, d.reg A.CLK_OPP_STATUS, d.reg A.ERR_LOST] }

/-- The 1 ms limit of the log allows an append (R412). -/
def Dev.logAllows (d : Dev) : Bool :=
  match d.err.lastAppend with
  | none => true
  | some t => t + 1000000 ≤ d.clk

/-- A record is logged, merged, deferred or dropped (R412). -/
def Dev.logRecord (d : Dev) (cls code src : Nat) (ws : List Word) : Dev :=
  let recent := d.err.recent.filter (fun r => d.clk < r.2.2 + 10000000)
  let d := { d with err := { d.err with recent := recent } }
  let logged (d : Dev) : Dev := { d with err := { d.err with recent := (code, src, d.clk) :: d.err.recent } }
  if cls = 0 && recent.any (fun r => r.1 = code && r.2.1 = src) then d.count Ctr.LOG_MERGED 1
  else
    let e := d.logEntry cls code src ws
    if 2 ≤ cls then logged (d.appendLog e)
    else if d.err.deferred.isEmpty && d.logAllows then
      logged { d.appendLog e with err := { d.err with lastAppend := some d.clk } }
    else if d.err.deferred.length < 16 then
      logged ({ d with err := { d.err with deferred := d.err.deferred ++ [e] } }.count Ctr.LOG_DEFERRED 1)
    else d.count Ctr.LOG_DROPPED 1

/-- The sequence number after `n`: from 0xFFFF to 0x0001 (R407). -/
def nextSeq (n : Nat) : Nat := if n = 0xFFFF then 1 else n + 1

/-- A record is raised: numbered, counted, placed and logged. In safe state a FATAL record is only counted (R411). -/
def Dev.record (d : Dev) (cls code subsys src : Nat) (info0 info1 : Word) : Dev :=
  if d.safe && cls = 3 then d.count Ctr.FATAL_IN_SAFE 1
  else
    let ws := recordWords d.err.seq cls code subsys src d.t64 info0 info1
    let d := { d with err := { d.err with seq := nextSeq d.err.seq } }
    ((d.count (Ctr.ERR_CLASS cls) 1).placeRecord cls ws).logRecord cls code src ws

end Sys2Proof.Machine
end

