-- ==== Sys2Proof/Machine/Queues.lean ====
section
/-! DEFINITION. The queue model (R89–R93) for tenant queues: completions, events, thresholds, queue resets. -/
namespace Sys2Proof.Machine

/-- A tenant queue's place in the map of queues: tenant × 4 + queue (0 command, 1 completion, 2 event). -/
def qKey (t q : Nat) : Nat := t * 4 + q

/-- A tenant queue. -/
def Dev.queue (d : Dev) (t q : Nat) : Queue := SMap.get (fun _ => {}) d.queues (qKey t q)

/-- The tenant queue is replaced. -/
def Dev.setQueue (d : Dev) (t q : Nat) (x : Queue) : Dev :=
  { d with queues := SMap.put (fun _ => {}) (qKey t q) x d.queues }

/-- Fields of a queue's configuration: CQ_CFG and EQ_CFG have the layout of SQ_CFG (R95). -/
abbrev F.Q_DEPTH_LOG2 (t q : Nat) : Fld := ⟨A.SQ_CFG t + 0x10 * q, 0, 4⟩
abbrev F.Q_THRESH (t q : Nat) : Fld := ⟨A.SQ_CFG t + 0x10 * q, 8, 12⟩
abbrev F.Q_IRQ (t q : Nat) : Fld := ⟨A.SQ_CFG t + 0x10 * q, 30, 1⟩
abbrev F.Q_EN (t q : Nat) : Fld := ⟨A.SQ_CFG t + 0x10 * q, 31, 1⟩
abbrev A.Q_BASE_LO (t q : Nat) : Nat := A.SQ_BASE_LO t + 0x10 * q
abbrev A.Q_BASE_HI (t q : Nat) : Nat := A.SQ_BASE_LO t + 0x10 * q + 4

/-- The depth of a tenant queue (R94, R95). -/
def Dev.qDepth (d : Dev) (t q : Nat) : Nat :=
  if d.spiBound t then (if q = 2 then 16 else 8) else 2 ^ d.rd (F.Q_DEPTH_LOG2 t q)

/-- Entries in a queue. -/
def Queue.fill (x : Queue) : Nat := (x.wr - x.rd).toNat

/-- The two copies of both pointers agree (R93). -/
def Queue.ok (x : Queue) : Bool := x.wr == x.wr2 && x.rd == x.rd2

/-- The write pointer, both copies, moves on by `n`. -/
def Queue.advWr (x : Queue) (n : Nat) : Queue := { x with wr := x.wr + BitVec.ofNat 16 n, wr2 := x.wr2 + BitVec.ofNat 16 n }

/-- The read pointer, both copies, moves on by `n`. -/
def Queue.advRd (x : Queue) (n : Nat) : Queue := { x with rd := x.rd + BitVec.ofNat 16 n, rd2 := x.rd2 + BitVec.ofNat 16 n }

/-- Host address of a ring's base (R95). -/
def Dev.qBase (d : Dev) (t q : Nat) : Nat :=
  (d.reg (A.Q_BASE_LO t q)).toNat / 4096 * 4096 + (d.reg (A.Q_BASE_HI t q)).toNat * 2 ^ 32

/-- The phase of the next entry: 1 on the first pass of a ring, inverted on each wrap; 1 always in the port (R104). -/
def Dev.phase (d : Dev) (t q : Nat) (x : Queue) : Nat :=
  if d.spiBound t then 1 else 1 - x.wr.toNat / d.qDepth t q % 2

/-- An entry is put into a completion or event queue that holds a credit: to host memory or to the device's own queue;
the tenant's vector is signalled once until HEAD is written (R94, R106). Word 0 gets its PHASE. -/
def Dev.pushEntry (d : Dev) (t q : Nat) (ws : List Word) : Dev :=
  let x := d.queue t q
  let ws := match ws with
    | w :: r => putBits w 31 1 (d.phase t q x) :: r
    | [] => []
  let d := if d.spiBound t then d
    else d.hostWords (d.qBase t q + x.wr.toNat % d.qDepth t q * (4 * ws.length)) ws
  let x' := { x.advWr 1 with
    entries := if d.spiBound t then x.entries ++ [ws] else x.entries, credits := x.credits - 1,
    armed := x.armed && !d.on (F.Q_IRQ t q) }
  (d.setQueue t q x').when (x.armed && d.on (F.Q_IRQ t q)) (fun d => d.signalTenant t)

/-- The words of an event (R105), its PHASE aside. -/
def Dev.eventWords (d : Dev) (u kind : Nat) (detail : Word) : List Word :=
  [BitVec.ofNat 32 (u + kind * 2 ^ 16), detail, loWord d.t64, hiWord d.t64]

/-- An event goes to a tenant's event queue, or is counted and dropped (R97). -/
def Dev.postRaw (d : Dev) (t u kind : Nat) (detail : Word) : Dev :=
  let x := d.queue t 2
  if !d.on (F.Q_EN t 2) || x.stopped || x.credits = 0 then d.setQueue t 2 { x with dropped := x.dropped + 1 }
  else d.pushEntry t 2 (d.eventWords u kind detail)

/-- The fill of a queue has risen from below its threshold (R92). -/
def Dev.crossed (d : Dev) (t q old : Nat) : Bool :=
  let l := d.rd (F.Q_THRESH t q)
  l != 0 && old < l && l ≤ (d.queue t q).fill

/-- The detail of a threshold or re-grant event of a tenant queue (R105). -/
def queueDetail (q : Nat) : Word := BitVec.ofNat 32 q

/-- The unit named in events that concern no unit, as in completions (R104; DEDUCED, log 6). -/
abbrev noUnit : Nat := 0xFFF

/-- A crossing: counted exactly, its leaf set, its event posted or held by the 10 ms limit (R92, R45). -/
def Dev.crossing (d : Dev) (t q : Nat) (post : Dev → Dev) : Dev :=
  let x := d.queue t q
  let d := d.wr (F.QSTAT_THR t) (Nat.lor (d.rd (F.QSTAT_THR t)) (2 ^ q))
  let free := match x.thrPost with
    | none => true
    | some c => c + 10000000 ≤ d.clk
  if free && !x.thrHeld then post (d.setQueue t q { x with crossings := x.crossings + 1, thrPost := some d.clk })
  else d.setQueue t q { x with crossings := x.crossings + 1, thrHeld := true }

/-- An event is posted to a tenant, with the threshold of its event queue (R92, R97, R105). -/
def Dev.postEvent (d : Dev) (t u kind : Nat) (detail : Word) : Dev :=
  let old := (d.queue t 2).fill
  let d := d.postRaw t u kind detail
  d.when (d.crossed t 2 old) (fun d => d.crossing t 2 (fun d => d.postRaw t noUnit 2 (queueDetail 2)))

/-- The threshold of a command or completion queue whose fill was `old` (R92). -/
def Dev.threshold (d : Dev) (t q old : Nat) : Dev :=
  d.when (d.crossed t q old) (fun d => d.crossing t q (fun d => d.postEvent t noUnit 2 (queueDetail q)))

/-- A completion's words without PHASE, credits and time (R104). -/
def completionWords (seq reason unit detail : Nat) (results : List Word) : List Word :=
  BitVec.ofNat 32 (seq + reason * 2 ^ 16) :: BitVec.ofNat 32 (unit + detail * 2 ^ 16) ::
    (results ++ List.replicate 4 0).take 4

/-- A completion is posted into its queue: the time of posting is written, and its command credit returns (R98, R104).
The credit of a command whose credit lapsed does not return (R96; log 7). -/
def Dev.putCompletion (d : Dev) (t : Nat) (ws : List Word) : Dev :=
  let old := (d.queue t 1).fill
  let back := bits (ws.headD 0) 24 4
  let d := d.pushEntry t 1 (ws ++ [loWord d.t64, hiWord d.t64])
  let d := d.when (d.on (F.Q_EN t 0)) (fun d => d.wr (F.SQ_CREDIT_CREDIT t) (d.rd (F.SQ_CREDIT_CREDIT t) + back))
  d.threshold t 1 old

/-- A completion goes to its queue, or is held until credit returns (R97). -/
def Dev.postCompletion (d : Dev) (t : Nat) (ws : List Word) : Dev :=
  let x := d.queue t 1
  if x.held.isEmpty && x.credits != 0 && !x.stopped then d.putCompletion t ws
  else d.setQueue t 1 { x with held := x.held ++ [ws] }

/-- A fetched command completes: its completion, unless it is discarded (R79, R102). -/
def Dev.completeCmd (d : Dev) (t seq reason unit detail : Nat) (results : List Word) : Dev :=
  match d.cmds.find? (fun c => c.tenant = t && c.seq = seq) with
  | none => d
  | some c =>
    let d := { d with cmds := d.cmds.erase c }
    if c.discard then d
    else
      let ws := completionWords seq reason unit detail results
      let ws := match ws with
        | w :: r => putBits w 24 4 (if c.lapsed then 0 else 1) :: r
        | [] => []
      d.postCompletion t ws

/-- Completions of a tenant that wait for room and bring a command credit back when they are posted (R97, R104). -/
def Dev.heldCredits (d : Dev) (t : Nat) : Nat := ((d.queue t 1).held.filter (fun ws => bits (ws.headD 0) 24 4 != 0)).length

/-- A queue is reset after a pointer mismatch (R93, R98). Commands that still run, and those whose completion is held, bring their
credits back themselves. -/
def Dev.resetQueue (d : Dev) (t q : Nat) : Dev :=
  let x := d.queue t q
  let running := (d.cmds.filter (fun c => c.tenant = t && !c.lapsed)).length + d.heldCredits t
  let grant := if q = 0 then d.qDepth t 0 - running else d.qDepth t q
  let d := (d.sat (F.QRESETS_RESETS t) 1).sat (F.QRESETS_DISCARDS t) x.fill
  let d := d.setQueue t q { x with wr := 0, wr2 := 0, rd := 0, rd2 := 0, entries := [], credits := grant,
                                   stopped := q != 0 && !d.spiBound t }
  let d := d.when (q = 0) (fun d => d.wr (F.SQ_CREDIT_CREDIT t) grant)
  let d := (d.count Ctr.REGEN_QUEUE 1).wr (F.QSTAT_REGRANT t) 1
  let d := d.record 1 0x04 0xA 0 (BitVec.ofNat 32 (0x10000000 + t * 2 ^ 16 + q)) (BitVec.ofNat 32 x.fill)
  let d := if q = 0 then
      d.postCompletion t (match completionWords 0 0 0xFFF 0 [BitVec.ofNat 32 grant] with
        | w :: r => putBits w 30 1 1 :: r
        | [] => [])
    else d.when (!d.spiBound t) (fun d => d.signalTenant t)
  d.postEvent t noUnit 3 (queueDetail q)

/-- An update of a queue's pointers, which the device compares with their copies first (R93). -/
def Dev.moveQueue (d : Dev) (t q : Nat) (f : Dev → Dev) : Dev :=
  if (d.queue t q).ok then f d else d.resetQueue t q

/-- The COALESCED event that comes first when an event queue can post again (R97). -/
def Dev.coalesced (d : Dev) (t : Nat) : Dev :=
  let x := d.queue t 2
  if x.dropped = 0 || x.credits = 0 || x.stopped || !d.on (F.Q_EN t 2) then d
  else (d.setQueue t 2 { x with dropped := 0 }).postEvent t noUnit 6 (BitVec.ofNat 32 x.dropped)

end Sys2Proof.Machine
end

