-- ==== Sys2Proof/Machine/Contexts.lean ====
section
/-! DEFINITION. Engine contexts (R116): their registers, the hardware loops, event slots, and the runs of stewards
(R162–R171). -/
namespace Sys2Proof.Machine

/-- A context: 0–63 signal engines, 64 + 8s + t thread t of steward s. -/
def Dev.ctx (d : Dev) (x : Nat) : Ctx := SMap.get (fun _ => {}) d.ctxs x

/-- The context is replaced. -/
def Dev.setCtx (d : Dev) (x : Nat) (c : Ctx) : Dev := { d with ctxs := SMap.put (fun _ => {}) x c d.ctxs }

/-- The context is changed. -/
def Dev.updCtx (d : Dev) (x : Nat) (f : Ctx → Ctx) : Dev := d.setCtx x (f (d.ctx x))

/-- The context is a signal engine. -/
abbrev isSignal (x : Nat) : Bool := x < 64
/-- The steward of a thread's context. -/
abbrev stewardOf (x : Nat) : Nat := (x - 64) / 8
/-- The thread number within its steward. -/
abbrev threadOf (x : Nat) : Nat := (x - 64) % 8
/-- The context of a steward's thread. -/
abbrev threadCtx (s t : Nat) : Nat := 64 + 8 * s + t
/-- The engine of a context: 0–63, 64–67 (R47). -/
abbrev engineOf (x : Nat) : Nat := if x < 64 then x else 64 + (x - 64) / 8
/-- The unit of a context's engine (R24). -/
abbrev ctxUnit (x : Nat) : Nat := if x < 64 then 0x0B0 + x else 0x0F0 + (x - 64) / 8

/-- A general register; g0 reads zero (R116). -/
def Ctx.gr (c : Ctx) (n : Nat) : Word := if n = 0 then 0 else SMap.get (fun _ => 0) c.g n

/-- A general register is written; a write to g0 is discarded (R116). -/
def Ctx.setG (c : Ctx) (n : Nat) (w : Word) : Ctx := if n = 0 then c else { c with g := SMap.put (fun _ => 0) n w c.g }

/-- Lane `i` of a vector register. -/
def Ctx.lane (c : Ctx) (n i : Nat) : Word := SMap.get (fun _ => 0) c.v (4 * n + i)
/-- Lane `i` of a vector register is written. -/
def Ctx.setLane (c : Ctx) (n i : Nat) (w : Word) : Ctx := { c with v := SMap.put (fun _ => 0) (4 * n + i) w c.v }
/-- Lane `i` of an accumulator, Q10.54 (R119). -/
def Ctx.acc (c : Ctx) (n i : Nat) : Dword := SMap.get (fun _ => 0) c.a (4 * n + i)
/-- Lane `i` of an accumulator is written. -/
def Ctx.setAcc (c : Ctx) (n i : Nat) (w : Dword) : Ctx := { c with a := SMap.put (fun _ => 0) (4 * n + i) w c.a }
/-- A predicate register. -/
def Ctx.pred (c : Ctx) (n : Nat) : BitVec 4 := SMap.get (fun _ => 0) c.p n
/-- A predicate register is written. -/
def Ctx.setPred (c : Ctx) (n : Nat) (w : BitVec 4) : Ctx := { c with p := SMap.put (fun _ => 0) n w c.p }
/-- Lane `i` of predicate `n` is set. -/
def Ctx.predLane (c : Ctx) (n i : Nat) : Bool := (c.pred n).getLsbD i
/-- Lane `i` of a tag register; MUTED after reset (R146). -/
def Ctx.tag (c : Ctx) (n i : Nat) : Nat := (SMap.get (fun _ => 2) c.t (4 * n + i)).toNat
/-- Lane `i` of tag register `n` is written, and with it lane `i` of predicate `n`: 1 exactly where the tag is not MUTED
(R116). -/
def Ctx.setTag (c : Ctx) (n i tg : Nat) : Ctx :=
  let c := { c with t := SMap.put (fun _ => 2) (4 * n + i) (BitVec.ofNat 4 tg) c.t }
  let bit : BitVec 4 := BitVec.ofNat 4 (2 ^ i)
  c.setPred n (if tg = 2 then c.pred n &&& ~~~ bit else c.pred n ||| bit)

/-- Where execution goes after the instruction at pc completes: the innermost level first, each level whose end it is
falls by one; above zero execution continues at its start, at zero the level closes (R125). Levels inner first. -/
def loopNext (pc : Word) : List LoopLevel → Word × List LoopLevel
  | [] => (pc + 4, [])
  | l :: ls =>
    if l.stop = pc then
      if 1 < l.count.toNat then (l.start, { l with count := l.count - 1 } :: ls) else loopNext pc ls
    else (pc + 4, l :: ls)

/-- The instruction at pc has completed: pc moves on, loops count (R125). -/
def Ctx.advance (c : Ctx) : Ctx :=
  let r := loopNext c.pc c.loops.reverse
  { c with pc := r.1, loops := r.2.reverse }

/-- The levels that stay open at a taken branch or jump: a target outside the innermost body closes that level, and the
test goes on outwards (R125). Levels inner first. -/
def loopsAt (target : Word) : List LoopLevel → List LoopLevel
  | [] => []
  | l :: ls => if l.start.toNat ≤ target.toNat && target.toNat ≤ l.stop.toNat then l :: ls else loopsAt target ls

/-- A taken branch or jump (R124, R125). -/
def Ctx.jump (c : Ctx) (target : Word) : Ctx :=
  { c with pc := target, loops := (loopsAt target c.loops.reverse).reverse }

/-- The mask of the slots that have fired. -/
def Ctx.firedMask (c : Ctx) : Nat :=
  (c.slots.zipIdx.map (fun e => if e.1.fired then 2 ^ e.2 else 0)).foldl (· + ·) 0

/-- A WAITEV completes when a slot of its mask has fired: gd gets the fired masked slots, which are cleared (R140). -/
def Ctx.wakeEvent (c : Ctx) : Ctx :=
  match c.wait with
  | .event gd mask =>
    let hit := Nat.land c.firedMask mask
    if hit = 0 then c
    else
      let slots := c.slots.zipIdx.map (fun e => if hit / 2 ^ e.2 % 2 = 1 then { e.1 with fired := false } else e.1)
      { (c.setG gd (BitVec.ofNat 32 hit)) with slots := slots, wait := .none }.advance
  | _ => c

/-- The slot fires: FIRED set and the data written; a firing while FIRED is set counts in EVLOST (R140). -/
def Ctx.fire (c : Ctx) (k : Nat) (data : Word) : Ctx :=
  let s := c.slots.getD k {}
  let c := if s.fired then { c with evlost := min (c.evlost + 1) 0xFFFF } else c
  { c with slots := c.slots.set k { s with fired := true, data := data } }.wakeEvent

/-- The key of an entry: steward × 1024 + number. -/
abbrev entryKey (s n : Nat) : Nat := s * 1024 + n

/-- An entry of a steward's table, as bound (R164). -/
def Dev.entry (d : Dev) (k : Nat) : EntryRt := SMap.get (fun _ => {}) d.entries k

/-- A steward's start queue. -/
def Dev.steward (d : Dev) (s : Nat) : StewardRt := SMap.get (fun _ => {}) d.stewards s

/-- The steward's start queue is replaced. -/
def Dev.setSteward (d : Dev) (s : Nat) (r : StewardRt) : Dev :=
  { d with stewards := SMap.put (fun _ => {}) s r d.stewards }

/-- A word written to an engine's memory at a register map address. -/
def Dev.memWord (d : Dev) (a : Nat) (w : Word) : Dev :=
  { d with memw := d.memw ++ (wordBytes w).zipIdx.map (fun e => MemOp.byte (a + e.2) e.1) }

/-- Words 4 to 6 of an entry, which the device writes (R164). -/
def EntryRt.words (e : EntryRt) : List Word :=
  [BitVec.ofNat 32 (e.reason + (if e.running then (if e.waiting.isEmpty then 1 else 2) else 0) * 2 ^ 8 +
      (if e.policy = 2 then e.waiting.length else 0) * 2 ^ 10 + e.lastExc * 2 ^ 16),
   e.runs, BitVec.ofNat 32 (e.coalesced + e.dropped * 2 ^ 16)]

/-- The entry is replaced, and its device words are written to data memory (R164). -/
def Dev.setEntry (d : Dev) (k : Nat) (e : EntryRt) : Dev :=
  let s := k / 1024
  let a := 0xC00000 + s * 0x100000 + (d.steward s).etabBase + 32 * (k % 1024)
  let d := { d with entries := SMap.put (fun _ => {}) k e d.entries }
  (d.each (e.words.zipIdx) (fun d w => d.memWord (a + 16 + 4 * w.2) w.1))

/-- A source fires: the slots of the running contexts bound to it (R140), and the triggers of entries bound to it, whose
firings are handled one by one (R169). -/
def Dev.fireSource (d : Dev) (hit : Word → Bool) (ctxOk : Nat → Bool) (entryOk : Nat → EntryRt → Bool) (data : Word) :
    Dev :=
  let d := d.each (d.ctxs.map (·.1)) (fun d x =>
    if (d.ctx x).running && ctxOk x then
      d.each ((d.ctx x).slots.zipIdx.filter (fun e => hit e.1.src) |>.map (·.2))
        (fun d k => d.updCtx x (fun c => c.fire k data))
    else d)
  { d with firings := d.firings ++
      (d.entries.filter (fun e => e.2.valid && hit e.2.slot.src && entryOk e.1 e.2)).map (fun e => (e.1, data)) }

/-- The kind of a source word (R140). -/
abbrev srcKind (w : Word) : Nat := bits w 28 4

/-- A unit's SUM has risen: sources of kind 0x1 (R140). -/
def Dev.fireSum (d : Dev) (u : Nat) : Dev :=
  d.fireSource (fun w => srcKind w == 1 && bits w 0 12 == u) (fun _ => true) (fun _ _ => true)
    (d.reg (A.UNIT_EVT u))

/-- A unit's STATE has changed: sources of kind 0x2 (R140). -/
def Dev.fireState (d : Dev) (u : Nat) : Dev :=
  d.fireSource (fun w => srcKind w == 2 && bits w 0 12 == u) (fun _ => true) (fun _ _ => true)
    (d.reg (A.UNIT_STATE u))

/-- Per-thread CSRs, and a signal engine's, at their reset values (R146). -/
def Ctx.resetCsrs (c : Ctx) : Ctx :=
  { c with p := [], t := [], tickNo := 0, budget := 0, cycles := 0, tickSize := 8, tickEntry := 0, ovrTotal := 0,
           ovrRun := 0, excCause := 0, excAddr := 0, excInfo := 0, excVec := 0, excUref := false, excBudget := false,
           excScratch := 0, excActive := false, loops := [], hidden := [], vstat := 0, uresult := 0x300,
           underrun := false, evlost := 0, slots := List.replicate 8 {} }

/-- A request to start a run waits for a thread (R167). -/
def Dev.requestStart (d : Dev) (s : Nat) (r : StartReq) : Dev :=
  let st := d.steward s
  d.setSteward s { st with startq := st.startq ++ [r] }

/-- The RUN or INLINE command of a start completes with a reason and results (R101, R163). -/
def Dev.completeRun (d : Dev) (k : RunKind) (reason unit detail : Nat) (results : List Word) : Dev :=
  match k with
  | .resident => d
  | .entry _ none => d
  | .entry _ (some c) => d.completeCmd c.1 c.2 reason unit detail results
  | .inlineRun t q => d.completeCmd t q reason unit detail results

/-- The entry of a run that has ended: it is idle, or its pending or next queued run is requested (R169), at the address and, where a
trigger asked for it, with the tenant that the entry has now (R166, R168). -/
def Dev.entryEnded (d : Dev) (s : Nat) (k : RunKind) : Dev :=
  match k with
  | .entry n _ =>
    let e := d.entry (entryKey s n)
    match e.waiting with
    | [] => d.setEntry (entryKey s n) { e with running := false }
    | r :: rs => (d.setEntry (entryKey s n) { e with running := true, waiting := rs }).requestStart s
        { r with pc := e.addr, tenant := (match r.kind with | .entry _ none => e.tenant | _ => r.tenant) }
  | _ => d

/-- The thread's run ends and the thread becomes free (R144, R149); what completes is the caller's. -/
def Dev.freeThread (d : Dev) (x : Nat) : Dev :=
  let k := (d.ctx x).kind
  (d.updCtx x (fun c => { c with running := false, wait := .none, slots := List.replicate 8 {} })).entryEnded
    (stewardOf x) k

/-- Start requests that wait, pending runs and queued runs of a steward are discarded and counted; their RUN commands
complete with STATE, unless the discard is silent (R163, R173). -/
def Dev.discardStarts (d : Dev) (s : Nat) (silent : Bool) : Dev :=
  let complete (d : Dev) (r : StartReq) : Dev := if silent then d else d.completeRun r.kind 9 0xFFF 0 [0]
  let st := d.steward s
  let drop (d : Dev) (k n : Nat) : Dev :=
    let e := d.entry k
    d.setEntry k { e with waiting := [], dropped := min (e.dropped + n) 0xFFFF }
  let d := d.setSteward s { st with startq := [] }
  let d := d.each st.startq (fun d r => match r.kind with
    | .entry n _ =>
      let e := d.entry (entryKey s n)
      complete (d.setEntry (entryKey s n) { e with running := false, dropped := min (e.dropped + 1) 0xFFFF }) r
    | _ => complete d r)
  d.each (d.entries.filter (fun e => e.1 / 1024 == s && !e.2.waiting.isEmpty))
    (fun d e => (drop d e.1 e.2.waiting.length).each e.2.waiting complete)

/-- Every run of a steward ends at once; commands complete with STATE and RESULT0 = 0, unless it is silent (R163, R173).
-/
def Dev.endRuns (d : Dev) (s : Nat) (silent : Bool) : Dev :=
  let d := d.discardStarts s silent
  d.each (List.range 8) (fun d t =>
    let x := threadCtx s t
    let c := d.ctx x
    if c.running then
      let d := if silent then d else d.completeRun c.kind 9 0xFFF 0 [0]
      d.freeThread x
    else d)

/-- A run begins on a thread (R168). -/
def Dev.beginRun (d : Dev) (x : Nat) (r : StartReq) : Dev :=
  let s := stewardOf x
  let sp := d.rd (F.STW_STACK_BASE s) * 16 + (threadOf x + 1) * 2 ^ d.rd (F.STW_STACK_SIZE_LOG2 s)
  let c : Ctx := { running := true, kind := r.kind, tenant := r.tenant, pc := r.pc, ended := false }
  let c := match r.kind with
    | .inlineRun _ _ => { c with inlineLen := (r.args.headD 0).toNat }
    | _ => r.args.zipIdx.foldl (fun (c : Ctx) (e : Word × Nat) => c.setG (e.2 + 1) e.1) c
  let d := match r.kind with
    | .entry n _ => d.setEntry (entryKey s n) { d.entry (entryKey s n) with runs := (d.entry (entryKey s n)).runs + 1 }
    | _ => d
  d.setCtx x (c.setG 30 (BitVec.ofNat 32 sp))

/-- The lowest free thread of a steward (R167). -/
def Dev.freeThreadOf (d : Dev) (s : Nat) : Option Nat :=
  (List.range 8).find? (fun t => !(d.ctx (threadCtx s t)).running)

/-- The resident run starts on thread 0 at the resume vector as tenant 0 (R162). -/
def Dev.startResident (d : Dev) (s : Nat) : Dev :=
  d.beginRun (threadCtx s 0) { kind := .resident, tenant := 0, pc := BitVec.ofNat 32 (d.rd (F.STW_RESUME_VEC s) * 4) }

/-- A RESET order to a steward: every run ends, CSRs at their reset values; memory and control block unchanged (R163,
R146). -/
def Dev.resetSteward (d : Dev) (s : Nat) : Dev :=
  (d.endRuns s false).each (List.range 8) (fun d t => d.updCtx (threadCtx s t) (fun c => { c.resetCsrs with tenant := 0 }))

/-- An accepted ENABLE of a signal engine (R153). -/
def Dev.initSignal (d : Dev) (e : Nat) : Dev :=
  let c := d.ctx e
  let entry := BitVec.ofNat 32 (d.rd (F.ENG_ENTRY_ENTRY e) * 4)
  (d.setCtx e { c with g := [], v := [], a := [], p := [], t := [], ready := [], vstat := 0, ovrTotal := 0, ovrRun := 0,
                       loops := [], excActive := false, tenant := d.rd (F.UNIT_OWNER_OWNER (0x0B0 + e)),
                       tickEntry := entry, toEntry := true, toHandler := false, running := false, ended := true,
                       wait := .none, outNow := [] }).wr (F.ENG_STAT_HALTED e) 0

/-- A RESET order to a signal engine: its CSRs at their reset values, its run over (R27, R146). -/
def Dev.resetSignal (d : Dev) (e : Nat) : Dev :=
  (d.updCtx e (fun c => { c.resetCsrs with tenant := 0, running := false, ended := true, wait := .none, outNow := [] })).wr
    (F.ENG_STAT_HALTED e) 0

end Sys2Proof.Machine
end

