-- ==== Sys2Proof/Machine/Flags.lean ====
section
/-! DEFINITION. Flags and arithmetic of the Ulfel instructions (R119, R120, R130–R133): saturation, tags, binary32, the
gain of VGAIN. -/
namespace Sys2Proof.Machine

/-- The bits of VSTAT (R132). -/
abbrev Vs.SAT : Nat := 1
abbrev Vs.ASAT : Nat := 2
abbrev Vs.FINV : Nat := 4
abbrev Vs.FOVF : Nat := 8
abbrev Vs.FFLUSH : Nat := 16

/-- A value held within Q1.31, and SAT where it was clamped (R120). -/
def satQ31 (v : Int) : Word × Nat :=
  if 2147483647 < v then (0x7FFFFFFF, Vs.SAT) else if v < -2147483648 then (0x80000000, Vs.SAT) else (BitVec.ofInt 32 v, 0)

/-- A value held within Q10.54, and ASAT where it was clamped (R120). -/
def satAcc (v : Int) : Dword × Nat :=
  if 9223372036854775807 < v then (0x7FFFFFFFFFFFFFFF, Vs.ASAT)
  else if v < -9223372036854775808 then (0x8000000000000000, Vs.ASAT) else (BitVec.ofInt 64 v, 0)

/-- Narrowed by `k` bits, rounded half up (R120). -/
def roundHalfUp (v : Int) (k : Nat) : Int := (v + 2 ^ k / 2) / 2 ^ k

/-- `v / 2 ^ k` rounded to nearest, ties to even (R119). -/
def roundEven (v : Int) (k : Nat) : Int :=
  let q := v / 2 ^ k
  let r := v % 2 ^ k
  if 2 * r < 2 ^ k then q else if 2 ^ k < 2 * r then q + 1 else if q % 2 = 0 then q else q + 1

/-- The tags (R18). -/
abbrev Tag.VALID : Nat := 0
abbrev Tag.REPEAT : Nat := 1
abbrev Tag.MUTED : Nat := 2
abbrev Tag.SETTLING : Nat := 3
abbrev Tag.NONAUDIO : Nat := 4

/-- The rank of a tag that is not MUTED: NONAUDIO > SETTLING > REPEAT > VALID (R130); a reserved tag ranks by its code. -/
def tagRank (x : Nat) : Nat := if x = 1 then 1 else if x = 3 then 2 else if x = 4 then 3 else if x = 0 then 0 else x

/-- comb of R130. -/
def combTag (x y : Nat) : Nat := if x = 2 then y else if y = 2 then x else if tagRank x < tagRank y then y else x

/-! ### binary32 with flush to zero (R119) -/

/-- A binary32 operand: NaN (signalling or not), infinity, or m × 2^e with the sign of a zero. -/
inductive Fp where
  | nan (signalling : Bool)
  | inf (neg : Bool)
  | fin (neg : Bool) (m : Nat) (e : Int)
deriving DecidableEq, Repr

/-- An operand word; a subnormal is a zero of the same sign, with FFLUSH (R119, R132). -/
def fpOf (w : Word) : Fp × Nat :=
  let neg := w.getLsbD 31
  let ex := bits w 23 8
  let m := bits w 0 23
  if ex = 255 then (if m = 0 then (.inf neg, 0) else (.nan (m < 2 ^ 22), 0))
  else if ex = 0 then (.fin neg 0 0, if m = 0 then 0 else Vs.FFLUSH)
  else (.fin neg (2 ^ 23 + m) (ex - 150 : Int), 0)

/-- The NaN every NaN result is (R119). -/
abbrev fpNan : Word := 0x7FC00000

/-- The word of an infinity. -/
def fpInf (neg : Bool) : Word := if neg then 0xFF800000 else 0x7F800000
/-- The word of a zero. -/
def fpZero (neg : Bool) : Word := if neg then 0x80000000 else 0

/-- A non-zero exact value ±m × 2^e as binary32: nearest, ties to even; FOVF where it becomes infinite, FFLUSH where it
would be subnormal (R119, R132). -/
def fpRound (neg : Bool) (m : Nat) (e : Int) : Word × Nat :=
  let len := m.log2 + 1
  let shift : Int := len - 24
  let q : Nat := if 0 < shift then (roundEven (m : Int) shift.toNat).toNat else m * 2 ^ (-shift).toNat
  let e' := e + shift
  let q' := if q = 2 ^ 24 then 2 ^ 23 else q
  let e'' := if q = 2 ^ 24 then e' + 1 else e'
  let ex := e'' + 150
  if 255 ≤ ex then (fpInf neg, Vs.FOVF)
  else if ex ≤ 0 then (fpZero neg, Vs.FFLUSH)
  else (BitVec.ofNat 32 ((if neg then 2 ^ 31 else 0) + ex.toNat * 2 ^ 23 + (q' - 2 ^ 23)), 0)

/-- A signed exact value m × 2^e; a zero has the sign given. -/
def fpExact (zneg : Bool) (m e : Int) : Word × Nat := if m = 0 then (fpZero zneg, 0) else fpRound (m < 0) m.natAbs e

/-- The signed mantissa. -/
def signedM (neg : Bool) (m : Nat) : Int := if neg then -(m : Int) else m

/-- x × y + z of exact operands, one rounding. -/
def fpFmaFin (n1 : Bool) (m1 : Nat) (e1 : Int) (n2 : Bool) (m2 : Nat) (e2 : Int) (n3 : Bool) (m3 : Nat) (e3 : Int) :
    Word × Nat :=
  let pn := n1 != n2
  let pm := signedM pn (m1 * m2)
  let pe := e1 + e2
  let zm := signedM n3 m3
  let e := min pe e3
  fpExact (pn && n3) (pm * 2 ^ (pe - e).toNat + zm * 2 ^ (e3 - e).toNat) e

/-- x × y + z, fused: infinities and NaNs first. An invalid operation gives the NaN and FINV (R119, R132). -/
def fpFma (x y z : Fp) : Word × Nat :=
  let sn := x == .nan true || y == .nan true || z == .nan true
  match x, y, z with
  | .nan _, _, _ => (fpNan, if sn then Vs.FINV else 0)
  | _, .nan _, _ => (fpNan, if sn then Vs.FINV else 0)
  | .inf _, .fin _ 0 _, _ => (fpNan, Vs.FINV)
  | .fin _ 0 _, .inf _, _ => (fpNan, Vs.FINV)
  | _, _, .nan _ => (fpNan, if sn then Vs.FINV else 0)
  | .inf a, .inf b, .inf c => if (a != b) == c then (fpInf c, 0) else (fpNan, Vs.FINV)
  | .inf a, .inf b, .fin .. => (fpInf (a != b), 0)
  | .inf a, .fin b _ _, .inf c => if (a != b) == c then (fpInf c, 0) else (fpNan, Vs.FINV)
  | .inf a, .fin b _ _, .fin .. => (fpInf (a != b), 0)
  | .fin a _ _, .inf b, .inf c => if (a != b) == c then (fpInf c, 0) else (fpNan, Vs.FINV)
  | .fin a _ _, .inf b, .fin .. => (fpInf (a != b), 0)
  | .fin .., .fin .., .inf c => (fpInf c, 0)
  | .fin n1 m1 e1, .fin n2 m2 e2, .fin n3 m3 e3 => fpFmaFin n1 m1 e1 n2 m2 e2 n3 m3 e3

/-- One, as an operand. -/
abbrev fpOne : Fp := .fin false 1 0

/-- fp32 a + b (R131). -/
def fpAdd (a b : Word) : Word × Nat :=
  let x := fpOf a
  let y := fpOf b
  let r := fpFma x.1 fpOne y.1
  (r.1, Nat.lor r.2 (Nat.lor x.2 y.2))

/-- fp32 a × b (R131): the sign of a zero product is that of the factors. -/
def fpMul (a b : Word) : Word × Nat :=
  let x := fpOf a
  let y := fpOf b
  let fl := Nat.lor x.2 y.2
  match x.1, y.1 with
  | .fin n1 m1 e1, .fin n2 m2 e2 =>
    let r := fpExact (n1 != n2) (signedM (n1 != n2) (m1 * m2)) (e1 + e2)
    (r.1, Nat.lor r.2 fl)
  | p, q =>
    let r := fpFma p q (.fin false 0 0)
    (r.1, Nat.lor r.2 fl)

/-- fp32 c + a × b, fused (R131). -/
def fpMac (c a b : Word) : Word × Nat :=
  let x := fpOf a
  let y := fpOf b
  let z := fpOf c
  let r := fpFma x.1 y.1 z.1
  (r.1, Nat.lor r.2 (Nat.lor x.2 (Nat.lor y.2 z.2)))

/-- VCVTF: fp32 of x × 2⁻³¹ (R131). -/
def fpFromQ31 (w : Word) : Word × Nat := fpExact false w.toInt (-31)

/-- VCVTI: the nearest Q1.31 value, ties to even; NaN gives 0 with FINV (R131). -/
def fpToQ31 (w : Word) : Word × Nat :=
  let x := fpOf w
  match x.1 with
  | .nan _ => (0, Vs.FINV)
  | .inf n => if n then (0x80000000, Vs.SAT) else (0x7FFFFFFF, Vs.SAT)
  | .fin n m e =>
    let k := e + 31
    let v : Int := if 0 ≤ k then signedM n m * 2 ^ k.toNat else roundEven (signedM n m) (-k).toNat
    let r := satQ31 v
    (r.1, Nat.lor r.2 x.2)

/-! ### The gain of a level in Q8.24 units of log2 (R133) -/

/-- 2 ^ (2⁻ⁱ) for i = 1 … 24, in units of 2⁻⁶². -/
def gainSteps : List Nat := [
  6521908912666391106, 5484249825272419512, 5029079263719320435, 4815862801830788490,
  4712668792719003884, 4661903986662671290, 4636727017470743990, 4624189567668517720,
  4617933561212708776, 4614808732577250068, 4613247111281068008, 4612466498810092975,
  4612076242109103707, 4611881126141011236, 4611783571252412754, 4611734794581956353,
  4611710406440186476, 4611698212417665819, 4611692115418496524, 4611689066921934630,
  4611687542674409371, 4611686780550835664, 4611686399489096040, 4611686208958238036]

/-- 2 to the power of a fraction of 2⁻²⁴ units, in units of 2⁻⁶², within 2⁻⁵⁵ of it. -/
def pow2Frac (f : Nat) : Nat :=
  gainSteps.zipIdx.foldl (fun a e => if f / 2 ^ (23 - e.2) % 2 = 1 then a * e.1 / 2 ^ 62 else a) (2 ^ 62)

/-- The gain 2^l of a level l in Q8.24, in units of 2⁻⁹⁰. -/
def gainExact (l : Int) : Nat :=
  let k := l / 2 ^ 24
  let f := (l % 2 ^ 24).toNat
  pow2Frac f * 2 ^ (28 + k).toNat

/-- The gain used for a level: within ±0.0005 dB of 2^l (R133); where in that range it lies the spec leaves open, so it is
a free value of the draw `n` (log 11). In units of 2⁻⁹⁰; exactly zero at −24.0. -/
def gainUsed (n : Nat) (l : Int) : Nat :=
  if l ≤ -402653184 then 0
  else
    let g := gainExact l
    let trim := clampInt (-57561) 57565 (Config.gainTrim n l)
    ((g : Int) + (g : Int) * trim / 1000000000).toNat

/-- A sample under a gain, rounded half up and saturated (R120, R133). -/
def gainApply (n : Nat) (l : Int) (v : Word) : Word × Nat :=
  satQ31 (roundHalfUp (v.toInt * (gainUsed n l : Int)) 90)

end Sys2Proof.Machine
end

