-- ==== Sys2Proof/Machine/Crc.lean ====
section
/-! DEFINITION. CRC-32C with the parameters of R69, which the configuration check and Fragal use. -/
namespace Sys2Proof.Machine

/-- One shift of the reflected polynomial 0x1EDC6F41. -/
def crcBit (c : Word) : Word := if c.getLsbD 0 then (c >>> 1) ^^^ 0x82F63B78 else c >>> 1

/-- Eight shifts. -/
def crcEight (c : Word) : Word := crcBit (crcBit (crcBit (crcBit (crcBit (crcBit (crcBit (crcBit c)))))))

/-- An octet enters the register. -/
def crcByte (c : Word) (b : Byte) : Word := crcEight (c ^^^ b.setWidth 32)

/-- CRC-32C of some octets (R69). -/
def crc32c (bs : List Byte) : Word := ~~~ (bs.foldl crcByte 0xFFFFFFFF)

/-- The product of two polynomials modulo the CRC's, both reflected: bit 31 is x⁰. -/
def crcMul (a b : Word) : Word :=
  ((List.range 32).foldl (fun (s : Word × Word) i => (if a.getLsbD (31 - i) then s.1 ^^^ s.2 else s.1, crcBit s.2)) (0, b)).1

/-- x to the power `n`, by the binary digits of `n`. -/
def crcPow (n : Nat) : Word :=
  ((List.range 64).foldl (fun (s : Word × Word) i =>
    (if n / 2 ^ i % 2 = 1 then crcMul s.1 s.2 else s.1, crcMul s.2 s.2)) (0x80000000, 0x40000000)).1

/-- `n` zero octets enter the register. -/
def crcZeros (c : Word) (n : Nat) : Word := crcMul (crcPow (8 * n)) c

end Sys2Proof.Machine
end

