-- ==== Sys2Proof/Machine/Frames.lean ====
section
/-! DEFINITION. Frames as lists of octets: tags, addresses, IP and UDP headers, checksums (R184–R191, R303–R307). -/
namespace Sys2Proof.Machine

/-- The big-endian number of `n` octets from offset `i`; octets beyond the end read zero. -/
def beAt (o : List Byte) (i n : Nat) : Nat := ((List.range n).map (fun k => (o.getD (i + k) 0).toNat)).foldl (fun a b => a * 256 + b) 0

/-- The octets of a big-endian number. -/
def beBytes (v : Nat) : Nat → List Byte
  | 0 => []
  | n + 1 => BitVec.ofNat 8 (v / 256 ^ n) :: beBytes v n

/-- Octets replaced from offset `i` on, within the list. -/
def setOctets (o : List Byte) (i : Nat) (bs : List Byte) : List Byte := o.take i ++ (bs ++ o.drop (i + bs.length)).take (o.length - i)

/-- The destination address, first octet highest (R189). -/
def daOf (o : List Byte) : Nat := beAt o 0 6
/-- The source address. -/
def saOf (o : List Byte) : Nat := beAt o 6 6
/-- A group address: the I/G bit of the first octet (R188). -/
def isGroup (a : Nat) : Bool := a / 2 ^ 40 % 2 == 1
/-- The broadcast address. -/
abbrev broadcast : Nat := 0xFFFFFFFFFFFF

/-- The hash of an address (R189). -/
def hashOf (d : Nat) : Nat :=
  Nat.xor (d % 1024) (Nat.xor (d / 2 ^ 10 % 1024) (Nat.xor (d / 2 ^ 20 % 1024) (Nat.xor (d / 2 ^ 30 % 1024) (d / 2 ^ 40 % 256))))

/-- The number of VLAN tags parsed: the outer with TPID `outer`, the inner with 0x8100 (R190). -/
def tagsOf (outer : Nat) (o : List Byte) : Nat :=
  if beAt o 12 2 = outer then (if beAt o 16 2 = 0x8100 then 2 else 1) else 0

/-- The EtherType behind the tags. -/
def etherType (tags : Nat) (o : List Byte) : Nat := beAt o (12 + 4 * tags) 2
/-- Offset of what follows the EtherType. -/
abbrev l3Of (tags : Nat) : Nat := 14 + 4 * tags
/-- The outer VID and PCP. -/
def outerVid (o : List Byte) : Nat := beAt o 14 2 % 4096
def outerPcp (o : List Byte) : Nat := beAt o 14 2 / 2 ^ 13

/-- An IPv4 frame. -/
def isV4 (tags : Nat) (o : List Byte) : Bool := etherType tags o == 0x0800 && beAt o (l3Of tags) 1 / 16 == 4
/-- An IPv6 frame. -/
def isV6 (tags : Nat) (o : List Byte) : Bool := etherType tags o == 0x86DD && beAt o (l3Of tags) 1 / 16 == 6
/-- DSCP of an IP frame. -/
def dscpOf (tags : Nat) (o : List Byte) : Nat :=
  if isV4 tags o then beAt o (l3Of tags + 1) 1 / 4 else beAt o (l3Of tags) 2 / 2 ^ 6 % 64
/-- The IP protocol, or the IPv6 Next Header. -/
def ipProto (tags : Nat) (o : List Byte) : Option Nat :=
  if isV4 tags o then some (beAt o (l3Of tags + 9) 1) else if isV6 tags o then some (beAt o (l3Of tags + 6) 1) else none
/-- Offset of what follows the IP header. -/
def l4Of (tags : Nat) (o : List Byte) : Nat :=
  if isV4 tags o then l3Of tags + beAt o (l3Of tags) 1 % 16 * 4 else l3Of tags + 40
/-- A UDP frame. -/
def isUdp (tags : Nat) (o : List Byte) : Bool := ipProto tags o == some 17
/-- The UDP destination port. -/
def udpDst (tags : Nat) (o : List Byte) : Nat := beAt o (l4Of tags o + 2) 2

/-- Ones' complement sum of 16-bit words. -/
def onesSum (bs : List Byte) : Nat :=
  match bs with
  | a :: b :: r => a.toNat * 256 + b.toNat + onesSum r
  | [a] => a.toNat * 256
  | [] => 0

/-- A sum folded to 16 bits. -/
def foldSum (v : Nat) : Nat :=
  let a := v % 65536 + v / 65536
  let b := a % 65536 + a / 65536
  b % 65536 + b / 65536

/-- The IPv4 header checksum is recomputed. -/
def fixV4 (tags : Nat) (o : List Byte) : List Byte :=
  let l3 := l3Of tags
  let o := setOctets o (l3 + 10) [0, 0]
  let h := (o.drop l3).take (beAt o l3 1 % 16 * 4)
  setOctets o (l3 + 10) (beBytes (65535 - foldSum (onesSum h)) 2)

/-- The UDP checksum of an IP frame as it stands. -/
def udpSum (tags : Nat) (o : List Byte) : Nat :=
  let l4 := l4Of tags o
  let o := setOctets o (l4 + 6) [0, 0]
  let len := beAt o (l4 + 4) 2
  let addrs := if isV4 tags o then (o.drop (l3Of tags + 12)).take 8 else (o.drop (l3Of tags + 8)).take 32
  let s := 65535 - foldSum (onesSum addrs + 17 + len + onesSum ((o.drop l4).take len))
  if s = 0 then 65535 else s

/-- The UDP checksum is recomputed; over IPv4 a zero checksum stays zero (R186, R307). -/
def fixUdp (tags : Nat) (o : List Byte) : List Byte :=
  let l4 := l4Of tags o
  if !isUdp tags o || (isV4 tags o && beAt o (l4 + 6) 2 == 0) then o
  else setOctets o (l4 + 6) (beBytes (udpSum tags o) 2)

/-! ### PTP (R303) -/

/-- Offset of the PTP message in a frame, if it carries one of the kinds recognised: Layer 2, UDP over IPv4, over IPv6. -/
def ptpOffset (l2 udp4 udp6 : Bool) (tags : Nat) (o : List Byte) : Option Nat :=
  if etherType tags o = 0x88F7 then (if l2 then some (l3Of tags) else none)
  else if isUdp tags o && udpDst tags o == 319 && ((isV4 tags o && udp4) || (isV6 tags o && udp6)) then some (l4Of tags o + 8)
  else none

/-- The PTP event message of a frame: its offset and messageType (R303). -/
def ptpEvent (l2 udp4 udp6 : Bool) (tags : Nat) (o : List Byte) : Option (Nat × Nat) :=
  match ptpOffset l2 udp4 udp6 tags o with
  | none => none
  | some i =>
    let ty := beAt o i 1 % 16
    if ty ≤ 3 && beAt o (i + 1) 1 % 16 == 2 then some (i, ty) else none

/-- An amount in 2⁻¹⁶ ns is added to correctionField, modulo 2⁶⁴, and the UDP checksum follows (R303, R307). -/
def addCorrection (tags i : Nat) (v : Int) (o : List Byte) : List Byte :=
  fixUdp tags (setOctets o (i + 8) (beBytes (((beAt o (i + 8) 8 : Int) + v) % 2 ^ 64).toNat 8))

end Sys2Proof.Machine
end

