-- ==== Sys2Proof/Machine/FlowState.lean ====
section
/-! DEFINITION. What flows, rings and domains hold, and the operations on it that no order hangs on: rates and sizes of
flows (R263–R265), the flow sluice (R248), the accounts of transmitted packets (R290), ring arithmetic (R218, R219). -/
namespace Sys2Proof.Machine

/-- What a flow holds besides its registers. -/
def Dev.flow (d : Dev) (f : Nat) : FlowRt := SMap.get (fun _ => {}) d.flows f
/-- It is replaced. -/
def Dev.setFlow (d : Dev) (f : Nat) (x : FlowRt) : Dev := { d with flows := SMap.put (fun _ => {}) f x d.flows }
/-- What a ring holds besides its registers. -/
def Dev.ring (d : Dev) (k : Nat) : RingRt := SMap.get (fun _ => {}) d.rings k
/-- It is replaced. -/
def Dev.setRing (d : Dev) (k : Nat) (r : RingRt) : Dev := { d with rings := SMap.put (fun _ => {}) k r d.rings }
/-- What a synthesizer holds besides its registers. -/
def Dev.mclk (d : Dev) (m : Nat) : McsRt := SMap.get (fun _ => {}) d.mcs m
/-- It is replaced. -/
def Dev.setMclk (d : Dev) (m : Nat) (x : McsRt) : Dev := { d with mcs := SMap.put (fun _ => {}) m x d.mcs }

/-- The nominal rate in Hz of a RATE code (R263): 44.1, 48, 88.2, 96, 176.4, 192 kHz. -/
def rateHz (code : Nat) : Nat :=
  match code with
  | 0 => 44100 | 1 => 48000 | 2 => 88200 | 3 => 96000 | 4 => 176400 | _ => 192000

/-- M of a RATE code: channel slots a channel takes (R259, R263). -/
def rateMult (code : Nat) : Nat := if code < 2 then 1 else if code < 4 then 2 else 4

/-- The counters of a flow (R292), by their offset. -/
abbrev Ctr.FLOW (f off : Nat) : Nat := 0x880000 + f * 0x40 + off
abbrev Fc.DELIVERED : Nat := 0x00
abbrev Fc.CONCEALED : Nat := 0x08
abbrev Fc.MUTED : Nat := 0x10
abbrev Fc.DISCARDED_LATE : Nat := 0x18
abbrev Fc.PKTS_A : Nat := 0x20
abbrev Fc.PKTS_B : Nat := 0x28
abbrev Fc.PKT_LATE : Nat := 0x30
abbrev Fc.PKT_DUP : Nat := 0x38
abbrev Fc.TX_REPEAT : Nat := 0x30
abbrev Fc.TX_SETTLING : Nat := 0x38
/-- The counters of an engine's slot (R292). -/
abbrev Ctr.SLOT (f off : Nat) : Nat := 0x8A0000 + f * 0x20 + off
abbrev Sc.PKT_EARLY : Nat := 0x00
abbrev Sc.PKT_BAD : Nat := 0x08
abbrev Sc.PKT_SLUICE : Nat := 0x10
abbrev Sc.PKT_DROPPED : Nat := 0x18

/-- A flow transmits. -/
abbrev Dev.flowTx (d : Dev) (f : Nat) : Bool := d.on (F.FLOW_CFG_DIR f)
/-- Its format (R263): 0 IPv4, 1 IPv6, 2 AVTP, 3 boardwalk. -/
abbrev Dev.flowFmt (d : Dev) (f : Nat) : Nat := d.rd (F.FLOW_CFG_FMT f)
/-- Octets of a sample on the wire. -/
abbrev Dev.flowBytes (d : Dev) (f : Nat) : Nat := 2 + d.rd (F.FLOW_CFG_ENC f)
abbrev Dev.flowChans (d : Dev) (f : Nat) : Nat := d.rd (F.FLOW_CHANS_CHANS f)
abbrev Dev.flowSpp (d : Dev) (f : Nat) : Nat := d.rd (F.FLOW_CFG_SPP f)
abbrev Dev.flowHz (d : Dev) (f : Nat) : Nat := rateHz (d.rd (F.FLOW_CFG_RATE f))
abbrev Dev.flowDomain (d : Dev) (f : Nat) : Nat := d.rd (F.FLOW_CFG_DOMAIN f)
/-- The legs of a flow: 1 or 2 (R278). -/
abbrev Dev.flowLegs (d : Dev) (f : Nat) : Nat := 1 + d.rd (F.FLOW_CFG_LEG_B f)
/-- The port of a leg. -/
abbrev Dev.flowPort (d : Dev) (f leg : Nat) : Nat := if leg = 0 then d.rd (F.FLOW_PORTS_PORT_A f) else d.rd (F.FLOW_PORTS_PORT_B f)
/-- A word of a leg's destination address. -/
abbrev Dev.flowDaddr (d : Dev) (f leg i : Nat) : Nat :=
  if leg = 0 then (d.reg (A.FLOW_DADDR_A f i)).toNat else (d.reg (A.FLOW_DADDR_B f i)).toNat

/-! ### Rings (R218, R219) -/

/-- The cycle of a ring in ns (R216). -/
def cycleNs (code : Nat) : Nat := match code with
  | 0 => 125000 | 1 => 62500 | _ => 250000
/-- As the ring's CYCLE gives it. -/
abbrev Dev.ringCycle (d : Dev) (k : Nat) : Nat := cycleNs (d.rd (F.RING_CTRL_CYCLE k))

/-- A ring link's data rate in tenths of Gb/s (R175): that of its WEST link. -/
def Dev.ringRate (d : Dev) (k : Nat) : Nat :=
  let s := d.rd (F.LNK_CTRL_SPEED (d.rd (F.RING_LINKS_WEST k)))
  if s ≤ 1 then 10 else if s = 2 then 25 else if s = 3 then 100 else 250

/-- Whole octet times in a number of ns: t_o = 80 / rate ns (R218). -/
def octetTimes (rate ns : Nat) : Nat := ns * rate / 80
/-- The cycle capacity Q (R218). -/
def Dev.ringQ (d : Dev) (k : Nat) : Nat := octetTimes (d.ringRate k) (d.ringCycle k)
/-- G of the ring's own GUARD_NS (R219). -/
def Dev.ringG (d : Dev) (k : Nat) : Nat := (d.rd (F.RING_GUARD_GUARD_NS k) * d.ringRate k + 79) / 80
/-- The occupancy of a ring frame of `len` octets, DA to FCS: 20 more, and 32 with MACsec (R204, R218). -/
def Dev.occupancy (d : Dev) (k len : Nat) : Nat :=
  len + 20 + (if d.on (F.LNK_MACSEC_TX_EN (d.rd (F.RING_LINKS_EAST k))) then 32 else 0)

/-! ### Sizes and sluices of flows -/

/-- SAMPLES of a boardwalk flow at most: the periods of a ring cycle, the larger count (R226). -/
def Dev.flowSamples (d : Dev) (f : Nat) : Nat :=
  (d.flowHz f * d.ringCycle (d.flowPort f 0 - 24) + 999999999) / 1000000000

/-- Length of a sample block (R226). -/
def blockLen (chans samples bytes : Nat) : Nat := 34 + chans * samples * bytes + (chans * samples + 1) / 2

/-- L of a flow's frame with `t` VLAN tags (R265). -/
def Dev.flowLen (d : Dev) (f t : Nat) : Nat :=
  let data := d.flowChans f * d.flowSpp f * d.flowBytes f
  match d.flowFmt f with
  | 0 => 58 + 4 * t + data
  | 1 => 78 + 4 * t + data
  | 2 => 42 + 4 * t + data
  | _ => max 64 (blockLen (d.flowChans f) (d.flowSamples f) (d.flowBytes f))

/-- L_max of a flow, the longest frame it declares (R248): with the one tag of TAGGED (DESIGN CHOICE, log 18). -/
def Dev.flowLmax (d : Dev) (f : Nat) : Nat := d.flowLen f (d.rd (F.FLOW_VLAN_TAGGED f))

/-- N of a flow, its packets per second over all legs, as a fraction (R248; DESIGN CHOICE, log 18). -/
def Dev.flowN (d : Dev) (f : Nat) : Nat × Nat :=
  if d.flowFmt f = 3 then (1000000000, d.ringCycle (d.flowPort f 0 - 24)) else (d.flowHz f * d.flowLegs f, d.flowSpp f)

/-- The flow sluice lets a frame of `len` octets pass, and takes it (R248). What the bucket lacks is held in octets × 10¹¹ ×
the denominator of N. -/
def Dev.flowSluice (d : Dev) (f len : Nat) : Dev × Bool :=
  let x := d.flow f
  let n := d.flowN f
  let unit := 100000000000 * n.2
  let lack := x.sluice.1 - 101 * d.flowLmax f * n.1 * (d.clk - x.sluice.2)
  if lack + len * unit ≤ 4 * d.flowLmax f * unit then (d.setFlow f { x with sluice := (lack + len * unit, d.clk) }, true)
  else (d.setFlow f { x with sluice := (lack, d.clk) }, false)

/-! ### Events of a flow and its transmitted packets -/

/-- A class leaf limited to one event per 10 ms is set; the unit's SUM follows when the command ends (R45, R263). -/
def Dev.leafLater (d : Dev) (u a b : Nat) : Dev :=
  let k := a * 32 + b
  let last := SMap.get (fun _ => 0) d.evLimit k
  if last ≠ 0 && d.clk + 1 < last + 10000000 then d
  else { (d.setBit a b) with evLimit := SMap.put (fun _ => 0) k (d.clk + 1) d.evLimit, nudge := d.nudge ++ [u] }

/-- A leaf of `_EVT` of a flow (R263). -/
def Dev.flowEvt (d : Dev) (f b : Nat) : Dev := d.leafLater (0x400 + f) (A.FLOW_EVT f) b

/-- A counter of a flow. -/
def Dev.flowCount (d : Dev) (f off n : Nat) : Dev := d.count (Ctr.FLOW f off) n

/-- A period closes into an account (R290). -/
def Dev.closePeriod (d : Dev) (f account : Nat) : Dev :=
  (d.flowCount f account 1).setFlow f { d.flow f with closed := (d.flow f).closed + 1 }

/-- The account of a period of a transmitted packet (R290). -/
def txAccount (sent : Bool) (tag : Nat) : Nat :=
  if !sent then Fc.DISCARDED_LATE
  else if tag = 0 || tag = 4 then Fc.DELIVERED else if tag = 2 then Fc.MUTED else Fc.CONCEALED

/-- A packet of a flow has left on a leg, or was dropped on it; with the last leg its periods close (R290). -/
def Dev.flowLeg (d : Dev) (f n leg : Nat) (sent : Bool) : Dev :=
  let d := if sent then d.flowCount f (if leg = 0 then Fc.PKTS_A else Fc.PKTS_B) 1 else d
  match (d.flow f).packets.find? (fun p => p.n = n) with
  | none => d
  | some p =>
    let p : TxPacket := { p with left := p.left - 1, sent := p.sent || sent }
    if p.left = 0 then
      (d.setFlow f { d.flow f with packets := (d.flow f).packets.filter (fun q => q.n != n) }).each p.tags
        (fun d t => d.closePeriod f (txAccount p.sent t))
    else d.setFlow f { d.flow f with packets := (d.flow f).packets.map (fun q => if q.n = n then p else q) }

/-- A packet of a flow was dropped on a leg by a check after the sluice (R283). -/
def Dev.flowDropped (d : Dev) (f n leg : Nat) : Dev :=
  ((d.count (Ctr.SLOT f Sc.PKT_DROPPED) 1).flowEvt f 8).flowLeg f n leg false

end Sys2Proof.Machine
end

