-- ==== Sys2Proof/Machine/LinkState.lean ====
section
/-! DEFINITION. What links and the packet buffer hold, and the operations on it that no event or error hangs on: the
buffer's references (R251), gate windows (R192–R196), the lengths and rates of frames. -/
namespace Sys2Proof.Machine

/-- What a link holds besides its registers. -/
def Dev.link (d : Dev) (n : Nat) : LinkRt := SMap.get (fun _ => {}) d.links n
/-- It is replaced. -/
def Dev.setLink (d : Dev) (n : Nat) (l : LinkRt) : Dev := { d with links := SMap.put (fun _ => {}) n l d.links }

/-- The counters of link `n` (R212), by their offset. -/
abbrev Ctr.LNK (n off : Nat) : Nat := 0x810000 + n * 0x1000 + off
abbrev Lc.RX_FRAMES : Nat := 0x000
abbrev Lc.RX_OCTETS : Nat := 0x008
abbrev Lc.RX_FCS : Nat := 0x010
abbrev Lc.RX_RUNT : Nat := 0x018
abbrev Lc.RX_TOO_LONG : Nat := 0x020
abbrev Lc.RX_DA_FILTER : Nat := 0x028
abbrev Lc.RX_VLAN_FILTER : Nat := 0x030
abbrev Lc.RX_PAUSE : Nat := 0x038
abbrev Lc.RX_PFC : Nat := 0x040
abbrev Lc.RX_PAUSE_IGNORED : Nat := 0x048
abbrev Lc.RX_MACCTL_OTHER : Nat := 0x050
abbrev Lc.RX_MACSEC_DROP : Nat := 0x058
abbrev Lc.RX_SYMBOL : Nat := 0x060
abbrev Lc.FEC_CORR : Nat := 0x068
abbrev Lc.FEC_UNCORR : Nat := 0x070
abbrev Lc.TX_FRAMES : Nat := 0x080
abbrev Lc.TX_OCTETS : Nat := 0x088
abbrev Lc.TOO_LONG_FOR_GATE : Nat := 0x090
abbrev Lc.GATE_NEVER_OPEN : Nat := 0x098
abbrev Lc.GATE_OVERRUN : Nat := 0x0A0
abbrev Lc.TX_FRAGMENTS : Nat := 0x0A8
abbrev Lc.PAUSE_WD_TRIPS : Nat := 0x0B0
abbrev Lc.TX_SEGMENTS : Nat := 0x0B8
abbrev Lc.TX_NOT_IN_SERVICE : Nat := 0x0C0
abbrev Lc.TX_MACSEC_PN_DROP : Nat := 0x0C8
abbrev Lc.PAUSED_NS : Nat := 0x0D0
abbrev Lc.RX_NOT_IN_SERVICE : Nat := 0x0D8
abbrev Lc.LINK_DOWN : Nat := 0x0E0
abbrev Lc.RX_MACSEC_UNTAGGED : Nat := 0x0E8

/-- The counters of port `p` of the switch core, and its global ones (R256). -/
abbrev Ctr.PORT (p off : Nat) : Nat := 0x840000 + p * 0x100 + off
abbrev Pc.FWD_FRAMES : Nat := 0x00
abbrev Pc.FWD_OCTETS : Nat := 0x08
abbrev Pc.DROP_LINK_DOWN : Nat := 0x10
abbrev Pc.DROP_VLAN : Nat := 0x18
abbrev Pc.DROP_QUEUE_FULL : Nat := 0x20
abbrev Pc.DROP_SLUICE : Nat := 0x28
abbrev Pc.IN_FRAMES : Nat := 0x40
abbrev Pc.IN_NO_ROUTE : Nat := 0x48
abbrev Pc.IN_NO_BUFFER : Nat := 0x50
abbrev Pc.IN_OVERRUN : Nat := 0x58
abbrev Pc.LEARNED : Nat := 0x60
abbrev Pc.LEARN_MOVES : Nat := 0x68
abbrev Pc.LEARN_FULL : Nat := 0x70
abbrev Ctr.FRAMES_ADMITTED : Nat := 0x844000
abbrev Ctr.FRAMES_FREED : Nat := 0x844008
abbrev Ctr.CELLS_ALLOCATED : Nat := 0x844010
abbrev Ctr.CELLS_FREED : Nat := 0x844018
abbrev Ctr.FLOW_SLUICE_DROPS : Nat := 0x844020

/-- The link carries boardwalk ring traffic (R179). -/
def Dev.boardwalk (d : Dev) (n : Nat) : Bool := d.on (F.LNK_CTRL_MODE n)

/-- A link's data rate in tenths of Gb/s (R175). -/
def rate10 (speed : Nat) : Nat := if speed ≤ 1 then 10 else if speed = 2 then 25 else if speed = 3 then 100 else 250

/-- Auto-negotiation applies at the speed (R179). -/
def Dev.anApplies (d : Dev) (n : Nat) : Bool := d.on (F.LNK_CTRL_AN_EN n) && d.rd (F.LNK_CTRL_SPEED n) ≤ 1

/-! ### The packet buffer (R250, R251) -/

/-- The cells of a frame of `len` octets, DA to FCS. -/
def cellsOf (len : Nat) : Nat := (len + 32 + 255) / 256

/-- Cells of a class are taken, and the frame gets its number. -/
def Dev.takeCells (d : Dev) (cls cells : Nat) : Dev × Nat :=
  let id := d.swc.nextId
  let d := (d.wr F.SWC_STATUS_CELLS_FREE (d.rd F.SWC_STATUS_CELLS_FREE - cells)).wr (F.SWC_CLASS_USE_USE cls)
    (d.rd (F.SWC_CLASS_USE_USE cls) + cells)
  let d := (d.count Ctr.FRAMES_ADMITTED 1).count Ctr.CELLS_ALLOCATED cells
  ({ d with swc := { d.swc with nextId := id + 1, bufs := d.swc.bufs ++ [{ id, cls, cells, refs := 0 }] } }, id)

/-- The cells of a frame return (R251). -/
def Dev.freeCells (d : Dev) (b : Buf) : Dev :=
  let d := (d.wr F.SWC_STATUS_CELLS_FREE (d.rd F.SWC_STATUS_CELLS_FREE + b.cells)).wr (F.SWC_CLASS_USE_USE b.cls)
    (d.rd (F.SWC_CLASS_USE_USE b.cls) - b.cells)
  let d := (d.count Ctr.FRAMES_FREED 1).count Ctr.CELLS_FREED b.cells
  { d with swc := { d.swc with bufs := d.swc.bufs.filter (fun x => x.id != b.id) } }

/-- The reference count of a frame; at zero its cells return at once (R251). -/
def Dev.setRefs (d : Dev) (id refs : Nat) : Dev :=
  match d.swc.bufs.find? (fun b => b.id = id) with
  | none => d
  | some b =>
    if refs = 0 then d.freeCells b
    else { d with swc := { d.swc with bufs := d.swc.bufs.map (fun x => if x.id = id then { x with refs := refs } else x) } }

/-- One reference of a frame goes. -/
def Dev.release (d : Dev) (id : Nat) : Dev :=
  match d.swc.bufs.find? (fun b => b.id = id) with
  | none => d
  | some b => d.setRefs id (b.refs - 1)

/-- A frame to be sent has left or been dropped, with the reason: its reference goes; a local transmit descriptor counts one
less to leave, a flow's packet one leg less (R209, R251, R290). -/
def Dev.releaseTx (d : Dev) (f : TxFrame) (reason : Nat) : Dev :=
  let d := d.release f.pkt
  match f.src with
  | .ltx s i _ _ =>
    { d with swc := { d.swc with descs := d.swc.descs.map (fun (x : LtxDesc) =>
        if x.ring = s && x.index = i then
          { x with left := x.left - 1, reason := if x.reason = 0 then reason else x.reason,
                   segments := if reason = 0 then x.segments + 1 else x.segments }
        else x) } }
  | .flow g n leg => if reason = 0 then d.flowLeg g n leg true else d.flowDropped g n leg
  | _ => d

/-- Everything a link still had to send is discarded and counted in TX_NOT_IN_SERVICE; a frame in transmission is cut
(R182, R183). -/
def Dev.discardTx (d : Dev) (n : Nat) : Dev :=
  let l := d.link n
  let waiting := l.arriving ++ l.queue ++ l.preempted.toList
  let d := d.setLink n { l with arriving := [], queue := [], sending := none, preempted := none }
  let d := match l.sending with
    | some f => (d.emit (.cut n f.octets)).releaseTx f 9
    | none => d
  d.each waiting (fun d f => (d.releaseTx f 9).count (Ctr.LNK n Lc.TX_NOT_IN_SERVICE) 1)

/-! ### Rings that leave service (R230, R236) -/

/-- A ring announces a change in the tokens of the next `n` cycles, at least (R217, R230). -/
def Dev.ringAnnounce (d : Dev) (k n : Nat) : Dev :=
  d.setRing k { d.ring k with changeFor := max (d.ring k).changeFor n }

/-- ROLE of a ring changes (R216). -/
def Dev.ringRole (d : Dev) (k role : Nat) : Dev :=
  if d.rd (F.RING_STATUS_ROLE k) = role then d
  else
    let d := (d.wr (F.RING_STATUS_ROLE k) role).setBit (A.RING_EVT k) 3
    { d with nudge := d.nudge ++ [0x030 + k] }

/-- The blocks and frames that a ring still had to send are discarded: it sends nothing of its own outside IN_SERVICE
(R236; log 22). -/
def Dev.ringDiscard (d : Dev) (k : Nat) : Dev :=
  let r := d.ring k
  let d := d.setRing k { r with blocks := [], queue := [] }
  let d := d.each r.blocks (fun d b => d.flowDropped b.flow b.n 0)
  d.each r.queue (fun d f => d.releaseTx f 9)

/-- A ring passes frames no longer: no role, no wrap, no table in force (R236; log 22). -/
def Dev.ringStop (d : Dev) (k : Nat) : Dev :=
  let d := d.ringRole k 0
  let d := d.setReg (A.RING_STATUS k) 0
  let d := ((d.wr (F.RING_ALLOC_ALLOC k) 0).wr (F.RING_OFFSET_OFFSET k) 0).wr (F.RING_ASYNC_PASS k) 0
  let r := d.ring k
  d.setRing k { iso := r.iso, audio := r.audio, other := r.other, epoch := r.epoch }

/-- LINK_UP of a link has changed: the ring that names it announces the change (R230). -/
def Dev.linkChanged (d : Dev) (n : Nat) : Dev :=
  d.each ((List.range 12).filter (fun k => d.ustate (0x030 + k) != 0 &&
      (d.rd (F.RING_LINKS_WEST k) == n || d.rd (F.RING_LINKS_EAST k) == n))) (fun d k => d.ringAnnounce k 2)

/-- A link leaves service for STANDBY, OFF or FAULTED, or is reset: LINK_UP clears (R181). -/
def Dev.linkStops (d : Dev) (n : Nat) : Dev :=
  let d := d.discardTx n
  if d.on (F.LNK_STATUS_LINK_UP n) then (d.wr (F.LNK_STATUS_LINK_UP n) 0).linkChanged n else d

/-! ### Gates (R192–R196) -/

/-- The spans of a gate list within its cycle: gates and duration; the last span fills the cycle, the one that crosses its
end is cut (R193). -/
def gateSpans (left : Nat) : List (Nat × Nat) → List (Nat × Nat)
  | [] => []
  | [(g, _)] => [(g, left)]
  | (g, t) :: es => if left ≤ t then [(g, left)] else (g, t) :: gateSpans (left - t) es

/-- The operative spans of a link. -/
def Dev.spans (d : Dev) (n : Nat) : List (Nat × Nat) :=
  gateSpans (d.rd (F.LNK_GCL_CYCLE_CYCLE n))
    ((List.range (d.rd (F.LNK_GCL_CTRL_LEN n))).map
      (fun i => (d.rd (F.LNK_GCL_OPER_GATES n i), d.rd (F.LNK_GCL_OPER_INTERVAL n i))))

/-- The gate of a class is open in a span. -/
def openIn (c : Nat) (s : Nat × Nat) : Bool := s.1 / 2 ^ c % 2 == 1

/-- The longest run of open spans. -/
def longestOpen (c : Nat) : List (Nat × Nat) → Nat → Nat
  | [], run => run
  | s :: ss, run => if openIn c s then longestOpen c ss (run + s.2) else max run (longestOpen c ss 0)

/-- WMAX of a class (R194): an open stretch at the cycle's end joins one at its start. -/
def wmaxOf (c : Nat) (spans : List (Nat × Nat)) : Nat :=
  if spans.all (openIn c) then 0xFFFFFFFF else longestOpen c (spans ++ spans) 0

/-- The gate of a class is open now. -/
def Dev.gateOpen (d : Dev) (n c : Nat) : Bool :=
  !d.on (F.LNK_GCL_CTRL_EN n) || openIn c ((d.spans n).getD (d.rd (F.LNK_GCL_STATUS_ENTRY n)) (0xFF, 0))

/-- The length of the open spans at the front. -/
def openAhead (c : Nat) : List (Nat × Nat) → Nat
  | [] => 0
  | s :: ss => if openIn c s then s.2 + openAhead c ss else 0

/-- How long the open gate of a class stays open, in ns, joined over the cycle's end; none for always (R196). -/
def Dev.openFor (d : Dev) (n c : Nat) : Option Nat :=
  let ss := d.spans n
  let i := d.rd (F.LNK_GCL_STATUS_ENTRY n)
  if !d.on (F.LNK_GCL_CTRL_EN n) || ss.all (openIn c) then none
  else some (openAhead c ((ss ++ ss).drop i) - (d.stcNs - (d.link n).entryAt))

/-- Preemption is active on the link (R197). -/
def Dev.preemptActive (d : Dev) (n : Nat) : Bool := d.rd (F.LNK_PREEMPT_VERIFY n) == 2 && !d.boardwalk n
/-- The class is preemptable and preemption active. -/
def Dev.preemptable (d : Dev) (n c : Nat) : Bool :=
  d.preemptActive n && d.rd (F.LNK_PREEMPT_PREEMPTABLE n) / 2 ^ c % 2 == 1

/-- The octets whose wire time counts for a class: the frame, or the minimum fragment (R195, R197). -/
def Dev.guardLen (d : Dev) (n c len : Nat) : Nat :=
  if d.preemptable n c then 64 * (1 + d.rd (F.LNK_PREEMPT_ADD_FRAG n)) else len

/-- The wire time of `len` octets is above a number of ns: (L + 8) × 8 / R. -/
def Dev.wireAbove (d : Dev) (n len ns : Nat) : Bool := ns * rate10 (d.rd (F.LNK_CTRL_SPEED n)) < (len + 8) * 80

/-- The enqueue check (R195): the counter of the drop, if the frame is dropped. -/
def Dev.gateCheck (d : Dev) (n : Nat) (f : TxFrame) : Option Nat :=
  if !d.on (F.LNK_GCL_CTRL_EN n) then none
  else
    let w := d.rd (F.LNK_WMAX_WMAX n f.cls)
    if w = 0 then some Lc.GATE_NEVER_OPEN
    else if w ≠ 0xFFFFFFFF && d.wireAbove n (d.guardLen n f.cls f.len) w then some Lc.TOO_LONG_FOR_GATE
    else none

/-! ### Shapers (R198) -/

/-- The credit of shaper `k` brought up to now. -/
def Dev.creditNow (d : Dev) (n k : Nat) : Int :=
  let l := d.link n
  let cr := if k = 0 then l.credit0 else l.credit1
  let dt : Int := d.clk - l.creditAt
  let c := d.rd (F.LNK_CBS_CLASS n k)
  let idle : Int := d.rd (F.LNK_CBS_SLOPE_IDLE_SLOPE n k)
  if !d.on (F.LNK_CBS_EN n k) then 0
  else if !d.gateOpen n c then cr
  else if (l.sending.map (·.cls)) == some c then cr + (idle - 100000 * rate10 (d.rd (F.LNK_CTRL_SPEED n))) * dt
  else if (l.queue ++ l.preempted.toList).any (fun f => f.cls = c) then cr + idle * dt
  else if cr < 0 then min 0 (cr + idle * dt)
  else 0

/-- Both credits are brought up to now; before anything they depend on changes. -/
def Dev.settleCredit (d : Dev) (n : Nat) : Dev :=
  d.setLink n { d.link n with credit0 := d.creditNow n 0, credit1 := d.creditNow n 1, creditAt := d.clk }

/-- The shapers let a class start a frame (R198). -/
def Dev.shaperOk (d : Dev) (n c : Nat) : Bool :=
  [0, 1].all (fun k => !(d.on (F.LNK_CBS_EN n k) && d.rd (F.LNK_CBS_CLASS n k) == c) || 0 ≤ d.creditNow n k)

/-- A value of TX time or of a receive time, in 2⁻¹⁶ ns: the STC, the signed delay of the link, and an error within the
accuracy of R202, which is a free value (log 14). -/
def Dev.stamp (d : Dev) (n : Nat) (delay : Nat) : Nat :=
  let acc := match d.rd (F.LNK_CTRL_SPEED n) with
    | 3 => 2 | 4 => 2 | 5 => 4 | _ => 8
  let err := clampInt (-(acc * 65536 : Int)) (acc * 65536) ((Config.freeNat d.free : Int) - acc * 65536)
  ((d.stcFine / 2 ^ 16 : Nat) + toSigned 32 delay + err).toNat

/-- Times in 2⁻¹⁶ ns: nanoseconds since the STC's zero. -/
abbrev nsOfStamp (t : Nat) : Nat := t / 65536

end Sys2Proof.Machine
end

