-- ==== Sys2Proof/Machine/MediaState.lean ====
section
/-! DEFINITION. What domains, flows, port groups and patch regions hold, and the operations on it that no order hangs on:
tick times (R308–R310), loads of the capacity model (R19, R23, R259, R354, R371), what feeds and consumes a channel index
(R358). -/
namespace Sys2Proof.Machine

/-! ### Operating points (R19, R23) -/

/-- The core clock of an operating point in Hz (R23). -/
def coreHz (opp : Nat) : Nat := match opp with
  | 0 => 1200000000 | 1 => 1000000000 | 2 => 800000000 | _ => 500000000
/-- Network channels each way at 1× (R23). -/
def netLimit (opp : Nat) : Nat := match opp with
  | 0 => 32768 | 1 => 32768 | 2 => 26214 | _ => 16384
/-- Patch destinations at 48 kHz (R23). -/
def patchLimit (opp : Nat) : Nat := match opp with
  | 0 => 65536 | 1 => 65536 | 2 => 52428 | _ => 32768
/-- Frames/s of the switch core each way (R253). -/
def switchFrames (opp : Nat) : Nat := match opp with
  | 0 => 720000000 | 1 => 600000000 | 2 => 480000000 | _ => 300000000
/-- Bits/s of the switch core each way (R253). -/
def switchBits (opp : Nat) : Nat := match opp with
  | 0 => 400000000000 | 1 => 400000000000 | 2 => 320000000000 | _ => 200000000000

/-- The operating points whose figures a load must fit: the one in force, and during a change the new one too (R19);
in a replay the one that the trace records (R450). -/
def Dev.opps (d : Dev) : List Nat :=
  if d.rd F.FRG_STATUS_STATE = 4 then [d.frg.opp]
  else if d.on F.CLK_OPP_STATUS_CHANGING then [d.rd F.CLK_OPP_STATUS_CUR, d.pwr.newOpp]
  else [d.rd F.CLK_OPP_STATUS_CUR]

/-! ### Domains (R308–R311) -/

/-- The nominal RATE code of a domain. -/
abbrev Dev.domainCode (d : Dev) (m : Nat) : Nat := d.rd (F.MCS_DOMAIN_RATE m)
/-- Its nominal rate in Hz, f_n. -/
abbrev Dev.domainHz (d : Dev) (m : Nat) : Nat := rateHz (d.domainCode m)
/-- The size of a domain's running tick, T. -/
abbrev Dev.tickSize (d : Dev) (m : Nat) : Nat := 2 ^ (d.mclk m).running
/-- The domain's media clock is OFF or FAULTED. -/
abbrev Dev.noClock (d : Dev) (m : Nat) : Bool := d.ustate (0x0A0 + m) == 0 || d.ustate (0x0A0 + m) == 5

/-- The tick budget of a signal engine (R154). -/
def tickBudget (core t hz : Nat) : Nat := core * t / hz - 64

/-- The mean period p̂ of a domain, in 2⁻¹⁶ ns, as a fraction: over the last 16 ticks, or nominal until then (R310; DEDUCED,
log 23: by their media counts, so that a change of tick size does not disturb it). -/
def Dev.meanPeriod (d : Dev) (m : Nat) : Nat × Nat :=
  let x := d.mclk m
  match x.marks[0]?, x.marks[16]? with
  | some a, some b => if b.2 < a.2 ∧ b.1 < a.1 then (a.1 - b.1, a.2 - b.2) else (65536 * 1000000000, d.domainHz m)
  | _, _ => (65536 * 1000000000, d.domainHz m)

/-- τ of a period of a domain in 2⁻¹⁶ ns (R310). -/
def Dev.tau (d : Dev) (m n : Nat) : Int :=
  let x := d.mclk m
  let p := d.meanPeriod m
  (x.tickAt : Int) + ((n : Int) - x.count) * p.1 / p.2

/-- The period of a domain in which a time lies: τ(n) ≤ t < τ(n + 1) (R273, R342). -/
def Dev.periodAt (d : Dev) (m : Nat) (t : Int) : Int :=
  let x := d.mclk m
  let p := d.meanPeriod m
  (x.count : Int) + (t - x.tickAt) * p.2 / p.1

/-- The time now in 2⁻¹⁶ ns. -/
abbrev Dev.now16 (d : Dev) : Nat := d.stcFine / 2 ^ 16

/-! ### Flows -/

/-- Channel slots of a flow (R259). -/
def Dev.flowSlots (d : Dev) (f : Nat) : Nat := d.flowChans f * rateMult (d.rd (F.FLOW_CFG_RATE f))
/-- The flow is not OFF. -/
abbrev Dev.flowOn (d : Dev) (f : Nat) : Bool := d.ustate (0x400 + f) != 0
/-- The flows that are not OFF, of the state words the register file lists. -/
def Dev.flowsNotOff (d : Dev) : List Nat :=
  (d.regs.filter (fun e => 0x20000 ≤ e.1 && e.1 < 0x40000 && e.1 % 0x40 == 4 && bits e.2 0 3 != 0)).map
    (fun e => (e.1 - 0x20000) / 0x40)
/-- Channel slots in use on a stream engine in a direction, with flow `also` counted whatever its state (R259). -/
def Dev.slotsUsed (d : Dev) (s : Nat) (tx : Bool) (also : Option Nat) : Nat :=
  ((List.range 8).map (fun i => 8 * s + i)).foldl (fun a f =>
    if (d.flowOn f || also == some f) && d.flowTx f == tx then a + d.flowSlots f else a) 0

/-- Blocks of the receive pool that a flow takes (R275). -/
def Dev.flowBlocks (d : Dev) (f : Nat) : Nat := d.flowChans f * ((2 ^ d.rd (F.FLOW_BUF_BUF_LOG2 f) + 255) / 256)
/-- Free blocks of the receive pool (R260, R275). -/
def Dev.poolFree (d : Dev) : Nat := 32768 - (d.flows.foldl (fun a e => a + e.2.blocks) 0)

/-- The samples of a flow's periods that will be in no packet, or that go with the flow's service, close as MUTED (R290). -/
def Dev.flowCloseTx (d : Dev) (f : Nat) : Dev :=
  let x := d.flow f
  (d.setFlow f { x with txbuf := [], txFrom := none, txTo := none }).each x.txbuf (fun d _ => d.closePeriod f Fc.MUTED)

/-- The account of a period that a tick consumed (R290). -/
def fateAccount : Fate → Nat
  | .present => Fc.DELIVERED
  | .concealed => Fc.CONCEALED
  | .late => Fc.DISCARDED_LATE
  | .muted => Fc.MUTED

/-- The periods that the last tick consumed close (R290). -/
def Dev.flowCloseRx (d : Dev) (f : Nat) : Dev :=
  let x := d.flow f
  (d.setFlow f { x with open_ := [] }).each x.open_ (fun d p => d.closePeriod f (fateAccount p.2))

/-- A flow leaves service for STANDBY, FAULTED or OFF (R288, R290): its buffers are emptied; at OFF its blocks return. -/
def Dev.flowStop (d : Dev) (f : Nat) (off : Bool) : Dev :=
  let d := d.flowCloseTx f
  let d := if off then d.flowCloseRx f else d
  let x := d.flow f
  let d := (d.wr (F.FLOW_STATUS_LEG_A_UP f) 0).wr (F.FLOW_STATUS_LEG_B_UP f) 0
  let d := d.wr (F.FLOW_STATUS_DEPTH f) 0
  d.setFlow f (if off then { closed := x.closed, rxq := x.rxq, packets := x.packets, sluice := x.sluice }
    else { x with buf := [], run := 0, avtp := none })

/-! ### What feeds and consumes a channel index (R358, R359) -/

/-- The port group of a port input or output offset. -/
abbrev groupOfOffset (o : Nat) : Nat := o / 256
/-- The enabled host channel ring that covers a channel, playback or record (R107). -/
def Dev.ringOfChannel (d : Dev) (record : Bool) (c : Nat) : Option Nat :=
  (List.range 64).findSome? (fun i =>
    let r := if record then 64 + i else i
    if d.on (F.HCH_CFG_EN r) && d.rd (F.HCH_CFG_FIRST_CH r) ≤ c &&
        c < d.rd (F.HCH_CFG_FIRST_CH r) + d.rd (F.HCH_CFG_CHANS r) then some r else none)

/-- The flow of an engine that covers a channel index and is not OFF (R258, R262). -/
def Dev.flowOfIndex (d : Dev) (tx : Bool) (i : Nat) : Option Nat :=
  let s := i % 0x10000 / 128
  (List.range 8).findSome? (fun k =>
    let f := 8 * s + k
    if d.flowOn f && d.flowTx f == tx && d.rd (F.FLOW_FIRST_FIRST f) ≤ i && i < d.rd (F.FLOW_FIRST_FIRST f) + d.flowChans f
    then some f else none)

/-- A source index is in a defined range (R358). -/
def srcDefined (i : Nat) : Bool :=
  i < 0x9000 || (0x9000 ≤ i && i < 0x9100) || (0x9400 ≤ i && i < 0x9800) || (0xA000 ≤ i && i < 0xE000) ||
    i == 0xF000 || i == 0xF001
/-- A destination is in a defined range (R358). -/
def dstDefined (i : Nat) : Bool :=
  (0x10000 ≤ i && i < 0x19000) || (0x19400 ≤ i && i < 0x19800) || (0x1A000 ≤ i && i < 0x1E000)
/-- Two indices lie in one defined range (R373). -/
def sameRange (i j : Nat) : Bool :=
  [(0, 0x8000), (0x8000, 0x9000), (0x9000, 0x9100), (0x9400, 0x9800), (0xA000, 0xE000), (0xF000, 0xF001), (0xF001, 0xF002),
    (0x10000, 0x18000), (0x18000, 0x19000), (0x19400, 0x19800), (0x1A000, 0x1E000)].any
    (fun r => r.1 ≤ i && i < r.2 && r.1 ≤ j && j < r.2)

/-- The domain of the unit that feeds a source, or consumes a destination, if there is one (R358, R363). -/
def Dev.indexDomain (d : Dev) (i : Nat) : Option Nat :=
  let o := i % 0x10000
  if o < 0x8000 then (d.flowOfIndex (0x10000 ≤ i) i).map d.flowDomain
  else if o < 0x9100 then
    let g := if o < 0x9000 then groupOfOffset (o - 0x8000) else (o - 0x9000) / 16
    if d.ustate (0x040 + g) = 0 then none else some (d.rd (F.APG_CFG_DOMAIN g))
  else if o < 0x9800 then
    (d.ringOfChannel (0x10000 ≤ i) (o - 0x9400)).map (fun r => d.rd (F.HCH_CFG_DOMAIN r))
  else if 0xA000 ≤ o && o < 0xE000 then
    let e := (o - 0xA000) / 256
    if d.ustate (0x0B0 + e) = 0 then none else some (d.rd (F.ENG_CFG_DOMAIN e))
  else none

/-! ### Port groups, decimators, bridges (R328–R354) -/

/-- What a port group holds besides its registers. -/
def Dev.group (d : Dev) (g : Nat) : GroupRt := SMap.get (fun _ => {}) d.groups g
/-- It is replaced. -/
def Dev.setGroup (d : Dev) (g : Nat) (x : GroupRt) : Dev := { d with groups := SMap.put (fun _ => {}) g x d.groups }
/-- What a decimator holds besides its registers. -/
def Dev.decim (d : Dev) (k : Nat) : DecimRt := SMap.get (fun _ => {}) d.decims k
/-- It is replaced. -/
def Dev.setDecim (d : Dev) (k : Nat) (x : DecimRt) : Dev := { d with decims := SMap.put (fun _ => {}) k x d.decims }

/-- The nominal frame rate of a group in Hz, f_g. -/
abbrev Dev.groupHz (d : Dev) (g : Nat) : Nat := rateHz (d.rd (F.APG_CFG_RATE g))
/-- B of a group: the frames of a block (R341). -/
abbrev Dev.groupBlock (d : Dev) (g : Nat) : Nat := 2 ^ d.rd (F.APG_CFG_BLK_LOG2 g)
/-- A pin's DIR, SLOTS, TRI and enabled slots (R335). -/
def Dev.pinDir (d : Dev) (n k : Nat) : Nat := if k = 0 then d.rd (F.AP_PIN0_DIR n) else d.rd (F.AP_PIN1_DIR n)
/-- Its SLOTS. -/
def Dev.pinSlots (d : Dev) (n k : Nat) : Nat := if k = 0 then d.rd (F.AP_PIN0_SLOTS n) else d.rd (F.AP_PIN1_SLOTS n)
/-- Its slot enables. -/
def Dev.pinEn (d : Dev) (n k : Nat) : Nat := if k = 0 then d.rd (F.AP_SLOT_EN0_EN n) else d.rd (F.AP_SLOT_EN1_EN n)
/-- A slot of a pin is in use. -/
def Dev.slotOn (d : Dev) (n k j : Nat) : Bool := j < d.pinSlots n k && d.pinEn n k / 2 ^ j % 2 == 1
/-- The enabled slots of a pin. -/
def Dev.enabledSlots (d : Dev) (n k : Nat) : List Nat := (List.range 32).filter (d.slotOn n k)

/-- Width of a slot in bit clocks (R330). -/
def Dev.slotWidth (d : Dev) (g : Nat) : Nat := match d.rd (F.APG_CFG_SLOT_W g) with
  | 0 => 16 | 1 => 24 | _ => 32

/-- Ratio, settling count of a decimator filter (R350). -/
def filtRatio (f : Nat) : Nat := match f with
  | 0 => 64 | 1 => 64 | 2 => 128 | 3 => 32 | _ => 48
/-- The settling count of a filter (R350). -/
def filtSettle (f : Nat) : Nat := match f with
  | 0 => 59 | 1 => 27 | 2 => 60 | 3 => 59 | _ => 59

/-- The pins of a group's ports: port and pin. -/
def groupPins (g : Nat) : List (Nat × Nat) := (List.range 8).map (fun i => (4 * g + i / 2, i % 2))

/-- The bit clock count of a frame satisfies the format (R332). -/
def Dev.bclksOk (d : Dev) (g bclks : Nat) : Bool :=
  let w := d.slotWidth g
  match d.rd (F.APG_CFG_FMT g) with
  | 0 => w * ((groupPins g).foldl (fun a p =>
      if d.pinDir p.1 p.2 = 1 || d.pinDir p.1 p.2 = 2 then max a (d.pinSlots p.1 p.2) else a) 0) ≤ bclks
  | 3 => (groupPins g).all (fun p => d.pinDir p.1 p.2 != 3 || bclks == filtRatio (d.rd (F.DEC_CFG_FILT (2 * p.1 + p.2))))
  | _ => bclks % 2 == 0 && w ≤ bclks / 2

/-- Channel load of a rate bridge (R354), with unit `also` counted whatever its state. -/
def Dev.bridgeLoad (d : Dev) (g : Nat) (also : Nat) : Nat :=
  let m := max (rateMult (d.rd (F.APG_CFG_RATE g))) (rateMult (d.domainCode (d.rd (F.APG_CFG_DOMAIN g))))
  let on (u : Nat) : Bool := d.ustate u != 0 || u == also
  let pins := (groupPins g).foldl (fun a p =>
    if on (0x050 + p.1) && (d.pinDir p.1 p.2 = 1 || d.pinDir p.1 p.2 = 2) then a + (d.enabledSlots p.1 p.2).length else a) 0
  let decs := ((List.range 8).map (8 * g + ·)).foldl (fun a k =>
    if on (0x100 + k) then a + d.rd (F.DEC_CFG_EN_R k) + d.rd (F.DEC_CFG_EN_F k) else a) 0
  (pins + decs) * m

/-- The group, or its bridge, delivers zero tagged MUTED from now on: what it holds of frames is discarded (R339). -/
def Dev.groupMute (d : Dev) (g : Nat) : Dev :=
  let x := d.group g
  d.setGroup g { x with good := 0, errs := 0, block := [], ready := [], times := [], frames := 0, frameAt := none,
                        din := none, dout := none, inBuf := [], last := [], lastOut := none, window := [] }

/-- The settling of a decimator starts, on both outputs or on one (R351). -/
def Dev.settleDecim (d : Dev) (k : Nat) (r f : Bool) : Dev :=
  let n := filtSettle (d.rd (F.DEC_CFG_FILT k))
  let x := d.decim k
  let x : DecimRt := { x with leftR := if r then n else x.leftR, leftF := if f then n else x.leftF, done := false }
  (d.setDecim k x).wr (F.DEC_STATUS_SETTLE_LEFT k) (max x.leftR x.leftF)

/-! ### Patch regions and meters (R364–R374) -/

/-- What a region holds besides its registers. -/
def Dev.region (d : Dev) (r : Nat) : RegionRt := SMap.get (fun _ => {}) d.regions r
/-- It is replaced. -/
def Dev.setRegion (d : Dev) (r : Nat) (x : RegionRt) : Dev := { d with regions := SMap.put (fun _ => {}) r x d.regions }
/-- BASE and COUNT of a region. -/
abbrev Dev.regionBase (d : Dev) (r : Nat) : Nat := d.rd (F.PR_REGION_BASE_BASE r)
abbrev Dev.regionCount (d : Dev) (r : Nat) : Nat := d.rd (F.PR_REGION_CFG_COUNT r)
/-- A table word lies in a region. -/
def Dev.inRegion (d : Dev) (r w : Nat) : Bool := d.regionBase r ≤ w && w < d.regionBase r + d.regionCount r
/-- The router load, with region `also` counted whatever its state (R371). -/
def Dev.routerLoad (d : Dev) (also : Option Nat) : Nat :=
  (List.range 64).foldl (fun a r =>
    if d.ustate (0xC00 + r) != 0 || also == some r then a + d.regionCount r * rateMult (d.domainCode (d.rd (F.PR_REGION_CFG_DOMAIN r)))
    else a) 0

/-- The addresses of the active and the shadow patch table, word `w` (R360). -/
abbrev patchActive (w : Nat) : Nat := 0x600000 + 4 * w
/-- The shadow word. -/
abbrev patchShadow (w : Nat) : Nat := 0x640000 + 4 * w
/-- The listed active entries of a range of table words that are EN: word number and entry. -/
def Dev.activeEntries (d : Dev) (base count : Nat) : List (Nat × Word) :=
  (d.regs.filter (fun e => patchActive base ≤ e.1 && e.1 < patchActive (base + count) && e.2.getLsbD 31)).map
    (fun e => ((e.1 - 0x600000) / 4, e.2))
/-- An entry may stand at a table word: its source and the destination are defined (R365). -/
def entryOk (w : Nat) (e : Word) : Bool := !e.getLsbD 31 || (srcDefined (bits e 0 16) && dstDefined (0x10000 + w))

/-- Meter cells of enabled ranges, and enabled loudness cells (R372). -/
def Dev.meterCells (d : Dev) : Nat :=
  (List.range 64).foldl (fun a r => if d.on (F.MTR_RANGE_CFG_EN r) then a + d.rd (F.MTR_RANGE_CELLS_COUNT r) else a) 0
/-- Enabled loudness cells. -/
def Dev.loudCells (d : Dev) : Nat := ((List.range 256).filter (fun c => d.on (F.MTR_LD_CFG_EN c))).length

/-- Shelf addresses of meter cells, loudness cells, histograms (R374–R376). -/
abbrev Ctr.CELL (c : Nat) : Nat := 0x900000 + c * 0x10
abbrev Ctr.LOUD (c : Nat) : Nat := 0x940000 + c * 0x40
abbrev Ctr.HIST (f : Nat) : Nat := 0x960000 + f * 0x100
/-- All 32 bins of a flow's histogram are zero (R376). -/
def Dev.clearHist (d : Dev) (f : Nat) : Dev := d.each (List.range 32) (fun d i => d.setStat (Ctr.HIST f + 8 * i) 0)
/-- Every cell, loudness cell and histogram is zero (R377). -/
def Dev.clearMeters (d : Dev) : Dev := { d with stat := d.stat.filter (fun e => !(0x900000 ≤ e.1 && e.1 < 0xA00000)) }

/-- A meter cell restarts with every word zero (R373). -/
def Dev.clearCell (d : Dev) (c : Nat) : Dev := (d.setStat (Ctr.CELL c) 0).setStat (Ctr.CELL c + 8) 0
/-- A loudness cell restarts: undefined values, its start now (R375). -/
def Dev.startLoud (d : Dev) (c : Nat) : Dev :=
  let d := (d.setStat (Ctr.LOUD c) 0x0000800000008000).setStat (Ctr.LOUD c + 8) 0x0000800000008000
  (d.setStat (Ctr.LOUD c + 16) 0x8000).setStat (Ctr.LOUD c + 24) d.t64
/-- A loudness cell that is not in use reads zero. -/
def Dev.clearLoud (d : Dev) (c : Nat) : Dev := d.each [0, 8, 16, 24] (fun d o => d.setStat (Ctr.LOUD c + o) 0)

/-- The cell bindings that the meter set in force gives: cell and index; loudness cells at 0x10000 + c (R372). -/
def Dev.bindings (d : Dev) : List (Nat × Nat) :=
  ((List.range 64).filter (fun r => d.on (F.MTR_RANGE_CFG_EN r))).flatMap (fun r =>
    (List.range (d.rd (F.MTR_RANGE_CELLS_COUNT r))).map (fun i =>
      (d.rd (F.MTR_RANGE_CELLS_FIRST r) + i, d.rd (F.MTR_RANGE_INDEX_INDEX r) + i))) ++
  ((List.range 256).filter (fun c => d.on (F.MTR_LD_CFG_EN c))).map (fun c => (0x10000 + c, d.rd (F.MTR_LD_CFG_INDEX c)))

/-- The meter set has applied: cells newly bound, or bound to another index, restart; others that lose their binding read
zero (R373, R374). -/
def Dev.rebind (d : Dev) : Dev :=
  let bs := d.bindings
  let old := d.cells
  let clear (d : Dev) (c : Nat) : Dev := if c < 0x10000 then d.clearCell c else d.clearLoud (c - 0x10000)
  let d := d.each (old.filter (fun e => bs.all (fun b => b.1 != e.1))) (fun d e => clear d e.1)
  let d := d.each (bs.filter (fun b => SMap.get (fun _ => 0) old b.1 != b.2 + 1))
    (fun d b => if b.1 < 0x10000 then d.clearCell b.1 else d.startLoud (b.1 - 0x10000))
  { d with cells := bs.foldl (fun m b => SMap.put (fun _ => 0) b.1 (b.2 + 1) m) [] }

end Sys2Proof.Machine
end

