-- ==== Sys2Proof/Machine/FragalState.lean ====
section
/-! DEFINITION. Fragal's trace (R438–R449): records, chunks, sinks, the end of a recording, and the records that inputs to the
scope leave. Where a body's layout is not stated whole, the one chosen is in log 46. -/
namespace Sys2Proof.Machine

/-- A number in little-endian octets. -/
def leBytes (v : Nat) : Nat → List Byte
  | 0 => []
  | n + 1 => BitVec.ofNat 8 v :: leBytes (v / 256) n

/-- Octets followed by zeros up to a length. -/
def padTo (bs : List Byte) (n : Nat) : List Byte := bs ++ List.replicate (n - bs.length) 0

/-- The states of Fragal (R453). -/
abbrev Frg.IDLE : Nat := 0
abbrev Frg.ARMING : Nat := 1
abbrev Frg.RECORDING : Nat := 2
abbrev Frg.STOPPED : Nat := 3
abbrev Frg.REPLAYING : Nat := 4
abbrev Frg.DIVERGED : Nat := 5
abbrev Frg.DONE : Nat := 6

/-- The record types (R441). -/
abbrev Rt.HEADER : Nat := 1
abbrev Rt.CKPT : Nat := 2
abbrev Rt.FRAME : Nat := 3
abbrev Rt.BLOCK : Nat := 4
abbrev Rt.HOST : Nat := 5
abbrev Rt.EDGE : Nat := 6
abbrev Rt.PIN : Nat := 7
abbrev Rt.ORDER : Nat := 8
abbrev Rt.VALUE : Nat := 9
abbrev Rt.SAMPLE : Nat := 10
abbrev Rt.DIGEST : Nat := 11
abbrev Rt.GAP : Nat := 12
abbrev Rt.END : Nat := 13
abbrev Rt.PAD : Nat := 14

/-- The counters of Fragal (R454): RECORDS, BYTES, CHUNKS, GAPS, RECORDS_DROPPED, CKPTS, CKPTS_SKIPPED, TAIL_WRITES,
DIVERGENCES. -/
abbrev Ctr.FRG (i : Nat) : Nat := 0x804000 + 8 * i

/-- A key's words from its slot; none where the slot does not hold that type (R425). -/
def Dev.keyWords (d : Dev) (slot kind : Nat) : Option (List Word) :=
  let k : KeySlot := SMap.get (fun _ => {}) d.keys slot
  if k.kind = kind then some k.words else none

/-- The operating point that figures which depend on the frequency are computed from (R450). -/
def Dev.figureOpp (d : Dev) : Nat := if d.rd F.FRG_STATUS_STATE = Frg.REPLAYING then d.frg.opp else d.pwr.freq

/-- Core cycles since the segment's checkpoint (R441), by the model's clock (log 44). -/
def Dev.fragCycle (d : Dev) : Nat := (d.clk - d.frg.segment) * coreHz d.figureOpp / 1000000000

/-- A record: its header and body, padded to 8 octets (R441). -/
def fragRecord (type flags unit cw cycle : Nat) (body : List Byte) : List Byte :=
  let n := (16 + body.length + 7) / 8
  padTo ([BitVec.ofNat 8 type, BitVec.ofNat 8 flags] ++ leBytes n 2 ++ leBytes unit 2 ++ [BitVec.ofNat 8 cw, 0] ++
    leBytes cycle 8 ++ body) (8 * n)

/-- The octets of a chunk (R440). -/
def chunkBytes (key : Option (List Word)) (nonce : Word) (n first : Nat) (tail : Bool) (body : List Byte) : List Byte :=
  let head := leBytes n 8 ++ leBytes nonce.toNat 4 ++ leBytes first 2 ++
    leBytes ((if key.isSome then 1 else 0) + if tail then 2 else 0) 1 ++ [0]
  match key with
  | some k =>
    let c := Config.chunkSeal k nonce n body
    let c := (List.range 4064).map (fun i => c.getD i 0)
    head ++ c ++ leBytes (Config.chunkTag k nonce n head c) 16
  | none => head ++ body ++ leBytes (crc32c (head ++ body)).toNat 4 ++ List.replicate 12 0

/-- Words of octets. -/
def wordsOf : List Byte → List Word
  | a :: b :: c :: e :: bs => bytesWord [a, b, c, e] :: wordsOf bs
  | _ => []

/-- Words are written into the on-chip buffer from word `i` on. -/
def Dev.putOcb (d : Dev) (i : Nat) (ws : List Word) : Dev :=
  let new := (ws.zipIdx.map (fun w => (i + w.2, w.1))).filter (fun e => e.2 != 0)
  { d with frg := { d.frg with ocb := d.frg.ocb.filter (fun e => e.1 < i) ++ new ++
                                      d.frg.ocb.filter (fun e => i + ws.length ≤ e.1) } }

/-- A chunk of the on-chip buffer in octets. -/
def Dev.ocbChunk (d : Dev) (i : Nat) : List Byte :=
  (List.range 1024).flatMap (fun k => wordBytes (SMap.get (fun _ => 0) d.frg.ocb (1024 * (i % 1024) + k)))

/-- The chunks of the host ring (R453). -/
def Dev.hringSlots (d : Dev) : Nat := 2 ^ (d.rd F.FRG_HRING_CFG_SIZE_LOG2 - 12)

/-- Chunk credits of the host ring (R447). -/
def Dev.hringCredit (d : Dev) : Nat := d.hringSlots - (d.reg A.FRG_HRING_DEVPTR - d.frg.host).toNat

/-- The host address of a chunk of the ring. -/
def Dev.hringAddr (d : Dev) (i : Nat) : Nat :=
  (d.reg A.FRG_HRING_BASE_LO).toNat / 4096 * 4096 + (d.reg A.FRG_HRING_BASE_HI).toNat * 2 ^ 32 + i % d.hringSlots * 4096

/-- A chunk goes to its sink (R447): the on-chip buffer keeps the last 4 MiB of chunks whichever the sink. -/
def Dev.postChunk (d : Dev) (body : List Byte) : Dev :=
  let f := d.frg
  let key := if d.on F.FRG_CTRL_ENCRYPT then some ((d.keyWords 1 4).getD []) else none
  let bs := chunkBytes key f.nonce f.chunk (f.first.getD 0xFFFF) false body
  let d := d.putOcb (1024 * (f.written % 1024)) (wordsOf bs)
  let d : Dev := { d with frg := { d.frg with chunk := f.chunk + 1, written := f.written + 1, first := none } }
  let d := (d.wr F.FRG_OCB_FILL_CHUNKS (min (f.written + 1) 1024)).count (Ctr.FRG 2) 1
  if d.on F.FRG_CTRL_SINK then
    (d.hostBytes (d.hringAddr (d.reg A.FRG_HRING_DEVPTR).toNat) bs).setReg A.FRG_HRING_DEVPTR (d.reg A.FRG_HRING_DEVPTR + 1)
  else d

/-- Whole chunks leave for the sink. -/
def Dev.flushN : Nat → Dev → Dev
  | 0, d => d
  | n + 1, d =>
    let b := d.frg.body
    if b.length < 4064 then d
    else Dev.flushN n ({ d with frg := { d.frg with body := b.drop 4064 } }.postChunk (b.take 4064))

/-- A record goes into the chunks. -/
def Dev.appendRecord (d : Dev) (rec : List Byte) : Dev :=
  let f := d.frg
  let d : Dev := { d with frg := { f with body := f.body ++ rec, first := f.first.or (some (16 + f.body.length)) } }
  ((d.count (Ctr.FRG 0) 1).count (Ctr.FRG 1) rec.length).flushN (rec.length / 4064 + 1)

/-- The octets that the sink still has room for; none where it has no end (R447). -/
def Dev.fragRoom (d : Dev) : Option Nat :=
  if d.on F.FRG_CTRL_SINK then some (4064 * d.hringCredit - d.frg.body.length)
  else if d.on F.FRG_CTRL_WRAP then none
  else some (4064 * (1024 - d.frg.written) - d.frg.body.length)

/-- A leaf of `FRG_EVT` (R453). -/
def Dev.frgEvt (d : Dev) (b : Nat) : Dev := d.setBit A.FRG_EVT b

/-- Release cycles in the deltas of R442: of each cycle less the one before it, minus 1, seven bits to an octet. -/
def deltaBytes : Nat → Nat → List Byte
  | 0, _ => []
  | n + 1, v => if v < 128 then [BitVec.ofNat 8 v] else BitVec.ofNat 8 (128 + v % 128) :: deltaBytes n (v / 128)

/-- The body of an ORDER record (R441, R442). -/
def orderBody (cw : Nat) (cycles : List Nat) : List Byte :=
  leBytes cw 2 ++ leBytes cycles.length 2 ++ leBytes 0 4 ++ leBytes (cycles.headD 0) 8 ++
    (cycles.zip (cycles.drop 1)).flatMap (fun p => deltaBytes 10 (p.2 - p.1 - 1))

/-- The recording ends: pending ORDER records, END with its cause, padding to the end of the chunk (R442, R448). -/
def Dev.fragEnd (d : Dev) (cause : Nat) : Dev :=
  let st := d.rd F.FRG_STATUS_STATE
  if st ≠ Frg.ARMING && st ≠ Frg.RECORDING then d
  else
    let d := ((d.wr F.FRG_STATUS_STATE Frg.STOPPED).wr F.FRG_STATUS_END_CAUSE cause).frgEvt 1
    let d := d.wr F.FRG_CMD_BUSY 0
    if st = Frg.ARMING then d
    else
      let c := d.fragCycle
      let d := d.each d.frg.orders (fun d o => d.appendRecord (fragRecord Rt.ORDER 0 0xFFF 0x3F c (orderBody o.1 o.2)))
      let d := d.appendRecord (fragRecord Rt.END 0 0xFFF 0x3F c [BitVec.ofNat 8 cause])
      let room := 4064 - d.frg.body.length
      let d : Dev := { d with frg := { d.frg with orders := [], ckpt := [], ckptDue := false } }
      if room = 4064 then d
      else if room < 16 then ({ d with frg := { d.frg with body := padTo d.frg.body 4064 } }).flushN 1
      else d.appendRecord (padTo (fragRecord Rt.PAD 0 0xFFF 0x3F c (List.replicate (room - 16) 0)) room)

/-- The regions of peat by byte offset (R423). -/
abbrev Peat.LOG : Nat := 0x4000
abbrev Peat.TAIL : Nat := 0x14000
abbrev Peat.BOOT : Nat := 0x94000
abbrev Peat.USER : Nat := 0xB4000
abbrev Peat.SYSTEM : Nat := 0xF4000

/-- The tail's first 64 octets (R449): magic, chunks, first chunk, HEADER flag, completion flag. -/
def tailHead (count first : Nat) (header done : Bool) : List Byte :=
  padTo (leBytes 0x5A575454 4 ++ leBytes count 4 ++ leBytes first 8 ++
    [if header then 1 else 0, if done then 1 else 0]) 64

/-- A FATAL record ends a recording, and the copy of the trace tail begins with its completion flag clear (R448, R449). The chunks
copied: from the most recent HEADER, or the one before a checkpoint that is cut short (R455), where it lies within the last 127, else the last 127 (log 46). -/
def Dev.fragFatal (d : Dev) : Dev :=
  let rec_ := d.rd F.FRG_STATUS_STATE == Frg.RECORDING
  let hs := if d.on F.FRG_CMD_BUSY then d.frg.headers.drop 1 else d.frg.headers
  let d := d.fragEnd 2
  if !rec_ then d
  else
    let n := d.frg.chunk
    let near := hs.head?.filter (fun h => n ≤ h + 127)
    let first := near.getD (n - 127)
    let d := { d with frg := { d.frg with tail := some (first, near.isSome) } }
    d.peatWords (Peat.TAIL / 8) (wordsOf (tailHead (n - first) first near.isSome false))

/-- A record is written while a recording runs; where the sink has no room it is dropped and counted, or ends the recording
(R447). -/
def Dev.fragPut (d : Dev) (rec : List Byte) : Dev :=
  if d.rd F.FRG_STATUS_STATE ≠ Frg.RECORDING then d
  else match d.fragRoom with
    | none => d.appendRecord rec
    | some n =>
      if d.on F.FRG_CTRL_SINK then
        if n < rec.length then
          ({ d with frg := { d.frg with lost := (d.frg.lost.1 + 1, d.frg.lost.2 + rec.length) } }).count (Ctr.FRG 4) 1
        else d.appendRecord rec
      else if n < rec.length + 24 then d.fragEnd 5
      else d.appendRecord rec

/-- A unit is in the scope of the recording that runs (R437). -/
def Dev.scoped (d : Dev) (u : Nat) : Bool := d.rd F.FRG_STATUS_STATE == Frg.RECORDING && d.frg.scope.contains u

/-- A replay drives the unit: pins, SerDes and host orders do not (R450). -/
def Dev.replays (d : Dev) (u : Nat) : Bool :=
  d.rd F.FRG_STATUS_STATE == Frg.REPLAYING && !d.frg.driving && d.frg.scope.contains u
/-- What a replay refuses with STATE: an order to a scoped unit, and an ENABLE of another (R450). -/
def Dev.replayRefuses (d : Dev) (u order : Nat) : Bool :=
  d.rd F.FRG_STATUS_STATE == Frg.REPLAYING && !d.frg.driving && (d.frg.scope.contains u || order == 1)

/-- An input to the scope is recorded, for a unit of it (R438). -/
def Dev.fragInput (d : Dev) (type flags unit cw : Nat) (body : List Byte) : Dev :=
  if d.scoped unit then d.fragPut (fragRecord type flags unit cw d.fragCycle body) else d

/-- The islands by number (R442): receive of link n is n itself. -/
abbrev Isl.QTX (q : Nat) : Nat := 24 + q
abbrev Isl.PG (g : Nat) : Nat := 30 + g
abbrev Isl.MCS (m : Nat) : Nat := 46 + m
abbrev Isl.AON : Nat := 54
abbrev Isl.CORE : Nat := 55
abbrev Isl.HOST : Nat := 56
abbrev Isl.MGT : Nat := 57
abbrev Isl.TIME : Nat := 58
/-- The 2-byte name of a causeway (R442). -/
abbrev causeway (src dst lane : Nat) : Nat := src + dst * 2 ^ 8 + lane * 2 ^ 14

/-- A transfer of a causeway with a scoped unit at its end is released: its cycle waits for an ORDER record, which is written
at 256 (R438, R442). -/
def Dev.fragRelease (d : Dev) (unit cw : Nat) : Dev :=
  if !d.scoped unit then d
  else
    let old := ((d.frg.orders.find? (fun o => o.1 == cw)).map (·.2)).getD []
    let now := old ++ [d.fragCycle]
    let rest := d.frg.orders.filter (fun o => o.1 != cw)
    if now.length < 256 then { d with frg := { d.frg with orders := rest ++ [(cw, now)] } }
    else ({ d with frg := { d.frg with orders := rest } }).fragPut (fragRecord Rt.ORDER 0 0xFFF 0x3F d.fragCycle (orderBody cw now))

/-- A FRAME record's body (R439, R441): whole, or its first 64 octets, its length and the CRC of the rest. -/
def frameBody (f : Frame) (whole : Bool) : List Byte :=
  leBytes f.port 1 ++ leBytes f.cls 1 ++ leBytes f.vid 2 ++ leBytes f.octets.length 2 ++ leBytes f.ts 2 ++
    leBytes (t64Of (f.ts / 65536)) 8 ++
    (if whole then f.octets else f.octets.take 64 ++ leBytes (crc32c f.octets).toNat 4)

/-- A frame enters the scope at a unit. -/
def Dev.fragFrame (d : Dev) (unit cw : Nat) (f : Frame) (whole : Bool) : Dev :=
  d.fragInput Rt.FRAME (if whole then 0 else 1) unit cw (frameBody f whole)

/-- An edge capture: source (0 PPS_IN, 1 + k MCk_IN, 16 + g APGg_FS), at a time in 2⁻¹⁶ ns. -/
def Dev.fragEdge (d : Dev) (unit source at_ : Nat) : Dev :=
  d.fragInput Rt.EDGE 0 unit Isl.TIME (leBytes source 1 ++ leBytes 0 7 ++ leBytes (t64Of (at_ / 65536)) 8 ++ leBytes at_ 2)

/-- The domains a unit works in (R437). -/
def Dev.unitDomains (d : Dev) (u : Nat) : List Nat :=
  match unitKind u with
  | .flow f => [d.flowDomain f]
  | .group g => [d.rd (F.APG_CFG_DOMAIN g)]
  | .seng e => [d.rd (F.ENG_CFG_DOMAIN e)]
  | .region r => [d.rd (F.PR_REGION_CFG_DOMAIN r)]
  | .meters =>
    (((List.range 64).filter (fun r => d.on (F.MTR_RANGE_CFG_EN r))).map (fun r => d.rd (F.MTR_RANGE_CFG_DOMAIN r)) ++
      ((List.range 256).filter (fun c => d.on (F.MTR_LD_CFG_EN c))).map (fun c => d.rd (F.MTR_LD_CFG_DOMAIN c))).eraseDups
  | .hostch =>
    (((List.range 128).filter (fun r => d.on (F.HCH_CFG_EN r))).map (fun r => d.rd (F.HCH_CFG_DOMAIN r))).eraseDups
  | _ => []

/-- The unit that feeds a source index, if there is one (R358). -/
def Dev.feeder (d : Dev) (i : Nat) : Option Nat :=
  if i < 0x8000 then (d.flowOfIndex false i).map (0x400 + ·)
  else if i < 0x9000 then
    let n := (i - 0x8000) / 64
    some (if d.on (F.APG_CFG_BRIDGED (n / 4)) then 0x090 + n / 4 else 0x050 + n)
  else if i < 0x9100 then some (0x100 + (i - 0x9000) / 2)
  else if 0x9400 ≤ i && i < 0x9800 then some 0x0FA
  else if 0xA000 ≤ i && i < 0xE000 then some (0x0B0 + (i - 0xA000) / 256)
  else none

/-- SAMPLE records of a scoped unit, for the sources it reads at a tick of `t` periods that are fed from outside the scope
(R438, R441). -/
def Dev.fragSamples (d : Dev) (unit t : Nat) (is : List Nat) : Dev :=
  if !d.scoped unit then d
  else d.each (is.eraseDups.filter (fun i => (d.feeder i).any (fun v => !d.frg.scope.contains v))) (fun d i =>
    let ss := (List.range t).map (fun p => (SMap.get (fun _ => {}) d.src (i * 64 + p) : Sample))
    d.fragInput Rt.SAMPLE 0 unit 0x3F (leBytes i 4 ++ leBytes 1 2 ++ leBytes t 1 ++ [0] ++
      ss.flatMap (fun s => wordBytes s.v) ++ ss.map (fun s => BitVec.ofNat 8 s.tag)))

/-- A sample of a pin, or a TAP transition: pin 0 WAKE_IN, 1 MSPI_CS_N, 2 the TAP (R438). -/
def Dev.fragPin (d : Dev) (pin level : Nat) : Dev :=
  d.fragPut (fragRecord Rt.PIN 0 0xFFF Isl.AON d.fragCycle
    (leBytes pin 1 ++ leBytes level 1 ++ leBytes 0 6 ++ leBytes (d.clk / 40) 8))

/-- A value: kind 0 a tick start, 1 an STC reading, 2 an operating point (R441). -/
def Dev.fragValue (d : Dev) (unit cw kind v w : Nat) : Dev :=
  d.fragInput Rt.VALUE 0 unit cw (leBytes kind 1 ++ leBytes 0 7 ++ leBytes v 8 ++ leBytes w 8)

/-- A tick of domain `m` has started (R438): its VALUE record, where its media clock is in the scope or some scoped unit works
in the domain; the releases of its causeways. -/
def Dev.fragTick (d : Dev) (m no : Nat) : Dev :=
  if d.rd F.FRG_STATUS_STATE ≠ Frg.RECORDING then d
  else
    let at_ := t64Of ((d.mclk m).tickAt / 65536)
    let u := 0x0A0 + m
    let d := if d.scoped u then (d.fragValue u (causeway (Isl.MCS m) Isl.CORE 0) 0 at_ no).fragRelease u (causeway (Isl.MCS m) Isl.CORE 0)
      else match d.frg.scope.find? (fun v => (d.unitDomains v).contains m) with
        | some v => d.fragValue v (causeway (Isl.MCS m) Isl.CORE 0) 0 at_ no
        | none => d
    let d := d.when (d.scoped u && d.rd (F.MCS_CTRL_SRC m) == 3) (fun d =>
      d.fragEdge u (1 + d.rd (F.MCS_CTRL_SRC_SEL m)) (d.mclk m).tickAt)
    d.each ((List.range 16).filter (fun g => d.scoped (0x040 + g) && d.rd (F.APG_CFG_DOMAIN g) == m)) (fun d g =>
      let cw := causeway Isl.CORE (Isl.PG g) 0
      (d.fragInput Rt.BLOCK 0 (0x040 + g) cw (leBytes g 1 ++ leBytes 1 1 ++ leBytes (d.tickSize m) 2 ++
        leBytes (d.mclk m).count 4 ++ leBytes at_ 8)).fragRelease (0x040 + g) cw)

/-- A block of a port group enters CORE (R438, R441): the samples of its inputs in pin, slot and frame order. -/
def Dev.fragBlock (d : Dev) (g count : Nat) (fs : List PortFrame) : Dev :=
  let cw := causeway (Isl.PG g) Isl.CORE 0
  let is := (fs.flatMap (fun f => f.samples.map (·.1))).eraseDups
  let body := is.flatMap (fun i => fs.flatMap (fun f =>
    wordBytes (((f.samples.find? (fun s => s.1 == i)).map (·.2.v)).getD 0)))
  (d.fragInput Rt.BLOCK 0 (0x040 + g) cw (leBytes g 1 ++ leBytes 0 1 ++ leBytes fs.length 2 ++ leBytes count 4 ++
    leBytes (t64Of ((fs.head?.map (·.t)).getD 0 / 65536)) 8 ++ body)).fragRelease (0x040 + g) cw

/-- A frame from a lane has been decided on (R438, R439): recorded for its link or ring, whole where FULL is set or a scoped flow
or steward took it; else for that flow or steward. -/
def Dev.fragReceive (d : Dev) (f : Frame) (audio : Bool) (flow steward : Option Nat) : Dev :=
  if d.rd F.FRG_STATUS_STATE ≠ Frg.RECORDING then d
  else
    let port := if f.port < 24 then 0x010 + f.port else 0x030 + (f.port - 24)
    let cw := causeway (if f.port < 24 then f.port else 0x3F) Isl.CORE (if audio then 0 else 1)
    let taker := (flow.filter d.scoped).or (steward.filter d.scoped)
    if d.scoped port then (d.fragFrame port cw f (d.on F.FRG_CTRL_FULL || taker.isSome)).fragRelease port cw
    else match taker with
      | some u => d.fragFrame u cw f true
      | none => d

end Sys2Proof.Machine
end

