-- ==== Sys2Proof/Machine/Hooks.lean ====
section
/-! DEFINITION. What the classes of units do at the moments of the state machine (R27): when an ENABLE is accepted, when a
unit is RESET, when it reaches a state, when a committed or staged value applies. Each is named by its chapter. -/
namespace Sys2Proof.Machine

/-- What a port set that has applied changes besides its registers: a remap of an input pin starts its SETTLING frames
(R337), and clearing DET ends non-audio (R347). -/
def Dev.portApplied (d : Dev) (n : Nat) : Dev :=
  let g := n / 4
  let d := d.each [0, 1] (fun d k =>
    let x := d.group g
    let key := n % 4 * 2 + k
    let now := (d.pinSlots n k, BitVec.ofNat 32 (d.pinEn n k))
    if SMap.get (fun _ => (2, 0xFFFFFFFF)) x.slots key = now then d
    else
      let x := { x with slots := SMap.put (fun _ => (2, 0xFFFFFFFF)) key now x.slots }
      if d.pinDir n k = 1 then
        let d := (d.setGroup g { x with remap := SMap.put (fun _ => 0) key 2 x.remap }).setBit (A.AP_EVT n) 2
        { d with nudge := d.nudge ++ [0x050 + n] }
      else d.setGroup g x)
  if d.on (F.AP_NA_DET n) || d.reg (A.AP_NA_STAT n) = 0 then d
  else
    let x := d.group g
    let d := d.setGroup g { x with nonaudio := x.nonaudio.filter (fun e => e.1 / 32 != n % 4) }
    let d := (d.setReg (A.AP_NA_STAT n) 0).setBit (A.AP_EVT n) 1
    { d with nudge := d.nudge ++ [0x050 + n] }

/-- What a decimator's set that has applied changes: a new filter or an output taken into use settles (R351). -/
def Dev.decimApplied (d : Dev) (k : Nat) : Dev :=
  let x := d.decim k
  let filt := d.rd (F.DEC_CFG_FILT k)
  let r := d.on (F.DEC_CFG_EN_R k)
  let f := d.on (F.DEC_CFG_EN_F k)
  let d := d.setDecim k { x with filt := filt, enR := r, enF := f }
  if d.ustate (0x100 + k) != 2 && d.ustate (0x100 + k) != 3 then d
  else d.settleDecim k (x.filt != filt || (r && !x.enR)) (x.filt != filt || (f && !x.enF))

/-- The source field of a synthesizer: SRC, SRC_SEL and PIN_DIV (R313). -/
def Dev.sourceWord (d : Dev) (m : Nat) : Word := d.reg (A.MCS_CTRL m) &&& 0xFFF0FFF7

/-- A synthesizer's output goes to the bypass clock: no trim, no lock (R318). -/
def Dev.toBypass (d : Dev) (m : Nat) : Dev :=
  let d := ((d.wr (F.MCS_STATUS_BYPASS m) 1).wr (F.MCS_STATUS_LOCKED m) 0).wr (F.MCS_STATUS_TRIM m) 0
  d.setMclk m { d.mclk m with goodSince := none, refSince := none, badTicks := 0, slew := 0 }

/-- What a synthesizer's set that has applied changes (R311, R313, R317). -/
def Dev.mclkApplied (d : Dev) (m : Nat) (addrs : List Nat) : Dev :=
  let x := d.mclk m
  let log := d.rd (F.MCS_DOMAIN_TICK_LOG2 m)
  let ticks := d.ustate (0x0A0 + m) == 2 || d.ustate (0x0A0 + m) == 3 || d.ustate (0x0A0 + m) == 4
  let x := if !ticks then { x with tickLog := log, running := log, tickNew := none }
    else { x with tickNew := if log = x.tickLog then none else some log }
  let x := if addrs.contains (A.MCS_DITHER m) || addrs.contains (A.MCS_SEED m) then { x with lfsr := d.reg (A.MCS_SEED m) } else x
  let src := d.sourceWord m
  let d := d.setMclk m { x with source := src }
  if src != x.source && (d.ustate (0x0A0 + m) == 2 || d.ustate (0x0A0 + m) == 3) then d.toBypass m else d

/-- What a host channel ring's set that has applied changes: with EN both pointers read zero, and the block size is fixed
(R109, R110). -/
def Dev.hchApplied (d : Dev) (r : Nat) : Dev :=
  let x : HchRt := if d.on (F.HCH_CFG_EN r) then { tick := d.tickSize (d.rd (F.HCH_CFG_DOMAIN r)) } else {}
  { d with hch := SMap.put (fun _ => {}) r x d.hch }

/-- An ENABLE has been accepted (R153 and the class chapters). -/
def Dev.onEnable (d : Dev) (u : Nat) : Dev :=
  match unitKind u with
  | .seng e => d.initSignal e
  | .flow f =>
    let x := d.flow f
    if d.ustate u = 0 then
      (d.setFlow f { x with blocks := if d.flowTx f then 0 else d.flowBlocks f, sluice := (0, d.clk) }).clearHist f
    else d.setFlow f { x with sluice := (0, d.clk) }
  | .mclk m => if d.ustate u = 0 then d.setMclk m { d.mclk m with lfsr := d.reg (A.MCS_SEED m) } else d
  | _ => d

/-- A RESET has been accepted: buffers, filter history and the class's running state are cleared (R27). -/
def Dev.onReset (d : Dev) (u : Nat) : Dev :=
  match unitKind u with
  | .seng e => d.resetSignal e
  | .steward s => d.resetSteward s
  | .link n => d.linkStops n
  | .meters => d.clearMeters
  | _ => d

/-- A unit has changed state. -/
def Dev.onState (d : Dev) (u old new : Nat) : Dev :=
  match unitKind u with
  | .steward s =>
    if new = 3 then d.startResident s
    else if new = 4 then d.discardStarts s false
    else if new = 0 || new = 1 then d.endRuns s false
    else d
  | .seng e =>
    if new = 2 then d.updCtx e (fun c => { c with synced := false })
    else if new = 3 then d
    else d.updCtx e (fun c => { c with running := false, ended := true })
  | .link n =>
    let d := if new = 0 || new = 1 || new = 5 then d.linkStops n else d
    if new = 0 then
      (((d.setLink n { d.link n with audio := [], other := [] }).wr (F.LNK_STATUS_PCS_LOCK n) 0).wr (F.LNK_STATUS_AN_DONE n) 0).regrant 2
    else d
  | .ring k =>
    let d := if old = 3 then d.ringDiscard k else d
    if new = 2 && d.rd (F.RING_STATUS_ROLE k) == 0 then d.ringRole k 1
    else if new = 0 || new = 1 || new = 5 then (d.ringDiscard k).ringStop k
    else d
  | .flow f =>
    let x := d.flow f
    if new = 2 then (if d.flowTx f then d.flowCloseTx f else d.setFlow f { x with run := 0, sluice := (0, d.clk) })
    else if new = 4 then
      let now := (d.periodAt (d.flowDomain f) d.now16).toNat
      let spp := max 1 (d.flowSpp f)
      d.setFlow f { x with txTo := some (if now < x.next then x.next else x.next + ((now - x.next) / spp + 1) * spp) }
    else if new = 0 || new = 1 || new = 5 then d.flowStop f (new = 0)
    else d
  | .mclk m =>
    if new = 1 then (d.setReg (A.MCS_STATUS m) 0).wr (F.MCS_STATUS_PLL_LOCK m) 1
    else if new = 0 || new = 5 then
      ((d.setReg (A.MCS_STATUS m) 0).setMclk m
        { d.mclk m with ticking := false, marks := [], goodSince := none, refSince := none }).when (new = 0) (·.regrant 1)
    else if new = 2 && old = 1 then
      d.setMclk m { d.mclk m with ticking := false, marks := [], goodSince := none, refSince := none, badTicks := 0, slew := 0,
                                  running := (d.mclk m).tickLog }
    else if new = 2 then d.setMclk m { d.mclk m with marks := (d.mclk m).marks.take 1 }
    else d
  | .group g =>
    let d := if new = 3 then d else d.groupMute g
    if new = 0 then (d.wr (F.APG_STATUS_FRAMING g) 0).regrant 2 else d
  | .port n =>
    if new = 0 then
      (d.setGroup (n / 4) { d.group (n / 4) with nonaudio := (d.group (n / 4)).nonaudio.filter (fun e => e.1 / 32 != n % 4) }).setReg
        (A.AP_NA_STAT n) 0
    else d
  | .decim k =>
    if new = 2 then d.settleDecim k true true
    else if new = 0 then (d.setDecim k { d.decim k with leftR := 0, leftF := 0, done := false }).wr (F.DEC_STATUS_SETTLE_LEFT k) 0
    else d
  | .bridge b => if new = 3 then d else d.wr (F.BRG_STATUS_LOCKED b) 0
  | .region r =>
    if new = 2 then d.setRegion r { d.region r with synced := false }
    else if new = 0 || new = 4 then
      (d.setReg (A.PR_REGION_SWAP r) (d.reg (A.PR_REGION_SWAP r) &&& 0xFFFFFFE3)).setRegion r {}
    else d
  | .time => if new = 0 || new = 1 then { d with time := { d.time with ppsOut := false, good := 0, bad := 0 } } else d
  | _ => d

/-- A commit set has been accepted; `cand` is the device with it in force. A gate set gets its start instant: BASE and the
smallest number of cycles from it that is at least 2 µs from now (R192). -/
def Dev.onAccept (d cand : Dev) (sid : SetId) : Dev :=
  match unitKind sid.1 with
  | .link n =>
    if sid.2 = 1 then
      let b := (cand.reg (A.LNK_GCL_BASE_HI n)).toNat * 2 ^ 32 + (cand.reg (A.LNK_GCL_BASE_LO n)).toNat
      let base := b / 2 ^ 30 * 1000000000 + b % 2 ^ 30
      let cyc := cand.rd (F.LNK_GCL_CYCLE_CYCLE n)
      let soon := d.stcNs + 2000
      let start := if soon ≤ base then base else base + (soon - base + cyc - 1) / cyc * cyc
      (d.setLink n { d.link n with gateStart := start }).wr (F.LNK_GCL_STATUS_PENDING n) 1
    else d
  | .flow f =>
    if cand.flowTx f || d.ustate sid.1 = 0 then d
    else d.setFlow f { d.flow f with blocks := max (d.flow f).blocks (cand.flowBlocks f) }
  | _ => d

/-- Staged or committed values of a unit have applied, at these addresses: a commit set of its sets, or values of no set. -/
def Dev.onApply (d : Dev) (u : Nat) (set : Option Nat) (addrs : List Nat) : Dev :=
  match unitKind u with
  | .link n =>
    if set = some 2 then
      let on := d.on (F.LNK_PREEMPT_EN n)
      (d.setLink n { d.link n with verifies := 0 }).wr (F.LNK_PREEMPT_VERIFY n)
        (if !on then 0 else if d.on (F.LNK_PREEMPT_VERIFY_EN n) then 1 else 2)
    else d
  | .ring k =>
    let iso := d.rd (F.RING_WIN_ISO_OCTETS k)
    if iso = (d.ring k).iso then d else (d.setRing k { d.ring k with iso := iso }).ringAnnounce k 1
  | .seng e => d.updCtx e (fun c => { c with tickEntry := BitVec.ofNat 32 (d.rd (F.ENG_ENTRY_ENTRY e) * 4) })
  | .flow f =>
    if d.flowTx f || d.ustate u = 0 then d else d.setFlow f { d.flow f with blocks := d.flowBlocks f }
  | .mclk m => d.mclkApplied m addrs
  | .port n => d.portApplied n
  | .decim k => d.decimApplied k
  | .meters => d.rebind
  | .hostch => match set with
    | some r => d.hchApplied r
    | none => d
  | _ => d

/-- A drain has timed out: the outstanding work is discarded and counted in the class's discard counters (R29). -/
def Dev.onDiscard (d : Dev) (u : Nat) : Dev :=
  match unitKind u with
  | .link n => d.discardTx n
  | .flow f => (d.flowCloseTx f).setFlow f { (d.flowCloseTx f).flow f with buf := [] }
  | _ => d

/-- A drain may reach its target: what the class drains is gone (R183 and the class chapters). -/
def Dev.drainReady (d : Dev) (u : Nat) : Bool :=
  match unitKind u with
  | .link n =>
    let l := d.link n
    l.arriving.isEmpty && l.queue.isEmpty && l.sending.isNone && l.preempted.isNone
  | .flow f =>
    let x := d.flow f
    if d.flowTx f then (match x.txTo with
      | some t => t ≤ x.next || x.txFrom.isNone
      | none => true)
    else x.buf.isEmpty
  | .stream s => (List.range 8).all (fun i => d.ustate (0x400 + 8 * s + i) == 0)
  | _ => true

/-- The unit's boundary can come: for one that starts with a tick, its domain ticks; for a port or decimator, its group is
SYNCING or beyond (R46, R153, R324, R340, R365). -/
def Dev.boundaryComes (d : Dev) (u : Nat) : Bool :=
  let ticks (m : Nat) : Bool := let st := d.ustate (0x0A0 + m); st == 2 || st == 3 || st == 4
  match unitKind u with
  | .port n => d.active (0x040 + n / 4)
  | .decim k => d.active (0x040 + k / 8)
  | .seng e => ticks (d.rd (F.ENG_CFG_DOMAIN e))
  | .region r => ticks (d.rd (F.PR_REGION_CFG_DOMAIN r))
  | .bridge b => ticks (d.rd (F.APG_CFG_DOMAIN b))
  | _ => true

/-- The unit's natural boundary is the completion of a command (R51). -/
def boundaryAtOnce (u : Nat) : Bool := btypeOf ((classOf u).getD 0) == 9 && (classOf u).isSome

/-- The unit's entry to SYNCING is the completion of its command: it goes on to SYNCING without waiting (R51, R162, R299, R365, R377). -/
def syncsAtOnce (u : Nat) : Bool := boundaryAtOnce u || u == 0x0F8 || u == 0x0F9

/-- The unit acquires nothing, so that it enters IN_SERVICE with SYNCING (R46, R162, R299, R365, R377). -/
def Dev.acquiresNothing (d : Dev) (u : Nat) : Bool :=
  match unitKind u with
  | .steward _ => true
  | .gpio => true
  | .hostch => true
  | .stream _ => true
  | .meters => true
  | .router => true
  | .time => d.on F.TIME_STATUS_LOCKED || !d.on F.TIME_SERVO_EN
  | _ => false

/-- A class leaf of the unit is set (R45). -/
def Dev.classLeaf (d : Dev) (u : Nat) : Bool :=
  match unitKind u with
  | .link n => bits (d.reg (A.LNK_EVT n)) 0 8 != 0 || d.on (F.SWC_PEVT_EVT n)
  | .ring k => bits (d.reg (A.RING_EVT k)) 0 8 != 0 || d.on (F.SWC_PEVT_EVT (24 + k))
  | .group g => d.on (F.APG_EVT_EVT g)
  | .port n => d.on (F.AP_EVT_EVT n)
  | .decim n => d.on (F.DEC_EVT_EVT n)
  | .bridge b => d.on (F.BRG_EVT_EVT b)
  | .mclk m => d.on (F.MCS_EVT_EVT m)
  | .flow f => bits (d.reg (A.FLOW_EVT f)) 0 9 != 0
  | .region r => d.on (F.PR_REGION_EVT_EVT r)
  | .seng e => bits (d.reg (A.ENG_STAT e)) 0 2 != 0
  | .steward s => bits (d.reg (A.STW_STAT s)) 0 2 != 0
  | .gpio => d.on F.GPIO_EVT_EVT
  | .time => d.on F.TIME_EVT_EVT || (List.range 24).any (fun i => d.on (F.RM_STAT_CHANGE i))
  | .hostch => d.regs.any (fun e => 0x9800 ≤ e.1 && e.1 < 0xA000 && e.1 % 0x10 == 0xC && bits e.2 16 3 != 0)
  | _ => false

end Sys2Proof.Machine
end

