-- ==== Sys2Proof/Machine/Checks.lean ====
section
/-! DEFINITION. What ENABLE examines for each class, besides the common conditions (R36). `prov` are units that the same
cabinet order enables before this one: their load counts (R36, R38); their state is taken as it is (R38). -/
namespace Sys2Proof.Machine

/-- The reason codes (R35). -/
abbrev Rsn.ACCEPTED : Nat := 0x00
abbrev Rsn.BUSY : Nat := 0x01
abbrev Rsn.NO_CLOCK : Nat := 0x02
abbrev Rsn.CAPACITY : Nat := 0x03
abbrev Rsn.CONFLICT : Nat := 0x04
abbrev Rsn.NOT_OWNER : Nat := 0x05
abbrev Rsn.RANGE : Nat := 0x06
abbrev Rsn.INCOMPLETE : Nat := 0x07
abbrev Rsn.NO_BUFFER : Nat := 0x08
abbrev Rsn.STATE : Nat := 0x09
abbrev Rsn.DOMAIN_OFF : Nat := 0x0A
abbrev Rsn.LOCKED : Nat := 0x0B
abbrev Rsn.CFG_CRC : Nat := 0x0C
abbrev Rsn.OPP : Nat := 0x0D
abbrev Rsn.MEMBER : Nat := 0x0E
abbrev Rsn.DEPTH : Nat := 0x0F
abbrev Rsn.FORMAT : Nat := 0x10
abbrev Rsn.INTERNAL : Nat := 0xFF

/-- A reason code and its detail (R33, R34). -/
abbrev Verdict := Nat × Nat

/-- The first condition that fails, of conditions in the order of R32. -/
def firstOf : List (Bool × Nat × Nat) → Verdict
  | [] => (0, 0)
  | (c, v) :: cs => if c then v else firstOf cs

/-- The links of a quad that are not OFF and use the LC PLL at another lane rate than `speed` (R176). -/
def Dev.lcClash (d : Dev) (prov : List Nat) (n speed : Nat) : Bool :=
  let lc (s : Nat) : Nat := if s < 3 then 0 else if s = 3 then 1 else 2
  (List.range 4).any (fun i =>
    let m := n / 4 * 4 + i
    m != n && (d.ustate (0x010 + m) != 0 || prov.contains (0x010 + m)) && lc speed != 0 &&
      lc (d.rd (F.LNK_CTRL_SPEED m)) != 0 && lc (d.rd (F.LNK_CTRL_SPEED m)) != lc speed)

/-- A ring names the link as its WEST or EAST (R36, R216). -/
def Dev.namedByRing (d : Dev) (n : Nat) : Bool :=
  (List.range 12).any (fun k => d.rd (F.RING_LINKS_WEST k) == n || d.rd (F.RING_LINKS_EAST k) == n)

/-! ### Flows and stream engines (R259–R285) -/

/-- The keys of two legs could match the same packet (R270). -/
def Dev.keysMeet (d : Dev) (f i g j : Nat) : Bool :=
  let pf := d.flowPort f i
  let pg := d.flowPort g j
  let ports := pf == 0x3F || pg == 0x3F || pf == pg
  let daddr (n : Nat) : Bool := (List.range n).all (fun k => d.flowDaddr f i k == d.flowDaddr g j k)
  d.flowFmt f == d.flowFmt g &&
    (match d.flowFmt f with
     | 0 => ports && daddr 1 && d.rd (F.FLOW_UDP_DPORT f) == d.rd (F.FLOW_UDP_DPORT g) &&
        (!(d.on (F.FLOW_IPOPT_SRC_FILT f) && d.on (F.FLOW_IPOPT_SRC_FILT g)) || d.reg (A.FLOW_SADDR f 0) == d.reg (A.FLOW_SADDR g 0))
     | 1 => ports && daddr 4 && d.rd (F.FLOW_UDP_DPORT f) == d.rd (F.FLOW_UDP_DPORT g) &&
        (!(d.on (F.FLOW_IPOPT_SRC_FILT f) && d.on (F.FLOW_IPOPT_SRC_FILT g)) ||
          (List.range 4).all (fun k => d.reg (A.FLOW_SADDR f k) == d.reg (A.FLOW_SADDR g k)))
     | 2 => ports && daddr 2
     | _ => pf == pg && d.flowDaddr f i 0 % 65536 == d.flowDaddr g j 0 % 65536)

/-- A receive flow's key meets one of another flow that is not OFF, or of its own other leg (R270). -/
def Dev.keyClash (d : Dev) (prov : List Nat) (f : Nat) : Bool :=
  !d.flowTx f &&
    (((d.flowsNotOff ++ (prov.filter (fun u => 0x400 ≤ u && u < 0xC00)).map (· - 0x400)).any (fun g =>
        g != f && !d.flowTx g &&
          (List.range (d.flowLegs f)).any (fun i => (List.range (d.flowLegs g)).any (fun j => d.keysMeet f i g j)))) ||
      (d.on (F.FLOW_CFG_LEG_B f) && d.keysMeet f 0 f 1))

/-- SPP values at a rate multiple (R265). -/
def sppOk (m spp : Nat) : Bool := match m with
  | 1 => [6, 12, 16, 48, 192].contains spp
  | 2 => [12, 24, 32, 96].contains spp
  | _ => [24, 48, 64, 192].contains spp

/-- A field of a flow set is out of its range (R263, R269, R275, R285). -/
def Dev.flowRange (d : Dev) (f : Nat) : Bool :=
  let tx := d.flowTx f
  let fmt := d.flowFmt f
  let chans := d.flowChans f
  let first := d.rd (F.FLOW_FIRST_FIRST f)
  let lo := (if tx then 0x10000 else 0) + 128 * (f / 8)
  let log := d.rd (F.FLOW_BUF_BUF_LOG2 f)
  let lat := d.rd (F.FLOW_LATENCY_LATENCY f)
  let badPort (p : Nat) (used : Bool) : Bool :=
    (35 < p && p != 0x3F) || (used && ((tx && p == 0x3F) || (fmt == 3 && (p < 24 || 35 < p)) || (tx && fmt != 3 && 23 < p)))
  chans == 0 || 128 < chans || first < lo || lo + 128 < first + chans || log < 5 || 10 < log || d.rd (F.FLOW_BUF_HOLD f) == 0 ||
    100000000 < lat || badPort (d.rd (F.FLOW_PORTS_PORT_A f)) true ||
    badPort (d.rd (F.FLOW_PORTS_PORT_B f)) (d.on (F.FLOW_CFG_LEG_B f)) ||
    (!tx && 2 ^ log < (lat * d.flowHz f + 999999999) / 1000000000 + d.flowSpp f + 2 * 2 ^ d.rd (F.MCS_DOMAIN_TICK_LOG2 (d.flowDomain f)))

/-- The combination of a flow set is not supported (R263, R265, R285). -/
def Dev.flowFormat (d : Dev) (f : Nat) : Bool :=
  let fmt := d.flowFmt f
  let rate := d.rd (F.FLOW_CFG_RATE f)
  let len := d.flowLen f 0
  4 ≤ fmt || d.rd (F.FLOW_CFG_ENC f) == 3 || 6 ≤ rate || rate != d.domainCode (d.flowDomain f) ||
    (fmt == 3 && (d.rd (F.FLOW_CFG_ENC f) == 0 || d.on (F.FLOW_CFG_LEG_B f))) ||
    (fmt != 3 && !sppOk (rateMult rate) (d.flowSpp f)) || 9018 < len ||
    (d.flowTx f && fmt != 3 && (List.range (d.flowLegs f)).any (fun i =>
      d.flowPort f i < 24 && d.rd (F.LNK_MAXLEN_MAXLEN (d.flowPort f i)) < len))

/-- The indices of a flow overlap those of another of its engine and direction that is not OFF (R285). -/
def Dev.indexClash (d : Dev) (prov : List Nat) (f : Nat) : Bool :=
  let lo (g : Nat) := d.rd (F.FLOW_FIRST_FIRST g)
  ((List.range 8).map (8 * (f / 8) + ·)).any (fun g =>
    g != f && (d.flowOn g || prov.contains (0x400 + g)) && d.flowTx g == d.flowTx f &&
      lo f < lo g + d.flowChans g && lo g < lo f + d.flowChans f)

/-- Too many channel slots of an engine in the flow's direction (R259). -/
def Dev.slotsOver (d : Dev) (prov : List Nat) (f : Nat) : Bool :=
  let s := f / 8
  let more := ((List.range 8).map (8 * s + ·)).foldl (fun a g =>
    if g != f && !d.flowOn g && prov.contains (0x400 + g) && d.flowTx g == d.flowTx f then a + d.flowSlots g else a) 0
  (if d.flowTx f then d.rd (F.STRM_CFG_TX_DECL s) else d.rd (F.STRM_CFG_RX_DECL s)) < d.slotsUsed s (d.flowTx f) (some f) + more

/-- The guaranteed load of a direction would exceed the switch core (R253), all flows taken at 1.01 × N. -/
def Dev.switchOver (d : Dev) (prov : List Nat) (f : Nat) : Bool :=
  let fs := (f :: (d.flowsNotOff ++ (prov.filter (fun u => 0x400 ≤ u && u < 0xC00)).map (· - 0x400))).eraseDups.filter
    (fun g => d.flowTx g == d.flowTx f)
  let frames := fs.foldl (fun a g => let n := d.flowN g; a + 101 * n.1 * 1000000 / (100 * n.2)) 0
  let bits := fs.foldl (fun a g => let n := d.flowN g; a + 101 * n.1 * (d.flowLmax g + 20) * 8 * 1000000 / (100 * n.2)) 0
  d.opps.any (fun o => switchFrames o * 1000000 < frames || switchBits o * 1000000 < bits)

/-- The guaranteed bits of a link's transmit flows would exceed its rate (R253). -/
def Dev.linkOver (d : Dev) (prov : List Nat) (f : Nat) : Bool :=
  let fs := (f :: (d.flowsNotOff ++ (prov.filter (fun u => 0x400 ≤ u && u < 0xC00)).map (· - 0x400))).eraseDups.filter
    (fun g => d.flowTx g && d.flowFmt g != 3)
  d.flowTx f && d.flowFmt f != 3 && ((List.range (d.flowLegs f)).map (d.flowPort f)).any (fun p =>
    p < 24 && rate10 (d.rd (F.LNK_CTRL_SPEED p)) * 100000000 * 1000000 <
      fs.foldl (fun a g => a + ((List.range (d.flowLegs g)).filter (fun i => d.flowPort g i == p)).length *
        (101 * d.flowHz g * (d.flowLmax g + 20) * 8 * 1000000 / (100 * max 1 (d.flowSpp g)))) 0)

/-- The egress links of a transmit flow have an address of their own (R267). -/
def Dev.noSource (d : Dev) (f : Nat) : Bool :=
  d.flowTx f && d.flowFmt f != 3 && (List.range (d.flowLegs f)).any (fun i =>
    d.flowPort f i < 24 && !d.on (F.LNK_UCAST_HI_EN (d.flowPort f i) 0))

/-- Declarations of the engines that are not OFF, with `s` among them, exceed the network channels (R259). -/
def Dev.declsOver (d : Dev) (prov : List Nat) (s : Nat) : Bool :=
  let es := (List.range 256).filter (fun e => d.ustate (0x200 + e) != 0 || e == s || prov.contains (0x200 + e))
  let sum (f : Nat → Fld) := es.foldl (fun a e => a + d.rd (f e)) 0
  d.opps.any (fun o => netLimit o < sum F.STRM_CFG_RX_DECL || netLimit o < sum F.STRM_CFG_TX_DECL)

/-- The ENABLE check of a flow (R36, R285). -/
def Dev.flowCheck (d : Dev) (prov : List Nat) (f : Nat) : Verdict :=
  firstOf [
    (!d.active (0x200 + f / 8), Rsn.STATE, 0),
    (d.flowRange f, Rsn.RANGE, 0),
    (d.flowFormat f, Rsn.FORMAT, 0),
    (d.indexClash prov f || d.keyClash prov f || d.noSource f, Rsn.INCOMPLETE, 0),
    (d.noClock (d.flowDomain f), Rsn.NO_CLOCK, 0),
    (!d.flowTx f && d.poolFree + (d.flow f).blocks < d.flowBlocks f, Rsn.NO_BUFFER, 0),
    (d.slotsOver prov f, Rsn.CAPACITY, 0x001),
    (d.switchOver prov f, Rsn.CAPACITY, 0x004),
    (d.linkOver prov f, Rsn.CAPACITY, 0x005)]

/-! ### Synthesizers (R313) -/

/-- f_vco in Hz × 2²⁴ (R313). -/
def Dev.vco (d : Dev) (m : Nat) : Nat := 25000000 * (d.rd (F.MCS_DIV_N_N m) * 2 ^ 24 + d.rd (F.MCS_DIV_FRAC_FRAC m))
/-- PULL in ppm (R312). -/
def Dev.pull (d : Dev) (m : Nat) : Nat := match d.rd (F.MCS_DOMAIN_PULL m) with
  | 0 => 100 | 1 => 250 | 2 => 500 | _ => 1000
/-- MULT: master clocks in a word clock period. -/
def Dev.mclkMult (d : Dev) (m : Nat) : Nat := match d.rd (F.MCS_DIV_POST_MULT m) with
  | 0 => 128 | 1 => 256 | _ => 512

/-- What R313 refuses in a synthesizer's domain and divider sets, but its states. -/
def Dev.mclkCheck (d : Dev) (m : Nat) : Verdict :=
  let src := d.rd (F.MCS_CTRL_SRC m)
  let sel := d.rd (F.MCS_CTRL_SRC_SEL m)
  let div := d.rd (F.MCS_CTRL_PIN_DIV m)
  let ms := d.rd (F.MCS_LOCK_LOCK_MS m)
  let win := d.rd (F.MCS_LOCK_LOCK_WIN m)
  let n := d.rd (F.MCS_DIV_N_N m)
  let post := d.rd (F.MCS_DIV_POST_POST m)
  let band := d.rd (F.MCS_BAND_SEL_BAND m)
  let valid := d.on (F.MCS_BAND_MIN_VALID m band)
  let fmin := d.rd (F.MCS_BAND_MIN_FMIN m band) * 1000
  let fmax := d.rd (F.MCS_BAND_MAX_FMAX m band) * 1000
  let v := d.vco m
  let p := d.pull m
  let want := d.domainHz m * d.mclkMult m * post * 2 ^ 24
  let off := if v < want then want - v else v - want
  firstOf [
    (5 ≤ src || d.rd (F.MCS_CTRL_OUT_SEL m) == 3 || d.rd (F.MCS_CTRL_BW m) == 3 || (src == 2 && 2047 < sel) ||
      (src == 3 && 7 < sel) || (src == 4 && 15 < sel) || div == 0 || 1024 < div || d.rd (F.MCS_DOMAIN_TICK_LOG2 m) == 7 ||
      ms == 0 || 1000 < ms || win == 0 || d.rd (F.MCS_LOCK_UNLOCK_WIN m) < win || d.reg (A.MCS_SEED m) == 0 ||
      n < 80 || 115 < n || post < 40 || d.rd (F.MCS_DIV_POST_MULT m) == 3 || 49152000 < d.domainHz m * d.mclkMult m ||
      (valid && (v * (1000000 - p) * 1000 < fmin * 1002 * 2 ^ 24 * 1000000 ||
        fmax * 998 * 2 ^ 24 * 1000000 < v * (1000000 + p) * 1000)), Rsn.RANGE, 0),
    (6 ≤ d.domainCode m, Rsn.FORMAT, 0),
    (!valid || want < off * 100000 || (src == 2 && d.flowTx sel), Rsn.INCOMPLETE, 0)]

/-- Signal engines bound to a domain that are not OFF and whose DECL exceeds their budget at ticks of 2^log periods (R155). -/
def Dev.overBudget (d : Dev) (m log : Nat) : List Nat :=
  (List.range 64).filter (fun e => d.ustate (0x0B0 + e) != 0 && d.rd (F.ENG_CFG_DOMAIN e) == m &&
    d.opps.any (fun o => tickBudget (coreHz o) (2 ^ log) (d.domainHz m) < d.rd (F.ENG_DECL_DECL e)))

/-- Units bound to a domain that are not OFF (R324). -/
def Dev.bound (d : Dev) (m : Nat) : Bool :=
  (d.flowsNotOff.any (fun f => d.flowDomain f == m)) ||
    (List.range 64).any (fun e => d.ustate (0x0B0 + e) != 0 && d.rd (F.ENG_CFG_DOMAIN e) == m) ||
    (List.range 64).any (fun r => d.ustate (0xC00 + r) != 0 && d.rd (F.PR_REGION_CFG_DOMAIN r) == m) ||
    (List.range 16).any (fun b => d.ustate (0x090 + b) != 0 && d.rd (F.APG_CFG_DOMAIN b) == m) ||
    (d.ustate 0x0FA != 0 && (List.range 128).any (fun r => d.on (F.HCH_CFG_EN r) && d.rd (F.HCH_CFG_DOMAIN r) == m))

/-! ### Port groups, ports, decimators, bridges (R331–R354) -/

/-- LAT of a group is below the minimum, or its buffer does not fit, at a tick of 2^log periods (R344). -/
def Dev.groupLatBad (d : Dev) (g log : Nat) : Bool :=
  let fg := d.groupHz g
  let fn := d.domainHz (d.rd (F.APG_CFG_DOMAIN g))
  let lat := d.rd (F.APG_LAT_LAT g)
  let b := d.groupBlock g
  let t := 2 ^ log
  let need := 1000000000 * (2 * b * fn + (2 * t + 1) * fg) + 8000 * fg * fn +
    (if d.on (F.APG_CFG_BRIDGED g) then 64000000000 * max fg fn else 0)
  lat * 2 * fg * fn < need || 20000000 < lat ||
    256 < ((lat * fn + (t + 1) * 1000000000) * fg + 1000000000 * fn - 1) / (1000000000 * fn) + 2 * b

/-- What R331 refuses in a group set, but its states. -/
def Dev.groupCheck (d : Dev) (g : Nat) : Verdict :=
  let m := d.rd (F.APG_CFG_DOMAIN g)
  let rate := d.rd (F.APG_CFG_RATE g)
  let pdm := d.rd (F.APG_CFG_FMT g) == 3
  let dirs := (groupPins g).map (fun p => d.pinDir p.1 p.2)
  let fg := d.groupHz g
  let fn := d.domainHz m
  firstOf [
    (d.rd (F.APG_CFG_SLOT_W g) == 3 || d.rd (F.APG_CFG_BLK_LOG2 g) == 7 ||
      (d.on (F.APG_CFG_BRIDGED g) && (4 * fg < fn || 4 * fn < fg)) ||
      d.groupLatBad g (d.rd (F.MCS_DOMAIN_TICK_LOG2 m)), Rsn.RANGE, 0),
    (6 ≤ rate, Rsn.FORMAT, 0),
    ((!d.on (F.APG_CFG_BRIDGED g) && rate != d.domainCode m) || (pdm && dirs.any (fun x => x == 1 || x == 2)) ||
      (!pdm && dirs.any (· == 3)), Rsn.INCOMPLETE, 0)]

/-- What R338 refuses in a port set, but its states. -/
def Dev.portCheck (d : Dev) (n : Nat) : Verdict :=
  let g := n / 4
  let fmt := d.rd (F.APG_CFG_FMT g)
  let dir (k : Nat) := d.pinDir n k
  let lim := 32 / rateMult (d.rd (F.APG_CFG_RATE g))
  let slots (k : Nat) := d.pinSlots n k
  let hold := d.rd (F.AP_NA_HOLD_LOG2 n)
  let used (k : Nat) : Bool := dir k == 1 || dir k == 2
  let bclks := d.rd (F.APG_STATUS_BCLKS g)
  let w := d.slotWidth g
  let m := d.rd (F.APG_CFG_DOMAIN g)
  let br := d.on (F.APG_CFG_BRIDGED g)
  firstOf [
    ([0, 1].any (fun k => slots k == 0 || (used k && lim < slots k) || 32 < slots k ||
        (used k && (fmt == 1 || fmt == 2) && slots k != 2) ||
        (used k && d.on (F.APG_STATUS_FRAMING g) && fmt == 0 && bclks < w * slots k)) || hold < 10 || 15 < hold, Rsn.RANGE, 0),
    ([0, 1].any (fun k => (dir k == 3 && fmt != 3) || (used k && fmt == 3)), Rsn.INCOMPLETE, 0),
    (!br && d.noClock m, Rsn.NO_CLOCK, 0),
    (br && d.ustate (0x090 + g) != 0 && 256 < d.bridgeLoad g (0x050 + n), Rsn.CAPACITY, 0x006)]

/-- What is refused in a decimator's set (R350, R354). -/
def Dev.decimCheck (d : Dev) (k : Nat) : Verdict :=
  let g := k / 8
  let f := d.rd (F.DEC_CFG_FILT k)
  firstOf [
    (4 < f || 12288000 < filtRatio f * d.groupHz g, Rsn.RANGE, 0),
    (d.on (F.APG_CFG_BRIDGED g) && d.ustate (0x090 + g) != 0 && 256 < d.bridgeLoad g (0x100 + k), Rsn.CAPACITY, 0x006)]

/-! ### Patch regions, meters, host channels -/

/-- What R365 refuses in a region set, but its states. -/
def Dev.regionCheck (d : Dev) (prov : List Nat) (r : Nat) : Verdict :=
  let base := d.regionBase r
  let n := d.regionCount r
  firstOf [
    (n == 0 || 65536 < base + n || (d.activeEntries base n).any (fun e => !entryOk e.1 e.2), Rsn.RANGE, 0),
    ((List.range 64).any (fun q => q != r && (d.ustate (0xC00 + q) != 0 || prov.contains (0xC00 + q)) &&
      base < d.regionBase q + d.regionCount q && d.regionBase q < base + n), Rsn.INCOMPLETE, 0)]

/-- The router load exceeds the patch destinations (R371). -/
def Dev.routerOver (d : Dev) (prov : List Nat) (r : Nat) : Bool :=
  let more := (prov.filter (fun u => 0xC00 ≤ u && u < 0xC40 && u != 0xC00 + r && d.ustate u == 0)).foldl
    (fun a u => a + d.regionCount (u - 0xC00) * rateMult (d.domainCode (d.rd (F.PR_REGION_CFG_DOMAIN (u - 0xC00))))) 0
  d.opps.any (fun o => patchLimit o < d.routerLoad (some r) + more)

/-- What R373 refuses in the meter set. -/
def Dev.meterCheck (d : Dev) : Verdict :=
  let rs := (List.range 64).filter (fun r => d.on (F.MTR_RANGE_CFG_EN r))
  let first (r : Nat) := d.rd (F.MTR_RANGE_CELLS_FIRST r)
  let cnt (r : Nat) := d.rd (F.MTR_RANGE_CELLS_COUNT r)
  let idx (r : Nat) := d.rd (F.MTR_RANGE_INDEX_INDEX r)
  let ls := (List.range 256).filter (fun c => d.on (F.MTR_LD_CFG_EN c))
  firstOf [
    (rs.any (fun r => cnt r == 0 || 16384 < first r + cnt r || !sameRange (idx r) (idx r + cnt r - 1) ||
        4 < d.rd (F.MTR_RANGE_CFG_TAU r)) ||
      ls.any (fun c => let n := d.rd (F.MTR_LD_CFG_COUNT c); let i := d.rd (F.MTR_LD_CFG_INDEX c)
        n == 0 || 8 < n || !sameRange i (i + n - 1) ||
          (List.range 8).any (fun k => d.rd (F.MTR_LD_WEIGHT_W c) / 4 ^ k % 4 == 3)), Rsn.RANGE, 0),
    (rs.any (fun r => rs.any (fun q => q != r && first r < first q + cnt q && first q < first r + cnt r)), Rsn.INCOMPLETE, 0),
    (16384 < d.meterCells || 256 < d.loudCells, Rsn.CAPACITY, 0x007)]

/-- The enabled host channel rings of a direction (R107). -/
def Dev.hchRings (d : Dev) (record : Bool) : List Nat :=
  ((List.range 64).map (fun i => if record then 64 + i else i)).filter (fun r => d.on (F.HCH_CFG_EN r))

/-! ### Signal engines (R151, R152) -/

/-- What R36 and R152 examine of a signal engine. -/
def Dev.sengCheck (d : Dev) (e : Nat) : Verdict :=
  let m := d.rd (F.ENG_CFG_DOMAIN e)
  let decl := d.rd (F.ENG_DECL_DECL e)
  firstOf [
    (!d.domainOn (e / 16), Rsn.DOMAIN_OFF, 0),
    (0x8000 ≤ d.rd (F.ENG_ENTRY_ENTRY e) * 4 || d.rd (F.ENG_CFG_OVR_LIMIT e) == 0, Rsn.RANGE, 0),
    (decl == 0, Rsn.INCOMPLETE, 0),
    (d.noClock m, Rsn.NO_CLOCK, 0),
    (d.opps.any (fun o => tickBudget (coreHz o) (2 ^ (d.mclk m).tickLog) (d.domainHz m) < decl), Rsn.CAPACITY, 0x003)]

/-! ### Orders -/

/-- DRAIN and DISABLE that R324, R340 and R365 refuse with STATE while other units depend on the unit. -/
def Dev.dependedOn (d : Dev) (u : Nat) : Bool :=
  match unitKind u with
  | .mclk m => d.bound m
  | .group g => (List.range 4).any (fun i => d.ustate (0x050 + 4 * g + i) != 0) ||
      (List.range 8).any (fun i => d.ustate (0x100 + 8 * g + i) != 0) || d.ustate (0x090 + g) != 0
  | .router => (List.range 64).any (fun r => d.ustate (0xC00 + r) != 0)
  | _ => false

/-- The check of the GPIO functions (R487). -/
def Dev.gpioCheck (d : Dev) : Verdict :=
  let func (i : Nat) : Nat := bits (d.reg A.GPIO_FUNC) (2 * i) 2
  firstOf [
    ((List.range 16).any (fun i => func i == 3), Rsn.RANGE, 0),
    ((List.range 16).any (fun i => func i != 0 && !(d.reg A.GPIO_DIR).getLsbD i), Rsn.INCOMPLETE, 0)]

/-- The ENABLE check of a unit that is no cabinet (R36). -/
def Dev.enableCheck (d : Dev) (prov : List Nat) (u : Nat) : Verdict :=
  match unitKind u with
  | .link n => firstOf [
      (!d.domainOn (4 + n / 4), Rsn.DOMAIN_OFF, 0),
      (5 < d.rd (F.LNK_CTRL_SPEED n) || d.lcClash prov n (d.rd (F.LNK_CTRL_SPEED n)), Rsn.RANGE, 0),
      (d.boardwalk n && !d.namedByRing n, Rsn.INCOMPLETE, 0)]
  | .ring k =>
    let w := d.rd (F.RING_LINKS_WEST k)
    let e := d.rd (F.RING_LINKS_EAST k)
    let off (n : Nat) : Bool := n < 24 && (d.ustate (0x010 + n) == 0 || d.ustate (0x010 + n) == 5)
    firstOf [
      (off w || off e, Rsn.STATE, 0),
      (d.rd (F.RING_CTRL_CYCLE k) == 3 || d.rd (F.RING_CTRL_RING_ID k) == 0 ||
        (d.rd (F.RING_NAME_LO_NAME k) == 0 && d.rd (F.RING_NAME_HI_NAME k) == 0), Rsn.RANGE, 0),
      (24 ≤ w || 24 ≤ e || w == e || !d.boardwalk w || !d.boardwalk e ||
        d.rd (F.LNK_CTRL_SPEED w) != d.rd (F.LNK_CTRL_SPEED e), Rsn.INCOMPLETE, 0),
      (d.ringQ k < 964 + d.rd (F.RING_WIN_ISO_OCTETS k) + d.ringG k, Rsn.CAPACITY, 0x005)]
  | .stream s => firstOf [
      (128 < d.rd (F.STRM_CFG_RX_DECL s) || 128 < d.rd (F.STRM_CFG_TX_DECL s) || d.declsOver prov s, Rsn.CAPACITY, 0x001)]
  | .flow f => d.flowCheck prov f
  | .group g =>
    let m := d.groupCheck g
    firstOf [
      (d.rd F.PWR_DOMAIN_STATE_VDDIO / 2 ^ (g / 2) % 2 == 0, Rsn.DOMAIN_OFF, 0), (m.1 != 0, m),
      (d.rd (F.RM_STAT_CLASS g) != d.rd (F.APG_CFG_RATE g), Rsn.NO_CLOCK, 0)]
  | .port n =>
    let g := 0x040 + n / 4
    firstOf [(!d.active g, Rsn.STATE, 0), (true, d.portCheck n)]
  | .decim k =>
    let c := d.decimCheck k
    firstOf [(c.1 == Rsn.RANGE, c), (d.pinDir (k / 2) (k % 2) != 3, Rsn.INCOMPLETE, 0), (true, c)]
  | .bridge b =>
    let m := d.rd (F.APG_CFG_DOMAIN b)
    let fg := d.groupHz b
    let fn := d.domainHz m
    firstOf [
      (d.ustate (0x040 + b) == 0, Rsn.STATE, 0),
      (4 * fg < fn || 4 * fn < fg || d.rd (F.BRG_CFG_BW b) == 3, Rsn.RANGE, 0),
      (!d.on (F.APG_CFG_BRIDGED b), Rsn.INCOMPLETE, 0),
      (d.noClock m, Rsn.NO_CLOCK, 0),
      (256 < d.bridgeLoad b 0, Rsn.CAPACITY, 0x006)]
  | .mclk m => firstOf [
      (d.on (F.MCS_CAL_CAL_BUSY m), Rsn.BUSY, 0), (!d.domainOn (10 + m), Rsn.DOMAIN_OFF, 0), (true, d.mclkCheck m)]
  | .seng e => d.sengCheck e
  | .region r =>
    let m := d.rd (F.PR_REGION_CFG_DOMAIN r)
    let c := d.regionCheck prov r
    firstOf [
      (d.ustate 0x0F9 != 3, Rsn.STATE, 0), (c.1 != 0, c),
      (d.noClock m, Rsn.NO_CLOCK, 0), (d.routerOver prov r, Rsn.CAPACITY, 0x002)]
  | .meters => d.meterCheck
  | .hostch =>
    let chans (rec : Bool) := (d.hchRings rec).foldl (fun a r => a + d.rd (F.HCH_CFG_CHANS r)) 0
    firstOf [
      ((d.hchRings false ++ d.hchRings true).isEmpty || d.spiBound (d.rd (F.UNIT_OWNER_OWNER 0x0FA)), Rsn.INCOMPLETE, 0),
      (1024 < chans false || 1024 < chans true, Rsn.CAPACITY, 0x008)]
  | .time =>
    let a := toSigned 32 (d.reg A.TIME_ADJ).toNat
    firstOf [(a < -2147483 || 2147483 < a, Rsn.RANGE, 0)]
  | .steward s => firstOf [
      (!d.domainOn s, Rsn.DOMAIN_OFF, 0),
      (0x40000 ≤ d.rd (F.STW_RESUME_VEC s) * 4, Rsn.RANGE, 0)]
  | .gpio => d.gpioCheck
  | _ => (0, 0)

end Sys2Proof.Machine
end

