-- ==== Sys2Proof/Machine/Units.lean ====
section
/-! DEFINITION. Units (R24–R46): events and summaries, state changes, cabinets, orders and their check, walks. -/
namespace Sys2Proof.Machine

/-- The unit whose descriptor or register block holds an address (R50). -/
def unitOfAddr (a : Nat) : Option Nat :=
  match blockAt (a / 4 * 4) with
  | some (b, off) => unitOfBlock b off
  | none => none

/-- The parent cabinet of a unit; 0 is the root (R25). -/
def Dev.parent (d : Dev) (u : Nat) : Nat := d.rd (F.UNIT_LINK_PARENT u)

/-- A member list from a first member on (R37). -/
def Dev.listFrom (d : Dev) : Nat → Nat → List Nat
  | 0, _ => []
  | n + 1, u => if u = 0xFFF then [] else u :: Dev.listFrom d n (d.rd (F.UNIT_LINK_NEXT u))

/-- The members of a cabinet: its list, or for the root every unit whose parent it is, in ascending order (R37, R42). -/
def Dev.members (d : Dev) (cab : Nat) : List Nat :=
  if cab = 0 then allUnits.filter (fun u => u != 0 && d.parent u == 0)
  else d.listFrom 0x1000 (d.rd (F.CAB_MEMBERS_FIRST cab))

/-- A unit that is a cabinet (R24). -/
def isCabinet (u : Nat) : Bool := u == 0 || (0xD00 ≤ u && u ≤ 0xFFE)

/-! ### Events (R45) -/

/-- The units that the unit's summary gathers with CLASS_EN: a member's SUM whose PROPAGATE is set (R45). -/
def Dev.memberSum (d : Dev) (u : Nat) : Bool :=
  if u = 0 then d.unitsSum
  else isCabinet u && (d.members u).any (fun m => d.on (F.UNIT_EVT_SUM m) && d.on (F.UNIT_EVT_EN_PROPAGATE m))

/-- SUM as its leaves and causes give it (R45). -/
def Dev.sumNow (d : Dev) (u : Nat) : Bool :=
  Nat.land (d.rd ⟨A.UNIT_EVT u, 1, 3⟩) (d.rd (F.UNIT_EVT_EN_LEAF_EN u)) != 0 ||
    (d.on (F.UNIT_EVT_EN_CLASS_EN u) && (d.classLeaf u || d.memberSum u))

/-- The event of a unit is posted to its owner (R45, R105). -/
def Dev.postUnit (d : Dev) (u : Nat) : Dev :=
  (d.setUnit u { d.unit u with lastPost := some d.clk, heldPost := false }).postEvent
    (d.rd (F.UNIT_OWNER_OWNER u)) u 1 (d.reg (A.UNIT_EVT u))

/-- A rising edge of SUM with NOTIFY: posted, or held by the 10 ms limit (R45). -/
def Dev.notify (d : Dev) (u : Nat) : Dev :=
  let r := d.unit u
  let free := match r.lastPost with
    | none => true
    | some c => c + 10000000 ≤ d.clk
  if free && !r.heldPost then d.postUnit u else d.setUnit u { r with heldPost := true }

/-- The unit's SUM is brought up to date, and its parents' after it; a rising edge fires sources and notifies (R45). -/
def Dev.touchN : Nat → Dev → Nat → Dev
  | 0, d, _ => d
  | n + 1, d, u =>
    let old := d.on (F.UNIT_EVT_SUM u)
    let new := d.sumNow u
    if old == new then d
    else
      let d := d.wr (F.UNIT_EVT_SUM u) (if new then 1 else 0)
      let d := if new then (d.fireSum u).when (d.on (F.UNIT_EVT_EN_NOTIFY u)) (fun d => d.notify u) else d
      if u = 0 then d else Dev.touchN n d (d.parent u)

/-- As `touchN`, through every level of cabinets (R37). -/
def Dev.touch (d : Dev) (u : Nat) : Dev := Dev.touchN 800 d u

/-- A leaf of a class event register is set (R45). -/
def Dev.leaf (d : Dev) (u a b : Nat) : Dev := (d.setBit a b).touch u

/-- A change of a member's PROPAGATE or SUM may change its parent's SUM. -/
def Dev.touchBoth (d : Dev) (u : Nat) : Dev :=
  let d := d.touch u
  if u = 0 then d else d.touch (d.parent u)

/-! ### Staged values that apply (R52, R56) -/

/-- The value of a staged write goes into its word, the written bits alone. -/
def Dev.applyOne (d : Dev) (s : Staged) : Dev :=
  d.setReg s.addr ((d.reg s.addr &&& ~~~ s.mask) ||| (s.val &&& s.mask))

/-- What stands from both paths in the interval of a unit is forgotten: the interval ends (R112). -/
def Dev.closeInterval (d : Dev) (u : Nat) : Dev :=
  { d with stands := d.stands.filter (fun s => match s with
      | .ws _ a _ _ => unitOfAddr a != some u
      | .ord _ v _ _ => v != u) }

/-- The commit register of a unit's sets loses PENDING when none of the sets it commits is pending (R54, R57). -/
def Dev.clearPending (d : Dev) (u : Nat) : Dev :=
  d.each (commitRegsOf u) (fun d r =>
    if d.accepted.any (fun s => (commitRegsOf s.1.1).contains r) then d else d.setReg r (putBits (d.reg r) 1 1 0))

/-- The configuration set has been written (R69). -/
def Dev.dirty (d : Dev) : Dev := { d with cfg := { d.cfg with dirty := true } }

/-- The cabinets that hold members or a count. -/
def Dev.usedCabinets (d : Dev) : List Nat :=
  (d.regs.filter (fun e => 0x44400 ≤ e.1 && e.1 < 0x50000 && e.1 % 0x40 == 0x38)).map (fun e => (e.1 - 0x10000) / 0x40)

/-- COUNT of every cabinet reads the number of its members (R25, R37). -/
def Dev.recount (d : Dev) : Dev :=
  d.each d.usedCabinets (fun d c => d.wr (F.CAB_MEMBERS_COUNT c) (d.members c).length)

/-- A set whose accepted values wait for an instant of their own, not the unit's boundary: a link's gate set (R192). -/
def waitsForInstant (sid : SetId) : Bool :=
  match unitKind sid.1 with
  | .link _ => sid.2 == 1
  | _ => false

/-- An accepted set applies whole (R56). -/
def Dev.applySet (d : Dev) (sid : SetId) : Dev :=
  let mine := d.accepted.filter (fun s => s.1 == sid)
  if mine.isEmpty then d
  else
    let d := { d with accepted := d.accepted.filter (fun s => s.1 != sid) }
    let d := (((d.each mine (fun d s => d.each s.2 Dev.applyOne)).clearPending sid.1).onApply sid.1 (some sid.2)
      (mine.flatMap (fun s => s.2.map (fun (w : Staged) => w.addr)))).dirty
    if sid.1 = 0 then d.recount else d

/-- Every staged value and accepted set of a unit applies at its boundary (R52, R56). -/
def Dev.applyStaged (d : Dev) (u : Nat) : Dev :=
  let mine := d.staged.filter (fun s => unitOfAddr s.addr == some u)
  if mine.isEmpty then d
  else (({ d with staged := d.staged.filter (fun s => unitOfAddr s.addr != some u) }.each mine Dev.applyOne).onApply u none
    (mine.map (fun (w : Staged) => w.addr))).dirty

/-- Everything of a unit that waits for its boundary applies (R51). -/
def Dev.applyAll (d : Dev) (u : Nat) : Dev :=
  let d := d.applyStaged u
  d.each ((d.accepted.filter (fun s => s.1.1 == u && !waitsForInstant s.1)).map (·.1)) (fun d sid => d.applySet sid)

/-! ### State changes -/

/-- Who waits for the unit's order is answered: a command by its completion with RESULT0 the TARGET field, a thread by its
result word (R103, R136). -/
def Dev.answerWaits (d : Dev) (u reason detail : Nat) : Dev :=
  let mine := d.waits.filter (fun w => w.unit == u)
  let d := { d with waits := d.waits.filter (fun w => w.unit != u) }
  d.each mine (fun d w => match w.who with
    | .cmd t seq => d.completeCmd t seq reason u detail [BitVec.ofNat 32 (d.rd (F.UNIT_CMD_TARGET u))]
    | .ctx x => d.updCtx x (fun c => match c.wait with
        | .order gd _ =>
          let r := BitVec.ofNat 32 (reason + d.rd (F.UNIT_CMD_TARGET u) * 2 ^ 8 + detail * 2 ^ 16)
          { c with wait := .unitDone (some (gd, r)) r }
        | _ => c))

/-- The state a TARGET code names (R25): 0 OFF, 1 STANDBY, 2 IN_SERVICE; 7 for none. -/
def targetState (t : Nat) : Nat := if t = 2 then 3 else if t = 3 then 7 else t

/-- UWAITs that the state word of a unit satisfies (R136). -/
def Dev.answerStates (d : Dev) (u : Nat) : Dev :=
  let st := d.ustate u
  let w := d.reg (A.UNIT_STATE u) &&& 0x0FFFFFFF
  d.each (d.ctxs.filter (fun e => match e.2.wait with
      | .state _ v s _ => v == u && (s == st || st == 5)
      | _ => false))
    (fun d e => d.updCtx e.1 (fun c => match c.wait with
      | .state gd _ _ _ => { c with wait := .unitDone (some (gd, w)) 0x300 }
      | _ => c))

/-- The unit's STATE is `new`: the leaf, the time, the counters (R31, R25). -/
def Dev.stateWord (d : Dev) (u new : Nat) : Dev :=
  let d := (d.wr (F.UNIT_STATE_STATE u) new).wr (F.UNIT_EVT_STATE_CHG u) 1
  let d := (d.setReg (A.UNIT_TIME_LO u) (loWord d.t64)).setReg (A.UNIT_TIME_HI u) (hiWord d.t64)
  let d := d.wr (F.UNIT_EVT_FAULT u) (if new = 5 then 1 else 0)
  let d := if new = 5 then d.sat (F.UNIT_FAULTS_FAULTS u) 1 else d
  let d := if new = 2 then d.wr (F.UNIT_SYNC_COUNT_SYNC_COUNT u) 0 else d
  (d.fireState u).touch u |>.answerStates u

/-- The running order of a unit has taken its last effect: BUSY reads 0 (R515). -/
def Dev.endOrder (d : Dev) (u : Nat) : Dev :=
  (d.setUnit u { d.unit u with order := 0, src := none }).wr (F.UNIT_CMD_BUSY u) 0

/-- The number of the root's members (R42). -/
def Dev.rootCount (d : Dev) : Nat :=
  3476 - (d.regs.filter (fun e => 0x10040 ≤ e.1 && e.1 < 0x50000 && e.1 % 0x40 == 0xC && bits e.2 0 12 != 0)).length

/-- How far advanced a state is: OFF, DRAINING, STANDBY, SYNCING, IN_SERVICE (R39). -/
def advancement (st : Nat) : Nat := match st with
  | 0 => 0 | 4 => 1 | 1 => 2 | 2 => 3 | 3 => 4 | _ => 5

/-- The least advanced of some states; FAULTED if any is FAULTED (R39). -/
def leastOf (sts : List Nat) : Nat :=
  if sts.any (· == 5) then 5 else sts.foldl (fun a b => if advancement b < advancement a then b else a) 3

/-- The state a cabinet reads by R39. -/
def Dev.derived (d : Dev) (cab : Nat) : Nat :=
  if cab = 0 then
    let sts := (d.regs.filter (fun e => 0x10040 ≤ e.1 && e.1 < 0x50000 && e.1 % 0x40 == 4 && bits e.2 0 3 != 0 &&
      d.parent ((e.1 - 0x10000) / 0x40) == 0)).map (fun e => bits e.2 0 3)
    if sts.any (· == 5) then 5 else if sts.length < d.rootCount then 0 else leastOf sts
  else match d.members cab with
    | [] => (d.unit cab).named
    | ms => leastOf (ms.map d.ustate)

/-- A cabinet is walking its members (R38). -/
def Dev.walking (d : Dev) (cab : Nat) : Bool := d.walks.any (fun w => w.cab == cab)

/-- The cabinets above a unit read the state R39 gives, level by level; a cabinet whose walk has ended and that reads its
target answers who waits. -/
def Dev.refreshN : Nat → Dev → Nat → Dev
  | 0, d, _ => d
  | n + 1, d, cab =>
    let new := d.derived cab
    let d := if new = d.ustate cab then d else d.stateWord cab new
    let d := if !d.walking cab && new == targetState (d.rd (F.UNIT_CMD_TARGET cab)) then d.answerWaits cab 0 0 else d
    if cab = 0 then d else Dev.refreshN n d (d.parent cab)

/-- As `refreshN`, from a cabinet up to the root. -/
def Dev.refresh (d : Dev) (cab : Nat) : Dev := Dev.refreshN 800 d cab

/-- After a membership commit every cabinet reads the state of its new members (R37, R39). -/
def Dev.refreshCabinets (d : Dev) : Dev := (d.each d.usedCabinets (fun d c => (d.refresh c).touch c)).refresh 0

/-- A unit that is no cabinet changes state (R27, R31): what waits for its boundary applies when it reaches OFF (R52), who
waits for the state is answered, and its cabinets follow. -/
def Dev.setState (d : Dev) (u new : Nat) : Dev :=
  let old := d.ustate u
  if old = new then d
  else
    let d := d.stateWord u new
    let d := d.onState u old new
    let d := if new = 0 then d.applyAll u else d
    let d := if old = 0 then d.closeInterval u else d
    let d := if new = targetState (d.rd (F.UNIT_CMD_TARGET u)) then d.answerWaits u 0 0 else d
    d.refresh (d.parent u)

/-! ### Refusals and acceptance (R33) -/

/-- The outcome of a check is recorded as a refusal (R33). -/
def Dev.refuse (d : Dev) (u reason detail : Nat) : Dev :=
  let d := (d.wr (F.UNIT_STATE_REASON u) reason).wr (F.UNIT_STATE_DETAIL u) detail
  (((d.sat (F.UNIT_REFUSALS_REFUSALS u) 1).wr (F.UNIT_EVT_REFUSED u) 1).touch u)

/-- The outcome of a check is recorded as accepted (R33). -/
def Dev.accept (d : Dev) (u : Nat) : Dev := (d.wr (F.UNIT_STATE_REASON u) 0).wr (F.UNIT_STATE_DETAIL u) 0

/-- A refusal with CONFLICT is latched and counted (R115). -/
def Dev.conflict (d : Dev) (spi cmd : Bool) (addr : Nat) : Dev :=
  let d := if d.on F.GLB_CONFLICT_VALID then d
    else d.setReg A.GLB_CONFLICT (BitVec.ofNat 32
      (addr % 2 ^ 27 + (if spi then 2 ^ 27 else 0) + (if cmd then 2 ^ 28 else 0) + 2 ^ 31))
  d.sat F.HOST_STATUS_CONFLICTS 1

/-- An order counts as refused with CONFLICT; REASON keeps the outcome of the order that applies (R33, R114). -/
def Dev.orderConflict (d : Dev) (u : Nat) (spi cmd : Bool) : Dev :=
  let d := ((d.sat (F.UNIT_REFUSALS_REFUSALS u) 1).wr (F.UNIT_EVT_REFUSED u) 1).touch u
  d.conflict spi cmd (if cmd then u else A.UNIT_CMD u)

/-! ### The check of an order (R32) -/

/-- The codes of the orders (R25). -/
abbrev Ord.ENABLE : Nat := 1
abbrev Ord.DISABLE : Nat := 2
abbrev Ord.DRAIN : Nat := 3
abbrev Ord.RESET : Nat := 4

/-- What R27 says of an order in a state. -/
inductive Trans where
  | go | noEffect | refused
deriving DecidableEq, Repr

/-- The transition table of R27, with R515: a further ENABLE while an entry to SYNCING waits has no effect. -/
def transition (st order target : Nat) (syncWait : Bool) : Trans :=
  if order = Ord.RESET then .go
  else if order = Ord.ENABLE then
    (if st = 0 then .go else if st = 1 then (if syncWait then .noEffect else .go)
     else if st = 2 || st = 3 then .noEffect else .refused)
  else if order = Ord.DRAIN then
    (if st = 2 || st = 3 then .go else if st = 0 || st = 1 then .noEffect else .refused)
  else
    (if st = 0 then .noEffect else if st = 4 then (if target = 1 then .go else .noEffect) else .go)

/-- Every unit below a cabinet, to any depth, cabinets before their members; none twice unless the lists loop. -/
def Dev.tree (d : Dev) : Nat → Nat → List Nat
  | 0, _ => []
  | n + 1, cab => (d.members cab).flatMap (fun m => m :: (if isCabinet m then Dev.tree d n m else []))

/-- The transition of a unit or a cabinet. DISABLE and DRAIN of a cabinet walk as long as some member below would act on
them (R42; DEDUCED, log 8). -/
def Dev.transOf (d : Dev) (u order : Nat) : Trans :=
  let own (u : Nat) := transition (d.ustate u) order (d.rd (F.UNIT_CMD_TARGET u)) (d.unit u).syncWait
  let t := own u
  if isCabinet u && t == .noEffect && (order == Ord.DISABLE || order == Ord.DRAIN) &&
      (d.tree 800 u).any (fun m => !isCabinet m && own m != .noEffect) then .go
  else t

/-- A cabinet above the unit is walking its members (R41). -/
def Dev.underWalk (d : Dev) : Nat → Nat → Bool
  | 0, _ => false
  | n + 1, u => if u = 0 then false else d.walking (d.parent u) || Dev.underWalk d n (d.parent u)

/-- The configuration check refuses (R70, ACTION 0b01). -/
def Dev.cfgRefuses (d : Dev) (tenant order : Nat) : Bool :=
  d.rd F.CFG_CTRL_ACTION == 1 && d.on F.CFG_STATUS_MISMATCH &&
    !(tenant == 0 && (order == Ord.DISABLE || order == Ord.DRAIN || order == Ord.RESET))

/-- How an order comes to be checked: its tenant, none where a cabinet's walk gives it (R41); and whether condition 4 is
left out, for an order that contradicts the running one (R114), for a walk's own members, for RESET in a cabinet (R38). -/
structure Asker where
  tenant : Option Nat
  skipBusy : Bool
deriving DecidableEq, Repr

/-- Conditions 1 to 6 of R32 for a unit or a cabinet. -/
def Dev.commonCheck (d : Dev) (k : Asker) (u order : Nat) : Verdict :=
  let st := d.ustate u
  firstOf [
    ((match k.tenant with
      | some t => t != 0 && t != d.rd (F.UNIT_OWNER_OWNER u)
      | none => false), Rsn.NOT_OWNER, 0),
    (d.cfgRefuses (k.tenant.getD 0) order, Rsn.CFG_CRC, 0),
    (!k.skipBusy && ((d.on (F.UNIT_CMD_BUSY u) && order != Ord.RESET && !(order == Ord.DISABLE && st == 4)) ||
      d.underWalk 800 u), Rsn.BUSY, 0),
    (d.safe || d.replayRefuses u order || (u == 0 && (order == Ord.ENABLE || order == Ord.RESET)) || d.transOf u order == .refused ||
      ((order == Ord.DISABLE || order == Ord.DRAIN) && d.transOf u order == .go && d.dependedOn u), Rsn.STATE, 0),
    (order == Ord.ENABLE && d.rd F.ERR_STATUS_STOPPED / 2 ^ subsysOf u % 2 == 1 && !isCabinet u, Rsn.DOMAIN_OFF, 0)]

/-- An ENABLE that would act is examined for its class (R36). -/
def Dev.classCheck (d : Dev) (prov : List Nat) (u order : Nat) : Verdict :=
  if order = Ord.ENABLE && d.transOf u order == .go then d.enableCheck prov u else (0, 0)

/-- The check of an order on a unit and, for a cabinet, on every member to any depth; what refuses records its own
reason, each cabinet on the way to it MEMBER (R38, R40). The result holds the records of the members, the units whose
load counts from now on, and the verdict for the unit itself, not yet recorded. -/
def Dev.checkN : Nat → Dev → Asker → List Nat → Nat → Nat → Dev × List Nat × Verdict
  | 0, d, _, prov, _, _ => (d, prov, (Rsn.INTERNAL, 0))
  | n + 1, d, k, prov, u, order =>
    match d.commonCheck k u order with
    | (0, _) =>
      if isCabinet u then
        let ms := d.members u
        if order = Ord.ENABLE && (d.tree 800 u).length ≠ (d.tree 800 u).eraseDups.length then (d, prov, (Rsn.DEPTH, u))
        else
          ms.foldl (fun a m =>
            if a.2.2.1 ≠ 0 then a
            else
              match Dev.checkN n a.1 { tenant := none, skipBusy := k.skipBusy || order = Ord.RESET } a.2.1 m order with
              | (d, prov, (0, _)) => (d, if order = Ord.ENABLE then m :: prov else prov, (0, 0))
              | (d, prov, (r, dt)) => (d.refuse m r dt, prov, (Rsn.MEMBER, if r = Rsn.MEMBER then dt else m)))
            (d, prov, (0, 0))
      else (d, prov, d.classCheck prov u order)
    | v => (d, prov, v)

/-! ### An accepted order takes effect -/

/-- The TARGET code of an order (R25). -/
def targetOf (order : Nat) : Nat := if order = Ord.ENABLE then 2 else if order = Ord.DRAIN then 1 else 0

/-- A unit whose boundary is the completion of a command enters SYNCING at once, and IN_SERVICE if it acquires nothing
(R51, R162, R299). -/
def Dev.syncNow (d : Dev) (u : Nat) : Dev :=
  let d := (d.setUnit u { d.unit u with syncWait := false }).setState u 2
  if d.acquiresNothing u then d.setState u 3 else d

/-- The entry to SYNCING waits for the next boundary, with BUSY clear (R515). -/
def Dev.waitSync (d : Dev) (u : Nat) : Dev :=
  if syncsAtOnce u then d.syncNow u else d.setUnit u { d.unit u with syncWait := true }

/-- A unit that is IN_SERVICE returns to SYNCING (R27). -/
def Dev.sendBack (d : Dev) (u : Nat) : Dev := if d.ustate u = 3 then d.setState u 2 else d

/-- A domain has stopped ticking: what is bound to it returns to SYNCING until it ticks again (R324, R340, R365). -/
def Dev.domainStops (d : Dev) (m : Nat) : Dev :=
  let flows := (d.flowsNotOff.filter (fun f => d.flowDomain f == m)).map (0x400 + ·)
  let engines := ((List.range 64).filter (fun e => d.rd (F.ENG_CFG_DOMAIN e) == m)).map (0x0B0 + ·)
  let regions := ((List.range 64).filter (fun r => d.rd (F.PR_REGION_CFG_DOMAIN r) == m)).map (0xC00 + ·)
  let groups := (List.range 16).filter (fun g => d.rd (F.APG_CFG_DOMAIN g) == m)
  let ports := (groups.filter (fun g => !d.on (F.APG_CFG_BRIDGED g))).flatMap (fun g => (List.range 4).map (0x050 + 4 * g + ·))
  let bridges := (groups.filter (fun g => d.on (F.APG_CFG_BRIDGED g))).map (0x090 + ·)
  d.each (flows ++ engines ++ regions ++ ports ++ bridges) Dev.sendBack

/-- A port group is no longer IN_SERVICE: its ports, decimators and bridge return to SYNCING with it (R339, R340, R355). -/
def Dev.groupStops (d : Dev) (g : Nat) : Dev :=
  d.each ((List.range 4).map (0x050 + 4 * g + ·) ++ (List.range 8).map (0x100 + 8 * g + ·) ++ [0x090 + g]) Dev.sendBack

/-- An accepted order begins on a unit that is no cabinet (R27, R515). -/
def Dev.beginOne (d : Dev) (src : OrderSrc) (u order : Nat) : Dev :=
  let st := d.ustate u
  if d.transOf u order == .noEffect then d
  else if order = Ord.RESET then
    let d := (d.answerWaits u 0 0).endOrder u
    let d := (d.setUnit u { d.unit u with syncWait := false }).wr (F.UNIT_CMD_TARGET u) 0
    ((d.onReset u).setState u 0).closeInterval u
  else if order = Ord.ENABLE then
    let d := (d.answerWaits u 0 0).wr (F.UNIT_CMD_TARGET u) 2
    let d := d.onEnable u
    if st = 0 then (d.setUnit u { d.unit u with order := order, src := some src }).wr (F.UNIT_CMD_BUSY u) 1
    else d.waitSync u
  else if st = 4 then
    let d := (d.answerWaits u 0 0).wr (F.UNIT_CMD_TARGET u) 0
    d.setUnit u { d.unit u with order := order, src := some src }
  else if st = 1 || st = 5 then
    let d := ((d.answerWaits u 0 0).endOrder u).wr (F.UNIT_CMD_TARGET u) 0
    (d.setUnit u { d.unit u with syncWait := false }).setState u 0
  else
    let d := ((d.answerWaits u 0 0).wr (F.UNIT_CMD_TARGET u) (targetOf order)).wr (F.UNIT_CMD_BUSY u) 1
    (d.setUnit u { d.unit u with order := order, src := some src, drainAt := d.clk }).setState u 4

/-- A stream engine that drains disables its flows in descending slot order, each when the one after it has reached OFF
(R261). -/
def Dev.drainFlows : Nat → Dev → Nat → Dev
  | 0, d, _ => d
  | n + 1, d, s =>
    if d.ustate (0x200 + s) ≠ 4 then d
    else match ((List.range 8).map (fun i => 0x400 + 8 * s + (7 - i))).find? (fun u => d.ustate u != 0) with
      | none => d
      | some u =>
        let d := d.beginOne ((d.unit (0x200 + s)).src.getD (.cmd 0)) u Ord.DISABLE
        if d.ustate u = 0 then Dev.drainFlows n d s else d

/-- What follows from an order begun, a drain ended or a fault on a unit, for the units that depend on it (R261, R324,
R339). -/
def Dev.dependents (d : Dev) (src : OrderSrc) (u order : Nat) : Dev :=
  match unitKind u with
  | .stream s =>
    if order = Ord.RESET then d.each (List.range 8) (fun d i => d.beginOne src (0x400 + 8 * s + i) Ord.RESET)
    else d.drainFlows 9 s
  | .flow f => d.drainFlows 9 (f / 8)
  | .mclk m => if d.ustate u = 0 || d.ustate u = 5 then d.domainStops m else d
  | .group g => if d.ustate u = 3 then d else d.groupStops g
  | _ => d

/-- An accepted order begins on a unit that is no cabinet, with what depends on it. -/
def Dev.beginUnit (d : Dev) (src : OrderSrc) (u order : Nat) : Dev := (d.beginOne src u order).dependents src u order

/-- The walk of a cabinet ends (R38, R39): with a member that refused or faulted the order ends with MEMBER; else the
target is reached when the cabinet reads it. -/
def Dev.endWalk (d : Dev) (w : Walk) : Dev :=
  let d := { d with walks := d.walks.filter (fun v => v.cab != w.cab) }
  let d := (d.endOrder w.cab).closeInterval w.cab
  match w.failed with
  | some m => (d.answerWaits w.cab Rsn.MEMBER m).refresh w.cab
  | none => d.refresh w.cab

/-- The member has reached the state on which the walk's next order waits (R38). -/
def Dev.memberReached (d : Dev) (order m : Nat) : Bool :=
  let st := d.ustate m
  st == 5 || (!d.walking m &&
    (if order = Ord.ENABLE then st == 1 || st == 2 || st == 3
     else if order = Ord.DRAIN then st == 0 || st == 1 else st == 0))

/-- An order given to a unit or a cabinet below a walk, or accepted at the top: checked, recorded, begun. A cabinet's walk
orders its first member at once, or for RESET all of them (R38). `checked` tells that the check is done. -/
def Dev.orderN : Nat → Dev → OrderSrc → Bool → Nat → Nat → Dev × Nat
  | 0, d, _, _, _, _ => (d, Rsn.INTERNAL)
  | n + 1, d, src, checked, u, order =>
    let r := if checked then (d, [], (0, 0)) else Dev.checkN 800 d { tenant := none, skipBusy := true } [] u order
    let d := r.1
    if r.2.2.1 ≠ 0 then (d.refuse u r.2.2.1 r.2.2.2, r.2.2.1)
    else
      let d := d.accept u
      if !isCabinet u then (d.beginUnit src u order, 0)
      else if d.transOf u order == .noEffect then (d, 0)
      else
        let d := { (d.answerWaits u 0 0) with walks := d.walks.filter (fun v => v.cab != u) }
        let d := d.wr (F.UNIT_CMD_TARGET u) (targetOf order)
        let ms := d.members u
        if ms.isEmpty then
          (((d.setUnit u { d.unit u with named := targetState (targetOf order), order := 0, src := none }).wr
            (F.UNIT_CMD_BUSY u) 0).refresh u, 0)
        else if order = Ord.RESET then
          let d := d.each ms (fun d m => (Dev.orderN n d src false m order).1)
          (d.endWalk { cab := u, order, src, awaiting := none, todo := [], failed := none }, 0)
        else
          let ms := if order = Ord.ENABLE then ms else ms.reverse
          let d := (d.setUnit u { d.unit u with order := order, src := some src }).wr (F.UNIT_CMD_BUSY u) 1
          match ms with
          | [] => (d, 0)
          | m :: rest =>
            let d := { d with walks := { cab := u, order, src, awaiting := none, todo := rest, failed := none } :: d.walks }
            let r := Dev.orderN n d src false m order
            let d := r.1
            ({ d with walks := d.walks.map (fun w => if w.cab = u then
                { w with awaiting := if r.2 = 0 then some m else none, failed := if r.2 = 0 then none else some m }
              else w) }, 0)

/-- The path priority of R112 to R115 for an order of tenant 0: from the management SPI or not, and whether it came as a
command. None for another tenant. -/
def Dev.orderPath (d : Dev) : OrderSrc → Option (Bool × Bool × Path)
  | .reg p => some (d.pathIsSpi p, false, p)
  | .cmd t => if t.val = 0 then some (d.spiBound 0, true, if d.spiBound 0 then .spi else .pcie) else none

/-- The tenant an order acts as (R43, R88). -/
def orderTenant : OrderSrc → Nat
  | .reg _ => 0
  | .cmd t => t.val

/-- The latest order from the other path that stands in the unit's interval (R112). -/
def Dev.standing (d : Dev) (spi : Bool) (u : Nat) : Option (Path × Nat × Bool) :=
  d.stands.findSome? (fun s => match s with
    | .ord p v o c => if v == u && d.pathIsSpi p != spi then some (p, o, c) else none
    | .ws .. => none)

/-- The running order of a unit ends with no further effect (R114, R30). -/
def Dev.supersede (d : Dev) (u order : Nat) : Dev :=
  let d := d.answerWaits u Rsn.CONFLICT 0
  if order = Ord.DISABLE && d.ustate u = 4 then d
  else
    let d := { d with walks := d.walks.filter (fun v => v.cab != u) }
    (d.setUnit u { d.unit u with syncWait := false }).endOrder u

/-- Tenant 0's accepted order stands in the interval (R112), unless the interval has ended with it: a unit that is OFF, or
one whose boundary is the completion of a command. -/
def Dev.stand (d : Dev) (spi cmd : Bool) (p : Path) (u order : Nat) : Dev :=
  let d := { d with stands := d.stands.filter (fun s => match s with
      | .ord q v _ _ => !(v == u && d.pathIsSpi q == spi)
      | .ws .. => true) }
  if order = Ord.RESET || ((boundaryAtOnce u || d.ustate u == 0) && !d.on (F.UNIT_CMD_BUSY u)) then d
  else { d with stands := .ord p u order cmd :: d.stands }

/-- An order on a unit, whichever way it comes (R26): arbitration between tenant 0's paths (R112–R114), the check (R32),
its record, its effect. The verdict goes to the issuer. -/
def Dev.giveOrder (d : Dev) (src : OrderSrc) (u order : Nat) : Dev × Verdict :=
  if order = 0 then (d, (0, 0))
  else if 5 ≤ order then
    let t := orderTenant src
    let v := firstOf [
      (t != 0 && t != d.rd (F.UNIT_OWNER_OWNER u), Rsn.NOT_OWNER, 0), (d.cfgRefuses t order, Rsn.CFG_CRC, 0),
      (d.on (F.UNIT_CMD_BUSY u) || d.underWalk 800 u, Rsn.BUSY, 0), (d.safe, Rsn.STATE, 0), (true, Rsn.RANGE, 0)]
    (d.refuse u v.1 v.2, v)
  else
    let carry (d : Dev) (skip : Bool) (other : Option (Path × Bool)) : Dev × Verdict :=
      let r := Dev.checkN 800 d { tenant := some (orderTenant src), skipBusy := skip } [] u order
      let d := r.1
      if r.2.2.1 ≠ 0 then (d.refuse u r.2.2.1 r.2.2.2, r.2.2)
      else
        let d := match other with
          | some (q, c) => (d.supersede u order).orderConflict u (d.pathIsSpi q) c
          | none => d
        let d := (Dev.orderN 800 d src true u order).1
        (match d.orderPath src with
          | some (spi, c, p) => d.stand spi c p u order
          | none => d, (0, 0))
    match d.orderPath src with
    | none => carry d false none
    | some (spi, c, _) =>
      match d.standing spi u with
      | none => carry d false none
      | some (q, o, oc) =>
        if order = Ord.RESET || o = Ord.RESET then carry d false none
        else if o = order then (d.accept u, (0, 0))
        else if spi == d.on F.GLB_ARB_PRIO_SPI_FIRST then
          match carry d true (some (q, oc)) with
          | (d, v) => (if v.1 = 0 then { d with stands := d.stands.filter (fun s => match s with
              | .ord p w _ _ => !(w == u && d.pathIsSpi p != spi)
              | .ws .. => true) } else d, v)
        else (d.orderConflict u spi c, (Rsn.CONFLICT, 0))

/-! ### Progress of units -/

/-- A unit's clocks have started: STANDBY, and SYNCING at the next boundary (R27, R28). -/
def Dev.standbyReached (d : Dev) (u : Nat) : Dev :=
  if d.ustate u = 0 && (d.unit u).order = Ord.ENABLE then ((d.endOrder u).setState u 1).waitSync u else d

/-- The next boundary after ENABLE (R27, R46). -/
def Dev.syncingEntry (d : Dev) (u : Nat) : Dev :=
  if d.ustate u = 1 && (d.unit u).syncWait && d.boundaryComes u then
    let d := (((d.setUnit u { d.unit u with syncWait := false }).applyAll u).closeInterval u).setState u 2
    if d.acquiresNothing u then d.setState u 3 else d
  else d

/-- Acquisition is complete (R46). -/
def Dev.acquired (d : Dev) (u : Nat) : Dev := if d.ustate u = 2 then d.setState u 3 else d

/-- A required input, clock or lock is lost (R27). -/
def Dev.inputLost (d : Dev) (u : Nat) : Dev := if d.ustate u = 3 then d.setState u 2 else d

/-- A drain has ended: the unit reaches its target (R29). -/
def Dev.drained (d : Dev) (u : Nat) : Dev :=
  if d.ustate u = 4 then
    ((((d.endOrder u).applyAll u).closeInterval u).setState u (if d.rd (F.UNIT_CMD_TARGET u) = 1 then 1 else 0)).dependents
      (.cmd 0) u 0
  else d

/-- A unit enters FAULTED (R27, R404). -/
def Dev.faultOne (d : Dev) (u : Nat) : Dev :=
  let st := d.ustate u
  if st = 0 || st = 5 || isCabinet u then d
  else
    let d := (d.endOrder u).setUnit u { (d.endOrder u).unit u with syncWait := false }
    (d.answerWaits u Rsn.STATE 0).setState u 5

/-- A unit enters FAULTED, and with a stream engine its flows (R261); what depends on it follows. -/
def Dev.faultUnit (d : Dev) (u : Nat) : Dev :=
  let d := d.faultOne u
  match unitKind u with
  | .stream s => if d.ustate u = 5 then d.each (List.range 8) (fun d i => d.faultOne (0x400 + 8 * s + i)) else d
  | _ => d.dependents (.cmd 0) u 0

/-- The walk of a cabinet goes on (R38, R39). -/
def Dev.walkStep (d : Dev) (cab : Nat) : Dev :=
  match d.walks.find? (fun w => w.cab == cab) with
  | none => d
  | some w =>
    let put (d : Dev) (w : Walk) : Dev := { d with walks := d.walks.map (fun v => if v.cab = cab then w else v) }
    let go (d : Dev) (w : Walk) : Dev :=
      match w.todo with
      | [] => d.endWalk w
      | m :: rest =>
        let r := Dev.orderN 800 (put d { w with awaiting := none, todo := rest }) w.src false m w.order
        put r.1 { w with awaiting := if r.2 = 0 then some m else none, todo := rest,
                         failed := if r.2 = 0 then w.failed else w.failed.or (some m) }
    match w.awaiting with
    | none => go d w
    | some m =>
      if d.memberReached w.order m then
        go d { w with awaiting := none, failed := if d.ustate m = 5 then w.failed.or (some m) else w.failed }
      else d

end Sys2Proof.Machine
end

