-- ==== Sys2Proof/Machine/PowerState.lean ====
section
/-! DEFINITION. Leaving RETAIN and LISTEN, and abandoning an entry (R386, R391, R392), below the level of commands; the start of
an operating-point change (R397). -/
namespace Sys2Proof.Machine

/-- The output pins that the model's record of pin levels names. -/
abbrev Pin.WAKE_OUT_N : Nat := 2

/-- A leaf of `PWR_EVT`, with vector 519 (R76, R383). -/
def Dev.pwrEvt (d : Dev) (b : Nat) : Dev := (d.setBit A.PWR_EVT b).signal 0 519

/-- PMBus command codes of the device's own transactions (PRESUMED from PMBus 1.3, log 42). -/
abbrev Pmb.PAGE : Nat := 0x00
abbrev Pmb.VOUT_COMMAND : Nat := 0x21
abbrev Pmb.STATUS_WORD : Nat := 0x79

/-- VOUT_COMMAND to the regulator of VDD_CORE or VDD_SRAM, after PAGE where that is to be sent (R386, R395). -/
def Dev.sendVout (d : Dev) (sram : Bool) (code : Nat) : Dev :=
  let r := d.reg (if sram then A.CLK_PMB_SRAM else A.CLK_PMB_CORE)
  let d := d.when (bits r 16 1 = 1) (fun d => d.emit (.pmbus (bits r 0 7) Pmb.PAGE [BitVec.ofNat 8 (bits r 8 8)]))
  d.emit (.pmbus (bits r 0 7) Pmb.VOUT_COMMAND [BitVec.ofNat 8 (code % 256), BitVec.ofNat 8 (code / 256)])

/-- An accepted change of operating point starts (R397): down with the frequency, up with the voltage. -/
def Dev.startChange (d : Dev) (new : Nat) : Dev :=
  let down := d.rd F.CLK_OPP_STATUS_CUR < new
  let d := d.wr F.CLK_OPP_STATUS_CHANGING 1
  let d := { d with pwr := { d.pwr with newOpp := new, change := if down then 1 else 3, statusWord := 0 } }
  if down then d else d.sendVout false (d.rd (F.CLK_VOUT_OPP_CODE new))

/-- A bank of SRAM is kept in RETAIN (R383, R390). -/
def Dev.retained (d : Dev) (i : Nat) : Bool :=
  if i < 32 then d.rd F.PWR_RETAIN_MASK_LO_BANKS / 2 ^ i % 2 == 1 else d.rd F.PWR_RETAIN_MASK_HI_BANKS / 2 ^ (i - 32) % 2 == 1

/-- The banks that are not retained read zero (R390): engine memories, with what was bound from a steward's; the sample store. -/
def Dev.loseBanks (d : Dev) : Dev :=
  let d := d.each (List.range 4) (fun d s =>
    let d := d.when (!d.retained (32 + s)) (fun d =>
      { d with memw := d.memw ++ [.clear (0xC00000 + s * 0x100000) (0xC00000 + (s + 1) * 0x100000)],
               entries := d.entries.filter (fun e => e.1 / 1024 != s), boxes := d.boxes.filter (fun e => e.1 / 32 != s) })
    d.when (!d.retained (36 + s)) (fun d =>
      { d with memw := d.memw ++ [.clear (0x1000000 + s * 0x400000) (0x1000000 + (s + 1) * 0x400000)] }))
  d.when ((List.range 24).any (fun i => !d.retained i)) (fun d => { d with src := [], dst := [], moving := [] })

/-- A parked unit returns to SYNCING (R391). -/
def Dev.takeUp (d : Dev) (u : Nat) : Dev := if d.ustate u = 3 then d.setState u 2 else d

/-- A parked link is taken up again: it has to acquire its partner anew. -/
def Dev.takeUpLink (d : Dev) (n : Nat) : Dev :=
  if d.ustate (0x010 + n) < 2 then d
  else (((d.linkStops n).wr (F.LNK_STATUS_PCS_LOCK n) 0).wr (F.LNK_STATUS_AN_DONE n) 0).takeUp (0x010 + n)

/-- A parked steward: steward 0 restarts at its resume vector where its memory was kept; the others are OFF (R173, R392). A
steward that was not IN_SERVICE does not start (DEDUCED, log 43). -/
def Dev.takeUpSteward (d : Dev) (s : Nat) : Dev :=
  if s = 0 && d.ustate 0x0F0 = 3 && d.retained 32 then d.startResident 0
  else (d.endOrder (0x0F0 + s)).setState (0x0F0 + s) 0

/-- CORE is back (R391 steps 4 to 8): domains as at entry, parked units taken up, STATE ACTIVE at OPP1, and the change back to
the operating point of the entry (R394). -/
def Dev.restore (d : Dev) : Dev :=
  let back := d.pwr.opp
  let d := { d with pwr := { d.pwr with toward := 0, waking := false, freq := 1, change := 0 } }
  let d := (d.wr F.PWR_DOMAIN_STATE_ISLANDS 0x3F).wr F.PWR_DOMAIN_STATE_ON d.pwr.domains
  let d := (d.wr F.CLK_OPP_STATUS_CUR 1).wr F.CLK_OPP_STATUS_CHANGING 0
  let d := d.each (List.range 16) (fun d g => d.takeUp (0x040 + g))
  let d := d.each (List.range 24) Dev.takeUpLink
  let d := d.each (List.range 8) (fun d m => d.takeUp (0x0A0 + m))
  let d := d.each (List.range 4) Dev.takeUpSteward
  let d := (((d.wr F.PWR_STATUS_STATE 0).wr F.PWR_STATUS_TRANSIT 0).wr F.PWR_MODE_REQ 0).pwrEvt 0
  let d := { d with nudge := d.nudge ++ [0x0FB] }
  if back = 1 then d else d.startChange back

/-- An entry that has not committed is abandoned (R386, R402). -/
def Dev.abandonEntry (d : Dev) : Dev :=
  let d := (d.sendVout false (d.rd (F.CLK_VOUT_OPP_CODE 1))).sendVout true (d.rd F.CLK_VOUT_SRAM_RUN_CODE)
  (d.loseBanks.restore.wr F.PWR_STATUS_REASON Rsn.INTERNAL).pwrEvt 2

end Sys2Proof.Machine
end

