-- ==== Sys2Proof/Machine/Errors.lean ====
section
/-! DEFINITION. Raising an error record with the effect of its class (R404): a unit that faults, a subsystem that stops
(R413), safe state (R415). -/
namespace Sys2Proof.Machine

/-- The units of a subsystem that are not OFF, cabinets apart (R413). -/
def Dev.unitsOn (d : Dev) (subsys : Nat) : List Nat :=
  (d.regs.filter (fun e => 0x10040 ≤ e.1 && e.1 < 0x50000 && e.1 % 0x40 == 4 && bits e.2 0 3 != 0)).map
    (fun e => (e.1 - 0x10000) / 0x40) |>.filter (fun u => !isCabinet u && subsysOf u == subsys)

/-- A subsystem stops: its bit in STOPPED, every unit of it that is not OFF in FAULTED (R413). -/
def Dev.stopSubsystem (d : Dev) (s : Nat) : Dev :=
  (d.wr F.ERR_STATUS_STOPPED (Nat.lor (d.rd F.ERR_STATUS_STOPPED) (2 ^ s))).each (d.unitsOn s) Dev.faultUnit

/-- The device enters safe state (R415): every synthesizer that is not OFF runs on its bypass clock (R322); a power entry
that has not committed is abandoned (R402); a recording ends and
its trace tail is written (R448, R449); a boot that is loading fails (R473). What the other parts do in safe state they read from SAFE. -/
def Dev.enterSafe (d : Dev) : Dev :=
  let d := d.wr F.ERR_STATUS_SAFE 1
  let d := d.fragFatal
  let d := d.when (d.rd F.MGT_BOOT_STATUS_STATE == 1) (fun d => d.wr F.MGT_BOOT_STATUS_STATE 4)
  let d := d.when (d.pwr.toward != 0 && d.power < 2) Dev.abandonEntry
  let d := d.each (List.range 8) (fun d m =>
    if d.ustate (0x0A0 + m) = 0 then d else (d.wr (F.MCS_STATUS_BYPASS m) 1).wr (F.MCS_STATUS_LOCKED m) 0)
  d

/-- A record is raised and its class takes effect (R404). A FATAL one raised during a key store erase waits for the erase to end
before safe state is entered (R435). -/
def Dev.raise (d : Dev) (cls code subsys src : Nat) (info0 info1 : Word) : Dev :=
  let safe := d.safe
  let d := d.record cls code subsys src info0 info1
  match cls with
  | 1 => if code = 0x04 then d else d.faultUnit src
  | 2 => d.stopSubsystem subsys
  | 3 => if safe then d else if d.sec.erasing then { d with sec := { d.sec with safeDue := true } } else d.enterSafe
  | _ => d

/-- A record whose source is a unit, with that unit's subsystem. -/
def Dev.raiseUnit (d : Dev) (cls code u : Nat) (info0 info1 : Word) : Dev := d.raise cls code (subsysOf u) u info0 info1

end Sys2Proof.Machine
end

