-- ==== Sys2Proof/Machine/Run.lean ====
section
/-! DEFINITION. How every command's effect is carried out on the state. -/
namespace Sys2Proof.Machine

/-- The units whose class leaves changed below the level of units have their SUM brought up to date (R45). -/
def Dev.touchAll (d : Dev) : Dev := { d with nudge := [] }.each d.nudge Dev.touch

/-- What a command does is carried out: `f` on the device, the summaries of the units it left to be brought up to date, the
rising edges of the device summary, then the writes to the engine memories. The queue of commands and the fuses stay as they
are. -/
def carry (f : Env → Dev → Dev) (s : State) : Host.Outcome State Fault Refusal :=
  let d := (f { mem := s.mem, fuses := s.fuses } s.dev).touchAll.settle
  .next { s with mem := applyMem d.memw s.mem, dev := { d with memw := [] } }

/-- A command that acts in CORE: nothing happens while the device is in reset (R459) or CORE is off (R382). -/
def run (f : Env → Dev → Dev) (s : State) : Host.Outcome State Fault Refusal :=
  if s.dev.inReset || !s.dev.coreOn then .next s else carry f s

/-- A command that acts outside CORE: nothing happens while the device is in reset. -/
def runAon (f : Env → Dev → Dev) (s : State) : Host.Outcome State Fault Refusal :=
  if s.dev.inReset then .next s else carry f s

/-- As `run`, for an operation that reads the device alone. -/
def lift (f : Dev → Dev) (s : State) : Host.Outcome State Fault Refusal := run (fun _ => f) s
/-- As `runAon`, for an operation that reads the device alone. -/
def liftAon (f : Dev → Dev) (s : State) : Host.Outcome State Fault Refusal := runAon (fun _ => f) s
/-- As `carry`, for an operation that reads the device alone. -/
def liftAny (f : Dev → Dev) (s : State) : Host.Outcome State Fault Refusal := carry (fun _ => f) s

end Sys2Proof.Machine
end

