-- ==== Sys2Proof/Machine/SetChecks.lean ====
section
/-! DEFINITION. What the check examines of a candidate commit set (R56), class by class; and the reserved encodings of
fields that no check covers (R12). -/
namespace Sys2Proof.Machine

/-- The membership of a cabinet differs between two devices (R37): its members' list or their parents. -/
def membershipChanges (old new : Dev) (cab : Nat) (us : List Nat) : Bool :=
  us.any (fun u =>
    (old.parent u != new.parent u && (old.parent u == cab || new.parent u == cab)) ||
    (old.reg (A.UNIT_LINK u) != new.reg (A.UNIT_LINK u) && (old.parent u == cab || new.parent u == cab))) ||
  old.rd (F.CAB_MEMBERS_FIRST cab) != new.rd (F.CAB_MEMBERS_FIRST cab)

/-- A unit ID that a list or a cabinet may name: implemented and not the root (R37). -/
def isMemberId (u : Nat) : Bool := u != 0 && (classOf u).isSome

/-- The cabinets that a candidate concerns: named by a PARENT, old or new, of a written unit, or by a FIRST (R37). -/
def cabinetsOf (old new : Dev) (us : List Nat) : List Nat :=
  ((us.map old.parent ++ us.map new.parent ++ us.filter isCabinet).eraseDups).filter (· != 0)

/-- A list from `u` on is followed to its end; none if it reaches a unit twice (R37 condition 4). -/
def walkList (d : Dev) : Nat → List Nat → Nat → Option (List Nat)
  | 0, _, _ => none
  | n + 1, seen, u =>
    if u = 0xFFF then some []
    else if seen.contains u then none
    else (walkList d n (u :: seen) (d.rd (F.UNIT_LINK_NEXT u))).map (u :: ·)

/-- A cabinet contains itself at some depth (R37 condition 4): its parents lead back to it. -/
def loopsUp (d : Dev) (cab : Nat) : Nat → Nat → Bool
  | 0, _ => true
  | n + 1, u => if u = 0 then false else u == cab || loopsUp d cab n (d.parent u)

/-- The units whose PARENT names a cabinet other than the root: of the link words the register file lists. -/
def unitsBelow (d : Dev) (cab : Nat) : List Nat :=
  (d.regs.filter (fun e => 0x10040 ≤ e.1 && e.1 < 0x50000 && e.1 % 0x40 == 0xC && bits e.2 0 12 == cab)).map
    (fun e => (e.1 - 0x10000) / 0x40)

/-- The membership candidate, its conditions in order (R37). `us` are the units whose words were written. -/
def membershipCheck (old new : Dev) (us : List Nat) : Verdict :=
  let cabs := cabinetsOf old new us
  let lists := cabs.map (fun c => (c, walkList new 0x1000 [] (new.rd (F.CAB_MEMBERS_FIRST c))))
  firstOf [
    (cabs.any (fun c => membershipChanges old new c us && old.ustate c != 0 && old.ustate c != 1), Rsn.STATE, 0),
    (us.any (fun u =>
        (new.rd (F.UNIT_LINK_NEXT u) != 0xFFF && !isMemberId (new.rd (F.UNIT_LINK_NEXT u))) ||
        !isCabinet (new.parent u) ||
        (isCabinet u && u != 0 && new.rd (F.CAB_MEMBERS_FIRST u) != 0xFFF && !isMemberId (new.rd (F.CAB_MEMBERS_FIRST u)))),
      Rsn.RANGE, 0),
    (lists.any (fun l => (l.2.getD []).any (fun m => new.parent m != l.1)) ||
      lists.any (fun l => match l.2 with
        | some ms => (unitsBelow new l.1).any (fun u => !ms.contains u)
        | none => false), Rsn.INCOMPLETE, 0),
    ((lists.find? (fun l => l.2.isNone)).isSome, Rsn.DEPTH, ((lists.find? (fun l => l.2.isNone)).map (·.1)).getD 0),
    ((cabs.find? (fun c => loopsUp new c 800 (new.parent c))).isSome, Rsn.DEPTH,
      (cabs.find? (fun c => loopsUp new c 800 (new.parent c))).getD 0)]

/-- The checks of a link's commit sets (R180, R192, R197, R198). -/
def Dev.linkSetCheck (old new : Dev) (n set : Nat) : Verdict :=
  let st := old.ustate (0x010 + n)
  let speed := new.rd (F.LNK_CTRL_SPEED n)
  if set = 0 then firstOf [
    (st != 0 && st != 1, Rsn.STATE, 0),
    (5 < speed || (new.boardwalk n && speed == 1) || 100 < new.rd (F.LNK_CTRL_LINK_HOLD n) || new.lcClash [] n speed,
      Rsn.RANGE, 0)]
  else if set = 1 then
    let len := new.rd (F.LNK_GCL_CTRL_LEN n)
    let cyc := new.rd (F.LNK_GCL_CYCLE_CYCLE n)
    firstOf [(len == 0 || 256 < len || cyc < 1000 || 1000000000 < cyc ||
      (List.range len).any (fun i => new.rd (F.LNK_GCL_INTERVAL n i) == 0), Rsn.RANGE, 0)]
  else
    let on (k : Nat) : Bool := new.on (F.LNK_CBS_EN n k)
    let slope (k : Nat) : Nat := if on k then new.rd (F.LNK_CBS_SLOPE_IDLE_SLOPE n k) else 0
    firstOf [
      ((new.on (F.LNK_PREEMPT_EN n) && speed < 3) || [0, 1].any (fun k => on k && slope k == 0), Rsn.RANGE, 0),
      (on 0 && on 1 && new.rd (F.LNK_CBS_CLASS n 0) == new.rd (F.LNK_CBS_CLASS n 1), Rsn.INCOMPLETE, 0),
      (3 * rate10 speed * 100000 < 4 * (slope 0 + slope 1), Rsn.CAPACITY, 0x005)]

/-- The check of a ring set (R216, R217). -/
def Dev.ringSetCheck (old new : Dev) (k : Nat) : Verdict :=
  let st := old.ustate (0x030 + k)
  let w := new.rd (F.RING_LINKS_WEST k)
  let e := new.rd (F.RING_LINKS_EAST k)
  let g := new.rd (F.RING_GUARD_GUARD_NS k)
  let same (f : Fld) : Bool := old.rd f == new.rd f
  let named (n : Nat) : Bool := (List.range 12).any (fun j => j != k &&
    (new.rd (F.RING_LINKS_WEST j) == n || new.rd (F.RING_LINKS_EAST j) == n))
  firstOf [
    (st != 0 && st != 1 && !(same (F.RING_CTRL_CYCLE k) && same (F.RING_CTRL_RING_ID k) && same (F.RING_LINKS_WEST k) &&
      same (F.RING_LINKS_EAST k) && same (F.RING_NAME_LO_NAME k) && same (F.RING_NAME_HI_NAME k)), Rsn.STATE, 0),
    (new.rd (F.RING_CTRL_CYCLE k) == 3 || new.rd (F.RING_CTRL_RING_ID k) == 0 ||
      (new.rd (F.RING_NAME_LO_NAME k) == 0 && new.rd (F.RING_NAME_HI_NAME k) == 0) || g < 1000 || 10000 < g ||
      (24 ≤ w && w < 31) || (24 ≤ e && e < 31), Rsn.RANGE, 0),
    (w == e || w == 31 || e == 31 || named w || named e, Rsn.INCOMPLETE, 0)]

/-- The unit is neither OFF nor STANDBY, and one of the fields differs. -/
def Dev.heldFast (old new : Dev) (u : Nat) (fs : List Fld) : Bool :=
  old.ustate u != 0 && old.ustate u != 1 && fs.any (fun f => old.rd f != new.rd f)

/-- The check of a flow set (R259, R263–R275). -/
def Dev.flowSetCheck (old new : Dev) (f : Nat) : Verdict :=
  let u := 0x400 + f
  let on := old.ustate u != 0
  firstOf [
    (old.heldFast new u [F.FLOW_CFG_DIR f, F.FLOW_CFG_FMT f, F.FLOW_CFG_ENC f, F.FLOW_CFG_RATE f, F.FLOW_CFG_DOMAIN f,
      F.FLOW_CFG_LEG_B f, F.FLOW_CFG_CLASS f, F.FLOW_CFG_SPP f, F.FLOW_LATENCY_LATENCY f, F.FLOW_BUF_BUF_LOG2 f], Rsn.STATE, 0),
    (new.flowRange f, Rsn.RANGE, 0),
    (new.flowFormat f, Rsn.FORMAT, 0),
    ((on && new.indexClash [] f) || new.keyClash [] f, Rsn.INCOMPLETE, 0),
    (on && !new.flowTx f && old.poolFree + (old.flow f).blocks < new.flowBlocks f, Rsn.NO_BUFFER, 0),
    (on && new.slotsOver [] f, Rsn.CAPACITY, 0x001)]

/-- The check of a stream engine's set (R259, R260). -/
def Dev.streamSetCheck (old new : Dev) (s : Nat) : Verdict :=
  let rx := new.rd (F.STRM_CFG_RX_DECL s)
  let tx := new.rd (F.STRM_CFG_TX_DECL s)
  firstOf [
    (128 < rx || 128 < tx || rx < new.slotsUsed s false none || tx < new.slotsUsed s true none ||
      (old.ustate (0x200 + s) != 0 && new.declsOver [] s), Rsn.CAPACITY, 0x001)]

/-- The check of a synthesizer's set: 0 the domain set, 1 the divider set (R155, R311, R313, R344). -/
def Dev.mclkSetCheck (old new : Dev) (m : Nat) : Verdict :=
  let c := new.mclkCheck m
  let log := new.rd (F.MCS_DOMAIN_TICK_LOG2 m)
  let moved := old.rd (F.MCS_DOMAIN_TICK_LOG2 m) != log
  firstOf [
    (old.heldFast new (0x0A0 + m) [F.MCS_DOMAIN_RATE m, F.MCS_BAND_SEL_BAND m], Rsn.STATE, 0),
    (c.1 == Rsn.RANGE, c),
    (moved && (old.flowsNotOff.any (fun f => !new.flowTx f && new.flowDomain f == m && new.flowRange f) ||
      (List.range 16).any (fun g => old.ustate (0x040 + g) != 0 && new.rd (F.APG_CFG_DOMAIN g) == m && new.groupLatBad g log)),
      Rsn.RANGE, 0),
    (c.1 != 0, c),
    (moved && !(new.overBudget m log).isEmpty, Rsn.CAPACITY, 0x003)]

/-- The check of a signal engine's set (R151, R152): for an engine that is OFF only the fields' own ranges (DEDUCED, log 24). -/
def Dev.sengSetCheck (old new : Dev) (e : Nat) : Verdict :=
  firstOf [
    (old.heldFast new (0x0B0 + e) [F.ENG_CFG_DOMAIN e], Rsn.STATE, 0),
    (new.rd (F.ENG_CFG_OVR_LIMIT e) == 0, Rsn.RANGE, 0),
    (old.ustate (0x0B0 + e) != 0, new.sengCheck e)]

/-- The check of a group set (R331). -/
def Dev.groupSetCheck (old new : Dev) (g : Nat) : Verdict :=
  firstOf [
    (old.ustate (0x040 + g) != 0 && old.ustate (0x040 + g) != 1 &&
      (old.reg (A.APG_CFG g) != new.reg (A.APG_CFG g) || old.reg (A.APG_LAT g) != new.reg (A.APG_LAT g)), Rsn.STATE, 0),
    (true, new.groupCheck g)]

/-- The check of a port set (R338). -/
def Dev.portSetCheck (old new : Dev) (n : Nat) : Verdict :=
  let c := new.portCheck n
  firstOf [
    (old.heldFast new (0x050 + n) [F.AP_PIN0_DIR n, F.AP_PIN1_DIR n], Rsn.STATE, 0),
    (true, c)]

/-- The check of a host channel ring's set (R107, R108). -/
def Dev.hchSetCheck (old new : Dev) (r : Nat) : Verdict :=
  let en := new.on (F.HCH_CFG_EN r)
  let lo (q : Nat) := new.rd (F.HCH_CFG_FIRST_CH q)
  let n (q : Nat) := new.rd (F.HCH_CFG_CHANS q)
  let depth := new.rd (F.HCH_CFG_DEPTH_LOG2 r)
  firstOf [
    (old.on (F.HCH_CFG_EN r) && en, Rsn.STATE, 0),
    (1024 < lo r + n r || depth < 2 || 10 < depth || 64 < n r || (en && n r == 0), Rsn.RANGE, 0),
    (en && (new.hchRings (64 ≤ r)).any (fun q => q != r && lo r < lo q + n q && lo q < lo r + n r), Rsn.INCOMPLETE, 0)]

/-- The check of a candidate set: `new` is the device with the candidate in force, `old` the device as it is. -/
def Dev.setCheck (old new : Dev) (sid : SetId) (us : List Nat) : Verdict :=
  if sid.1 = 0 then membershipCheck old new us
  else match unitKind sid.1 with
  | .link n => old.linkSetCheck new n sid.2
  | .ring k => old.ringSetCheck new k
  | .flow f => old.flowSetCheck new f
  | .stream s => old.streamSetCheck new s
  | .mclk m => old.mclkSetCheck new m
  | .seng e => old.sengSetCheck new e
  | .group g => old.groupSetCheck new g
  | .port n => old.portSetCheck new n
  | .decim k => new.decimCheck k
  | .bridge b => firstOf [(new.rd (F.BRG_CFG_BW b) == 3, Rsn.RANGE, 0)]
  | .region r => firstOf [(old.ustate (0xC00 + r) != 0 && old.ustate (0xC00 + r) != 1, Rsn.STATE, 0), (true, new.regionCheck [] r)]
  | .meters => new.meterCheck
  | .hostch => old.hchSetCheck new sid.2
  | .gpio => new.gpioCheck
  | _ => (0, 0)

/-- A value of a field, outside commit sets, that is a reserved encoding: the field keeps its value and the write is
counted (R12). -/
def reservedValue (b : Block) (off lo v : Nat) : Bool :=
  match b with
  | .cfg => off == 0 && lo == 0 && v == 3
  | .time => off == 0x30 && lo == 1 && v == 3
  | .lnk _ => (off == 0x14 && (v < 64 || 9018 < v)) || (off == 0x44 && lo == 0 && v == 3)
  | _ => false

end Sys2Proof.Machine
end

