-- ==== Sys2Proof/Machine/Iface.lean ====
section
/-! DEFINITION. The register interface below the level of an access (R49–R60): bus errors, reachability, staging, posting,
commit sets, the boundary. -/
namespace Sys2Proof.Machine

/-- The kinds of bus error (R72). -/
abbrev Bus.UNIMPLEMENTED : Nat := 0
abbrev Bus.DOMAIN_OFF : Nat := 1
abbrev Bus.POST_BUSY : Nat := 2
abbrev Bus.SIZE : Nat := 3
abbrev Bus.PENDING : Nat := 4

/-- `GLB_BUSERR_INFO`.PATH of an access: 1 for the management SPI (R72); the register window reads tenant 0's primary path
(R126). -/
def Dev.busPath (d : Dev) (p : Path) : Nat := if d.pathIsSpi p then 1 else 0

/-- A bus error: latched if no error is latched, counted, recorded, answered on its path (R49, R50, R82). -/
def Dev.busError (d : Dev) (p : Path) (addr kind : Nat) (write : Bool) : Dev :=
  let d := if d.on F.GLB_BUSERR_INFO_VALID then d
    else
      (d.setReg A.GLB_BUSERR_ADDR (BitVec.ofNat 32 (addr % 2 ^ 27))).setReg A.GLB_BUSERR_INFO
        (BitVec.ofNat 32 (kind + d.busPath p * 2 ^ 4 + (if write then 2 ^ 5 else 0) + 2 ^ 31))
  let d := d.sat F.GLB_BUSERR_COUNT_COUNT 1
  let d := d.raise 0 0x01 0xB 0 (BitVec.ofNat 32 addr) (BitVec.ofNat 32 (if kind = Bus.DOMAIN_OFF then Rsn.DOMAIN_OFF else kind))
  match p with
  | .spi => { d with host := { d.host with spiErr := true } }
  | _ => d

/-- The domain that must be on for an access to succeed is on (R47). -/
def Dev.reachable (d : Dev) (a : Nat) : Bool :=
  if a < 0x4000 then true
  else if a < 0x5000 then d.island 4
  else if a < 0x10000 then true
  else if a < 0x100000 then d.coreOn
  else if a < 0x160000 then d.domainOn (4 + (a - 0x100000) / 0x4000 / 4)
  else if a < 0x1B0000 then d.coreOn
  else if a < 0x1B8000 then d.domainOn (10 + (a - 0x1B0000) / 0x1000)
  else if a < 0x400000 then d.coreOn
  else if a < 0x600000 then true
  else if a < 0xC00000 then d.coreOn
  else if a < 0x1000000 then d.domainOn ((a - 0xC00000) / 0x100000)
  else if a < 0x2000000 then d.domainOn ((a - 0x1000000) / 0x40000 / 16)
  else true

/-- A write of non-zero bits to reserved fields, or of a reserved encoding, counts (R12, R50). -/
def Dev.countReserved (d : Dev) (a : Nat) : Dev :=
  match unitOfAddr a with
  | some u => d.sat (F.UNIT_RSV_WRITES_RSV_WRITES u) 1
  | none => d.sat F.GLB_RSV_WRITES_COUNT 1

/-- The slow domain of a block's WP fields (R59). -/
def slowDomain (b : Block) (off : Nat) : Option SlowDomain :=
  match b with
  | .pwr => some .pwr
  | .clk => some .clk
  | .mgt => if 0x200 ≤ off then some .pmb else none
  | .lnk n => if h : n / 4 < 6 then some (.serdes ⟨n / 4, h⟩) else none
  | .mcs m => if h : m < 8 then some (.mcs ⟨m, h⟩) else none
  | _ => none

/-- The bit of `GLB_POST_BUSY` of a slow domain (R72). -/
def postBit : SlowDomain → Nat
  | .pwr => 0 | .clk => 1 | .pmb => 2 | .serdes q => 8 + q.val | .mcs m => 16 + m.val

/-- The BUSY bits in the blocks of a slow domain: register address and bit (R59, R174, R312, R383, R395, R488). -/
def busyBits : SlowDomain → List (Nat × Nat)
  | .pwr => [(A.PWR_CMD, 31)]
  | .clk => [(A.CLK_OPP, 31)]
  | .pmb => [(A.PMB_XFER, 31)]
  | .serdes q => (List.range 4).map (fun i => (A.LNK_SERDES (4 * q.val + i), 31))
  | .mcs m => [(A.MCS_CAL m.val, 30)]

/-- A slow domain holds a posted write (R60). -/
def Dev.postBusy (d : Dev) (s : SlowDomain) : Bool := (d.reg A.GLB_POST_BUSY).getLsbD (postBit s)

/-- BUSY of a slow domain reads `v` (R59). -/
def Dev.setPostBusy (d : Dev) (s : SlowDomain) (v : Bool) : Dev :=
  let n := if v then 1 else 0
  (d.setReg A.GLB_POST_BUSY (putBits (d.reg A.GLB_POST_BUSY) (postBit s) 1 n)).each (busyBits s)
    (fun d e => d.setReg e.1 (putBits (d.reg e.1) e.2 1 n))

/-- A posted write waits for its slow domain (R59). -/
def Dev.post (d : Dev) (s : SlowDomain) (w : Staged) : Dev :=
  { d.setPostBusy s true with posted := d.posted ++ [w] }

/-- The slow domain of a posted write's address. -/
def Staged.slow (w : Staged) : Option SlowDomain :=
  match blockAt w.addr with
  | some (b, off) => slowDomain b off
  | none => none

/-- The slow domain has taken its posted writes (R59). -/
def Dev.postComplete (d : Dev) (s : SlowDomain) : Dev :=
  let mine := d.posted.filter (fun w => w.slow == some s)
  let d := { d with posted := d.posted.filter (fun w => w.slow != some s) }
  let d := (d.each mine Dev.applyOne).setPostBusy s false
  if mine.isEmpty then d else match s with
  | .serdes _ => d.dirty
  | .mcs _ => d.dirty
  | _ => d

/-! ### Conflicts of staged values (R112, R113) -/

/-- What stands from the other path at a word, in a field, with another value. -/
def Dev.contrary (d : Dev) (spi : Bool) (a : Nat) (field m v : Word) : Option (Path × Word × Word) :=
  d.stands.findSome? (fun s => match s with
    | .ws p b m' v' =>
      if b == a && d.pathIsSpi p != spi && (m' &&& field) != 0 && ((v' &&& m' &&& field) != (v &&& m &&& field))
      then some (p, m', v') else none
    | .ord .. => none)

/-- A staged value or a held value of a path is taken back, in some bits of a word. -/
def dropBits (spiOf : Path → Bool) (spi : Bool) (a : Nat) (field : Word) (ss : List Staged) : List Staged :=
  ss.map (fun s => if s.addr == a && spiOf s.path == spi then { s with mask := s.mask &&& ~~~ field } else s)

/-- A write of one WS field is taken: into force at once, staged for the boundary, or held for the commit (R52, R55). -/
def Dev.takeWs (d : Dev) (p : Path) (a : Nat) (sid : Option SetId) (m v : Word) : Dev :=
  let w : Staged := { addr := a, mask := m, val := v, path := p }
  match sid with
  | some _ => { d with held := d.held ++ [w] }
  | none =>
    match unitOfAddr a with
    | some u =>
      if d.ustate u = 0 || boundaryAtOnce u then ((d.applyOne w).onApply u none [a]).dirty
      else { d with staged := d.staged ++ [w] }
    | none => (d.applyOne w).dirty

/-- A write of one WS field: arbitrated against the other path for tenant 0 (R112, R113), then taken. `t0` tells that the
writer is tenant 0. -/
def Dev.writeWs (d : Dev) (t0 : Bool) (p : Path) (a : Nat) (sid : Option SetId) (field m v : Word) : Dev :=
  if !t0 then d.takeWs p a sid m v
  else
    let spi := d.pathIsSpi p
    let stands (d : Dev) : Dev :=
      match unitOfAddr a with
      | some u =>
        if sid.isNone && (d.ustate u = 0 || boundaryAtOnce u) then d
        else { d with stands := .ws p a m (v &&& m) :: d.stands.filter (fun s => match s with
            | .ws q b m' _ => !(b == a && d.pathIsSpi q == spi && (m' &&& field) != 0)
            | .ord .. => true) }
      | none => d
    match d.contrary spi a field m v with
    | none => stands (d.takeWs p a sid m v)
    | some (q, _, _) =>
      if spi == d.on F.GLB_ARB_PRIO_SPI_FIRST then
        let d := { d with
          staged := dropBits d.pathIsSpi (!spi) a field d.staged, held := dropBits d.pathIsSpi (!spi) a field d.held,
          stands := d.stands.filter (fun s => match s with
            | .ws r b m' _ => !(b == a && d.pathIsSpi r != spi && (m' &&& field) != 0)
            | .ord .. => true) }
        stands ((d.conflict (d.pathIsSpi q) false a).takeWs p a sid m v)
      else d.conflict spi false a

/-! ### Commit sets (R54–R58) -/

/-- The commit set of a written word. -/
def Staged.setId (w : Staged) : Option SetId :=
  match blockAt w.addr with
  | none => none
  | some (b, off) =>
    match findRow b.rows off with
    | none => none
    | some (r, _) =>
      match r.fields.find? (fun f => f.acc == .ws && f.inSet.isSome && (fieldMask f.lo f.width &&& w.mask) != 0) with
      | some f => setOf b off f.inSet
      | none => none

/-- Sets that hold written fields, each once, in the order of their first write. -/
def Dev.heldSets (d : Dev) : List SetId := (d.held.filterMap (fun w => if w.mask = 0 then none else w.setId)).eraseDups

/-- A tick size that some bound engine's DECL does not fit is refused in that engine's descriptor too (R155). -/
def Dev.onRefused (d cand : Dev) (sid : SetId) (v : Verdict) : Dev :=
  match unitKind sid.1 with
  | .mclk m =>
    if sid.2 = 0 && v = (Rsn.CAPACITY, 0x003) then
      d.each (cand.overBudget m (cand.rd (F.MCS_DOMAIN_TICK_LOG2 m))) (fun d e => d.refuse (0x0B0 + e) Rsn.CAPACITY 0x003)
    else d
  | _ => d

/-- The written values a set's candidate is built with: the set's own and, for a synthesizer, whose checks join fields of
both its sets, those of its other set that the same GO commits (R56, R313; DEDUCED from the worked setup of domain 0, whose
one GO carries the source and the band, log 107). -/
def jointly (sid : SetId) (w : Staged) : Bool :=
  w.setId == some sid || (match unitKind sid.1, w.setId with
    | .mclk _, some s => s.1 == sid.1
    | _, _ => false)

/-- A set is committed: its candidate is checked as a whole, and applies at once, waits for the boundary, or is discarded
with its refusal recorded (R56). `go` is what was held when the GO came. -/
def Dev.commitSet (d : Dev) (go : List Staged) (tenant : Nat) (sid : SetId) : Dev × Verdict :=
  let mine := d.held.filter (fun w => w.setId == some sid)
  let cand := d.each (go.filter (jointly sid)) Dev.applyOne
  let us := (mine.filterMap (fun w => if w.addr < 0x50000 then some ((w.addr - 0x10000) / 0x40) else none)).eraseDups
  let d := { d with held := d.held.filter (fun w => w.setId != some sid) }
  let v := firstOf [
    (tenant != 0 && tenant != d.rd (F.UNIT_OWNER_OWNER sid.1), Rsn.NOT_OWNER, 0),
    (d.cfgRefuses tenant 0, Rsn.CFG_CRC, 0), (d.safe, Rsn.STATE, 0)]
  let v := if v.1 ≠ 0 then v else d.setCheck cand sid us
  if v.1 ≠ 0 then ((d.onRefused cand sid v).refuse sid.1 v.1 v.2, v)
  else
    let d := (d.accept sid.1).onAccept cand sid
    let d := { d with accepted := d.accepted ++ [(sid, mine)] }
    if sid.1 = 0 then (((d.applySet sid).closeInterval 0).refreshCabinets, (0, 0))
    else if (d.ustate sid.1 = 0 || boundaryAtOnce sid.1) && !waitsForInstant sid then ((d.applySet sid).closeInterval sid.1, (0, 0))
    else (d, (0, 0))

/-- The unit of a commit register's block. -/
def commitUnit (reg : Nat) : Nat := (unitOfAddr reg).getD 0

/-- A set is committed by a commit register (R54, R260, R330). -/
def setOfReg (reg : Nat) (sid : SetId) : Bool := (commitRegsOf sid.1).contains reg

/-- A block's GO (R54, R56, R57). -/
def Dev.commitGo (d : Dev) (tenant : Nat) (reg : Nat) : Dev × Verdict :=
  let reason (d : Dev) (r : Nat) : Dev := d.setReg reg (putBits (d.reg reg) 8 8 r)
  if d.accepted.any (fun s => setOfReg reg s.1) then
    ((reason d Rsn.BUSY).refuse (commitUnit reg) Rsn.BUSY 0, (Rsn.BUSY, 0))
  else
    let sids := d.heldSets.filter (setOfReg reg)
    let r := sids.foldl (fun (a : Dev × Verdict) sid =>
      let x := a.1.commitSet d.held tenant sid
      (x.1, if a.2.1 = 0 then x.2 else a.2)) (d, (0, 0))
    let d := reason r.1 r.2.1
    (d.setReg reg (putBits (d.reg reg) 1 1 (if d.accepted.any (fun s => setOfReg reg s.1) then 1 else 0)), r.2)

/-- The address by which GLB_COMMIT orders sets: the register block's, the unit table's for the membership set (R58). -/
def setAddr (sid : SetId) : Nat := if sid.1 = 0 then 0x10000 else (unitBlock sid.1).1

/-- Insertion by address, equal ones in order. -/
def insertSet (s : SetId) : List SetId → List SetId
  | [] => [s]
  | t :: ts => if setAddr s < setAddr t || (setAddr s == setAddr t && s.2 < t.2) then s :: t :: ts else t :: insertSet s ts

/-- Every block that holds written fields is committed as by its own GO; the first refusal by address is reported (R58). -/
def Dev.commitAll (d : Dev) : Dev :=
  let sids := d.heldSets.foldl (fun l s => insertSet s l) []
  let start := d.accepted
  let held := d.held
  let r := sids.foldl (fun (a : Dev × Option (Nat × Nat)) sid =>
    let regs := (commitRegsOf sid.1).take 1
    let busy := start.any (fun s => regs.any (fun r => setOfReg r s.1))
    let x := if busy then (a.1.refuse (commitUnit (regs.headD 0)) Rsn.BUSY 0, (Rsn.BUSY, 0)) else a.1.commitSet held 0 sid
    let d := x.1.each regs (fun d reg =>
      let d := d.setReg reg (putBits (d.reg reg) 8 8 x.2.1)
      d.setReg reg (putBits (d.reg reg) 1 1 (if d.accepted.any (fun s => setOfReg reg s.1) then 1 else 0)))
    (d, match a.2 with
      | some e => some e
      | none => if x.2.1 = 0 then none else some (x.2.1, sid.1))) (d, none)
  (r.1.wr F.GLB_COMMIT_STATUS_REASON ((r.2.map (·.1)).getD 0)).wr F.GLB_COMMIT_STATUS_UNIT ((r.2.map (·.2)).getD 0xFFF)

/-! ### The statistics snapshot (R64, R65) -/

/-- The fields of meter and loudness cells that restart at the instant of a snapshot (R374, R375), while the meter bank is
IN_SERVICE (R377). -/
def Dev.restartCells (d : Dev) : Dev :=
  if d.ustate 0x0F8 ≠ 3 then d
  else d.each d.cells (fun d e =>
    if e.1 < 0x10000 then
      let a := Ctr.CELL e.1
      (d.setStat a (d.stat64 a / 2 ^ 32 * 2 ^ 32)).setStat (a + 8) (d.stat64 (a + 8) / 2 ^ 32 * 2 ^ 32)
    else
      let a := Ctr.LOUD (e.1 - 0x10000)
      (d.setStat (a + 8) (d.stat64 (a + 8) % 2 ^ 32 + 0x8000 * 2 ^ 32)).setStat (a + 16) (d.stat64 (a + 16) % 2 ^ 63))

/-- A snapshot begins: every counter is sampled into the hidden copy (R64). -/
def Dev.snapStart (d : Dev) : Dev :=
  { d.wr F.GLB_SNAP_BUSY 1 with snap := { taking := some (d.stat, BitVec.ofNat 64 d.t64) } }.restartCells

/-- A snapshot is requested: begun, kept pending, or coalesced (R64, R65). -/
def Dev.snapRequest (d : Dev) : Dev :=
  if !d.on F.GLB_SNAP_BUSY then d.snapStart
  else if !d.on F.GLB_SNAP_PENDING then d.wr F.GLB_SNAP_PENDING 1
  else d.sat F.GLB_SNAP_COALESCED 1

/-- The sequence number the shelf will have when a request made now has been served (R142). -/
def Dev.snapServed (d : Dev) : Word :=
  d.reg A.GLB_SNAP_SEQ + (if d.on F.GLB_SNAP_BUSY then 2 else 1)

/-- The hidden copy is swapped in, its instant and number written; a pending request starts (R64, R65). -/
def Dev.snapComplete (d : Dev) : Dev :=
  match d.snap.taking with
  | none => d
  | some (copy, t) =>
    let d := { d with shelf := copy, snap := { taking := none } }
    let d := (d.setReg A.GLB_SNAP_TIME_LO (loWord t.toNat)).setReg A.GLB_SNAP_TIME_HI (hiWord t.toNat)
    let d := ((d.setReg A.GLB_SNAP_SEQ (d.reg A.GLB_SNAP_SEQ + 1)).wr F.GLB_SNAP_BUSY 0).signal 0 520
    if d.on F.GLB_SNAP_PENDING then (d.wr F.GLB_SNAP_PENDING 0).snapStart else d

end Sys2Proof.Machine
end

