-- ==== Sys2Proof/Machine/Links.lean ====
section
/-! DEFINITION. Network links (R175–R206, R303–R307): the states of a link, reception up to the causeway into CORE, the
transmit queues, gates and shapers, pause, preemption, MACsec, PTP corrections. -/
namespace Sys2Proof.Machine

/-- A leaf whose events are limited to one per 10 ms: set, unless it was set less than 10 ms ago (R200, R213, R255). -/
def Dev.leafLimited (d : Dev) (u a b : Nat) : Dev :=
  let k := a * 32 + b
  let last := SMap.get (fun _ => 0) d.evLimit k
  if last ≠ 0 && d.clk + 1 < last + 10000000 then d
  else { d with evLimit := SMap.put (fun _ => 0) k (d.clk + 1) d.evLimit }.leaf u a b

/-- A leaf of `SWC_PEVT` of a port (R255): it belongs to the port's unit. -/
def Dev.portEvt (d : Dev) (p b : Nat) : Dev :=
  d.leafLimited (if p < 24 then 0x010 + p else 0x030 + (p - 24)) (A.SWC_PEVT p) b

/-- A counter of a link. -/
def Dev.linkCount (d : Dev) (n off k : Nat) : Dev := d.count (Ctr.LNK n off) k

/-! ### States (R177, R181, R182) -/

/-- PCS_LOCK: a link that is not OFF gains PCS lock, and auto-negotiation completes where it applies (R181). -/
def execPcsLock (n : Fin 24) (an : Bool) (partner : BitVec 16) (s : State) : Host.Outcome State Fault Refusal :=
  lift (fun d =>
    let st := d.ustate (0x010 + n.val)
    if st = 1 || st = 2 || st = 3 then
      let d := (d.wr (F.LNK_STATUS_PCS_LOCK n.val) 1).wr (F.LNK_STATUS_REMOTE_FAULT n.val) 0
      if d.anApplies n.val && an then
        (d.wr (F.LNK_STATUS_AN_DONE n.val) 1).wr (F.LNK_STATUS_PARTNER n.val) partner.toNat
      else d
    else d) s

/-- What LINK_DOWN does to a link: loss of PCS lock (0), a restart of auto-negotiation (1), or REMOTE_FAULT (2). On an IN_SERVICE link, and on a
draining one, LINK_UP clears, DOWN is set, LINK_DOWN counts, and what waits is discarded; the link returns to SYNCING, or
its drain completes (R182, R183). -/
def Dev.linkDown (d : Dev) (n cause : Nat) : Dev :=
  let u := 0x010 + n
  let st := d.ustate u
  let d := match cause with
    | 0 => (d.wr (F.LNK_STATUS_PCS_LOCK n) 0).wr (F.LNK_STATUS_AN_DONE n) 0
    | 1 => d.wr (F.LNK_STATUS_AN_DONE n) 0
    | _ => d.wr (F.LNK_STATUS_REMOTE_FAULT n) 1
  if st = 3 || st = 4 then
    let d := ((d.discardTx n).wr (F.LNK_STATUS_LINK_UP n) 0).linkCount n Lc.LINK_DOWN 1
    let d := d.leaf u (A.LNK_EVT n) 1
    if st = 3 then d.inputLost u else d.drained u
  else d

/-- LC_PLL_TIMEOUT: the LC PLL has not locked within 500 µs of the first ENABLE of a link at an LC rate (R177). The code of
the PLL in INFO0 the spec does not give: a free value (log 15). -/
def execLcPllTimeout (n : Fin 24) (s : State) : Host.Outcome State Fault Refusal :=
  lift (fun d =>
    let u := 0x010 + n.val
    if d.ustate u = 0 && (d.unit u).order = Ord.ENABLE && 3 ≤ d.rd (F.LNK_CTRL_SPEED n.val) then
      let d := d.draw.raiseUnit 1 0x08 u (Config.freeWord d.free) 500
      ((d.answerWaits u Rsn.STATE 0).endOrder u).setState u 5
    else d) s

/-- STC_REALIGN: the TIME island realigns the link's shadow copies of the STC (R201). -/
def execStcRealign (n : Fin 24) (s : State) : Host.Outcome State Fault Refusal :=
  lift (fun d => d.setLink n.val { d.link n.val with shadow := d.stcFine }) s

/-! ### Pause (R199, R200) -/

/-- PAUSED and HELD_OFF read what the link holds. -/
def Dev.showPause (d : Dev) (n : Nat) : Dev :=
  let l := d.link n
  (d.wr (F.LNK_PAUSE_STAT_PAUSED n) (Nat.lor l.pauseMask l.pfcMask)).wr (F.LNK_PAUSE_STAT_HELD_OFF n)
    (Nat.lor l.pauseHeld l.pfcHeld)

/-- What a link holds of pauses changes, with the shapers' credits brought up to date first. -/
def Dev.setPause (d : Dev) (n : Nat) (f : LinkRt → LinkRt) : Dev :=
  let d := d.settleCredit n
  (d.setLink n (f (d.link n))).showPause n

/-- A received MAC control frame (R199). -/
def Dev.macControl (d : Dev) (n : Nat) (o : List Byte) : Dev :=
  let l := d.link n
  let audio := d.rd (F.LNK_CLASS_AUDIO n)
  let bit (m c : Nat) : Bool := m / 2 ^ c % 2 == 1
  match beAt o 14 2 with
  | 0x0001 =>
    if !d.on (F.LNK_PAUSE_RX_PAUSE n) || d.boardwalk n || l.pauseHeld ≠ 0 || audio = 255 then
      d.linkCount n Lc.RX_PAUSE_IGNORED 1
    else
      (d.setPause n (fun l => { l with pauseMask := if beAt o 16 2 = 0 then 0 else 255 - audio })).linkCount n Lc.RX_PAUSE 1
  | 0x0101 =>
    let named := (List.range 8).filter (fun c => bit (beAt o 16 2) c && bit (d.rd (F.LNK_PAUSE_RX_PFC n)) c &&
      (!bit audio c || d.on (F.LNK_PAUSE_PFC_AUDIO n)) && !bit l.pfcHeld c)
    if named.isEmpty || d.boardwalk n then d.linkCount n Lc.RX_PAUSE_IGNORED 1
    else
      let clear := named.foldl (fun m c => if bit m c then m - 2 ^ c else m) l.pfcMask
      let set := (named.filter (fun c => beAt o (18 + 2 * c) 2 != 0)).foldl (fun m c => m + 2 ^ c) clear
      (d.setPause n (fun l => { l with pfcMask := set })).linkCount n Lc.RX_PFC 1
  | _ => d.linkCount n Lc.RX_MACCTL_OTHER 1

/-- PAUSE_EXPIRE: the quanta of a PAUSE (none), or of a PFC class, have run out (R199). -/
def execPauseExpire (n : Fin 24) (c : Option (Fin 8)) (s : State) : Host.Outcome State Fault Refusal :=
  lift (fun d => d.setPause n.val (fun l => match c with
    | none => { l with pauseMask := 0 }
    | some c => { l with pfcMask := Nat.land l.pfcMask (255 - 2 ^ c.val) })) s

/-- PAUSE_WD: a class has been stopped without a break for longer than LIMIT (R200). -/
def execPauseWd (n : Fin 24) (c : Fin 8) (s : State) : Host.Outcome State Fault Refusal :=
  lift (fun d =>
    let l := d.link n.val
    let byPause := l.pauseMask / 2 ^ c.val % 2 = 1
    let byPfc := l.pfcMask / 2 ^ c.val % 2 = 1
    if byPause || byPfc then
      let d := d.setPause n.val (fun l =>
        let l := if byPause then { l with pauseMask := 0, pauseHeld := l.pauseMask } else l
        if byPfc then { l with pfcMask := l.pfcMask - 2 ^ c.val, pfcHeld := Nat.lor l.pfcHeld (2 ^ c.val) } else l)
      (d.linkCount n.val Lc.PAUSE_WD_TRIPS 1).leafLimited (0x010 + n.val) (A.LNK_EVT n.val) 2
    else d) s

/-- HOLDOFF_EXPIRE: the hold-off of PAUSE frames (none), or of a PFC class, ends (R200). -/
def execHoldoffExpire (n : Fin 24) (c : Option (Fin 8)) (s : State) : Host.Outcome State Fault Refusal :=
  lift (fun d => d.setPause n.val (fun l => match c with
    | none => { l with pauseHeld := 0 }
    | some c => { l with pfcHeld := Nat.land l.pfcHeld (255 - 2 ^ c.val) })) s

/-! ### MACsec (R204–R206, R427) -/

/-- A secure association of a link may be used: enabled, its channel in use, its slot holding a key of the link's cipher
(R427), and no key store erase under way (R435). -/
def Dev.saUsable (d : Dev) (n a : Nat) : Bool :=
  let slot := d.rd (F.LNK_SA_CFG_KEYSLOT n a)
  !d.sec.erasing && d.on (F.LNK_SA_CFG_EN n a) && d.on (F.LNK_SC_CFG_EN n (a / 4)) && 2 ≤ slot &&
    (SMap.get (fun _ => {}) d.keys slot).kind == (if d.on (F.LNK_MACSEC_CIPHER n) then 2 else 1)

/-- The key of an association. -/
def Dev.saKey (d : Dev) (n a : Nat) : List Word := (SMap.get (fun _ => {}) d.keys (d.rd (F.LNK_SA_CFG_KEYSLOT n a))).words

/-- The SCI of a channel. -/
def Dev.sciOf (d : Dev) (n c : Nat) : Nat := (d.reg (A.LNK_SC_SCI_HI n c)).toNat * 2 ^ 32 + (d.reg (A.LNK_SC_SCI_LO n c)).toNat

/-- A transmitted frame is protected (R205, R206): none where no association can protect it, which is counted (log 16). -/
def Dev.macsecTx (d : Dev) (n : Nat) (o : List Byte) : Dev × Option (List Byte) :=
  if !d.on (F.LNK_MACSEC_TX_EN n) then (d, some o)
  else
    let a := d.rd (F.LNK_MACSEC_TX_AN n)
    let pn := (d.reg (A.LNK_SA_PN n a)).toNat
    if !d.saUsable n a || pn = 0xFFFFFFFF then (d.linkCount n Lc.TX_MACSEC_PN_DROP 1, none)
    else
      let off := d.rd (F.LNK_MACSEC_OFFSET n)
      let body := o.drop 12
      let tci := 0x20 + (if off = 3 then 0 else 0x0C) + a
      let head := o.take 12 ++ beBytes 0x88E5 2 ++ beBytes tci 1 ++ beBytes (if body.length < 48 then body.length else 0) 1 ++
        beBytes pn 4 ++ beBytes (d.sciOf n 0) 8
      let sealed := Config.gcmSeal (d.on (F.LNK_MACSEC_CIPHER n)) off (d.saKey n a) (d.sciOf n 0) pn head body
      let d := d.setReg (A.LNK_SA_PN n a) (BitVec.ofNat 32 (pn + 1))
      let d := d.when (pn + 1 = 0xC0000000 || pn + 1 = 0xFFFFFFFF) (fun d => d.leafLimited (0x010 + n) (A.LNK_EVT n) 6)
      (d, some (head ++ sealed))

/-- A received frame is verified (step 7 of R184, R205, R206): the frame without its SecTAG and ICV, or none where it is
dropped. A frame without a SecTAG is dropped where an enabled receive channel is Strict (DEDUCED, log 16). -/
def Dev.macsecRx (d : Dev) (n : Nat) (o : List Byte) : Dev × Option (List Byte) :=
  let chans := (List.range 15).map (· + 1) |>.filter (fun c => d.on (F.LNK_SC_CFG_EN n c))
  let drop (d : Dev) : Dev × Option (List Byte) := (d.linkCount n Lc.RX_MACSEC_DROP 1, none)
  if !d.on (F.LNK_MACSEC_RX_EN n) then (d, some o)
  else if beAt o 12 2 ≠ 0x88E5 then
    (d.linkCount n Lc.RX_MACSEC_UNTAGGED 1,
      if chans.any (fun c => d.rd (F.LNK_SC_CFG_VALIDATE n c) == 2) then none else some o)
  else
    match chans.find? (fun c => beAt o 14 1 / 32 % 2 == 1 && d.sciOf n c == beAt o 20 8) with
    | none => drop d
    | some c =>
      let v := d.rd (F.LNK_SC_CFG_VALIDATE n c)
      let a := 4 * c + beAt o 14 1 % 4
      let pn := beAt o 16 4
      let low := (d.reg (A.LNK_SA_PN n a)).toNat
      let bare := o.take 12 ++ (o.drop 28).take (o.length - 44)
      if v = 0 then (d, some bare)
      else if pn < low then drop d
      else
        let clear := if d.saUsable n a then
            Config.gcmOpen (d.on (F.LNK_MACSEC_CIPHER n)) (d.rd (F.LNK_MACSEC_OFFSET n)) (d.saKey n a) (d.sciOf n c) pn
              (o.take 28) (o.drop 28)
          else none
        match clear with
        | some b =>
          (d.setReg (A.LNK_SA_PN n a) (BitVec.ofNat 32 (max low (pn + 1 - (d.reg (A.LNK_SC_REPLAY n c)).toNat))),
            some (o.take 12 ++ b))
        | none => if v = 2 then drop d else (d, some bare)

/-! ### Reception (R184) -/

/-- The outer TPID of a link (R190). -/
def Dev.tpid (d : Dev) (n : Nat) : Nat := if d.on (F.LNK_VLAN_TPID_OUTER n) then 0x88A8 else 0x8100

/-- The address filter (R188). -/
def Dev.passesFilter (d : Dev) (n : Nat) (o : List Byte) : Bool :=
  let a := daOf o
  let h := hashOf a
  d.on (F.LNK_FILTER_BYPASS n) ||
  (List.range 4).any (fun k => d.on (F.LNK_UCAST_HI_EN n k) &&
    a == d.rd (F.LNK_UCAST_HI_ADDR_HI n k) * 2 ^ 32 + (d.reg (A.LNK_UCAST_LO n k)).toNat) ||
  (a == broadcast && d.on (F.LNK_FILTER_BCAST n)) ||
  (a != broadcast && isGroup a && d.on (F.LNK_FILTER_MHASH n) && (d.reg (A.LNK_HASH n (h / 32))).getLsbD (h % 32))

/-- The traffic class of a received frame (R191). -/
def Dev.classOfFrame (d : Dev) (n tags : Nat) (o : List Byte) : Nat :=
  let byPcp := if tags = 0 then d.rd (F.LNK_CLASS_DEFAULT_CLASS n) else bits (d.reg (A.LNK_PCP_MAP n)) (4 * outerPcp o) 3
  match d.rd (F.LNK_CLASS_CLASS_SRC n) with
  | 0 => byPcp
  | 1 => if isV4 tags o || isV6 tags o then
      bits (d.reg (A.LNK_DSCP_MAP n (dscpOf tags o / 8))) (4 * (dscpOf tags o % 8)) 3 else byPcp
  | _ => d.rd (F.LNK_CLASS_DEFAULT_CLASS n)

/-- A VID is a member of a link's VLAN map (R190). -/
def Dev.vlanMember (d : Dev) (n vid : Nat) : Bool := (d.reg (A.LNK_VLANMAP n (vid / 32))).getLsbD (vid % 32)

/-- The octets a lane holds (R254). -/
def laneFill (fs : List Frame) : Nat := fs.foldl (fun a f => a + f.octets.length) 0

/-- A frame enters a lane of its port's causeway, or is dropped at the island (R254). -/
def Dev.toLane (d : Dev) (n : Nat) (f : Frame) : Dev :=
  let l := d.link n
  let audio := d.rd (F.LNK_CLASS_AUDIO n) / 2 ^ f.cls % 2 = 1
  if (if audio then 32768 else 98304) < laneFill (if audio then l.audio else l.other) + f.octets.length then
    (d.count (Ctr.PORT n Pc.IN_OVERRUN) 1).portEvt n 2
  else
    let d := (d.linkCount n Lc.RX_FRAMES 1).linkCount n Lc.RX_OCTETS (f.octets.length + 4)
    d.setLink n (if audio then { l with audio := l.audio ++ [f] } else { l with other := l.other ++ [f] })

/-- Counters of a link's PTP messages (R327). -/
abbrev Ctr.PTP (n off : Nat) : Nat := 0x8E1000 + n * 0x40 + off

/-- A PTP event message crosses into CORE: counted, and ASYM added to a Sync or Pdelay_Resp (R303, R304). -/
def Dev.ptpRx (d : Dev) (n tags : Nat) (o : List Byte) : Dev × List Byte :=
  if d.boardwalk n then (d, o)
  else match ptpEvent (d.on (F.LNK_PTP_CTRL_L2 n)) (d.on (F.LNK_PTP_CTRL_UDP4 n)) (d.on (F.LNK_PTP_CTRL_UDP6 n)) tags o with
    | none => (d, o)
    | some (i, ty) =>
      (d.count (Ctr.PTP n 0) 1,
        if d.on (F.LNK_PTP_CTRL_ASYM_EN n) && (ty = 0 || ty = 3) then
          addCorrection tags i (toSigned 32 (d.reg (A.LNK_PTP_ASYM n)).toNat) o
        else o)

/-- Steps 1 to 5 of R184: the frame with its receive timestamp, where it goes on. -/
def Dev.rxEarly (d : Dev) (n : Nat) (o : List Byte) (fcsOk : Bool) (sym corr uncorr : Nat) : Dev × Option Nat :=
  let u := 0x010 + n
  let st := d.ustate u
  if st = 0 || st = 5 || !d.domainOn (4 + n / 4) then (d, none)
  else
    let d := ((d.linkCount n Lc.RX_SYMBOL sym).linkCount n Lc.FEC_CORR corr).linkCount n Lc.FEC_UNCORR uncorr
    let d := d.when (uncorr != 0) (fun d => d.leafLimited u (A.LNK_EVT n) 5)
    let ts := d.stamp n (d.reg (A.LNK_TS_RX_DELAY n)).toNat
    let d := d.draw
    let tags := tagsOf (d.tpid n) o
    if st = 1 || st = 2 || d.power ≠ 0 then (d.linkCount n Lc.RX_NOT_IN_SERVICE 1, none)
    else if o.length + 4 < 64 then (d.linkCount n Lc.RX_RUNT 1, none)
    else if d.rd (F.LNK_MAXLEN_MAXLEN n) + 4 * tags < o.length + 4 then (d.linkCount n Lc.RX_TOO_LONG 1, none)
    else if !fcsOk || uncorr ≠ 0 then (d.linkCount n Lc.RX_FCS 1, none)
    else if beAt o 12 2 = 0x8808 then (d.macControl n o, none)
    else (d, some ts)

/-- Steps 6 to 10 of R184. PCP of an untagged frame the spec does not give: a free value (log 17). -/
def Dev.rxLate (d : Dev) (n : Nat) (o : List Byte) (ts : Nat) : Dev :=
  if !d.passesFilter n o then d.linkCount n Lc.RX_DA_FILTER 1
  else
    match d.macsecRx n o with
    | (d, none) => d
    | (d, some o) =>
      let tags := tagsOf (d.tpid n) o
      let vid := if tags = 0 || outerVid o = 0 then d.rd (F.LNK_VLAN_PVID n) else outerVid o
      if d.on (F.LNK_VLAN_VFILTER_EN n) && !d.vlanMember n vid then d.linkCount n Lc.RX_VLAN_FILTER 1
      else
        let cls := d.classOfFrame n tags o
        let pcp := if tags = 0 then Config.freeNat d.free % 8 else outerPcp o
        let r := d.draw.ptpRx n tags o
        r.1.toLane n { octets := r.2, port := n, ts, cls, vid, pcp, tags }

/-! ### Transmission (R185) -/

/-- The length on the wire of a frame to leave on a link (R185): its tag, SecTAG and ICV, FCS. -/
def Dev.wireLen (d : Dev) (n : Nat) (o : List Byte) (tag : Option Nat) : Nat :=
  let tagged := match tag with
    | none => false
    | some t => !(d.on (F.LNK_VLAN_UNTAG_PVID n) && t % 4096 == d.rd (F.LNK_VLAN_PVID n))
  o.length + (if tagged then 4 else 0) + (if d.on (F.LNK_MACSEC_TX_EN n) then 32 else 0) + 4

/-- A frame is dropped by the enqueue check (R195, R209). -/
def Dev.gateDrop (d : Dev) (n : Nat) (f : TxFrame) (ctr : Nat) : Dev :=
  ((d.linkCount n ctr 1).leafLimited (0x010 + n) (A.LNK_EVT n) 3).releaseTx f Rsn.CAPACITY

/-- TX_ENQUEUE: the oldest frame given to the link goes through the enqueue check into its class queue (R185, R195). -/
def execTxEnqueue (n : Fin 24) (s : State) : Host.Outcome State Fault Refusal :=
  lift (fun d =>
    let d := d.settleCredit n.val
    let l := d.link n.val
    let d := d.when (!l.arriving.isEmpty) (fun d => d.fragRelease (0x010 + n.val) (causeway Isl.CORE (Isl.QTX (n.val / 4)) 0))
    match l.arriving with
    | [] => d
    | f :: fs => match d.gateCheck n.val f with
      | some c => (d.setLink n.val { l with arriving := fs }).gateDrop n.val f c
      | none => d.setLink n.val { l with arriving := fs, queue := l.queue ++ [f] }) s

/-- The class may start its frame now: gate open, not stopped, shaper, and the frame ends before the gate closes (R196). -/
def Dev.mayStart (d : Dev) (n : Nat) (f : TxFrame) : Bool :=
  d.gateOpen n f.cls && d.rd (F.LNK_PAUSE_STAT_PAUSED n) / 2 ^ f.cls % 2 == 0 && d.shaperOk n f.cls &&
    (match d.openFor n f.cls with
      | none => true
      | some t => !d.wireAbove n (d.guardLen n f.cls f.len) t)

/-- A preempted frame may go on: it has started, so neither a pause nor a shaper stops it (R198, R199); its gate is open, and its
next fragment ends before the gate closes (R197). -/
def Dev.mayResume (d : Dev) (n : Nat) (f : TxFrame) : Bool :=
  d.gateOpen n f.cls &&
    (match d.openFor n f.cls with
      | none => true
      | some t => !d.wireAbove n (d.guardLen n f.cls f.len) t)

/-- The frame selected next (step 2 of R185): the highest class that may start, its oldest frame. -/
def Dev.selectTx (d : Dev) (n : Nat) (only : Nat → Bool) : Option TxFrame :=
  [7, 6, 5, 4, 3, 2, 1, 0].findSome? (fun c =>
    if only c then ((d.link n).queue.find? (fun f => f.cls == c)).filter (fun f => d.mayStart n f) else none)

/-- The frame with its tag (step 4 of R185, R190). -/
def Dev.tagTx (d : Dev) (n : Nat) (f : TxFrame) : List Byte :=
  match f.tag with
  | none => f.octets
  | some t =>
    if d.on (F.LNK_VLAN_UNTAG_PVID n) && t % 4096 == d.rd (F.LNK_VLAN_PVID n) then f.octets
    else f.octets.take 12 ++ beBytes (d.tpid n) 2 ++ beBytes t 2 ++ f.octets.drop 12

/-- The corrections of a transmitted PTP event message (step 5 of R185, R303–R307); `ts` is its transmit timestamp. -/
def Dev.ptpTx (d : Dev) (n : Nat) (f : TxFrame) (ts : Nat) (o : List Byte) : Dev × List Byte :=
  let tags := tagsOf (d.tpid n) o
  match ptpEvent (d.on (F.LNK_PTP_CTRL_L2 n)) (d.on (F.LNK_PTP_CTRL_UDP4 n)) (d.on (F.LNK_PTP_CTRL_UDP6 n)) tags o with
  | none => (d, o)
  | some (i, ty) =>
    let d := d.count (Ctr.PTP n 8) 1
    let o := if d.on (F.LNK_PTP_CTRL_ASYM_EN n) && (ty = 1 || ty = 2) then
        addCorrection tags i (-(toSigned 32 (d.reg (A.LNK_PTP_ASYM n)).toNat)) o
      else o
    match f.src with
    | .ltx .. =>
      let oneStep := d.on (F.LNK_PTP_CTRL_ONE_STEP n) && beAt o (i + 6) 1 / 2 % 2 == 0
      if oneStep && ty = 0 then
        let ns := nsOfStamp ts
        let o := setOctets o (i + 34) (beBytes (ns / 1000000000) 6 ++ beBytes (ns % 1000000000) 4)
        (d.count (Ctr.PTP n 0x10) 1, addCorrection tags i (ts % 65536 : Nat) o)
      else if oneStep && ty = 3 then
        let t2 := (beAt o (i + 34) 6 * 1000000000 + beAt o (i + 40) 4) * 65536
        if ts < t2 || 65536000000000 < ts - t2 then (d.count (Ctr.PTP n 0x18) 1, o)
        else
          let o := setOctets o (i + 34) (List.replicate 10 0)
          (d.count (Ctr.PTP n 0x10) 1, addCorrection tags i (ts - t2 : Nat) o)
      else (d, o)
    | .port p =>
      let p2p := d.on (F.LNK_PTP_CTRL_TC_P2P n)
      if d.on (F.LNK_PTP_CTRL_TC n) && p < 24 && (!p2p || ty = 0) then
        let res := (ts : Int) - f.rxTs
        let add := if p2p then res + (d.reg (A.LNK_PTP_LINKDELAY p)).toNat else res
        let d := (d.count (Ctr.PTP n 0x20) 1).when (655360000000 < res) (fun d => d.count (Ctr.PTP n 0x28) 1)
        (d, addCorrection tags i add o)
      else (d, o)
    | _ => (d, o)

/-- A frame starts (steps 4 to 9 of R185): its octets as they leave, its transmit timestamp, and the write-back of that
timestamp for a local frame that asks for it (R202, R208). -/
def Dev.startTx (d : Dev) (n : Nat) (f : TxFrame) : Dev :=
  let ts := d.stamp n (d.reg (A.LNK_TS_TX_DELAY n)).toNat
  let r := d.draw.ptpTx n f ts (d.tagTx n f)
  match r.1.macsecTx n r.2 with
  | (d, none) => d.releaseTx f Rsn.CAPACITY
  | (d, some o) =>
    let d := match f.src with
      | .ltx s i 0 true =>
        { d with swc := { d.swc with descs := d.swc.descs.map (fun (x : LtxDesc) =>
            if x.ring = s && x.index = i then { x with time := t64Of (nsOfStamp ts) } else x) } }
      | _ => d
    d.setLink n { d.link n with sending := some { f with octets := o, tag := none } }

/-- A link may send frames: in Ethernet mode, IN_SERVICE or DRAINING, not in safe state or a power state (R183, R385,
R415). -/
def Dev.mayTransmit (d : Dev) (n : Nat) : Bool :=
  (d.ustate (0x010 + n) == 3 || d.ustate (0x010 + n) == 4) && !d.boardwalk n && !d.safe && d.power == 0 &&
    !d.replays (0x010 + n)

/-- TX_FRAME_START: the next frame is selected and starts; an express frame may cut a preemptable one, which resumes later
(R185, R196, R197). -/
def execTxFrameStart (n : Fin 24) (s : State) : Host.Outcome State Fault Refusal :=
  lift (fun d =>
    let n := n.val
    let d := d.settleCredit n
    let l := d.link n
    if !d.mayTransmit n then d
    else
      let go (d : Dev) (f : TxFrame) : Dev :=
        (d.setLink n { d.link n with queue := (d.link n).queue.filter (fun g => g.pkt != f.pkt || g.src != f.src) }).startTx
          n f
      match l.sending with
      | some p =>
        if d.preemptable n p.cls && l.preempted.isNone then
          match d.selectTx n (fun c => !d.preemptable n c) with
          | some f => go ((d.setLink n { l with sending := none, preempted := some { p with frags := p.frags + 1 } }).linkCount
              n Lc.TX_FRAGMENTS 1) f
          | none => d
        else d
      | none =>
        match l.preempted with
        | none => match d.selectTx n (fun _ => true) with
          | some f => go d f
          | none => d
        | some p => match d.selectTx n (fun c => !d.preemptable n c) with
          | some f => go d f
          | none => if d.mayResume n p then d.setLink n { l with sending := some p, preempted := none } else d) s

/-- TX_FRAME_DONE: the last bit of the frame has left: it is counted and its reference goes (R187, R212, R251). -/
def execTxFrameDone (n : Fin 24) (s : State) : Host.Outcome State Fault Refusal :=
  lift (fun d =>
    let n := n.val
    let d := d.settleCredit n
    let l := d.link n
    match l.sending with
    | none => d
    | some f =>
      let d := (d.setLink n { l with sending := none }).emit (.frame n f.octets)
      let d := (d.linkCount n Lc.TX_FRAMES 1).linkCount n Lc.TX_OCTETS (f.octets.length + 4)
      let d := d.when (f.frags != 0) (fun d => d.linkCount n Lc.TX_FRAGMENTS 1)
      let seg := match f.src with
        | .ltx s i _ _ => d.swc.descs.any (fun x => x.ring = s && x.index = i && x.seg)
        | _ => false
      (d.when seg (fun d => d.linkCount n Lc.TX_SEGMENTS 1)).releaseTx f 0) s

/-- PREEMPT_VERIFY: an attempt succeeds, or times out after 10 ms; of three that fail, verification fails (R197). -/
def execPreemptVerify (n : Fin 24) (ok : Bool) (s : State) : Host.Outcome State Fault Refusal :=
  lift (fun d =>
    let n := n.val
    let l := d.link n
    let u := 0x010 + n
    if d.rd (F.LNK_PREEMPT_VERIFY n) ≠ 1 then d
    else if ok then (d.wr (F.LNK_PREEMPT_VERIFY n) 2).leaf u (A.LNK_EVT n) 7
    else
      let d := d.setLink n { l with verifies := l.verifies + 1 }
      if l.verifies + 1 < 3 then d else (d.wr (F.LNK_PREEMPT_VERIFY n) 3).leaf u (A.LNK_EVT n) 7) s

/-! ### Gate lists (R192–R195) -/

/-- A preemptable frame in transmission whose gate has closed is cut at its fragment and waits for its next window
(R197). -/
def Dev.cutByGate (d : Dev) (n : Nat) : Dev :=
  let l := d.link n
  match l.sending with
  | some f =>
    if d.preemptable n f.cls && !d.gateOpen n f.cls && l.preempted.isNone then
      (d.setLink n { l with sending := none, preempted := some { f with frags := f.frags + 1 } }).linkCount n Lc.TX_FRAGMENTS 1
    else d
  | none => d

/-- GCL_SWITCH: the committed gate list becomes operative at its start instant: the banks swap, entry 0 begins, WMAX is
computed, the queued frames are checked again (R192, R194–R196). -/
def Dev.gclSwitch (d : Dev) (n : Nat) : Dev :=
  if !d.on (F.LNK_GCL_STATUS_PENDING n) then d
  else
    let d := (d.settleCredit n).applySet (0x010 + n, 1)
    let d := d.each (List.range 256) (fun d i =>
      let new := d.reg (A.LNK_GCL n i)
      (d.setReg (A.LNK_GCL n i) (d.reg (A.LNK_GCL_OPER n i))).setReg (A.LNK_GCL_OPER n i) new)
    let d := (d.wr (F.LNK_GCL_STATUS_PENDING n) 0).wr (F.LNK_GCL_STATUS_ENTRY n) 0
    let d := d.setLink n { d.link n with entryAt := (d.link n).gateStart }
    let spans := d.spans n
    let d := d.each (List.range 8) (fun d c =>
      d.wr (F.LNK_WMAX_WMAX n c) (if d.on (F.LNK_GCL_CTRL_EN n) then wmaxOf c spans else 0xFFFFFFFF))
    let d := match (d.link n).sending with
      | some f => d.when (!d.gateOpen n f.cls && !d.preemptable n f.cls) (fun d => d.linkCount n Lc.GATE_OVERRUN 1)
      | none => d
    let l := d.link n
    let keep (f : TxFrame) : Bool := (d.gateCheck n f).isNone
    let bad := (l.arriving ++ l.queue).filter (fun f => !keep f)
    let d := d.setLink n { l with arriving := l.arriving.filter keep, queue := l.queue.filter keep }
    let d := d.each bad (fun d f => d.gateDrop n f ((d.gateCheck n f).getD Lc.TOO_LONG_FOR_GATE))
    (d.cutByGate n).leaf (0x010 + n) (A.LNK_EVT n) 4

/-- GCL_SWITCH (R192) -/
def execGclSwitch (n : Fin 24) (s : State) : Host.Outcome State Fault Refusal := lift (fun d => d.gclSwitch n.val) s

/-- GATE_ENTRY_ADVANCE: the operative entry's interval has expired, and the next one's gates apply (R193). -/
def execGateEntryAdvance (n : Fin 24) (s : State) : Host.Outcome State Fault Refusal :=
  lift (fun d =>
    let n := n.val
    let ss := d.spans n
    let i := d.rd (F.LNK_GCL_STATUS_ENTRY n)
    if !d.on (F.LNK_GCL_CTRL_EN n) then d
    else
      let d := d.settleCredit n
      let l := d.link n
      let d := d.setLink n { l with entryAt := l.entryAt + (ss.getD i (0, 0)).2 }
      (d.wr (F.LNK_GCL_STATUS_ENTRY n) (if i + 1 < ss.length then i + 1 else 0)).cutByGate n) s

end Sys2Proof.Machine
end

