-- ==== Sys2Proof/Machine/Switch.lean ====
section
/-! DEFINITION. The switch core (R239–R257), the steward packet queues and the local transmit rings (R207–R210). -/
namespace Sys2Proof.Machine

/-! ### The forwarding table (R243–R246) -/

/-- An entry of the forwarding table, by bucket × 4 + slot. -/
def Dev.fdbAt (d : Dev) (i : Nat) : FdbEntry := SMap.get (fun _ => {}) d.swc.fdb i
/-- It is replaced. -/
def Dev.setFdb (d : Dev) (i : Nat) (e : FdbEntry) : Dev :=
  { d with swc := { d.swc with fdb := SMap.put (fun _ => {}) i e d.swc.fdb } }

/-- The first slot of the bucket of a key (R243). -/
def fdbBucket (vid da : Nat) : Nat := 4 * Nat.xor (hashOf da) (vid % 1024)

/-- The slots of a bucket. -/
def fdbSlots (b : Nat) : List Nat := [b, b + 1, b + 2, b + 3]

/-- The slot of a key, if it is in the table. -/
def Dev.fdbFind (d : Dev) (vid da : Nat) : Option Nat :=
  (fdbSlots (fdbBucket vid da)).find? (fun i => (d.fdbAt i).valid && (d.fdbAt i).da == da && (d.fdbAt i).vid == vid)

/-- A free slot of a key's bucket. -/
def Dev.fdbFree (d : Dev) (vid da : Nat) : Option Nat :=
  (fdbSlots (fdbBucket vid da)).find? (fun i => !(d.fdbAt i).valid)

/-- The least recently refreshed learned entry of a bucket (R246). -/
def Dev.fdbOldest (d : Dev) (vid da : Nat) : Option Nat :=
  (fdbSlots (fdbBucket vid da)).foldl (fun a i =>
    if (d.fdbAt i).static then a
    else match a with
      | none => some i
      | some j => if (d.fdbAt i).at_ < (d.fdbAt j).at_ then some i else some j) none

/-- A port mask as a list of ports, ascending (R240). -/
def portsOf (mask : Nat) : List Nat := (List.range 36).filter (fun p => mask / 2 ^ p % 2 == 1)

/-- The destination set of a frame (R244). -/
def Dev.lookup (d : Dev) (vid da port : Nat) : List Nat :=
  let flood := (d.reg (A.SWC_PORT_FLOOD_LO port)).toNat + d.rd (F.SWC_PORT_FLOOD_HI_PORTS port) * 2 ^ 32
  let mask := match d.fdbFind vid da with
    | some i => (d.fdbAt i).ports
    | none =>
      if !isGroup da && d.on (F.SWC_PORT_CTRL_FLOOD_UC port) then flood
      else if isGroup da && d.on (F.SWC_PORT_CTRL_FLOOD_MC port) then flood
      else 0
  (portsOf mask).filter (· != port)

/-- A received frame's source address is learned (R245). -/
def Dev.learn (d : Dev) (vid sa port : Nat) : Dev :=
  if !d.on (F.SWC_PORT_CTRL_LEARN port) || isGroup sa then d
  else
    let new : FdbEntry := { valid := true, da := sa, vid, ports := 2 ^ port, at_ := d.clk }
    match d.fdbFind vid sa with
    | some i =>
      let e := d.fdbAt i
      if e.static then d
      else
        (d.setFdb i new).when (e.ports != 2 ^ port) (fun d => d.count (Ctr.PORT port Pc.LEARN_MOVES) 1)
    | none => match d.fdbFree vid sa with
      | some i => (d.setFdb i new).count (Ctr.PORT port Pc.LEARNED) 1
      | none => (d.count (Ctr.PORT port Pc.LEARN_FULL) 1).portEvt port 3

/-- KEY and DATA hold an entry (R246). -/
def Dev.showFdb (d : Dev) (e : FdbEntry) : Dev :=
  let d := (d.wr F.SWC_FDB_DATA_LO_PORTS (e.ports % 2 ^ 32)).wr F.SWC_FDB_DATA_HI_PORTS (e.ports / 2 ^ 32)
  (d.wr F.SWC_FDB_DATA_HI_STATIC (if e.static then 1 else 0)).wr F.SWC_FDB_DATA_HI_VALID (if e.valid then 1 else 0)

/-- The key registers of the forwarding table: VID and address (R247). -/
def Dev.fdbKey (d : Dev) : Nat × Nat :=
  (d.rd F.SWC_FDB_KEY_HI_VID, d.rd F.SWC_FDB_KEY_HI_DA_HI * 2 ^ 32 + d.rd F.SWC_FDB_KEY_LO_DA_LO)

/-- A forwarding table operation ends with its outcome; BUSY clears with FDB_OP_COMPLETE (R246). -/
def Dev.fdbOutcome (d : Dev) (reason : Nat) : Dev := d.wr F.SWC_FDB_CMD_REASON reason

/-- WRITE (R246). -/
def Dev.fdbWrite (d : Dev) : Dev :=
  let k := d.fdbKey
  let ports := d.rd F.SWC_FDB_DATA_LO_PORTS + d.rd F.SWC_FDB_DATA_HI_PORTS * 2 ^ 32
  let e : FdbEntry := { valid := true, da := k.2, vid := k.1, ports, static := d.on F.SWC_FDB_DATA_HI_STATIC, at_ := d.clk }
  let store (d : Dev) (i : Nat) : Dev := ((d.setFdb i e).wr F.SWC_FDB_CMD_INDEX i).fdbOutcome Rsn.ACCEPTED
  if !isGroup k.2 && (portsOf ports).length ≠ 1 then d.fdbOutcome Rsn.RANGE
  else match (d.fdbFind k.1 k.2).or (d.fdbFree k.1 k.2) with
    | some i => store d i
    | none => match d.fdbOldest k.1 k.2 with
      | some i => store (d.each (portsOf (d.fdbAt i).ports) (fun d p => d.count (Ctr.PORT p Pc.LEARN_FULL) 1)) i
      | none => d.fdbOutcome Rsn.NO_BUFFER

/-- DELETE (R246). -/
def Dev.fdbDelete (d : Dev) : Dev :=
  (match d.fdbFind d.fdbKey.1 d.fdbKey.2 with
    | some i => d.setFdb i {}
    | none => d).fdbOutcome Rsn.ACCEPTED

/-- LOOKUP (R246). -/
def Dev.fdbLookup (d : Dev) : Dev :=
  (match d.fdbFind d.fdbKey.1 d.fdbKey.2 with
    | some i => (d.showFdb (d.fdbAt i)).wr F.SWC_FDB_CMD_INDEX i
    | none => d.wr F.SWC_FDB_DATA_HI_VALID 0).fdbOutcome Rsn.ACCEPTED

/-- READ (R246): an empty slot gives VALID 0. -/
def Dev.fdbRead (d : Dev) : Dev :=
  let e := d.fdbAt (d.rd F.SWC_FDB_CMD_INDEX)
  (if e.valid then
      (((d.showFdb e).wr F.SWC_FDB_KEY_LO_DA_LO (e.da % 2 ^ 32)).wr F.SWC_FDB_KEY_HI_DA_HI (e.da / 2 ^ 32)).wr
        F.SWC_FDB_KEY_HI_VID e.vid
    else d.wr F.SWC_FDB_DATA_HI_VALID 0).fdbOutcome Rsn.ACCEPTED

/-- FLUSH: every learned entry goes (R246). -/
def Dev.fdbFlush (d : Dev) : Dev :=
  { d with swc := { d.swc with fdb := d.swc.fdb.filter (fun e => e.2.static) } }.fdbOutcome Rsn.ACCEPTED

/-- A write of `SWC_FDB_CMD`: INDEX, then OP (R246). -/
def Dev.fdbGo (d : Dev) (v : Word) : Dev :=
  let op := bits v 0 3
  if d.on F.SWC_FDB_CMD_BUSY then if op = 0 then d else d.fdbOutcome Rsn.BUSY
  else
    let d := d.wr F.SWC_FDB_CMD_INDEX (bits v 16 12)
    let busy (d : Dev) : Dev := (d.wr F.SWC_FDB_CMD_BUSY 1)
    match op with
    | 0 => d
    | 1 => busy d.fdbWrite
    | 2 => busy d.fdbDelete
    | 3 => busy d.fdbLookup
    | 4 => busy d.fdbRead
    | 5 => busy d.fdbFlush
    | _ => d.fdbOutcome Rsn.RANGE

/-- FDB_OP_COMPLETE (R246). -/
def execFdbOpComplete (s : State) : Host.Outcome State Fault Refusal := lift (fun d => d.wr F.SWC_FDB_CMD_BUSY 0) s

/-- FDB_AGE_EXPIRE: no frame has refreshed the learned entry in slot `i` for AGE seconds (R245). -/
def execFdbAgeExpire (i : Fin 4096) (s : State) : Host.Outcome State Fault Refusal :=
  lift (fun d =>
    let e := d.fdbAt i.val
    if e.valid && !e.static && d.on F.SWC_CTRL_AGE then d.setFdb i.val {} else d) s

/-! ### Steward packet queues (R207, R210) -/

/-- The pointers of a steward packet queue, and of a local transmit ring. -/
def Dev.spq (d : Dev) (q : Nat) : PtrPair := SMap.get (fun _ => {}) d.swc.spq q
def Dev.ltx (d : Dev) (s : Nat) : PtrPair := SMap.get (fun _ => {}) d.swc.ltx s

/-- Entries waiting between a pair of pointers. -/
def PtrPair.fill (p : PtrPair) : Nat := (p.wr - p.rd).toNat
/-- Both copies of each pointer agree (R93). -/
def PtrPair.ok (p : PtrPair) : Bool := p.wr == p.wr2 && p.rd == p.rd2

/-- The pointers of a steward packet queue, with FILL as it follows. -/
def Dev.setSpq (d : Dev) (q : Nat) (p : PtrPair) : Dev :=
  { d with swc := { d.swc with spq := SMap.put (fun _ => {}) q p d.swc.spq } }.wr (F.SPQ_FILL_FILL q) p.fill

/-- The pointers of a local transmit ring, with HEAD as it follows. -/
def Dev.setLtx (d : Dev) (s : Nat) (p : PtrPair) : Dev :=
  { d with swc := { d.swc with ltx := SMap.put (fun _ => {}) s p d.swc.ltx } }.wr (F.LTX_HEAD_HEAD s) p.rd.toNat

/-- A packet queue or a transmit ring is reset after a pointer mismatch (R93). -/
def Dev.resetRing (d : Dev) (spq : Bool) (i : Nat) : Dev :=
  let n := if spq then (d.spq i).fill else (d.ltx i).fill
  let d := if spq then d.setSpq i {} else d.setLtx i {}
  (d.count Ctr.REGEN_QUEUE 1).record 1 0x04 2 0 (BitVec.ofNat 32 ((if spq then 0x50000000 else 0x60000000) + i))
    (BitVec.ofNat 32 n)

/-- An update of the pointers, compared with their copies first (R93). -/
def Dev.moveSpq (d : Dev) (q : Nat) (f : Dev → Dev) : Dev := if (d.spq q).ok then f d else d.resetRing true q
def Dev.moveLtx (d : Dev) (s : Nat) (f : Dev → Dev) : Dev := if (d.ltx s).ok then f d else d.resetRing false s

/-- Depth and slot size of a packet queue, and the register map address of its ring. -/
def Dev.spqDepth (d : Dev) (q : Nat) : Nat := 2 ^ min 6 (max 1 (d.rd (F.SPQ_CFG_DEPTH_LOG2 q)))
def Dev.spqSlot (d : Dev) (q : Nat) : Nat := if d.on (F.SPQ_CFG_SLOT q) then 9216 else 2048
def Dev.spqBase (d : Dev) (q : Nat) : Nat := 0xC00000 + d.rd (F.SPQ_CFG_STEWARD q) * 0x100000 + d.rd (F.SPQ_BASE_BASE q) * 64

/-- A frame is copied into a packet queue, or dropped and counted (R207). -/
def Dev.spqPut (d : Dev) (q rule : Nat) (f : Frame) : Dev :=
  d.moveSpq q (fun d =>
    let p := d.spq q
    if !d.on (F.SPQ_CFG_EN q) || d.spqDepth q ≤ p.fill || d.spqSlot q - 16 < f.octets.length then d.sat (F.SPQ_DROPS_DROPS q) 1
    else
      let a := d.spqBase q + p.wr.toNat % d.spqDepth q * d.spqSlot q
      let t := t64Of (nsOfStamp f.ts)
      let head := [BitVec.ofNat 32 (f.octets.length % 2 ^ 14 + f.port % 32 * 2 ^ 16 + rule * 2 ^ 24), 0, loWord t, hiWord t]
      let d := d.memStore a (head.flatMap wordBytes ++ f.octets)
      let d := d.setSpq q { p with wr := p.wr + 1, wr2 := p.wr2 + 1 }
      if p.fill = 0 then
        d.fireSource (fun s => srcKind s == 7 && bits s 0 3 == q) (fun _ => true) (fun _ _ => true) 1
      else d)

/-- A write of `SPQq_HEAD`: the steward returns slots (R207, R90, R91). -/
def Dev.spqHead (d : Dev) (q : Nat) (v : BitVec 16) : Dev :=
  d.moveSpq q (fun d =>
    let p := d.spq q
    if !d.on (F.SPQ_CFG_EN q) || p.fill < (v - p.rd).toNat then d.sat F.SWC_IGNORED_COUNT 1
    else d.setSpq q { p with rd := v, rd2 := v })

/-- The first enabled rule that a frame matches (R210). -/
def Dev.ruleOf (d : Dev) (f : Frame) : Option Nat :=
  if 24 ≤ f.port then none
  else (List.range 16).find? (fun r =>
    d.rd (F.SPQ_LINKS_LINKS r) / 2 ^ f.port % 2 == 1 &&
    (let v := d.rd (F.SPQ_RULE_VALUE r)
     match d.rd (F.SPQ_RULE_KIND r) with
     | 0 => false
     | 1 => etherType f.tags f.octets == v
     | 2 => ipProto f.tags f.octets == some (v % 256)
     | _ => isUdp f.tags f.octets && udpDst f.tags f.octets == v))

/-! ### Flow match (R270) -/

/-- The flows that are not OFF. -/
def Dev.flowsOn (d : Dev) : List Nat :=
  (d.regs.filter (fun e => 0x20004 ≤ e.1 && e.1 < 0x40000 && e.1 % 0x40 == 4 && bits e.2 0 3 != 0)).map
    (fun e => (e.1 - 0x20004) / 0x40)

/-- Sixteen octets of an address in registers: `n` words, first octet highest. -/
def wordsAddr (ws : List Nat) : Nat := ws.foldl (fun a w => a * 2 ^ 32 + w) 0

/-- A leg's port admits a frame of port `p`: its own, or any (R263). -/
def Dev.legPort (d : Dev) (f leg p : Nat) : Bool := d.flowPort f leg == 0x3F || d.flowPort f leg == p

/-- The frame matches the key of a leg of a receive flow (R270). -/
def Dev.legMatches (d : Dev) (f leg : Nat) (x : Frame) : Bool :=
  let o := x.octets
  let l3 := l3Of x.tags
  let w (i : Nat) := d.flowDaddr f leg i
  let src (i : Nat) := (d.reg (A.FLOW_SADDR f i)).toNat
  d.legPort f leg x.port &&
  (match d.flowFmt f with
    | 0 => isV4 x.tags o && isUdp x.tags o && beAt o (l3 + 16) 4 == w 0 &&
        udpDst x.tags o == d.rd (F.FLOW_UDP_DPORT f) &&
        (!d.on (F.FLOW_IPOPT_SRC_FILT f) || beAt o (l3 + 12) 4 == src 0)
    | 1 => isV6 x.tags o && isUdp x.tags o && beAt o (l3 + 24) 16 == wordsAddr [w 0, w 1, w 2, w 3] &&
        udpDst x.tags o == d.rd (F.FLOW_UDP_DPORT f) &&
        (!d.on (F.FLOW_IPOPT_SRC_FILT f) || beAt o (l3 + 8) 16 == wordsAddr [src 0, src 1, src 2, src 3])
    | 2 => etherType x.tags o == 0x22F0 && beAt o l3 1 == 2 && beAt o (l3 + 4) 8 == wordsAddr [w 0, w 1]
    | _ => false)

/-- The receive flow, not OFF, whose key a frame matches, and the leg (R270). -/
def Dev.flowMatch (d : Dev) (x : Frame) : Option (Nat × Nat) :=
  d.flowsOn.findSome? (fun f =>
    if d.flowTx f then none
    else if d.legMatches f 0 x then some (f, 0)
    else if d.on (F.FLOW_CFG_LEG_B f) && d.legMatches f 1 x then some (f, 1)
    else none)

/-- A matched frame goes to its flow's engine (step 6 of R241). -/
def Dev.giveFlow (d : Dev) (f : Nat) (p : FlowPacket) : Dev :=
  d.setFlow f { d.flow f with rxq := (d.flow f).rxq ++ [p] }

/-! ### Admission and egress (R249–R252) -/

/-- The class quota admits `n` cells (R250). -/
def Dev.quotaAdmits (d : Dev) (c n : Nat) : Bool :=
  let res (k : Nat) := d.rd (F.SWC_QUOTA_RES_RESERVED k)
  let use (k : Nat) := d.rd (F.SWC_CLASS_USE_USE k)
  let most := max (d.rd (F.SWC_QUOTA_MAX_MAX c)) (res c)
  let kept := ((List.range 8).map (fun k => res k - use k)).foldl (· + ·) 0
  use c + n ≤ res c || (use c + n ≤ most && n + kept ≤ d.rd F.SWC_STATUS_CELLS_FREE)

/-- The egress sluice of a port and class lets `len` octets pass: what it lacks now, and whether they fit (R249). -/
def Dev.sluiceLack (d : Dev) (p c : Nat) : Nat :=
  let x := SMap.get (fun _ => (0, 0)) d.swc.sluice (p * 8 + c)
  x.1 - d.rd (F.SWC_SLUICE_RATE p c) * (d.clk - x.2)

/-- The sluice refuses. -/
def Dev.sluiceRefuses (d : Dev) (p c len : Nat) : Bool :=
  d.on (F.SWC_SLUICE_EN p c) && d.rd (F.SWC_BURST_BURST p c) * 8000000 < d.sluiceLack p c + len * 8000000

/-- Tokens are taken for a frame that is queued (R249). -/
def Dev.sluiceTake (d : Dev) (p c len : Nat) : Dev :=
  if d.on (F.SWC_SLUICE_EN p c) then
    { d with swc := { d.swc with
        sluice := SMap.put (fun _ => (0, 0)) (p * 8 + c) (d.sluiceLack p c + len * 8000000, d.clk) d.swc.sluice } }
  else d

/-- The unit of a port (R239). -/
def portUnit (p : Nat) : Nat := if p < 24 then 0x010 + p else 0x030 + (p - 24)

/-- Cells queued for a port's class queue (R252). -/
def Dev.cellsQueued (d : Dev) (p c : Nat) : Nat :=
  let fs := if p < 24 then (d.link p).arriving ++ (d.link p).queue else (d.ring (p - 24)).queue
  (fs.filter (fun f => f.cls == c)).foldl (fun a f => a + f.cells) 0

/-- The outcome of the checks of a port (R252). -/
inductive Egress where
  | down | vlan | length (ctr : Nat) | full | sluice | queue
deriving DecidableEq, Repr

/-- The checks of one port for a frame, the first that fails (R252, R195, R229). -/
def Dev.egressCheck (d : Dev) (p : Nat) (f : TxFrame) (len : Nat) : Egress :=
  let k := p - 24
  if d.ustate (portUnit p) ≠ 3 || (p < 24 && d.boardwalk p) then .down
  else if p < 24 && d.on (F.LNK_VLAN_VFILTER_EN p) && !d.vlanMember p f.vid then .vlan
  else if p < 24 && (d.gateCheck p f).isSome then .length ((d.gateCheck p f).getD 0)
  else if 24 ≤ p && d.rd (F.RING_ASYNC_PASS k) < d.occupancy k (f.octets.length + 26) then .length 0
  else if d.rd (F.SWC_EQLIMIT_LIMIT f.cls) < d.cellsQueued p f.cls + f.cells then .full
  else if d.sluiceRefuses p f.cls len then .sluice
  else .queue

/-- A frame is dropped on a port, or queued there, with the reference it takes (R252). -/
def Dev.egress (d : Dev) (p : Nat) (f : TxFrame) (len : Nat) (e : Egress) : Dev :=
  match e with
  | .down => (d.count (Ctr.PORT p Pc.DROP_LINK_DOWN) 1).portEvt p 7
  | .vlan => (d.count (Ctr.PORT p Pc.DROP_VLAN) 1).portEvt p 6
  | .length ctr =>
    if p < 24 then (d.linkCount p ctr 1).leafLimited (0x010 + p) (A.LNK_EVT p) 3
    else d.count (0x830000 + (p - 24) * 0x400 + 0x0A0) 1
  | .full => (d.count (Ctr.PORT p Pc.DROP_QUEUE_FULL) 1).portEvt p 4
  | .sluice => (d.count (Ctr.PORT p Pc.DROP_SLUICE) 1).portEvt p 5
  | .queue =>
    let d := (d.count (Ctr.PORT p Pc.FWD_FRAMES) 1).count (Ctr.PORT p Pc.FWD_OCTETS) len
    let d := d.sluiceTake p f.cls len
    if p < 24 then d.setLink p { d.link p with arriving := (d.link p).arriving ++ [f] }
    else d.setRing (p - 24) { d.ring (p - 24) with queue := (d.ring (p - 24)).queue ++ [f] }

/-- The frame as it is to leave a port: without its outer tag on a link, which gets VID and PCP as its tag; whole on a ring
(R190, R221). -/
def Dev.forwarded (d : Dev) (p : Nat) (x : Frame) (pkt cells : Nat) : TxFrame :=
  let bare := if x.tags = 0 then x.octets else x.octets.take 12 ++ x.octets.drop 16
  let tag := some (x.pcp * 2 ^ 13 + (if x.tags = 0 then 0 else beAt x.octets 14 2 / 2 ^ 12 % 2 * 2 ^ 12) + x.vid)
  let o := if p < 24 then bare else x.octets
  { octets := o, tag := if p < 24 then tag else none, len := if p < 24 then d.wireLen p bare tag else x.octets.length + 4,
    cls := x.cls, vid := x.vid, cells, pkt, src := .port x.port, rxTs := x.ts }

/-! ### A frame reaches the core (R241) -/

/-- The lanes of a port (R254). -/
def Dev.lane (d : Dev) (audio : Bool) (p : Nat) : List Frame :=
  if p < 24 then (if audio then (d.link p).audio else (d.link p).other)
  else (if audio then (d.ring (p - 24)).audio else (d.ring (p - 24)).other)

/-- A lane without its first frame. -/
def Dev.popLane (d : Dev) (audio : Bool) (p : Nat) : Dev :=
  let r := (d.lane audio p).drop 1
  if p < 24 then d.setLink p (if audio then { d.link p with audio := r } else { d.link p with other := r })
  else d.setRing (p - 24) (if audio then { d.ring (p - 24) with audio := r } else { d.ring (p - 24) with other := r })

/-- The port served next in a lane, round robin (R254). -/
def Dev.nextPort (d : Dev) (audio : Bool) : Option Nat :=
  let last := if audio then d.swc.lastAudio else d.swc.lastOther
  ((List.range 36).map (fun i => (last + 1 + i) % 36)).find? (fun p => !(d.lane audio p).isEmpty)

/-- Step 4 for a frame of a flow (R248): dropped by its sluice, or admitted. -/
def Dev.throughSluice (d : Dev) (f len : Nat) : Dev × Bool :=
  match d.flowSluice f len with
  | (d, true) => (d, true)
  | (d, false) => ((d.count Ctr.FLOW_SLUICE_DROPS 1).count (Ctr.SLOT f Sc.PKT_SLUICE) 1, false)

/-- Steps 1 to 6 of R241 for a received frame. -/
def Dev.switchFrame (d : Dev) (audio : Bool) (x : Frame) : Dev :=
  let p := x.port
  let len := x.octets.length + 4
  let d := d.count (Ctr.PORT p Pc.IN_FRAMES) 1
  let rule := d.ruleOf x
  let only := match rule with
    | some r => !d.on (F.SPQ_RULE_COPY r)
    | none => false
  let flow := if only then none else d.flowMatch x
  let ports := if only then [] else d.lookup x.vid (daOf x.octets) p
  let d := if only then d else d.learn x.vid (saOf x.octets) p
  let gave (d : Dev) (u v : Option Nat) : Dev := d.fragReceive x audio u v
  if ports.isEmpty && flow.isNone && rule.isNone then gave ((d.count (Ctr.PORT p Pc.IN_NO_ROUTE) 1).portEvt p 0) none none
  else
    let s := match flow with
      | some (f, _) => d.throughSluice f len
      | none => (d, true)
    let d := s.1
    let n := cellsOf len
    if !s.2 then gave d none none
    else if !d.quotaAdmits x.cls n then gave ((d.count (Ctr.PORT p Pc.IN_NO_BUFFER) 1).portEvt p 1) none none
    else
      let r := d.takeCells x.cls n
      let r := ports.foldl (fun (a : Dev × Nat) q =>
        let f := a.1.forwarded q x r.2 n
        let e := a.1.egressCheck q f len
        (a.1.egress q f len e, if e = .queue then a.2 + 1 else a.2)) (r.1, 0) |> fun a => (a.1, a.2, r.2)
      let d := match flow with
        | some (f, leg) => r.1.giveFlow f { octets := x.octets, tags := x.tags, leg, ts := x.ts, pkt := some r.2.2 }
        | none => r.1
      let d := d.setRefs r.2.2 (r.2.1 + (if flow.isSome then 1 else 0))
      let engine := flow.map (fun e => 0x400 + e.1)
      match rule with
      | some k =>
        let q := d.rd (F.SPQ_RULE_QUEUE k)
        let before := (d.spq q).wr
        let d := d.spqPut q k x
        gave d engine (if (d.spq q).wr = before then none else some (0x0F0 + d.rd (F.SPQ_CFG_STEWARD q)))
      | none => gave d engine none

/-- SWITCH_FRAME: the core takes the next frame, from the audio lanes first (R254), and decides (R241). -/
def execSwitchFrame (s : State) : Host.Outcome State Fault Refusal :=
  lift (fun d =>
    if d.safe || d.power ≠ 0 || d.rd F.ERR_STATUS_STOPPED / 4 % 2 = 1 then d
    else
      let go (audio : Bool) (p : Nat) : Dev :=
        match d.lane audio p with
        | [] => d
        | x :: _ =>
          let d := d.popLane audio p
          let d := { d with swc := if audio then { d.swc with lastAudio := p } else { d.swc with lastOther := p } }
          d.switchFrame audio x
      match d.nextPort true with
      | some p => go true p
      | none => match d.nextPort false with
        | some p => go false p
        | none => d) s

/-! ### Local frames (R208, R209, R186, R187) -/

/-- A frame of local origin starts at step 4 (R241): the class quota, the checks of its link, its queue. `slu` tells that a
flow sluice has let it pass. The verdict: 0 for a queued frame, else the reason of R209. -/
def Dev.sendLocal (d : Dev) (n cls : Nat) (o : List Byte) (src : TxSrc) : Dev × Nat :=
  let len := o.length + 4
  let cells := cellsOf len
  if !d.quotaAdmits cls cells then (d, Rsn.NO_BUFFER)
  else
    let tags := tagsOf (d.tpid n) o
    let bare := if tags = 0 then o else o.take 12 ++ o.drop 16
    let tag := if tags = 0 then none else some (beAt o 14 2)
    let r := d.takeCells cls cells
    let f : TxFrame := { octets := bare, tag, len := d.wireLen n bare tag, cls,
                         vid := if tags = 0 then d.rd (F.LNK_VLAN_PVID n) else outerVid o, cells, pkt := r.2, src, rxTs := 0 }
    let e := r.1.egressCheck n f len
    ((r.1.egress n f len e).setRefs r.2 (if e = .queue then 1 else 0),
      match e with
      | .queue => 0
      | .down => Rsn.STATE
      | .length _ => Rsn.CAPACITY
      | .vlan => Rsn.RANGE
      | _ => Rsn.NO_BUFFER)

/-- The parts of a template header (R186): tags, the offset of the application header, IPv4 or not; none where it is not
of the form. -/
def templateOf (tpid : Nat) (h : List Byte) : Option (Nat × Nat × Bool) :=
  let t := tagsOf tpid h
  if isUdp t h && (isV4 t h || isV6 t h) then some (t, l4Of t h + 8, isV4 t h) else none

/-- Segment `k` of a template (R186). -/
def segmentOf (t app : Nat) (v4 adv : Bool) (step : Nat) (h pay : List Byte) (k : Nat) : List Byte :=
  let l3 := l3Of t
  let l4 := l4Of t h
  let o := h ++ pay
  let o := if v4 then
      let o := setOctets o (l3 + 2) (beBytes (o.length - l3) 2)
      setOctets o (l3 + 4) (beBytes (beAt h (l3 + 4) 2 + k) 2)
    else setOctets o (l3 + 4) (beBytes (o.length - l3 - 40) 2)
  let o := setOctets o (l4 + 4) (beBytes (o.length - l4) 2)
  let o := if adv then
      let o := setOctets o (app + 2) (beBytes (beAt h (app + 2) 2 + k) 2)
      setOctets o (app + 4) (beBytes (beAt h (app + 4) 4 + k * step) 4)
    else o
  let o := if v4 then fixV4 t o else o
  fixUdp t o

/-- A list cut into pieces of `n` octets, at most `fuel` of them. -/
def cutEvery (n : Nat) : Nat → List Byte → List (List Byte)
  | 0, _ => []
  | fuel + 1, o => if o.isEmpty then [] else o.take n :: cutEvery n fuel (o.drop n)

/-- The frames of a descriptor, or the reason it is refused with (R187, R208, R209). What the spec gives no reason for, an
address or a length beyond its range, or a link that does not exist, is refused with RANGE (DESIGN CHOICE, log 19). -/
def Dev.ltxFrames (d : Dev) (mem : List Host.Cell) (s : Nat) (w : Nat → Word) : List (List Byte) × Nat :=
  let len := bits (w 1) 0 16
  let n := bits (w 1) 16 5
  let addr := bits (w 0) 0 20
  let most (tags : Nat) := d.rd (F.LNK_MAXLEN_MAXLEN n) + 4 * tags
  if len < 14 || 24 ≤ n || addr < 0x40000 || 0x100000 < addr + len then ([], Rsn.RANGE)
  else
    let o := memBytes mem (0xC00000 + s * 0x100000 + addr) len
    let t := tagsOf (d.tpid n) o
    if !(w 1).getLsbD 28 then if most t < len + 4 then ([], Rsn.RANGE) else ([o], 0)
    else
      let hl := bits (w 2) 16 8
      let mss := bits (w 2) 0 14
      let h := o.take hl
      match templateOf (d.tpid n) h with
      | none => ([], Rsn.FORMAT)
      | some (t, app, v4) =>
        let adv := (w 1).getLsbD 29
        if adv && hl < app + 8 then ([], Rsn.FORMAT)
        else if hl < 42 || 128 < hl || mss = 0 || most t < hl + mss + 4 || len ≤ hl then ([], Rsn.RANGE)
        else ((cutEvery mss 65536 (o.drop hl)).zipIdx.map (fun e => segmentOf t app v4 adv (w 3).toNat h e.1 e.2), 0)

/-- A descriptor of a local transmit ring is carried out (R208). -/
def Dev.ltxRun (d : Dev) (mem : List Host.Cell) (s idx : Nat) : Dev :=
  let depth := 2 ^ min 8 (max 2 (d.rd (F.LTX_CFG_DEPTH_LOG2 s)))
  let a := 0xC00000 + s * 0x100000 + d.rd (F.LTX_CFG_BASE s) * 32 + idx % depth * 32
  let w (i : Nat) : Word := memWordAt mem (a + 4 * i)
  let n := bits (w 1) 16 5
  let fs := d.ltxFrames mem s w
  let down := n < 24 && d.ustate (0x010 + n) ≠ 3
  let reason := if fs.2 ≠ 0 then fs.2 else if down then Rsn.STATE else 0
  let frames := if reason ≠ 0 then [] else fs.1
  let x : LtxDesc := { ring := s, index := idx, left := frames.length, seg := (w 1).getLsbD 28, reason }
  let d := { d with swc := { d.swc with descs := d.swc.descs ++ [x] } }
  d.each frames.zipIdx (fun d e =>
    match d.sendLocal n (bits (w 1) 24 3) e.1 (.ltx s idx e.2 ((w 1).getLsbD 27)) with
    | (d, 0) => d
    | (d, r) => { d with swc := { d.swc with descs := d.swc.descs.map (fun (x : LtxDesc) =>
        if x.ring = s && x.index = idx then { x with left := x.left - 1, reason := if x.reason = 0 then r else x.reason }
        else x) } })

/-- A write of `LTXs_TAIL`: the new descriptors are carried out in order (R208, R90). -/
def Dev.ltxTail (d : Dev) (env : Env) (s : Nat) (v : BitVec 16) : Dev :=
  d.moveLtx s (fun d =>
    let p := d.ltx s
    let depth := 2 ^ min 8 (max 2 (d.rd (F.LTX_CFG_DEPTH_LOG2 s)))
    let n := (v - p.wr).toNat
    if !d.on (F.LTX_CFG_EN s) || depth < p.fill + n then d.sat F.SWC_IGNORED_COUNT 1
    else
      let mem := d.memNow env
      let d := d.setLtx s { p with wr := v, wr2 := v }
      d.each (List.range n) (fun d i => d.ltxRun mem s ((p.wr.toNat + i) % 65536)))

/-- LTX_DESCRIPTOR_DONE: the oldest descriptor of the ring, when its frames have all left or been dropped, gets its status
and timestamp, and HEAD moves on (R208, R209). -/
def execLtxDescriptorDone (t : Fin 4) (s : State) : Host.Outcome State Fault Refusal :=
  lift (fun d =>
    let s := t.val
    d.moveLtx s (fun d =>
      let p := d.ltx s
      match d.swc.descs.find? (fun x => x.ring = s && x.index = p.rd.toNat && x.left = 0) with
      | none => d
      | some x =>
        let depth := 2 ^ min 8 (max 2 (d.rd (F.LTX_CFG_DEPTH_LOG2 s)))
        let a := 0xC00000 + s * 0x100000 + d.rd (F.LTX_CFG_BASE s) * 32 + x.index % depth * 32
        let d := { d with swc := { d.swc with descs := d.swc.descs.filter (fun y => !(y.ring = s && y.index = x.index)) } }
        let d := d.memStore (a + 16) ([loWord x.time, hiWord x.time,
          BitVec.ofNat 32 (x.reason + x.segments % 65536 * 2 ^ 8 + 2 ^ 31)].flatMap wordBytes)
        d.setLtx s { p with rd := p.rd + 1, rd2 := p.rd2 + 1 })) s

end Sys2Proof.Machine
end

