-- ==== Sys2Proof/Machine/Rings.lean ====
section
/-! DEFINITION. Boardwalk rings (R214–R238): tokens, the train, grants, census and tables, wrapping; and the rows of links
that rings have a part in. -/
namespace Sys2Proof.Machine

/-! ### Counters, events, frames -/

/-- The counters of a ring (R238), by their offset. -/
abbrev Ctr.RING (k off : Nat) : Nat := 0x830000 + k * 0x400 + off
abbrev Rc.TOKENS_RX : Nat := 0x000
abbrev Rc.TOKENS_FWD : Nat := 0x008
abbrev Rc.TOKENS_GEN : Nat := 0x010
abbrev Rc.TOKENS_STRIPPED : Nat := 0x018
abbrev Rc.TOKENS_ABSORBED : Nat := 0x020
abbrev Rc.TOKEN_MISSED : Nat := 0x028
abbrev Rc.TOKEN_REGEN : Nat := 0x030
abbrev Rc.WRAPS : Nat := 0x038
abbrev Rc.UNWRAPS : Nat := 0x040
abbrev Rc.CENSUS_STARTED : Nat := 0x048
abbrev Rc.CENSUS_ABORTED : Nat := 0x050
abbrev Rc.TABLES_APPLIED : Nat := 0x058
abbrev Rc.TX_BLOCKS : Nat := 0x060
abbrev Rc.RX_BLOCKS : Nat := 0x068
abbrev Rc.ISO_DEFERRED : Nat := 0x070
abbrev Rc.ISO_STALE : Nat := 0x078
abbrev Rc.ISO_NO_WINDOW : Nat := 0x080
abbrev Rc.ASYNC_TX : Nat := 0x088
abbrev Rc.ASYNC_RX : Nat := 0x090
abbrev Rc.ASYNC_DEFERRED : Nat := 0x098
abbrev Rc.TOO_LONG_FOR_RING : Nat := 0x0A0
abbrev Rc.PASS_STOMPED : Nat := 0x0A8
abbrev Rc.RX_FOREIGN : Nat := 0x0B0
abbrev Rc.RX_NOT_RING : Nat := 0x0B8
abbrev Rc.TABLE_MISSING : Nat := 0x0C0
abbrev Rc.PAST_MGR_STOPPED : Nat := 0x0C8

/-- A counter of a ring. -/
def Dev.ringCount (d : Dev) (k off n : Nat) : Dev := d.count (Ctr.RING k off) n
/-- A leaf of a ring's EVT (R216). -/
def Dev.ringEvt (d : Dev) (k b : Nat) : Dev := d.leaf (0x030 + k) (A.RING_EVT k) b
/-- What a ring holds is changed. -/
def Dev.updRing (d : Dev) (k : Nat) (f : RingRt → RingRt) : Dev := d.setRing k (f (d.ring k))

/-- The NAME of the node (R216). -/
def Dev.ringName (d : Dev) (k : Nat) : Nat := d.rd (F.RING_NAME_HI_NAME k) * 2 ^ 32 + d.rd (F.RING_NAME_LO_NAME k)
/-- The node's rank: MGR_PRIO, then NAME (R215). -/
def Dev.ringRank (d : Dev) (k : Nat) : Nat × Nat := (d.rd (F.RING_CTRL_MGR_PRIO k), d.ringName k)
/-- One rank is above another (R215). -/
def outranks (a b : Nat × Nat) : Bool := b.1 < a.1 || (a.1 == b.1 && b.2 < a.2)
/-- The node is the manager (R216). -/
def Dev.isManager (d : Dev) (k : Nat) : Bool := d.rd (F.RING_STATUS_ROLE k) == 2
/-- The ring passes frames: SYNCING, IN_SERVICE, or draining (R236); not in safe state or a power state. -/
def Dev.ringPasses (d : Dev) (k : Nat) : Bool :=
  let st := d.ustate (0x030 + k)
  (st == 2 || st == 3 || st == 4) && !d.safe && d.power == 0
/-- The ring sends windows and grants of its own: IN_SERVICE, in the table, and nothing missing in this cycle (R236). -/
def Dev.ringSends (d : Dev) (k : Nat) : Bool :=
  d.ustate (0x030 + k) == 3 && !d.safe && d.power == 0 && !(d.ring k).silent && (d.ring k).table.isSome

/-- The fixed group address of ring frames (R221). -/
abbrev ringDa : Nat := 0x034E5A570000
/-- A ring frame of a node: its octets without FCS (R221). -/
def Dev.ringFrame (d : Dev) (k sub flags : Nat) (rest : List Byte) : List Byte :=
  beBytes ringDa 6 ++ beBytes (d.ringName k) 6 ++ beBytes 0x88B5 2 ++ beBytes sub 1 ++ beBytes flags 1 ++
    beBytes (d.rd (F.RING_CTRL_RING_ID k)) 2 ++ rest
/-- The SUBTYPE of a ring frame. -/
def subtypeOf (o : List Byte) : Nat := beAt o 14 1
/-- A field of a ring frame: `n` octets from octet `i` after the EtherType. -/
def ringField (o : List Byte) (i n : Nat) : Nat := beAt o (14 + i) n
/-- It is set. -/
def setRingField (o : List Byte) (i n v : Nat) : List Byte := setOctets o (14 + i) (beBytes v n)
/-- A bit of the flags octet. -/
def ringFlag (o : List Byte) (b : Nat) : Bool := ringField o 1 1 / 2 ^ b % 2 == 1
/-- It is set. -/
def setRingFlag (o : List Byte) (b : Nat) (v : Bool) : List Byte := if v then setRingField o 1 1 (Nat.lor (ringField o 1 1) (2 ^ b)) else o

/-- The links of a ring. -/
abbrev Dev.west (d : Dev) (k : Nat) : Nat := d.rd (F.RING_LINKS_WEST k)
abbrev Dev.east (d : Dev) (k : Nat) : Nat := d.rd (F.RING_LINKS_EAST k)

/-- A ring frame leaves on a link, protected where MACsec is on; with a corrupted FCS where `bad` (R204, R221, R223). -/
def Dev.ringSend (d : Dev) (n : Nat) (o : List Byte) (bad : Bool) : Dev :=
  if 24 ≤ n || !(d.ustate (0x010 + n) == 3 || d.ustate (0x010 + n) == 4) then d
  else match d.macsecTx n o with
    | (d, none) => d
    | (d, some o) =>
      let d := (d.linkCount n Lc.TX_FRAMES 1).linkCount n Lc.TX_OCTETS (o.length + 4)
      d.emit (if bad then .cut n o else .frame n o)

/-- A frame leaves forward: EAST, or WEST while the east side is wrapped (R214, R233). -/
def Dev.ringForward (d : Dev) (k : Nat) (o : List Byte) (bad : Bool) : Dev :=
  d.ringSend (if d.on (F.RING_STATUS_EAST_WRAP k) then d.west k else d.east k) o bad

/-- The time a token's train is measured from, and where in the train this instant lies, in octet times (R219). -/
def Dev.trainPos (d : Dev) (k : Nat) : Nat :=
  octetTimes (d.ringRate k) ((d.stcFine / 2 ^ 16 - (d.ring k).tokenAt) / 65536)

/-- A place in the train lies in the node's own window (R219). -/
def Dev.inOwnWindow (d : Dev) (k pos : Nat) : Bool :=
  let o := d.rd (F.RING_OFFSET_OFFSET k)
  o ≤ pos && pos < o + d.rd (F.RING_ALLOC_ALLOC k)

/-- A place in the train lies in asynchronous pass 2 or after it (R219). -/
def Dev.inPass2 (d : Dev) (k pos : Nat) : Bool :=
  match (d.ring k).table with
  | some t => t.s1 + t.p ≤ pos
  | none => false

/-! ### Reception on a boardwalk link (R221, R223) -/

/-- The ring that a link belongs to, and whether it is its WEST link. -/
def Dev.ringOfLink (d : Dev) (n : Nat) : Option (Nat × Bool) :=
  (List.range 12).findSome? (fun k =>
    if d.ustate (0x030 + k) = 0 then none
    else if d.west k = n then some (k, true) else if d.east k = n then some (k, false) else none)

/-- A frame of the forward direction has arrived: to be passed on, or acted on, or both. -/
def Dev.ringForwardIn (d : Dev) (k : Nat) (f : RingFrame) : Dev :=
  let sub := subtypeOf f.octets
  let foreign := sub = 0 || 6 < sub || ringField f.octets 1 1 / 16 ≠ 0
  if !f.fcsOk || foreign then d.updRing k (fun r => { r with pass := r.pass ++ [f] })
  else if sub = 3 || sub = 4 then d.updRing k (fun r => { r with pass := r.pass ++ [f], rx := r.rx ++ [f] })
  else if sub = 2 then d
  else d.updRing k (fun r => { r with rx := r.rx ++ [f] })

/-- A good frame counts towards the unwrapping of a wrapped side, a bad one starts the count again (R234). -/
def Dev.countGood (d : Dev) (k : Nat) (west good : Bool) : Dev :=
  d.updRing k (fun r =>
    if west then { r with goodWest := if good then r.goodWest + 1 else 0 }
    else { r with goodEast := if good then r.goodEast + 1 else 0 })

/-- A ring frame has come from a link (R214, R233). -/
def Dev.ringIn (d : Dev) (n : Nat) (o : List Byte) (fcsOk : Bool) (ts : Nat) : Dev :=
  match d.ringOfLink n with
  | none => d
  | some (k, west) =>
    if !d.ringPasses k then d
    else
      let f : RingFrame := { octets := o, fcsOk, west, ts, pos := d.trainPos k }
      let echo := fcsOk && subtypeOf o == 2
      if west then
        if d.on (F.RING_STATUS_WEST_WRAP k) then d.countGood k true (fcsOk && subtypeOf o == 1)
        else d.ringForwardIn k f
      else
        let d := if d.on (F.RING_STATUS_EAST_WRAP k) then d.countGood k false echo else d
        if echo then d.updRing k (fun r => { r with rx := r.rx ++ [f] })
        else if d.on (F.RING_STATUS_WEST_WRAP k) then d.ringForwardIn k f
        else d.updRing k (fun r => { r with pass := r.pass ++ [f] })

/-- Reception on a link in boardwalk mode: the steps of R184 up to MACsec, then the ring (R221). A frame with a bad FCS is
passed on (R223). -/
def Dev.rxBoardwalk (d : Dev) (n : Nat) (o : List Byte) (fcsOk : Bool) (sym corr uncorr : Nat) : Dev :=
  let bad := !fcsOk || uncorr ≠ 0
  let r := d.rxEarly n o fcsOk sym corr uncorr
  match r.2 with
  | none => if bad && d.ustate (0x010 + n) = 3 && 64 ≤ o.length + 4 then r.1.ringIn n o false 0 else r.1
  | some ts =>
    match r.1.macsecRx n o with
    | (d, none) => d
    | (d, some o) =>
      if beAt o 12 2 ≠ 0x88B5 then match d.ringOfLink n with
        | some (k, _) => d.ringCount k Rc.RX_NOT_RING 1
        | none => d
      else ((d.linkCount n Lc.RX_FRAMES 1).linkCount n Lc.RX_OCTETS (o.length + 4)).ringIn n o true ts

/-- RX_FRAME: a frame has been received on a link: its octets from DA to the end without FCS, whether its FCS was right,
and the symbol errors, corrected and uncorrectable FEC codewords seen with it (R184). -/
def execRxFrame (n : Fin 24) (o : List Byte) (fcsOk : Bool) (sym corr uncorr : Nat) (s : State) :
    Host.Outcome State Fault Refusal :=
  lift (fun d =>
    if d.replays (0x010 + n.val) then d
    else if d.boardwalk n.val then d.rxBoardwalk n.val o fcsOk sym corr uncorr
    else
      let r := d.rxEarly n.val o fcsOk sym corr uncorr
      match r.2 with
      | none => r.1
      | some ts => r.1.rxLate n.val o ts) s

/-- The first frame to be acted on that `p` holds of, and the rest. -/
def takeFirst (p : RingFrame → Bool) : List RingFrame → Option (RingFrame × List RingFrame)
  | [] => none
  | f :: fs => if p f then some (f, fs) else (takeFirst p fs).map (fun r => (r.1, f :: r.2))

/-- The first frame of a kind is taken from what a ring is to act on. -/
def Dev.takeRx (d : Dev) (k : Nat) (p : RingFrame → Bool) (go : Dev → RingFrame → Dev) : Dev :=
  if !d.ringPasses k then d
  else match takeFirst p (d.ring k).rx with
    | none => d
    | some (f, fs) => go (d.updRing k (fun r => { r with rx := fs })) f

/-- PASS_THROUGH: the oldest frame to be passed leaves (R223): reverse frames on WEST, a bad one with a corrupted FCS, a
foreign one as it is; what lies in the node's own window is discarded; the manager holds blocks and pass 1 of the other
positions for M cycles and passes nothing on (R224). -/
def execPassThrough (k : Fin 12) (s : State) : Host.Outcome State Fault Refusal :=
  lift (fun d =>
    let k := k.val
    match (d.ring k).pass with
    | [] => d
    | f :: fs =>
      let d := d.updRing k (fun r => { r with pass := fs })
      let sub := subtypeOf f.octets
      let m := d.rd (F.RING_STATUS_HOLD k)
      if !d.ringPasses k then d
      else if !f.west && !d.on (F.RING_STATUS_WEST_WRAP k) then d.ringSend (d.west k) f.octets (!f.fcsOk)
      else
        let foreign := sub = 0 || 6 < sub || ringField f.octets 1 1 / 16 ≠ 0
        let d := if !f.fcsOk then d.ringCount k Rc.PASS_STOMPED 1
          else if foreign then d.ringCount k Rc.RX_FOREIGN 1 else d
        if d.isManager k then
          let mine := sub = 3 && d.inOwnWindow k f.pos || ringField f.octets 4 1 % 64 = d.rd (F.RING_STATUS_POSITION k)
          if !f.fcsOk || foreign || m = 0 || mine || (sub = 4 && d.inPass2 k f.pos) then d
          else d.updRing k (fun r => { r with heldTrain := r.heldTrain ++ [(r.cycle + m, f.octets)] })
        else if f.fcsOk && sub = 3 && d.inOwnWindow k f.pos then d
        else d.ringForward k f.octets (!f.fcsOk)) s

/-! ### Asynchronous frames (R228, R229) -/

/-- A frame to be sent is dropped, whatever the reason. -/
def Dev.dropAsync (d : Dev) (f : TxFrame) : Dev := d.releaseTx f Rsn.CAPACITY

/-- The ASYNC frame of a queued frame (R226). -/
def Dev.asyncFrame (d : Dev) (k : Nat) (f : TxFrame) : List Byte :=
  d.ringFrame k 4 0 (beBytes (d.rd (F.RING_STATUS_POSITION k)) 1 ++ [0, 0, 0] ++ f.octets)

/-- A grant is used: the queued frames in order while each fits the rest (R228). -/
def Dev.useGrant (d : Dev) (k : Nat) : Nat → Nat → Dev
  | 0, _ => d
  | n + 1, rest =>
    match (d.ring k).queue with
    | [] => d
    | f :: fs =>
      let o := d.asyncFrame k f
      let occ := d.occupancy k (o.length + 4)
      if rest < occ then (d.ringCount k Rc.ASYNC_DEFERRED 1).updRing k (fun r => { r with big := true })
      else
        let d := (d.updRing k (fun r => { r with queue := fs })).ringForward k o false
        Dev.useGrant ((d.ringCount k Rc.ASYNC_TX 1).releaseTx f 0) k n (rest - occ)

/-- Queued frames that no longer fit a pass are dropped (R229). -/
def Dev.dropTooLong (d : Dev) (k p : Nat) : Dev :=
  let tooLong (f : TxFrame) : Bool := p < d.occupancy k (f.octets.length + 26)
  let q := (d.ring k).queue
  (d.updRing k (fun r => { r with queue := q.filter (fun f => !tooLong f) })).each (q.filter tooLong)
    (fun d f => (d.ringCount k Rc.TOO_LONG_FOR_RING 1).dropAsync f)

/-- RX_ASYNC: the oldest ASYNC frame is delivered to the switch core where the pass and its SRC say so (R229). Its class and
VID follow the registers of the ring's WEST link (DEDUCED, log 20). -/
def execRxAsync (k : Fin 12) (s : State) : Host.Outcome State Fault Refusal :=
  lift (fun d => d.takeRx k.val (fun f => subtypeOf f.octets == 4) (fun d f =>
    let k := k.val
    let me := d.rd (F.RING_STATUS_POSITION k)
    let src := ringField f.octets 4 1 % 64
    let mine := if d.isManager k then !d.inPass2 k f.pos && src != me
      else if d.inPass2 k f.pos then me < src else src < me
    if !mine || d.ustate (0x030 + k) ≠ 3 then d
    else
      let n := d.west k
      let o := f.octets.drop 22
      let tags := tagsOf (d.tpid n) o
      let vid := if tags = 0 || outerVid o = 0 then d.rd (F.LNK_VLAN_PVID n) else outerVid o
      let cls := d.classOfFrame n tags o
      let pcp := if tags = 0 then Config.freeNat d.free % 8 else outerPcp o
      let x : Frame := { octets := o, port := 24 + k, ts := f.ts, cls, vid, pcp, tags }
      let d := (d.when (tags = 0) Dev.draw).ringCount k Rc.ASYNC_RX 1
      let audio := d.rd (F.LNK_CLASS_AUDIO n) / 2 ^ cls % 2 = 1
      let r := d.ring k
      if (if audio then 32768 else 98304) < laneFill (if audio then r.audio else r.other) + o.length then
        (d.count (Ctr.PORT (24 + k) Pc.IN_OVERRUN) 1).portEvt (24 + k) 2
      else d.setRing k (if audio then { r with audio := r.audio ++ [x] } else { r with other := r.other ++ [x] }))) s

/-! ### Sample blocks (R226, R227) -/

/-- A block of a flow is discarded by the ring (R227, R283). -/
def Dev.dropBlock (d : Dev) (b : RingBlock) : Dev := d.flowDropped b.flow b.n 0

/-- The blocks of a window leave while each fits; from the first that does not, all are deferred, and discarded at the
fourth time (R227). -/
def Dev.sendBlocks (d : Dev) (k : Nat) : List RingBlock → Nat → Dev
  | [], _ => d
  | b :: bs, rest =>
    let occ := d.occupancy k (b.octets.length + 4)
    if occ ≤ rest then
      Dev.sendBlocks (((d.ringForward k b.octets false).ringCount k Rc.TX_BLOCKS 1).flowLeg b.flow b.n 0 true) k bs (rest - occ)
    else
      let late := (b :: bs).filter (fun x => 3 ≤ x.defers)
      let keep := ((b :: bs).filter (fun x => x.defers < 3)).map (fun x => { x with defers := x.defers + 1 })
      ((d.updRing k (fun r => { r with blocks := keep })).ringCount k Rc.ISO_DEFERRED (bs.length + 1)).each late
        (fun d x => (d.ringCount k Rc.ISO_STALE 1).dropBlock x)

/-- A block placed among others by its flow number (R227). -/
def insertBlock (b : RingBlock) : List RingBlock → List RingBlock
  | [] => [b]
  | c :: cs => if c.defers = 0 && b.flow < c.flow then b :: c :: cs else c :: insertBlock b cs

/-- WINDOW_START: the node's window begins (R227). -/
def execWindowStart (k : Fin 12) (s : State) : Host.Outcome State Fault Refusal :=
  lift (fun d =>
    let k := k.val
    if !d.ringSends k then d
    else
      let bs := (d.ring k).blocks
      let d := d.updRing k (fun r => { r with blocks := [] })
      let a := d.rd (F.RING_ALLOC_ALLOC k)
      if a = 0 then d.each bs (fun d b => (d.ringCount k Rc.ISO_NO_WINDOW 1).dropBlock b)
      else d.sendBlocks k bs a) s

/-- The tags of a block above 0x4, for so many samples from octet `i` on (R226). -/
def badBlockTags (o : List Byte) (i n : Nat) : Nat :=
  ((List.range n).filter (fun j => 4 < beAt o (i + j / 2) 1 / (if j % 2 = 0 then 16 else 1) % 16)).length

/-- The receive flow that a block of a ring is for (R270). -/
def Dev.blockFlow (d : Dev) (k : Nat) (o : List Byte) : Option Nat :=
  d.flowsOn.find? (fun f => !d.flowTx f && d.flowFmt f == 3 && d.flowPort f 0 == 24 + k &&
    d.flowDaddr f 0 0 % 65536 == ringField o 6 2)

/-- RX_BLOCK: the oldest sample block goes to its flow, through the flow's sluice (R226, R241, R270); a block of the node's
own window is discarded (R224). -/
def execRxBlock (k : Fin 12) (s : State) : Host.Outcome State Fault Refusal :=
  lift (fun d => d.takeRx k.val (fun f => subtypeOf f.octets == 3) (fun d f =>
    let k := k.val
    if d.inOwnWindow k f.pos || d.ustate (0x030 + k) ≠ 3 then d
    else
      let o := f.octets
      let n := ringField o 12 2 * ringField o 14 1
      let bytes := if ringFlag o 0 then 4 else 3
      let d := (d.ringCount k Rc.RX_BLOCKS 1).ringCount k Rc.RX_FOREIGN (badBlockTags o (30 + n * bytes) n)
      match d.blockFlow k o with
      | none => d
      | some g =>
        let r := d.throughSluice g (o.length + 4)
        if r.2 then r.1.giveFlow g { octets := o, tags := 0, leg := 0, ts := f.ts, pkt := none } else r.1)) s

/-! ### Tables (R220, R231, R232) -/

/-- The allocation of windows in position order (R220): ALLOC and OFFSET of each, and where the windows end. -/
def allocate (q g : Nat) : List Nat → Nat → List (Nat × Nat) × Nat
  | [], at_ => ([], at_)
  | iso :: rest, at_ =>
    let a := if at_ + iso + g ≤ q then iso else 0
    let r := allocate q g rest (at_ + a)
    ((a, at_) :: r.1, r.2)

/-- The table of a census (R219, R220). -/
def Dev.tableOf (d : Dev) (k : Nat) (es : List CensusEntry) : RingTable :=
  let q := d.ringQ k
  let g := d.ringG k
  let r := allocate q g (es.map (·.iso)) 964
  { ver := (d.rd (F.RING_STATUS_TABLE_VER k) + 1) % 256, s1 := r.2, p := (q - r.2 - g) / 2, slots := r.1 }

/-- The octets of a TABLE frame (R232). -/
def Dev.tableFrame (d : Dev) (k : Nat) (t : RingTable) : List Byte :=
  d.ringFrame k 6 0 (beBytes t.ver 1 ++ beBytes t.slots.length 1 ++ [0, 0] ++ beBytes t.s1 3 ++ beBytes t.p 3 ++
    t.slots.flatMap (fun s => beBytes s.1 3 ++ beBytes s.2 3))

/-- The table of a TABLE frame (R232). -/
def parseTable (o : List Byte) : RingTable :=
  { ver := ringField o 4 1, s1 := ringField o 8 3 % 2 ^ 20, p := ringField o 11 3 % 2 ^ 20,
    slots := (List.range (min 64 (ringField o 5 1))).map (fun i =>
      (ringField o (14 + 6 * i) 3 % 2 ^ 20, ringField o (17 + 6 * i) 3 % 2 ^ 20)) }

/-- A table comes into force on a node (R232, R236): its registers, TABLE, the state of the ring. -/
def Dev.applyTable (d : Dev) (k : Nat) (t : RingTable) : Dev :=
  let u := 0x030 + k
  let named := match (d.ring k).index with
    | some i => i < t.slots.length
    | none => false
  let pos := (d.ring k).index.getD 0
  let slot := if named then t.slots.getD pos (0, 0) else (0, 0)
  let iso := d.rd (F.RING_WIN_ISO_OCTETS k)
  let d := d.updRing k (fun r => { r with table := some t, stored := none })
  let d := (d.wr (F.RING_STATUS_TABLE_VER k) t.ver).wr (F.RING_STATUS_NODES k) t.slots.length
  let d := (d.wr (F.RING_STATUS_POSITION k) pos).wr (F.RING_STATUS_GRANTED k) (if named && slot.1 = iso then 1 else 0)
  let d := ((d.wr (F.RING_ALLOC_ALLOC k) slot.1).wr (F.RING_OFFSET_OFFSET k) slot.2).wr (F.RING_ASYNC_PASS k) t.p
  let d := (d.ringCount k Rc.TABLES_APPLIED 1).ringEvt k 2
  let d := d.when (slot.1 < iso) (fun d => d.ringEvt k 5)
  let d := d.dropTooLong k t.p
  let linksUp := d.ustate (0x010 + d.west k) = 3 && d.ustate (0x010 + d.east k) = 3
  if named then if d.ustate u = 2 && linksUp then d.acquired u else d
  else d.inputLost u

/-- RX_TABLE: a TABLE frame has arrived. A node stores it and passes it on; at the manager whose frame it is, the intact
return lets the next token carry its version (R232). -/
def execRxTable (k : Fin 12) (s : State) : Host.Outcome State Fault Refusal :=
  lift (fun d => d.takeRx k.val (fun f => subtypeOf f.octets == 6) (fun d f =>
    let k := k.val
    let t := parseTable f.octets
    if d.isManager k && beAt f.octets 6 6 == d.ringName k then
      d.updRing k (fun r => if r.tableOut = some t then { r with tableOut := none, stored := some t, unstable := false } else r)
    else (d.updRing k (fun r => { r with stored := some t })).ringForward k f.octets false)) s

/-- TABLE_SEND: with a stable result, or where a node misses the table, the manager sends it (R232). -/
def execTableSend (k : Fin 12) (s : State) : Host.Outcome State Fault Refusal :=
  lift (fun d =>
    let k := k.val
    let r := d.ring k
    if !d.isManager k || !d.ringPasses k then d
    else match r.tableDue, r.lastCensus, r.tableAgain, r.table with
      | true, some es, _, _ =>
        let t := d.tableOf k es
        let d := d.updRing k (fun r => { r with tableDue := false, tableAgain := false, tableOut := some t, census := es, index := some 0 })
        d.ringForward k (d.tableFrame k t) false
      | _, _, true, some t => (d.updRing k (fun r => { r with tableAgain := false })).ringForward k (d.tableFrame k t) false
      | _, _, _, _ => d) s

/-! ### Census (R230, R231) -/

/-- The node's census entry (R230). -/
def Dev.censusEntry (d : Dev) (k : Nat) : List Byte :=
  let flags := (if d.ustate (0x030 + k) = 2 then 1 else 0) + d.rd (F.RING_STATUS_EAST_WRAP k) * 2 +
    d.rd (F.RING_STATUS_WEST_WRAP k) * 4
  beBytes (d.ringName k) 6 ++ beBytes (d.rd (F.RING_CTRL_MGR_PRIO k)) 1 ++ beBytes flags 1 ++
    beBytes (d.rd (F.RING_WIN_ISO_OCTETS k)) 3 ++ [0]

/-- The entries of a census frame. -/
def parseCensus (o : List Byte) : List CensusEntry :=
  (List.range (min 64 (ringField o 6 1))).map (fun i =>
    { name := ringField o (7 + 12 * i) 6, prio := ringField o (13 + 12 * i) 1, flags := ringField o (14 + 12 * i) 1,
      iso := ringField o (15 + 12 * i) 3 % 2 ^ 20 })

/-- Two results agree in COUNT and every entry except the flags (R232). -/
def censusAgrees (a b : List CensusEntry) : Bool :=
  a.map (fun e => (e.name, e.prio, e.iso)) == b.map (fun e => (e.name, e.prio, e.iso))

/-- The manager sends a census with its own entry first (R230). -/
def Dev.censusStart (d : Dev) (k : Nat) : Dev :=
  let r := d.ring k
  if !d.isManager k || !d.ringPasses k then d
  else
    let o := d.ringFrame k 5 0 (beBytes r.epoch 2 ++ beBytes 1 1 ++ d.censusEntry k ++ List.replicate (63 * 12 + 1) 0)
    let d := d.updRing k (fun r => { r with
      censusDue := false, changeSeen := false, censusOut := some (r.epoch, r.cycle),
      epoch := (r.epoch + 1) % 65536, index := some 0 })
    (d.ringCount k Rc.CENSUS_STARTED 1).ringForward k o false

/-- CENSUS_START (R230). -/
def execCensusStart (k : Fin 12) (s : State) : Host.Outcome State Fault Refusal :=
  lift (fun d => if (d.ring k.val).censusDue then d.censusStart k.val else d) s

/-- CENSUS_PERIOD_EXPIRE: PERIOD × 100 ms have passed (R216, R230). -/
def execCensusPeriodExpire (k : Fin 12) (s : State) : Host.Outcome State Fault Refusal :=
  lift (fun d => if d.on (F.RING_CENSUS_PERIOD k.val) && (d.ring k.val).censusOut.isNone then d.censusStart k.val else d) s

/-- A census is aborted and is to be started again (R231). -/
def Dev.censusAbort (d : Dev) (k : Nat) : Dev :=
  (d.updRing k (fun r => { r with censusOut := none, censusDue := true, unstable := true, lastCensus := none })).ringCount k
    Rc.CENSUS_ABORTED 1

/-- RX_CENSUS: a node that the census passes writes its entry at COUNT, which is its position, and counts it (R230). -/
def execRxCensus (k : Fin 12) (s : State) : Host.Outcome State Fault Refusal :=
  lift (fun d =>
    let own (f : RingFrame) : Bool := d.isManager k.val && beAt f.octets 6 6 == d.ringName k.val
    d.takeRx k.val (fun f => subtypeOf f.octets == 5 && !own f) (fun d f =>
      let k := k.val
      let c := ringField f.octets 6 1
      if 64 ≤ c then d.ringForward k f.octets false
      else
        let o := setRingField (setOctets f.octets (14 + 7 + 12 * c) (d.censusEntry k)) 6 1 (c + 1)
        (d.updRing k (fun r => { r with index := some c })).ringForward k o false)) s

/-- CENSUS_RETURN: the manager's census has returned. It completes, or is aborted; two that agree make the result stable
(R231, R232). -/
def execCensusReturn (k : Fin 12) (s : State) : Host.Outcome State Fault Refusal :=
  lift (fun d => d.takeRx k.val (fun f => subtypeOf f.octets == 5 && d.isManager k.val && beAt f.octets 6 6 == d.ringName k.val)
    (fun d f =>
      let k := k.val
      let r := d.ring k
      match r.censusOut with
      | none => d
      | some (epoch, at_) =>
        let es := parseCensus f.octets
        let names := es.map (·.name)
        if ringField f.octets 4 2 ≠ epoch || r.changeSeen || names.eraseDups.length ≠ names.length ||
            at_ + d.rd (F.RING_STATUS_HOLD k) + 1 < r.cycle then d.censusAbort k
        else
          let again := match r.lastCensus with
            | some l => censusAgrees l es
            | none => false
          let differs := r.table.isNone || !censusAgrees r.census es
          let unstable := r.unstable || differs
          d.updRing k (fun r => { r with
            censusOut := none, lastCensus := some es, unstable,
            censusDue := unstable && !again, tableDue := r.tableDue || (unstable && again) }))) s

/-! ### Wrapping (R233, R234) -/

/-- The node announces a change in the tokens of two cycles (R230). -/
def Dev.ringChanged (d : Dev) (k : Nat) : Dev := d.updRing k (fun r => { r with changeFor := 2 })

/-- LINK_DOWN: loss of PCS lock (0), a restart of auto-negotiation (1), or REMOTE_FAULT (2) on a link (R182, R183). -/
def execLinkDown (n : Fin 24) (cause : Fin 3) (s : State) : Host.Outcome State Fault Refusal :=
  lift (fun d => (d.linkDown n.val cause.val).linkChanged n.val) s

/-- LINK_HOLD_EXPIRE: PCS_LOCK, and AN_DONE where it applies, have held for LINK_HOLD ms in SYNCING (R181). -/
def execLinkHoldExpire (n : Fin 24) (s : State) : Host.Outcome State Fault Refusal :=
  lift (fun d =>
    let u := 0x010 + n.val
    if d.ustate u = 2 && d.on (F.LNK_STATUS_PCS_LOCK n.val) &&
        (!d.anApplies n.val || d.on (F.LNK_STATUS_AN_DONE n.val)) then
      (((d.wr (F.LNK_STATUS_LINK_UP n.val) 1).leaf u (A.LNK_EVT n.val) 0).acquired u).linkChanged n.val
    else d) s

/-- RING_WRAP: a side of the ring wraps (R233). -/
def execRingWrap (k : Fin 12) (west : Bool) (s : State) : Host.Outcome State Fault Refusal :=
  lift (fun d =>
    let k := k.val
    let f := if west then F.RING_STATUS_WEST_WRAP k else F.RING_STATUS_EAST_WRAP k
    if !d.ringPasses k || d.on f then d
    else
      let d := (d.wr f 1).updRing k (fun r =>
        if west then { r with goodWest := 0, unwrapAt := none } else { r with goodEast := 0, unwrapAt := none })
      ((d.ringChanged k).ringCount k Rc.WRAPS 1).ringEvt k 0) s

/-- RING_UNWRAP: at the cycle that UNWRAP_AT names the node's folds are removed (R234). -/
def execRingUnwrap (k : Fin 12) (s : State) : Host.Outcome State Fault Refusal :=
  lift (fun d =>
    let k := k.val
    let r := d.ring k
    let wrapped := d.on (F.RING_STATUS_WEST_WRAP k) || d.on (F.RING_STATUS_EAST_WRAP k)
    if !wrapped || r.unwrapAt ≠ some (r.cycle % 256) then d
    else
      let d := (d.wr (F.RING_STATUS_WEST_WRAP k) 0).wr (F.RING_STATUS_EAST_WRAP k) 0
      let d := d.updRing k (fun r => { r with unwrapAt := none, goodWest := 0, goodEast := 0 })
      ((d.ringChanged k).ringCount k Rc.UNWRAPS 1).ringEvt k 1) s

/-! ### Tokens (R215, R222, R235–R237) -/

/-- The pass-through time of a token, measured: within the bound of R223, otherwise a free value (log 21). -/
def Dev.passTime (d : Dev) (k : Nat) : Nat :=
  let most := match d.rd (F.LNK_CTRL_SPEED (d.west k)) with
    | 2 => 640 | 3 => 320 | 4 => 200 | 5 => 480 | _ => 1440
  Config.freeNat d.free % (most * 65536 + 1)

/-- The mean of some values, rounded down; 0 for none (log 28). -/
def meanInt (xs : List Int) : Int := if xs.isEmpty then 0 else xs.foldl (· + ·) 0 / xs.length

/-- The delay of the west link is measured where the token's TURN belongs to the node's last echo (R235, R304). -/
def Dev.measureWest (d : Dev) (k ts : Nat) (o : List Byte) : Dev :=
  let r := d.ring k
  let n := d.west k
  if ringField o 54 2 ≠ r.echoSent.1 % 65536 then d
  else
    let raw : Int := ((ts : Int) - r.echoSent.2 - ringField o 48 6) / 2
    let asym : Int := if d.on (F.LNK_PTP_CTRL_ASYM_EN n) then toSigned 32 (d.reg (A.LNK_PTP_ASYM n)).toNat else 0
    let ds := (raw + asym) :: r.delays.take 15
    (d.updRing k (fun r => { r with delays := ds })).setReg (A.RING_WDELAY k) (BitVec.ofNat 32 (ofSigned 32 (meanInt ds)))

/-- T64 in nanoseconds. -/
def nsOfT64 (t : Nat) : Nat := t / 2 ^ 30 * 1000000000 + t % 2 ^ 30

/-- The offset of the STC to ring time at a token (R235). -/
def Dev.measureOffset (d : Dev) (k ts : Nat) (o : List Byte) : Dev :=
  let ring : Int := (nsOfT64 (ringField o 8 8) : Int) * 65536 + ringField o 16 8 + (d.reg (A.RING_WDELAY k)).toNat
  let ofs := clampInt (-2147483648) 2147483647 (((ts : Int) - ring) / 65536)
  (d.updRing k (fun r => { r with offsets := ofs :: r.offsets.take 63 })).setReg (A.RING_TOFS k)
    (BitVec.ofNat 32 (ofSigned 32 ofs))

/-- What a token tells a node is taken over: M, RTT, STABLE, UNWRAP_AT (R216, R222). -/
def Dev.readToken (d : Dev) (k : Nat) (o : List Byte) : Dev :=
  let d := (d.wr (F.RING_STATUS_HOLD k) (ringField o 30 1 / 64)).wr (F.RING_RTT_RTT k) (ringField o 60 4 % 2 ^ 20)
  let d := d.wr (F.RING_STATUS_STABLE k) (if ringFlag o 2 then 0 else 1)
  if ringField o 57 1 % 2 = 1 then d.updRing k (fun r => { r with unwrapAt := some (ringField o 56 1) }) else d

/-- The table that a token names comes into force, or is missing (R232). -/
def Dev.tableForToken (d : Dev) (k ver : Nat) : Dev :=
  let r := d.ring k
  let inForce := match r.table with
    | some t => t.ver == ver
    | none => false
  match r.stored with
  | some t => if t.ver = ver then (d.applyTable k t).updRing k (fun r => { r with silent := false })
      else if inForce then d.updRing k (fun r => { r with silent := false })
      else (d.updRing k (fun r => { r with silent := true })).ringCount k Rc.TABLE_MISSING 1
  | none =>
    if inForce then d.updRing k (fun r => { r with silent := false })
    else if ver = 0 && r.table.isNone then d.updRing k (fun r => { r with silent := true })
    else (d.updRing k (fun r => { r with silent := true })).ringCount k Rc.TABLE_MISSING 1

/-- The node's bits and fields of a token that it sends on (R222): WRAPPED, CHANGE, MISSING, PENDING, BIG, TURN, ECHO_SEQ,
UNWRAP_AT. `t3` is the token's departure. -/
def Dev.markToken (d : Dev) (k t3 : Nat) (missing : Bool) (o : List Byte) : List Byte :=
  let r := d.ring k
  let pos := d.rd (F.RING_STATUS_POSITION k)
  let sends := d.ustate (0x030 + k) == 3 && r.table.isSome
  let o := setRingFlag o 3 (d.on (F.RING_STATUS_WEST_WRAP k) || d.on (F.RING_STATUS_EAST_WRAP k))
  let o := setRingFlag o 1 (r.changeFor != 0)
  let o := setRingFlag o 0 missing
  let o := if sends && !r.queue.isEmpty then setRingField o 32 8 (Nat.lor (ringField o 32 8) (2 ^ pos)) else o
  let o := if sends && r.big then setRingField o 40 8 (Nat.lor (ringField o 40 8) (2 ^ pos)) else o
  let o := setRingField (setRingField o 48 6 (t3 - r.echoRx.2)) 54 2 r.echoRx.1
  if d.on (F.RING_STATUS_EAST_WRAP k) && 2 ≤ r.goodEast && ringField o 57 1 % 2 = 0 then
    setRingField (setRingField o 56 1 (ringField o 4 4 + 2)) 57 1 1
  else o

/-- The grants of a token for this node are used (R228). -/
def Dev.useGrants (d : Dev) (k : Nat) (o : List Byte) : Dev :=
  if !d.ringSends k then d
  else
    let me := d.rd (F.RING_STATUS_POSITION k)
    d.each [0, 1, 2, 3] (fun d i =>
      let g := ringField o (64 + 4 * i) 4
      if g / 2 ^ 31 = 1 && g / 2 ^ 24 % 64 = me then
        (d.updRing k (fun r => { r with big := false })).useGrant k 4096 (g % 2 ^ 20)
      else d)

/-- A token that a node forwards (R222, R235). -/
def Dev.forwardToken (d : Dev) (k : Nat) (f : RingFrame) (rank : Nat × Nat) : Dev :=
  let o := f.octets
  let d := d.updRing k (fun r => { r with
    manager := some rank, cycle := ringField o 4 4, forwarded := some (ringField o 4 4),
    tokenAt := d.stcFine / 2 ^ 16 })
  let d := ((d.measureWest k f.ts o).measureOffset k f.ts o).readToken k o
  let d := d.tableForToken k (ringField o 31 1)
  let pass := d.passTime k
  let d := d.draw
  let corr := ringField o 16 8 + (d.reg (A.RING_WDELAY k)).toNat + pass
  let o := setRingField (d.markToken k (f.ts + pass) (d.ring k).silent o) 16 8 corr
  let d := (d.updRing k (fun r => { r with changeFor := r.changeFor - 1 })).ringCount k Rc.TOKENS_FWD 1
  (d.ringForward k o false).useGrants k o

/-- A token is the node's own, to be stripped by its manager (R237). -/
def Dev.ownToken (d : Dev) (k : Nat) (o : List Byte) : Bool := d.isManager k && ringField o 24 6 == d.ringName k

/-- RX_TOKEN: the oldest token that is not the node's own (R215, R222, R236): foreign ones are passed through, lower-ranked
ones and a second one of a cycle absorbed, the others forwarded. -/
def execRxToken (k : Fin 12) (s : State) : Host.Outcome State Fault Refusal :=
  lift (fun d => d.takeRx k.val (fun f => subtypeOf f.octets == 1 && !d.ownToken k.val f.octets) (fun d f =>
    let k := k.val
    let o := f.octets
    let rank := (ringField o 30 1 % 16, ringField o 24 6)
    if ringField o 2 2 ≠ d.rd (F.RING_CTRL_RING_ID k) || ringField o 30 1 / 16 % 4 ≠ d.rd (F.RING_CTRL_CYCLE k) then
      ((d.ringCount k Rc.RX_FOREIGN 1).ringEvt k 7).ringForward k o false
    else
      let d := d.ringCount k Rc.TOKENS_RX 1
      let r := d.ring k
      let low := match r.manager with
        | some m => outranks m rank
        | none => false
      if low || r.forwarded = some (ringField o 4 4) then d.ringCount k Rc.TOKENS_ABSORBED 1
      else
        let d := d.when (d.isManager k) (fun d => d.updRing k (fun r => { r with stepDown := true }))
        d.forwardToken k f rank)) s

/-- M for a round trip (R224): the smallest of 1 and 2 for which RTT + 1,000 ns ≤ M × C; 0 beyond. -/
def holdOf (rtt c : Nat) : Nat := if rtt + 1000 ≤ c then 1 else if rtt + 1000 ≤ 2 * c then 2 else 0

/-- The positions whose PENDING bit is set, round robin after the last one granted (R228). -/
def pendingPositions (pending last : Nat) : List Nat :=
  ((List.range 64).map (fun i => (last + 1 + i) % 64)).filter (fun p => pending / 2 ^ p % 2 == 1)

/-- The grants that the manager builds (R228). -/
def grantsOf (p pending bigs last : Nat) : List (Nat × Nat) :=
  match pendingPositions pending last with
  | [] => []
  | a :: rest =>
    if bigs / 2 ^ a % 2 = 1 then [(a, p)]
    else
      let ps := (a :: rest).take 4
      let n := ps.length
      ps.zipIdx.map (fun e => (e.1, p / n + (if e.2 + 1 = n then p % n else 0)))

/-- TOKEN_RETURN: the manager's token has returned: stripped; the round trip gives M; CHANGE and MISSING are heeded; the
grants of the next token are built (R224, R228, R230–R232, R237). -/
def execTokenReturn (k : Fin 12) (s : State) : Host.Outcome State Fault Refusal :=
  lift (fun d => d.takeRx k.val (fun f => subtypeOf f.octets == 1 && d.ownToken k.val f.octets) (fun d f =>
    let k := k.val
    let o := f.octets
    let d := (d.ringCount k Rc.TOKENS_RX 1).ringCount k Rc.TOKENS_STRIPPED 1
    let now := d.stcFine / 2 ^ 16
    let rtt := (now - (d.ring k).tokenAt) / 65536
    let m := holdOf rtt (d.ringCycle k)
    let p := match (d.ring k).table with
      | some t => t.p
      | none => 0
    let last := (d.ring k).lastGrant
    let gs := grantsOf p (ringField o 32 8) (ringField o 40 8) last
    let d := (d.wr (F.RING_STATUS_HOLD k) m).wr (F.RING_RTT_RTT k) (rtt % 2 ^ 20)
    let d := d.updRing k (fun r => { r with
      tokenOut := false, tokenAt := now,
      grants := gs, lastGrant := match gs.getLast? with
        | some g => g.1
        | none => last,
      changeSeen := r.changeSeen || ringFlag o 1, censusDue := r.censusDue || (ringFlag o 1 && r.censusOut.isNone),
      tableAgain := r.tableAgain || (ringFlag o 0 && r.table.isSome),
      unwrapAt := if ringField o 57 1 % 2 = 1 && ringField o 56 1 ≠ ringField o 4 4 % 256 then some (ringField o 56 1)
        else r.unwrapAt })
    if m = 0 then (d.updRing k (fun r => { r with heldTrain := [] })).ringEvt k 6 else d)) s

/-- The token of the manager (R222). -/
def Dev.newToken (d : Dev) (k : Nat) : List Byte :=
  let r := d.ring k
  let c := d.ringCycle k
  let t := d.stcNs / c * c
  let grant (i : Nat) : Nat := match r.grants[i]? with
    | some g => 2 ^ 31 + g.1 * 2 ^ 24 + g.2 % 2 ^ 20
    | none => 0
  let o := d.ringFrame k 1 (if r.unstable then 4 else 0) (List.replicate 106 0)
  let o := setRingField o 4 4 (d.stcNs / c)
  let o := setRingField o 8 8 (t64Of t)
  let o := setRingField o 16 8 ((d.stcFine / 2 ^ 16 - t * 65536) % 2 ^ 64)
  let o := setRingField o 24 6 (d.ringName k)
  let o := setRingField o 30 1 (d.rd (F.RING_CTRL_MGR_PRIO k) + d.rd (F.RING_CTRL_CYCLE k) * 16 + d.rd (F.RING_STATUS_HOLD k) * 64)
  let o := setRingField o 31 1 (d.rd (F.RING_STATUS_TABLE_VER k))
  let o := setRingField o 60 4 (d.rd (F.RING_RTT_RTT k))
  let o := match r.unwrapAt with
    | some u => setRingField (setRingField o 56 1 u) 57 1 1
    | none => o
  [0, 1, 2, 3].foldl (fun o i => setRingField o (64 + 4 * i) 4 (grant i)) o

/-- TOKEN_EMIT: at the start of a cycle the manager emits a token, and after it the train it holds for this cycle (R215,
R222, R224, R235, R237). One that has received a higher-ranked manager's token stops instead. -/
def execTokenEmit (k : Fin 12) (s : State) : Host.Outcome State Fault Refusal :=
  lift (fun d =>
    let k := k.val
    if !d.isManager k || !d.ringPasses k then d
    else if (d.ring k).stepDown then
      ((d.wr (F.RING_STATUS_ROLE k) 1).updRing k (fun r => { r with
        stepDown := false, tokenOut := false, heldTrain := [],
        censusOut := none, censusDue := false, tableDue := false, tableOut := none })).ringEvt k 3
    else
      let cyc := d.stcNs / d.ringCycle k % 2 ^ 32
      let d := if (d.ring k).tokenOut then (d.ringCount k Rc.TOKEN_REGEN 1).count Ctr.REGEN_TOKEN 1 else d
      let d := match (d.ring k).stored with
        | some t => d.applyTable k t
        | none => d
      let d := match (d.ring k).censusOut with
        | some (_, at_) => if at_ + d.rd (F.RING_STATUS_HOLD k) + 1 < cyc then d.censusAbort k else d
        | none => d
      let d := d.when (d.rd (F.RING_STATUS_HOLD k) = 0 && (d.ring k).table.isSome) (fun d => d.ringCount k Rc.PAST_MGR_STOPPED 1)
      let d := d.updRing k (fun r => { r with
        cycle := cyc, forwarded := some cyc, manager := some (d.ringRank k),
        tokenAt := d.stcFine / 2 ^ 16, tokenOut := true, silent := false })
      let d := d.wr (F.RING_STATUS_STABLE k) (if (d.ring k).unstable then 0 else 1)
      let o := d.markToken k (d.stcFine / 2 ^ 16) false (d.newToken k)
      let d := d.updRing k (fun r => { r with changeFor := r.changeFor - 1, grants := [] })
      let reached := !(d.on (F.RING_STATUS_WEST_WRAP k) || d.on (F.RING_STATUS_EAST_WRAP k)) && (d.ring k).unwrapAt = some (cyc % 256)
      let d := d.when reached (fun d => d.updRing k (fun r => { r with unwrapAt := none }))
      let d := (d.ringCount k Rc.TOKENS_GEN 1).ringCount k Rc.TOKENS_FWD 1
      let d := (d.ringForward k o false).useGrants k o
      let due := (d.ring k).heldTrain.filter (fun h => h.1 ≤ cyc)
      let d := d.updRing k (fun r => { r with heldTrain := r.heldTrain.filter (fun h => cyc < h.1) })
      d.each due (fun d h => d.ringForward k h.2 false)) s

/-- MANAGER_ELECTION_TIMEOUT: a node that may be manager has seen no token for 4 + 16 − MGR_PRIO cycle periods: it starts as
manager, with a census (R215, R230). -/
def execManagerElectionTimeout (k : Fin 12) (s : State) : Host.Outcome State Fault Refusal :=
  lift (fun d =>
    let k := k.val
    let st := d.ustate (0x030 + k)
    if (st != 2 && st != 3) || d.isManager k || !d.on (F.RING_CTRL_MGR_PRIO k) || !d.ringPasses k then d
    else
      let d := d.updRing k (fun r => { r with
        manager := some (d.ringRank k), forwarded := none, tokenOut := false,
        stepDown := false, censusDue := true, unstable := true, lastCensus := none, censusOut := none, index := some 0 })
      (d.wr (F.RING_STATUS_ROLE k) 2).ringEvt k 3) s

/-- RING_TOKEN_LOSS: no token for 4 cycle periods (R215, R236). -/
def execRingTokenLoss (k : Fin 12) (s : State) : Host.Outcome State Fault Refusal :=
  lift (fun d =>
    if d.isManager k.val then d
    else (d.updRing k.val (fun r => { r with manager := none, forwarded := none })).inputLost (0x030 + k.val)) s

/-- TOKEN_MISS: an expected token has not arrived in its cycle (R237). -/
def execTokenMiss (k : Fin 12) (s : State) : Host.Outcome State Fault Refusal :=
  lift (fun d =>
    let k := k.val
    if !d.ringPasses k || d.isManager k then d
    else ((d.updRing k (fun r => { r with silent := true, cycle := (r.cycle + 1) % 2 ^ 32 })).ringCount k Rc.TOKEN_MISSED 1).ringEvt
      k 4) s

/-- ECHO_SEND: in the guard of a cycle the node sends its echo on WEST, with NOTOKEN if no token came (R222, R229). -/
def execEchoSend (k : Fin 12) (s : State) : Host.Outcome State Fault Refusal :=
  lift (fun d =>
    let k := k.val
    if !d.ringPasses k then d
    else
      let r := d.ring k
      let noToken := !d.isManager k && r.forwarded ≠ some r.cycle
      let o := d.ringFrame k 2 (if noToken then 8 else 0)
        (beBytes r.cycle 4 ++ beBytes (d.ringName k) 6 ++ List.replicate 32 0)
      let t1 := d.stamp (d.west k) (d.reg (A.LNK_TS_TX_DELAY (d.west k))).toNat
      (d.draw.updRing k (fun r => { r with echoSent := (r.cycle, t1) })).ringSend (d.west k) o false) s

/-- RX_ECHO: the next node's echo has arrived on EAST: its arrival gives TURN of the next token (R235). -/
def execRxEcho (k : Fin 12) (s : State) : Host.Outcome State Fault Refusal :=
  lift (fun d => d.takeRx k.val (fun f => subtypeOf f.octets == 2) (fun d f =>
    d.updRing k.val (fun r => { r with echoRx := (ringField f.octets 4 4 % 65536, f.ts) }))) s

end Sys2Proof.Machine
end

