-- ==== Sys2Proof/Machine/Streams.lean ====
section
/-! DEFINITION. Stream engines and flows (R258–R292): a received packet, its media time, the acceptance window; a transmitted
packet; legs, and the return to SYNCING. What a tick does to flows is in Ticks. -/
namespace Sys2Proof.Machine

/-- A parsed packet: its timestamp, its SSRC, the media time of an AVTP packet that carries none (2⁻¹⁶ ns), and its samples
period by period. -/
structure Parsed where
  ts : Nat
  ssrc : Option Nat := none
  time : Option Nat := none
  samples : List (List Sample)
deriving DecidableEq, Repr

/-- A list cut in pieces of `n`. -/
def pieces {α : Type} (n : Nat) : Nat → List α → List (List α)
  | 0, _ => []
  | k + 1, xs => xs.take n :: pieces n k (xs.drop n)

/-- A sample of `bytes` octets as Q1.31 (R266). -/
def sampleOf (bytes : Nat) (o : List Byte) : Word := BitVec.ofNat 32 (beAt o 0 bytes * 2 ^ (32 - 8 * bytes))

/-- The samples of a payload of `chans` channels and `n` periods, VALID (R266). -/
def payloadSamples (bytes chans n : Nat) (o : List Byte) : List (List Sample) :=
  pieces chans n ((pieces bytes (chans * n) o).map (fun b => { v := sampleOf bytes b, tag := 0 }))

/-- The RTP payload of a UDP payload (R266): what is after the CSRC list and the extension, without padding. -/
def rtpPayload (o : List Byte) : Option (List Byte) :=
  let b0 := beAt o 0 1
  let h := 12 + b0 % 16 * 4
  let h := if b0 / 16 % 2 = 1 then h + 4 + beAt o (h + 2) 2 * 4 else h
  if o.length < h || b0 / 64 ≠ 2 then none
  else if b0 / 32 % 2 = 1 then
    let pad := beAt o (o.length - 1) 1
    if pad = 0 || o.length < h + pad then none else some ((o.drop h).take (o.length - h - pad))
  else some (o.drop h)

/-- A packet of an RTP flow (R266). -/
def Dev.parseRtp (d : Dev) (f : Nat) (p : FlowPacket) : Option Parsed :=
  let o := p.octets
  let t := p.tags
  let l3 := l3Of t
  let l4 := l4Of t o
  let len := beAt o (l4 + 4) 2
  let u := (o.drop (l4 + 8)).take (len - 8)
  let header :=
    if d.flowFmt f = 0 then
      isV4 t o && 5 ≤ beAt o l3 1 % 16 && beAt o (l3 + 6) 2 % 16384 == 0 &&
        foldSum (onesSum ((o.drop l3).take (beAt o l3 1 % 16 * 4))) == 65535
    else isV6 t o && beAt o (l3 + 6) 1 == 17
  let sum := beAt o (l4 + 6) 2
  let sumOk := if sum = 0 then d.flowFmt f == 0 else sum == udpSum t o
  if !header || !isUdp t o || udpDst t o != d.rd (F.FLOW_UDP_DPORT f) || len < 20 || o.length < l4 + len || !sumOk then none
  else match rtpPayload u with
    | none => none
    | some data =>
      let ssrc := beAt u 8 4
      if (!d.on (F.FLOW_IPOPT_PT_ANY f) && beAt u 1 1 % 128 != d.rd (F.FLOW_RTP_PT f)) ||
          (d.on (F.FLOW_IPOPT_SSRC_FILT f) && ssrc != d.rd (F.FLOW_SSRC_SSRC f)) ||
          data.length != d.flowChans f * d.flowSpp f * d.flowBytes f then none
      else some { ts := beAt u 4 4, ssrc := some ssrc,
                  samples := payloadSamples (d.flowBytes f) (d.flowChans f) (d.flowSpp f) data }

/-- A packet of an AVTP flow (R268; the places of the header fields are those of IEEE 1722-2016: PRESUMED, log 25). A packet
with tv 0 and no earlier one with tv 1 has no media time and fails (DESIGN CHOICE, log 25). -/
def Dev.parseAvtp (d : Dev) (f : Nat) (p : FlowPacket) : Option Parsed :=
  let o := p.octets.drop (l3Of p.tags)
  let tv := beAt o 1 1 % 2 == 1
  let sp := beAt o 22 1 / 16 % 2 == 1
  let len := d.flowChans f * d.flowSpp f * d.flowBytes f
  let step := d.flowSpp f * 65536 * 1000000000
  let time := match (d.flow f).avtp with
    | some (t, n) => some (t + (n + 1) * step / d.flowHz f)
    | none => none
  if beAt o 0 1 != 2 || beAt o 1 1 / 128 != 1 || beAt o 1 1 / 16 % 8 != 0 || (!sp && !tv) || (!tv && time.isNone) ||
      beAt o 16 1 != 6 - d.flowBytes f || beAt o 17 1 / 16 != d.rd (F.FLOW_CFG_RATE f) + 4 ||
      beAt o 17 2 % 1024 != d.flowChans f || beAt o 19 1 == 0 || 8 * d.flowBytes f < beAt o 19 1 ||
      beAt o 20 2 != len || o.length < 24 + len then none
  else some { ts := beAt o 12 4, time := if tv then none else time,
              samples := payloadSamples (d.flowBytes f) (d.flowChans f) (d.flowSpp f) (o.drop 24) }

/-- A sample block for a flow (R226, R269): its tags as carried; one above 0x4 is MUTED zero. -/
def Dev.parseBlock (d : Dev) (f : Nat) (p : FlowPacket) : Option Parsed :=
  let o := p.octets
  let chans := ringField o 12 2
  let n := ringField o 14 1
  let bytes := if ringFlag o 0 then 4 else 3
  if chans != d.flowChans f || ringField o 5 1 != d.rd (F.FLOW_CFG_RATE f) || bytes != d.flowBytes f || n == 0 ||
      o.length + 4 < blockLen chans n bytes then none
  else
    let tagAt (j : Nat) : Nat := beAt o (30 + chans * n * bytes + j / 2) 1 / (if j % 2 = 0 then 16 else 1) % 16
    let all := (payloadSamples bytes (chans * n) 1 (o.drop 30)).flatten.zipIdx.map (fun s =>
      if 4 < tagAt s.2 then ({} : Sample) else { v := s.1.v, tag := tagAt s.2 })
    some { ts := ringField o 8 4, samples := pieces chans n all }

/-- A packet is parsed by the flow's format; none where a check fails (R266, R268, R269). -/
def Dev.parsePacket (d : Dev) (f : Nat) (p : FlowPacket) : Option Parsed :=
  match d.flowFmt f with
  | 0 => d.parseRtp f p
  | 1 => d.parseRtp f p
  | 2 => d.parseAvtp f p
  | _ => d.parseBlock f p

/-- `x` divided by `n`, rounded to nearest. -/
def divRound (x : Int) (n : Nat) : Int := (2 * x + n) / (2 * n)

/-- Ring time's offset from the STC, `RINGk_TOFS`, for a boardwalk flow, in 2⁻¹⁶ ns (R235, R271). -/
def Dev.flowTofs (d : Dev) (f : Nat) : Int :=
  if d.flowFmt f = 3 then toSigned 32 (d.rd (F.RING_TOFS_OFFSET (d.flowPort f 0 - 24))) * 65536 else 0

/-- The media time of sample `j` of a packet, in 2⁻¹⁶ ns of STC time (R271). -/
def Dev.mediaTime (d : Dev) (f : Nat) (p : FlowPacket) (x : Parsed) (j : Nat) : Int :=
  let hz := d.flowHz f
  let unit : Int := 65536 * 1000000000
  if d.flowFmt f = 2 then
    let t := match x.time with
      | some t => (t : Int)
      | none => (p.ts : Int) + toSigned 32 (ofSigned 32 ((x.ts : Int) - p.ts / 65536)) * 65536 - ((p.ts % 65536 : Nat) : Int)
    t + divRound (j * unit) hz
  else
    let ofs : Int := if d.flowFmt f = 3 then 0 else d.rd (F.FLOW_RTP_OFS_RTP_OFS f)
    let na := ((p.ts : Int) - d.flowTofs f) * hz / unit
    let n := na + toSigned 32 (ofSigned 32 ((x.ts : Int) - ofs - na))
    divRound ((n + j) * unit) hz + d.flowTofs f

/-- DEPTH: how far the newest buffered period is ahead of the current tick's first (R263, R275). -/
def Dev.flowDepth (d : Dev) (f : Nat) : Dev :=
  let nc := (d.mclk (d.flowDomain f)).count
  d.wr (F.FLOW_STATUS_DEPTH f) (((d.flow f).buf.foldl (fun a e => max a e.1) 0) - nc)

/-- A packet counts in its flow's arrival histogram: its margin in ns, or late (R376). -/
def Dev.histogram (d : Dev) (f : Nat) (late : Bool) (margin : Int) : Dev :=
  if d.ustate 0x0F8 ≠ 3 then d
  else
    let w := d.rd (F.MTR_HISTW_W f) * 1000
    let bin := if late || margin < 0 then 0 else if w = 0 then 31 else min 31 (margin.toNat / w + 1)
    d.count (Ctr.HIST f + 8 * bin) 1

/-- The samples of an accepted packet meet the acceptance window (R274): each with its period. -/
def Dev.placeSamples (d : Dev) (f : Nat) (xs : List (Nat × List Sample)) : Dev × Nat × Nat :=
  let m := d.flowDomain f
  let edge := (d.mclk m).count + d.tickSize m
  xs.foldl (fun a s =>
    let d := a.1
    let x := d.flow f
    if s.1 < edge then
      (d.setFlow f { x with open_ := x.open_.map (fun e => if e.1 = s.1 && e.2 == .concealed then (e.1, .late) else e) },
        a.2.1 + 1, a.2.2)
    else if (SMap.get (fun _ => {}) x.buf s.1 : Period) != {} then (d, a.2.1, a.2.2 + 1)
    else
      (d.setFlow f { x with buf := SMap.put (fun _ => {}) s.1 { first := d.rd (F.FLOW_FIRST_FIRST f), samples := s.2 } x.buf },
        a.2.1, a.2.2)) (d, 0, 0)

/-- A packet that parsed (R266, R271–R279, R376). -/
def Dev.acceptPacket (d : Dev) (f : Nat) (p : FlowPacket) (x : Parsed) : Dev :=
  let m := d.flowDomain f
  let q := d.mclk m
  let t := d.tickSize m
  let ms := x.samples.zipIdx.map (fun s =>
    (d.periodAt m (d.mediaTime f p x s.2 + d.rd (F.FLOW_LATENCY_LATENCY f) * 65536), s.1))
  if ms.any (fun s => (q.count : Int) + 2 ^ d.rd (F.FLOW_BUF_BUF_LOG2 f) - t ≤ s.1) then
    (d.count (Ctr.SLOT f Sc.PKT_EARLY) 1).flowEvt f 2
  else
    let y := d.flow f
    let y : FlowRt :=
      { y with packetAt := some d.clk
               avtp := if d.flowFmt f ≠ 2 then y.avtp
                       else if x.time.isSome then y.avtp.map (fun a => (a.1, a.2 + 1))
                       else some ((d.mediaTime f p x 0).toNat, 0) }
    let d := d.setFlow f y
    let d := match x.ssrc with
      | none => d
      | some s =>
        let d := (d.setFlow f { d.flow f with ssrc := some s }).wr (F.FLOW_SSRC_RX_SSRC f) s
        if !d.on (F.FLOW_IPOPT_SSRC_FILT f) && y.ssrc.isSome && y.ssrc != some s then d.flowEvt f 7 else d
    let d := (d.flowCount f (if p.leg = 0 then Fc.PKTS_A else Fc.PKTS_B) 1).wr (F.FLOW_LAST_TS_TS f) x.ts
    let d := d.wr (if p.leg = 0 then F.FLOW_STATUS_LEG_A_UP f else F.FLOW_STATUS_LEG_B_UP f) 1
    let r := d.placeSamples f (ms.map (fun s => (s.1.toNat, s.2)))
    let d := r.1
    let d := if r.2.1 ≠ 0 then d.flowEvt f 1 else d
    let d := if r.2.2 ≠ 0 then d.flowCount f Fc.PKT_DUP 1 else d
    let d := if r.2.1 = ms.length then d.flowCount f Fc.PKT_LATE 1 else d
    let first : Int := match ms.head? with
      | some s => s.1
      | none => 0
    let tick := (q.count : Int) + (first - (q.count : Int)) / (t : Int) * (t : Int)
    let margin := (d.tau m tick.toNat - (d.now16 : Int)) / 65536
    (d.histogram f (r.2.1 != 0) margin).flowDepth f

/-- RX_STREAM_PACKET: the oldest packet matched to a receive flow is parsed by its engine (R266–R279). Outside SYNCING and
IN_SERVICE it is discarded (R285, R288); so is one that comes before the first tick of the flow's domain (log 26). -/
def execRxStreamPacket (f : Fin 2048) (s : State) : Host.Outcome State Fault Refusal :=
  lift (fun d =>
    let f := f.val
    let x := d.flow f
    match x.rxq with
    | [] => d
    | p :: rest =>
      let d := d.setFlow f { x with rxq := rest }
      let d := match p.pkt with
        | some id => d.release id
        | none => d
      if d.flowTx f || !d.active (0x400 + f) || !(d.mclk (d.flowDomain f)).ticking then d.count (Ctr.SLOT f Sc.PKT_DROPPED) 1
      else match d.parsePacket f p with
        | none => (d.count (Ctr.SLOT f Sc.PKT_BAD) 1).flowEvt f 3
        | some y => d.acceptPacket f p y) s

/-- FLOW_HOLD_EXPIRE: HOLD consecutive periods have been concealed (R277). -/
def execFlowHoldExpire (f : Fin 2048) (s : State) : Host.Outcome State Fault Refusal :=
  lift (fun d =>
    let f := f.val
    if !d.flowTx f && d.ustate (0x400 + f) = 3 && d.rd (F.FLOW_BUF_HOLD f) ≤ (d.flow f).run then
      (d.inputLost (0x400 + f)).flowEvt f 6
    else d) s

/-- LEG_DOWN: 16 packet times have passed without a packet accepted from a leg (R279). -/
def execLegDown (f : Fin 2048) (leg : Bool) (s : State) : Host.Outcome State Fault Refusal :=
  lift (fun d =>
    let f := f.val
    let up := if leg then F.FLOW_STATUS_LEG_B_UP f else F.FLOW_STATUS_LEG_A_UP f
    if d.on up then (d.wr up 0).flowEvt f (if leg then 5 else 4) else d) s

/-! ### Transmission (R267, R280–R283) -/

/-- A sample narrowed to `bytes` octets (R282). -/
def narrow (bytes : Nat) (s : Sample) : List Byte :=
  if s.tag = 2 then beBytes 0 bytes
  else if bytes = 4 then beBytes s.v.toNat 4
  else
    let k := 32 - 8 * bytes
    beBytes (ofSigned (8 * bytes) (min (roundHalfUp s.v.toInt k) (2 ^ (8 * bytes - 1) - 1))) bytes

/-- An RTP header (R267). -/
def rtpHeader (pt seq ts ssrc : Nat) : List Byte := beBytes 0x80 1 ++ beBytes pt 1 ++ beBytes seq 2 ++ beBytes ts 4 ++ beBytes ssrc 4

/-- Destination MAC of a leg: derived from a multicast address, else DMAC (R267, R268). -/
def Dev.legMac (d : Dev) (f leg : Nat) : Nat :=
  let dmac := if leg = 0 then d.rd (F.FLOW_DMAC_A_HI_DMAC_A f) * 2 ^ 32 + d.rd (F.FLOW_DMAC_A_LO_DMAC_A f)
    else d.rd (F.FLOW_DMAC_B_HI_DMAC_B f) * 2 ^ 32 + d.rd (F.FLOW_DMAC_B_LO_DMAC_B f)
  match d.flowFmt f with
  | 0 => if d.flowDaddr f leg 0 / 2 ^ 28 = 0xE then 0x01005E000000 + d.flowDaddr f leg 0 % 2 ^ 23 else dmac
  | 1 => if d.flowDaddr f leg 0 / 2 ^ 24 = 0xFF then 0x333300000000 + d.flowDaddr f leg 3 else dmac
  | _ => dmac

/-- The Ethernet header of a leg's frames, with its tag if TAGGED (R267). -/
def Dev.legHeader (d : Dev) (f leg ethertype : Nat) : List Byte :=
  let n := d.flowPort f leg
  let sa := d.rd (F.LNK_UCAST_HI_ADDR_HI n 0) * 2 ^ 32 + d.rd (F.LNK_UCAST_LO_ADDR_LO n 0)
  let tag := if d.on (F.FLOW_VLAN_TAGGED f) then
      beBytes (d.tpid n) 2 ++ beBytes (d.rd (F.FLOW_VLAN_PCP f) * 8192 + d.rd (F.FLOW_VLAN_VID f)) 2
    else []
  beBytes (d.legMac f leg) 6 ++ beBytes sa 6 ++ tag ++ beBytes ethertype 2

/-- The UDP datagram of an RTP packet, its checksum still zero; the checksum field is one where it will be computed. -/
def Dev.rtpDatagram (d : Dev) (f seq ts : Nat) (data : List Byte) : List Byte :=
  let want := d.flowFmt f = 1 || d.on (F.FLOW_IPOPT_UDP_CSUM f)
  beBytes (d.rd (F.FLOW_UDP_SPORT f)) 2 ++ beBytes (d.rd (F.FLOW_UDP_DPORT f)) 2 ++ beBytes (20 + data.length) 2 ++
    beBytes (if want then 1 else 0) 2 ++ rtpHeader (d.rd (F.FLOW_RTP_PT f)) seq ts (d.rd (F.FLOW_SSRC_SSRC f)) ++ data

/-- The frame of a leg of an RTP or AVTP packet (R267, R268): its sequence number, identification, timestamp and data. -/
def Dev.legFrame (d : Dev) (f leg seq ident ts : Nat) (mr : Bool) (data : List Byte) : List Byte :=
  let t := d.rd (F.FLOW_VLAN_TAGGED f)
  let addr (w : Nat → Nat) := (List.range 4).flatMap (fun i => beBytes (w i) 4)
  let src (i : Nat) := (d.reg (A.FLOW_SADDR f i)).toNat
  match d.flowFmt f with
  | 0 =>
    let u := d.rtpDatagram f seq ts data
    let h := beBytes 0x45 1 ++ beBytes (d.rd (F.FLOW_IPOPT_DSCP f) * 4) 1 ++ beBytes (20 + u.length) 2 ++ beBytes ident 2 ++
      beBytes 0x4000 2 ++ beBytes (d.rd (F.FLOW_IPOPT_TTL f)) 1 ++ beBytes 17 1 ++ beBytes 0 2 ++ beBytes (src 0) 4 ++
      beBytes (d.flowDaddr f leg 0) 4
    fixUdp t (fixV4 t (d.legHeader f leg 0x0800 ++ h ++ u))
  | 1 =>
    let u := d.rtpDatagram f seq ts data
    let h := beBytes (0x60000000 + d.rd (F.FLOW_IPOPT_DSCP f) * 4 * 2 ^ 20) 4 ++ beBytes u.length 2 ++
      beBytes 17 1 ++ beBytes (d.rd (F.FLOW_IPOPT_TTL f)) 1 ++ addr src ++ addr (d.flowDaddr f leg)
    fixUdp t (d.legHeader f leg 0x86DD ++ h ++ u)
  | _ =>
    let tu := if d.ustate 0x0FC = 3 then 0 else 1
    d.legHeader f leg 0x22F0 ++ beBytes 2 1 ++ beBytes (0x81 + if mr then 8 else 0) 1 ++ beBytes seq 1 ++ beBytes tu 1 ++
      beBytes (d.flowDaddr f leg 0) 4 ++ beBytes (d.flowDaddr f leg 1) 4 ++ beBytes ts 4 ++ beBytes (6 - d.flowBytes f) 1 ++
      beBytes ((d.rd (F.FLOW_CFG_RATE f) + 4) * 4096 + d.flowChans f) 2 ++ beBytes (8 * d.flowBytes f) 1 ++
      beBytes data.length 2 ++ beBytes 0 2 ++ data

/-- A frame is padded with zeros to 60 octets, 64 with its FCS. -/
def padFrame (o : List Byte) : List Byte := o ++ List.replicate (60 - o.length) 0

/-- The sample of a transmit flow's channel `c` in a period; one the router left nothing on is MUTED zero (R262, R280). -/
def txSample (p : Period) (c : Nat) : Sample := p.samples.getD c {}

/-- The combined tag of a period over its channels (R130, R290). -/
def periodTag (chans : Nat) (p : Period) : Nat := (List.range chans).foldl (fun t c => combTag t (txSample p c).tag) 2

/-- The period of ring time that begins with a domain's period `n`, for a flow's ring (R280). -/
def Dev.ringCount32 (d : Dev) (f n : Nat) : Int :=
  divRound ((d.tau (d.flowDomain f) n - d.flowTofs f) * d.flowHz f) (65536 * 1000000000)

/-- The periods of a flow's next packet: SPP, or for a boardwalk flow those up to the end of the ring cycle (R269, R280). -/
def Dev.packetPeriods (d : Dev) (f n : Nat) : Nat :=
  if d.flowFmt f ≠ 3 then d.flowSpp f
  else
    let hz : Int := d.flowHz f
    let c : Int := d.ringCycle (d.flowPort f 0 - 24)
    let r := d.ringCount32 f n
    let cyc := r * 1000000000 / (hz * c)
    let stop := ((cyc + 1) * c * hz + 999999999) / 1000000000
    max 1 (stop - r).toNat

/-- A sample block of a flow (R226). -/
def Dev.blockFrame (d : Dev) (f n : Nat) (ps : List Period) : List Byte :=
  let k := d.flowPort f 0 - 24
  let chans := d.flowChans f
  let bytes := d.flowBytes f
  let ss := ps.flatMap (fun p => (List.range chans).map (txSample p))
  let tags := (pieces 2 ((ss.length + 1) / 2) (ss.map (·.tag))).flatMap (fun t => beBytes (t.getD 0 0 * 16 + t.getD 1 0) 1)
  padFrame (d.ringFrame k 3 (if bytes = 4 then 1 else 0)
    (beBytes (d.rd (F.RING_STATUS_POSITION k)) 1 ++ beBytes (d.rd (F.FLOW_CFG_RATE f)) 1 ++ beBytes (d.flowDaddr f 0 0) 2 ++
      beBytes (ofSigned 32 (d.ringCount32 f n)) 4 ++ beBytes chans 2 ++ beBytes ps.length 1 ++ [0] ++
      ss.flatMap (narrow bytes) ++ tags))

/-- A frame of a leg goes through the flow sluice to its port (R283). -/
def Dev.sendLeg (d : Dev) (f n leg : Nat) (o : List Byte) : Dev :=
  let r := d.throughSluice f (o.length + 4)
  if !r.2 then (r.1.flowEvt f 8).flowLeg f n leg false
  else
    let e := r.1.sendLocal (d.flowPort f leg) (d.rd (F.FLOW_CFG_CLASS f)) o (.flow f n leg)
    if e.2 = 0 then e.1 else e.1.flowDropped f n leg

/-- The timestamp of a packet (R280). -/
def Dev.packetTs (d : Dev) (f n : Nat) : Nat :=
  match d.flowFmt f with
  | 2 => ofSigned 32 (d.tau (d.flowDomain f) n / 65536 + d.rd (F.FLOW_LATENCY_LATENCY f))
  | 3 => ofSigned 32 (d.ringCount32 f n)
  | _ => (n + d.rd (F.FLOW_RTP_OFS_RTP_OFS f)) % 2 ^ 32

/-- The packet of periods `n` to `n + k - 1` is released (R267, R280–R283). -/
def Dev.releasePacket (d : Dev) (f n k : Nat) : Dev :=
  let x := d.flow f
  let chans := d.flowChans f
  let ps := (List.range k).map (fun i => (SMap.get (fun _ => {}) x.txbuf (n + i) : Period))
  let fmt := d.flowFmt f
  let seq := x.seq.getD (if fmt = 2 then 0 else d.rd (F.FLOW_SSRC_SSRC f) % 65536)
  let ts := d.packetTs f n
  let x : FlowRt :=
    { x with txbuf := x.txbuf.filter (fun e => n + k ≤ e.1), next := n + k, seq := some (seq + 1),
             idents := (x.idents.1 + 1, x.idents.2 + 1),
             packets := x.packets ++ [{ n, tags := ps.map (periodTag chans), left := d.flowLegs f }] }
  let old := (d.flow f).idents
  let d := (d.setFlow f x).wr (F.FLOW_LAST_TS_TS f) ts
  let ss := ps.flatMap (fun p => (List.range chans).map (txSample p))
  if fmt = 3 then
    let r := d.flowPort f 0 - 24
    let o := d.blockFrame f n ps
    if d.ustate (0x030 + r) = 3 then
      d.updRing r (fun q => { q with blocks := insertBlock { flow := f, n, octets := o } q.blocks })
    else d.flowDropped f n 0
  else
    let d := d.flowCount f Fc.TX_REPEAT (ss.filter (fun s => s.tag = 1)).length
    let d := d.flowCount f Fc.TX_SETTLING (ss.filter (fun s => s.tag = 3)).length
    let data := ss.flatMap (narrow (d.flowBytes f))
    d.each (List.range (d.flowLegs f)) (fun d leg =>
      d.sendLeg f n leg (padFrame (d.legFrame f leg seq (if leg = 0 then old.1 else old.2) ts x.mr data)))

/-- FLOW_PACKET_RELEASE: the flow's next packet, when the tick that holds its last period has ended (R280, R281); the first
takes the flow to IN_SERVICE (R287). -/
def execFlowPacketRelease (f : Fin 2048) (s : State) : Host.Outcome State Fault Refusal :=
  lift (fun d =>
    let f := f.val
    let u := 0x400 + f
    let x := d.flow f
    let n := x.next
    let k := d.packetPeriods f n
    let st := d.ustate u
    let stop := match x.txTo with
      | some t => t
      | none => n + k
    if !d.flowTx f || x.txFrom.isNone || !(st == 2 || st == 3 || (st == 4 && n < stop)) ||
        (d.mclk (d.flowDomain f)).count < n + k then d
    else
      let d := if st = 2 then
          (d.setFlow f { x with mr := !x.mr, seq := some (x.seq.getD (if d.flowFmt f = 2 then 0 else d.rd (F.FLOW_SSRC_SSRC f) % 65536)) }).acquired u
        else d
      d.releasePacket f n k) s

end Sys2Proof.Machine
end

