-- ==== Sys2Proof/Machine/Hch.lean ====
section
/-! DEFINITION. Host channel rings (R107–R111). -/
namespace Sys2Proof.Machine

/-- A host channel ring besides its registers. -/
def Dev.hchRing (d : Dev) (r : Nat) : HchRt := SMap.get (fun _ => {}) d.hch r
/-- It is replaced. -/
def Dev.setHch (d : Dev) (r : Nat) (x : HchRt) : Dev := { d with hch := SMap.put (fun _ => {}) r x d.hch }
/-- It is a record ring. -/
abbrev isRecord (r : Nat) : Bool := 64 ≤ r
/-- Depth, in blocks. -/
def Dev.hchDepth (d : Dev) (r : Nat) : Nat := 2 ^ min 10 (max 2 (d.rd (F.HCH_CFG_DEPTH_LOG2 r)))
/-- Both copies of each pointer agree (R93). -/
def HchRt.ok (x : HchRt) : Bool := x.host == x.host2 && x.dev == x.dev2
/-- FILL: the blocks in the ring (R107). -/
def HchRt.fill (x : HchRt) (record : Bool) : Nat := if record then (x.dev - x.host).toNat else (x.host - x.dev).toNat

/-- Word `w` of ring `r`'s counts in the shelf: blocks, underruns, drops (R111; their order is a DESIGN CHOICE, log 30). -/
def Dev.hchCount (d : Dev) (r w : Nat) : Dev :=
  let a := 0x808000 + r * 0x10 + w / 2 * 8
  let v := d.stat64 a
  let lo := v % 2 ^ 32
  let hi := v / 2 ^ 32
  d.setStat a (if w % 2 = 0 then min (lo + 1) (2 ^ 32 - 1) + hi * 2 ^ 32 else lo + min (hi + 1) (2 ^ 32 - 1) * 2 ^ 32)

/-- A RING event is posted to the owner of 0x0FA (R105). -/
def Dev.postRing (d : Dev) (r cause : Nat) : Dev :=
  (d.setHch r { d.hchRing r with lastPost := some d.clk, heldCause := 0 }).postEvent (d.rd (F.UNIT_OWNER_OWNER 0x0FA)) 0x0FA 5
    (BitVec.ofNat 32 (r % 128 + cause * 2 ^ 8))

/-- A leaf of `HCHr_STAT` is set, and its event posted or held by the 10 ms limit (R92, R111): 0 underrun, 1 drop, 2 stop. Of
several held causes the last is posted (DESIGN CHOICE, log 29). -/
def Dev.hchLeaf (d : Dev) (r b : Nat) : Dev :=
  let d := d.leaf 0x0FA (A.HCH_STAT r) (16 + b)
  let x := d.hchRing r
  let free := match x.lastPost with
    | none => true
    | some c => c + 10000000 ≤ d.clk
  if free && x.heldCause = 0 then d.postRing r (b + 1) else d.setHch r { x with heldCause := b + 1 }

/-- 10 ms after a ring's last event, a held one is posted (R92, R111). -/
def Dev.expireRing (d : Dev) (r : Nat) : Dev :=
  let x := d.hchRing r
  if x.heldCause = 0 then d else d.postRing r x.heldCause

/-- A ring is reset after a pointer mismatch (R93). -/
def Dev.resetHch (d : Dev) (r : Nat) : Dev :=
  let x := d.hchRing r
  let d := (d.setHch r { x with host := 0, host2 := 0, dev := 0, dev2 := 0, hostAt := 0, block := [], record := [] }).count
    Ctr.REGEN_QUEUE 1
  let d := d.record 1 0x04 (subsysOf 0x0FA) 0x0FA (BitVec.ofNat 32 (0x20000000 + r))
    (BitVec.ofNat 32 (x.fill (isRecord r)))
  d.postEvent (d.rd (F.UNIT_OWNER_OWNER 0x0FA)) 0x0FA 3 (BitVec.ofNat 32 (0x100 + r))

/-- An update of a ring's pointers, compared with their copies first (R93). -/
def Dev.moveHch (d : Dev) (r : Nat) (f : Dev → Dev) : Dev := if (d.hchRing r).ok then f d else d.resetHch r

/-- A write of `HCH_PTR` r in a tenant's doorbell page (R109). -/
def Dev.hchPtr (d : Dev) (t r : Nat) (v : BitVec 16) : Dev :=
  if d.rd (F.UNIT_OWNER_OWNER 0x0FA) ≠ t || !d.on (F.HCH_CFG_EN r) then d.sat F.HOST_STATUS_IGNORED 1
  else d.moveHch r (fun d =>
    let x := d.hchRing r
    let bad := if isRecord r then (x.dev - x.host).toNat < (v - x.host).toNat
      else d.hchDepth r < (v - x.dev).toNat
    if bad then d.sat F.HOST_STATUS_IGNORED 1 else d.setHch r { x with host := v, host2 := v })

/-- Octets of a block of `n` samples, padded to 64 (R110). -/
def blockOctets (n : Nat) (tags : Bool) : Nat := ((4 * n + if tags then n else 0) + 63) / 64 * 64

/-- The device writes its own pointer after the ring's last block (R110). -/
def Dev.hchOwnPtr (d : Dev) (r : Nat) : Dev :=
  let x := d.hchRing r
  let n := d.rd (F.HCH_CFG_CHANS r) * x.tick
  let base := d.rd (F.HCH_BASE_HI_BASE r) * 2 ^ 32 + d.rd (F.HCH_BASE_LO_BASE r) * 64
  d.hostBytes (base + d.hchDepth r * blockOctets n (d.on (F.HCH_CFG_TAGS r)))
    [x.dev.extractLsb' 0 8, x.dev.extractLsb' 8 8]

/-- The samples of a playback block (R110): without TAGS they are VALID. A tag above 0x4 is taken as MUTED (log 31). -/
def playbackSamples (n : Nat) (tags : Bool) (o : List Byte) : List Sample :=
  (List.range n).map (fun i =>
    let v := bytesWord ((o.drop (4 * i)).take 4)
    let t := if tags then beAt o (4 * n + i) 1 % 16 else 0
    if t = 2 || 4 < t then {} else { v, tag := t })

/-- A playback ring has no block for the next tick: each channel repeats its last sample, tagged REPEAT, or MUTED zero
where that was MUTED (R17, R111). -/
def Dev.hchUnderrun (d : Dev) (r : Nat) : Dev :=
  let x := d.hchRing r
  let n := d.rd (F.HCH_CFG_CHANS r)
  let again := (List.range n).map (fun c =>
    let s := x.last.getD c {}
    if s.tag = 2 then ({} : Sample) else { v := s.v, tag := 1 })
  ((d.setHch r { x with block := (List.replicate (max 1 x.tick) again).flatten }).hchCount r 1).hchLeaf r 0

/-- A ring runs: it is enabled and its unit is in service. -/
def Dev.hchRuns (d : Dev) (r : Nat) : Bool := d.on (F.HCH_CFG_EN r) && d.ustate 0x0FA == 3

/-- HCH_PLAYBACK_READ: during a tick the device reads the block for the next one, if the host posted it before the start of
this tick; else the ring underruns (R111). -/
def execHchPlaybackRead (r : Fin 64) (block : List Byte) (s : State) : Host.Outcome State Fault Refusal :=
  lift (fun d =>
    let r := r.val
    if !d.hchRuns r || !(d.hchRing r).block.isEmpty then d
    else d.moveHch r (fun d =>
      let x := d.hchRing r
      if x.hostAt = x.dev then d.hchUnderrun r
      else
        let n := d.rd (F.HCH_CFG_CHANS r) * x.tick
        let d := d.setHch r { x with block := playbackSamples n (d.on (F.HCH_CFG_TAGS r)) block, dev := x.dev + 1, dev2 := x.dev2 + 1 }
        (d.hchCount r 0).hchOwnPtr r)) s

/-- HCH_RECORD_WRITE: during a tick the device writes the block of the tick before, or drops it for want of a credit (R111). -/
def execHchRecordWrite (r : Fin 64) (s : State) : Host.Outcome State Fault Refusal :=
  lift (fun d =>
    let r := 64 + r.val
    match (d.hchRing r).record with
    | [] => d
    | ss :: rest =>
      let d := d.setHch r { d.hchRing r with record := rest }
      if !d.on (F.HCH_CFG_EN r) then d
      else d.moveHch r (fun d =>
        let x := d.hchRing r
        let depth := d.hchDepth r
        if depth ≤ (x.dev - x.host).toNat then (d.hchCount r 2).hchLeaf r 1
        else
          let tags := d.on (F.HCH_CFG_TAGS r)
          let size := blockOctets ss.length tags
          let base := d.rd (F.HCH_BASE_HI_BASE r) * 2 ^ 32 + d.rd (F.HCH_BASE_LO_BASE r) * 64
          let o := ss.flatMap (fun s => wordBytes s.v) ++ (if tags then ss.map (fun s => BitVec.ofNat 8 s.tag) else [])
          let o := o ++ List.replicate (size - o.length) 0
          let d := d.hostBytes (base + x.dev.toNat % depth * size) o
          ((d.setHch r { x with dev := x.dev + 1, dev2 := x.dev2 + 1 }).hchCount r 0).hchOwnPtr r)) s

end Sys2Proof.Machine
end

