-- ==== Sys2Proof/Machine/Clocks.lean ====
section
/-! DEFINITION. The time unit and the synthesizers (R293–R327): setting and steering the STC, the servo, PPS, lock, bypass and
hand-back of a media clock, band calibration, rate meters. What happens at a tick is in Ticks. -/
namespace Sys2Proof.Machine

/-- The counters of the time unit, of synthesizers, of rate meters (R327), by their offset. -/
abbrev Ctr.TIME (off : Nat) : Nat := 0x8E0000 + off
abbrev Tc.SERVO_SAMPLES : Nat := 0x00
abbrev Tc.STEPS : Nat := 0x08
abbrev Tc.STEPS_DISCARDED : Nat := 0x10
abbrev Tc.HOLDOVERS : Nat := 0x18
abbrev Tc.LOCK_LOSSES : Nat := 0x20
abbrev Tc.PPS_IN_EDGES : Nat := 0x28
abbrev Tc.PPS_IN_REJECTED : Nat := 0x30
abbrev Ctr.MCS (m off : Nat) : Nat := 0x8E2000 + m * 0x100 + off
abbrev Mc.TICKS : Nat := 0x00
abbrev Mc.UNLOCKS : Nat := 0x08
abbrev Mc.REF_LOSSES : Nat := 0x10
abbrev Mc.BYPASS_NS : Nat := 0x18
abbrev Mc.ANCHORS : Nat := 0x20
abbrev Mc.LOCKED_NS : Nat := 0x28
abbrev Ctr.RM (i off : Nat) : Nat := 0x8E3000 + i * 0x20 + off

/-- Pins of the model's own record: PPS_OUT. -/
abbrev Pin.PPS_OUT : Nat := 1

/-- A leaf of `TIME_EVT` (R298). -/
def Dev.timeEvt (d : Dev) (b : Nat) : Dev := d.leafLater 0x0FC A.TIME_EVT b
/-- A leaf of `MCSm_EVT` (R312). -/
def Dev.mclkEvt (d : Dev) (m b : Nat) : Dev := d.leafLater (0x0A0 + m) (A.MCS_EVT m) b

/-- The servo's limits (R293). -/
abbrev adjLimit : Int := 2147483
/-- The rate adjustment that the STC uses, in 2⁻³² (R293, R297). -/
def Dev.adjUsed (d : Dev) : Int := clampInt (-adjLimit) adjLimit (toSigned 32 (d.rd F.TIME_ADJ_ADJ))
/-- The servo is running (R299, R300). -/
def Dev.servoRuns (d : Dev) : Bool := d.active 0x0FC && d.on F.TIME_SERVO_EN
/-- A write in the TIME block is ignored (R298). -/
def Dev.timeIgnored (d : Dev) : Dev := d.sat F.TIME_IGNORED_COUNT 1

/-- LOCKED of the time unit rises: the unit enters IN_SERVICE (R299, R301). -/
def Dev.timeLock (d : Dev) : Dev :=
  if d.on F.TIME_STATUS_LOCKED then d else ((d.wr F.TIME_STATUS_LOCKED 1).timeEvt 0).acquired 0x0FC

/-- LOCKED of the time unit falls: it returns to SYNCING while EN is set (R299, R301). -/
def Dev.timeUnlock (d : Dev) : Dev :=
  let d := { d with time := { d.time with good := 0, bad := 0 } }
  if !d.on F.TIME_STATUS_LOCKED then d
  else
    let d := ((d.wr F.TIME_STATUS_LOCKED 0).timeEvt 1).count (Ctr.TIME Tc.LOCK_LOSSES) 1
    if d.on F.TIME_SERVO_EN then d.inputLost 0x0FC else d

/-- After a write to `TIME_SERVO`: with EN clear, a unit in SYNCING enters IN_SERVICE (R299). -/
def Dev.servoWritten (d : Dev) : Dev := if d.on F.TIME_SERVO_EN then d else d.acquired 0x0FC

/-- An offset sample of `o` ns (R300, R301). -/
def Dev.servoSample (d : Dev) (o : Int) : Dev :=
  if !d.servoRuns then d
  else
    let d := (d.count (Ctr.TIME Tc.SERVO_SAMPLES) 1).wr F.TIME_STATUS_HOLDOVER 0
    if d.on F.TIME_SERVO_STEP_EN && d.rd F.TIME_SERVO_LIMIT_STEP_US * 1000 ≤ o.natAbs then
      let d := if d.time.command.isSome then d.count (Ctr.TIME Tc.STEPS_DISCARDED) 1
        else { (d.wr F.TIME_CMD_BUSY 1) with time := { d.time with command := some (2, -o, true) } }
      d.timeUnlock
    else
      let ki : Int := d.rd F.TIME_SERVO_GAIN_KI
      let kp : Int := d.rd F.TIME_SERVO_GAIN_KP
      let integ := clampInt (-adjLimit) adjLimit (toSigned 32 (d.rd F.TIME_SERVO_INTEG_INTEG) + o * ki / 256)
      let d := d.wr F.TIME_SERVO_INTEG_INTEG (ofSigned 32 integ)
      let d := d.wr F.TIME_ADJ_ADJ (ofSigned 32 (clampInt (-adjLimit) adjLimit (-(integ + o * kp / 256))))
      let win := d.rd F.TIME_SERVO_LOCK_LOCK_NS
      let good := if o.natAbs ≤ win then d.time.good + 1 else 0
      let bad := if 4 * win < o.natAbs then d.time.bad + 1 else 0
      let d := { d with time := { d.time with good, bad } }
      if 2 ≤ bad then d.timeUnlock
      else if max 1 (d.rd F.TIME_SERVO_LOCK_LOCK_N) ≤ good then d.timeLock
      else d

/-- A write of `TIME_CMD`.OP (R296). -/
def Dev.timeCmd (d : Dev) (op : Nat) : Dev :=
  if op = 0 then d
  else if d.time.command.isSome then d.wr F.TIME_CMD_REASON Rsn.BUSY
  else if op = 3 then d.wr F.TIME_CMD_REASON Rsn.RANGE
  else
    let set : Int := ((d.rd F.TIME_SET_SEC_HI_SEC * 2 ^ 32 + d.rd F.TIME_SET_SEC_LO_SEC) * 1000000000 + d.rd F.TIME_SET_NS_NS : Nat)
    let step := toSigned 64 (d.rd F.TIME_STEP_HI_STEP * 2 ^ 32 + d.rd F.TIME_STEP_LO_STEP)
    { (d.wr F.TIME_CMD_BUSY 1) with time := { d.time with command := some (op, if op = 1 then set else step, false) } }

/-- TIME_CMD_APPLY: the realignment instant of a SET or STEP that waits (R296). -/
def execTimeCmdApply (s : State) : Host.Outcome State Fault Refusal :=
  liftAon (fun d =>
    match d.time.command with
    | none => d
    | some (op, v, _) =>
      let d := { (d.wr F.TIME_CMD_BUSY 0) with time := { d.time with command := none } }
      let new : Int := if op = 1 then v * 2 ^ 32 else (d.stcFine : Int) + v * 2 ^ 32
      if (op = 1 && 999999999 < d.rd F.TIME_SET_NS_NS) || new < 0 || (2 ^ 48 * 1000000000 * 2 ^ 32 : Int) ≤ new then
        d.wr F.TIME_CMD_REASON Rsn.RANGE
      else
        let d := (d.setStcFine new.toNat).wr F.TIME_CMD_REASON Rsn.ACCEPTED
        let d := d.each (List.range 24) (fun d n => d.setLink n { d.link n with shadow := new.toNat })
        ((d.count (Ctr.TIME Tc.STEPS) 1).timeEvt 3).timeUnlock) s

/-- A write of `TIME_SERVO_OFS` (R300). -/
def Dev.servoOfs (d : Dev) (v : Word) : Dev :=
  if d.servoRuns && d.rd F.TIME_SERVO_SOURCE == 0 then d.servoSample v.toInt else d.timeIgnored

/-- SERVO_RING_SAMPLE: 64 cycles of the ring have passed (R300). -/
def execServoRingSample (s : State) : Host.Outcome State Fault Refusal :=
  lift (fun d =>
    let k := d.rd F.TIME_SERVO_RING
    if d.rd F.TIME_SERVO_SOURCE = 2 && k < 12 && d.ustate (0x030 + k) = 3 && !d.isManager k && !(d.ring k).offsets.isEmpty then
      d.servoSample (meanInt (d.ring k).offsets)
    else d) s

/-- SERVO_HOLDOVER: HOLD_MS have passed without a sample (R301). -/
def execServoHoldover (s : State) : Host.Outcome State Fault Refusal :=
  liftAon (fun d =>
    if d.servoRuns && !d.on F.TIME_STATUS_HOLDOVER then
      ((((d.wr F.TIME_STATUS_HOLDOVER 1).timeEvt 2).count (Ctr.TIME Tc.HOLDOVERS) 1)).timeUnlock
    else d) s

/-! ### PPS (R302) -/

/-- PPS_OUT_EDGE: the instant at which PPS_OUT rises. -/
def execPpsOutEdge (s : State) : Host.Outcome State Fault Refusal :=
  liftAon (fun d =>
    if d.active 0x0FC && d.on F.TIME_PPS_OUT_EN then
      { (d.emit (.pin Pin.PPS_OUT true)) with time := { d.time with ppsOut := true } }
    else d) s

/-- PPS_OUT_END: WIDTH ms after it. -/
def execPpsOutEnd (s : State) : Host.Outcome State Fault Refusal :=
  liftAon (fun d =>
    if d.time.ppsOut then { (d.emit (.pin Pin.PPS_OUT false)) with time := { d.time with ppsOut := false } } else d) s

/-- A capture of PPS_IN at a time in ns, its delay taken off (R298). -/
def Dev.ppsCapture (d : Dev) (t : Nat) : Dev :=
  let d := { d with time := { d.time with ppsAt := some d.clk
                                          pps := (t / 1000000000, t % 1000000000, (d.time.pps.2.2 + 1) % 65536) } }
  let d := ((d.wr F.TIME_PPS_IN_NS_NS (t % 1000000000)).timeEvt 4).count (Ctr.TIME Tc.PPS_IN_EDGES) 1
  let d := d.fragEdge 0x0FC 0 (t * 65536)
  let ns : Int := (t % 1000000000 : Nat)
  if d.rd F.TIME_SERVO_SOURCE = 1 then d.servoSample (if ns < 500000000 then ns else ns - 1000000000) else d

/-- PPS_IN_EDGE: an edge of PPS_IN, falling or rising; in a replay of the time unit the trace gives its captures (R450). -/
def execPpsInEdge (fall : Bool) (s : State) : Host.Outcome State Fault Refusal :=
  liftAon (fun d =>
    if !d.active 0x0FC || d.replays 0x0FC || !d.on F.TIME_PPS_IN_EN || d.on F.TIME_PPS_IN_FALL != fall then d
    else if d.time.ppsAt.any (fun c => d.clk < c + 500000000) then d.count (Ctr.TIME Tc.PPS_IN_REJECTED) 1
    else
      let t : Int := (d.stcNs : Int) - toSigned 32 (d.rd F.TIME_PPS_IN_DELAY_DELAY)
      d.ppsCapture (t % (2 ^ 48 * 1000000000 : Int)).toNat) s

/-- A read of `TIME_PPS_IN_NS` latches the words of that capture (R298). -/
def Dev.ppsLatch (d : Dev) : Dev :=
  let p := d.time.pps
  ((d.wr F.TIME_PPS_IN_SEC_LO_SEC p.1).wr F.TIME_PPS_IN_SEC_HI_SEC (p.1 / 2 ^ 32)).wr F.TIME_PPS_IN_SEC_HI_SEQ p.2.2

/-- A read of `TIME_STC_NS` loads the path's latch (R295). -/
def Dev.stcLatch (d : Dev) (p : Path) : Dev :=
  let v := (d.time.sec, d.time.frac.extractLsb' 16 16)
  match p with
  | .window => { d with time := { d.time with latchWindow := v } }
  | .spi => { d with time := { d.time with latchSpi := v } }
  | .jtag => { d with time := { d.time with latchSpi := v } }
  | _ => { d with time := { d.time with latchPcie := v } }

/-- The latch of a path (R295). -/
def Dev.stcLatched (d : Dev) : Path → BitVec 48 × BitVec 16
  | .window => d.time.latchWindow
  | .spi => d.time.latchSpi
  | .jtag => d.time.latchSpi
  | _ => d.time.latchPcie

/-! ### Synthesizers (R308–R324) -/

/-- `a` lies within ±`ppm` of `b`. -/
def within (ppm a b : Nat) : Bool := (if a < b then b - a else a - b) * 1000000 ≤ ppm * b

/-- A flow's packet time in ns (R265, R279). -/
def Dev.packetTime (d : Dev) (f : Nat) : Nat :=
  if d.flowFmt f = 3 then d.ringCycle (d.flowPort f 0 - 24) else d.flowSpp f * 1000000000 / d.flowHz f

/-- REF_OK: the source is present and within reach, in any state of the unit (R316). -/
def Dev.refNow (d : Dev) (m : Nat) : Bool :=
  let sel := d.rd (F.MCS_CTRL_SRC_SEL m)
  let ppm := d.pull m
  match d.rd (F.MCS_CTRL_SRC m) with
  | 1 => d.adjUsed.natAbs * 1000000 ≤ ppm * 2 ^ 32
  | 2 => d.ustate (0x400 + sel) == 3 && (d.flow sel).packetAt.any (fun c => d.clk ≤ c + 16 * d.packetTime sel)
  | 3 => d.on (F.RM_STAT_PRESENT (16 + sel)) &&
      within ppm (d.rd (F.RM_FREQ_FREQ (16 + sel))) (16 * d.domainHz m * d.rd (F.MCS_CTRL_PIN_DIV m))
  | 4 => d.rd (F.RM_STAT_CLASS sel) == d.domainCode m && within ppm (d.rd (F.RM_FREQ_FREQ sel)) (16 * d.domainHz m)
  | _ => false

/-- What REF_OK gives at a tick: since when it has held; in BYPASS a fall restarts the stable time (R318, R319). -/
def Dev.refUpdate (d : Dev) (m : Nat) : Dev :=
  let x := d.mclk m
  if d.refNow m then (if x.refSince.isNone then d.setMclk m { x with refSince := some d.clk } else d)
  else if d.on (F.MCS_STATUS_BYPASS m) then d.setMclk m { x with refSince := none }
  else d.setMclk m { x with goodSince := none }

/-- MCLK_PLL_TIMEOUT: PLL_LOCK has not risen within 200 µs of ENABLE (R323). The code of the PLL in INFO0 the spec does not
give: a free value (log 15). -/
def execMclkPllTimeout (m : Fin 8) (s : State) : Host.Outcome State Fault Refusal :=
  lift (fun d =>
    let u := 0x0A0 + m.val
    if d.ustate u = 0 && (d.unit u).order = Ord.ENABLE then
      let d := d.draw.raiseUnit 1 0x08 u (Config.freeWord d.free) 200
      ((d.answerWaits u Rsn.STATE 0).endOrder u).setState u 5
    else d) s

/-- MCLK_LOCK: the phase error has been within LOCK_WIN at every tick for LOCK_MS (R318). -/
def execMclkLock (m : Fin 8) (s : State) : Host.Outcome State Fault Refusal :=
  lift (fun d =>
    let m := m.val
    if d.active (0x0A0 + m) && !d.on (F.MCS_STATUS_BYPASS m) && !d.on (F.MCS_STATUS_LOCKED m) && d.rd (F.MCS_CTRL_SRC m) ≠ 0 &&
        (d.mclk m).goodSince.isSome && d.refNow m then
      ((d.wr (F.MCS_STATUS_LOCKED m) 1).mclkEvt m 0).acquired (0x0A0 + m)
    else d) s

/-- MCLK_BYPASS: REF_OK has fallen, or the phase error was beyond UNLOCK_WIN at two ticks in a row (R318). -/
def execMclkBypass (m : Fin 8) (s : State) : Host.Outcome State Fault Refusal :=
  lift (fun d =>
    let m := m.val
    let x := d.mclk m
    let lost := x.refSince.isSome && !d.refNow m
    let off := 2 ≤ x.badTicks
    if !d.active (0x0A0 + m) || d.on (F.MCS_STATUS_BYPASS m) || d.rd (F.MCS_CTRL_SRC m) = 0 || !(lost || off) then d
    else
      let d := if lost then (d.mclkEvt m 2).count (Ctr.MCS m Mc.REF_LOSSES) 1 else d
      let d := if off then (d.mclkEvt m 1).count (Ctr.MCS m Mc.UNLOCKS) 1 else d
      (d.toBypass m).inputLost (0x0A0 + m)) s

/-- A domain re-anchors: its media count changes by −k (R320). -/
def Dev.reanchor (d : Dev) (m : Nat) (k : Int) : Dev :=
  let move (n : Nat) : Nat := ofSigned 64 ((n : Int) - k)
  let x := d.mclk m
  let d := d.setMclk m { x with count := move x.count, marks := [] }
  let d := (d.mclkEvt m 3).count (Ctr.MCS m Mc.ANCHORS) 1
  d.each (d.flowsNotOff.filter (fun f => d.flowDomain f == m)) (fun d f =>
    let y := d.flow f
    if d.flowTx f then
      d.setFlow f { y with next := move y.next, txFrom := y.txFrom.map move, txTo := y.txTo.map move,
                           txbuf := y.txbuf.map (fun e => (move e.1, e.2)) }
    else ((d.setFlow f { y with buf := [] }).wr (F.FLOW_STATUS_DEPTH f) 0).inputLost (0x400 + f))

/-- MCLK_HANDBACK: in BYPASS, REF_OK has held for LOCK_MS; `p` is the phase difference between the output and the
accumulator, in 2⁻¹⁶ ns (R319, R320). -/
def execMclkHandback (m : Fin 8) (p : Int) (s : State) : Host.Outcome State Fault Refusal :=
  lift (fun d =>
    let m := m.val
    if !d.active (0x0A0 + m) || !d.on (F.MCS_STATUS_BYPASS m) || d.rd (F.MCS_CTRL_SRC m) = 0 || d.safe ||
        (d.mclk m).refSince.isNone || !d.refNow m then d
    else
      let d := d.wr (F.MCS_STATUS_BYPASS m) 0
      let limit := d.rd (F.MCS_ANCHOR_LIMIT m)
      let k : Int := if limit = 0 || p.natAbs ≤ limit * 1000 * 65536 then 0
        else
          let t : Int := d.tickSize m
          divRound (p * d.domainHz m) (65536 * 1000000000 * d.tickSize m) * t
      let d := if k = 0 then d else d.reanchor m k
      d.setMclk m { d.mclk m with slew := p - k * 65536 * 1000000000 / d.domainHz m, badTicks := 0, goodSince := none }) s

/-- TICK_SIZE_CHANGE: a committed TICK_LOG2 comes into force at the first boundary whose count is a multiple of the new T
(R311); host channel rings of the domain stop (R111). -/
def execTickSizeChange (m : Fin 8) (s : State) : Host.Outcome State Fault Refusal :=
  lift (fun d =>
    let m := m.val
    let x := d.mclk m
    match x.tickNew with
    | none => d
    | some log =>
      if !x.ticking || (x.count + 2 ^ x.running) % 2 ^ log ≠ 0 then d
      else
        let d := (d.setMclk m { x with tickLog := log, tickNew := none }).mclkEvt m 5
        d.each ((List.range 128).filter (fun r => d.on (F.HCH_CFG_EN r) && d.rd (F.HCH_CFG_DOMAIN r) == m)) (fun d r =>
          (d.wr (F.HCH_CFG_EN r) 0).hchLeaf r 2)) s

/-- A read of `MCSm_COUNT_LO` latches the count's high word and the tick's time (R312). -/
def Dev.countLatch (d : Dev) (m : Nat) : Dev :=
  let x := d.mclk m
  let t := t64Of (x.tickAt / 65536)
  ((d.setReg (A.MCS_COUNT_HI m) (hiWord x.count)).setReg (A.MCS_TICK_TIME_LO m) (loWord t)).setReg (A.MCS_TICK_TIME_HI m) (hiWord t)

/-- A write of `MCSm_CAL` with GO set (R314). -/
def Dev.calGo (d : Dev) (m : Nat) : Dev :=
  if d.ustate (0x0A0 + m) ≠ 0 then d.wr (F.MCS_CAL_CAL_REASON m) Rsn.STATE
  else if d.on (F.MCS_CAL_CAL_BUSY m) then d.wr (F.MCS_CAL_CAL_REASON m) Rsn.BUSY
  else d.wr (F.MCS_CAL_CAL_BUSY m) 1

/-- MCS_CAL_DONE: a band has been measured (R314). -/
def execMcsCalDone (m : Fin 8) (fmin fmax : BitVec 22) (s : State) : Host.Outcome State Fault Refusal :=
  lift (fun d =>
    let m := m.val
    if !d.on (F.MCS_CAL_CAL_BUSY m) then d
    else
      (((((d.wr (F.MCS_CAL_FMIN_FMIN m) fmin.toNat).wr (F.MCS_CAL_FMAX_FMAX m) fmax.toNat).wr (F.MCS_CAL_CAL_BUSY m) 0).wr
        (F.MCS_CAL_CAL_REASON m) Rsn.ACCEPTED)).mclkEvt m 4) s

/-! ### Rate meters (R326) -/

/-- A leaf of `APGg_EVT` (R330). -/
def Dev.groupEvt (d : Dev) (g b : Nat) : Dev := d.leafLater (0x040 + g) (A.APG_EVT g) b

/-- A group returns from IN_SERVICE to SYNCING, with its ports, decimators and bridge (R339). -/
def Dev.groupLost (d : Dev) (g : Nat) : Dev := (d.inputLost (0x040 + g)).dependents (.cmd 0) (0x040 + g) 0

/-- The class of a measured frequency: the first RATE code within TOL, else 6 (R326; log 27). -/
def rateClass (freq div tol : Nat) : Nat :=
  ((List.range 6).find? (fun c => within tol freq (16 * div * rateHz c))).getD 6

/-- RATE_METER_GATE: a 10 ms gate of a meter ends with so many edges, the last `span` after the first, in 2⁻¹⁶ ns (R326).
With fewer than two edges FREQ is a free value (log 27). -/
def execRateMeterGate (i : Fin 24) (edges span : Nat) (s : State) : Host.Outcome State Fault Refusal :=
  lift (fun d =>
    let i := i.val
    let absent := edges < 2 || span = 0
    let freq := if absent then (Config.freeWord d.free).toNat else min (2 ^ 32 - 1) ((edges - 1) * 16 * 1000000000 * 65536 / span)
    let d := (if absent then d.draw.count (Ctr.RM i 8) 1 else d).wr (F.RM_FREQ_FREQ i) freq
    let cls := if absent then 7 else rateClass freq (if i < 16 then 1 else max 1 (d.rd (F.RM_CFG_DIV i))) (d.rd (F.RM_CFG_TOL i))
    let old := SMap.get (fun _ => (7, 0)) d.meters i
    let run := if old.1 = cls then old.2 + 1 else 1
    let d := { d with meters := SMap.put (fun _ => (7, 0)) i (cls, min run 2) d.meters }
    if d.rd (F.RM_STAT_CLASS i) = cls || (cls ≠ 7 && run < 2) then d
    else
      let d := ((d.wr (F.RM_STAT_CLASS i) cls).wr (F.RM_STAT_PRESENT i) (if cls = 7 then 0 else 1)).count (Ctr.RM i 0) 1
      let d := d.leafLater 0x0FC (A.RM_STAT i) 4
      if i < 16 && d.ustate (0x040 + i) = 3 && d.rd (F.APG_CFG_RATE i) ≠ cls then (d.groupEvt i 5).groupLost i else d) s

end Sys2Proof.Machine
end

