-- ==== Sys2Proof/Machine/Operands.lean ====
section
/-! DEFINITION. The operand forms of the Ulfel instructions (R121, R122): the word of an instruction, its immediates, its
addresses; the frame every instruction runs in: issue (R123), exceptions (R147–R149). -/
namespace Sys2Proof.Machine

/-! ### Words (R121) -/

/-- An instruction of the R format. -/
def rWord (major d a b fn : Nat) : Word := BitVec.ofNat 32 (major * 2 ^ 26 + d * 2 ^ 21 + a * 2 ^ 16 + b * 2 ^ 11 + fn)
/-- An instruction of the I format. -/
def iWord (major d a imm : Nat) : Word := BitVec.ofNat 32 (major * 2 ^ 26 + d * 2 ^ 21 + a * 2 ^ 16 + imm)
/-- An instruction of the B format. -/
def bWord (major a b off : Nat) : Word := BitVec.ofNat 32 (major * 2 ^ 26 + a * 2 ^ 21 + b * 2 ^ 16 + off)
/-- An instruction of the J format. -/
def jWord (major off : Nat) : Word := BitVec.ofNat 32 (major * 2 ^ 26 + off)

/-- An immediate, sign-extended (R121). -/
def sext16 (v : BitVec 16) : Word := v.signExtend 32
/-- The displacement of a branch, in bytes. -/
def disp16 (v : BitVec 16) : Word := v.signExtend 32 <<< 2
/-- The displacement of JAL, in bytes. -/
def disp26 (v : BitVec 26) : Word := v.signExtend 32 <<< 2

/-! ### Timing (R123) -/

/-- The keys under which a context keeps when a result may be used: g registers by number, v from 100, accumulators from
300 and, for what VMAC wrote, from 200, predicate-tag pairs from 400. -/
abbrev Rk.v (n : Nat) : Nat := 100 + n
abbrev Rk.mac (n : Nat) : Nat := 200 + n
abbrev Rk.acc (n : Nat) : Nat := 300 + n
abbrev Rk.tag (n : Nat) : Nat := 400 + n

/-- The first cycle at which every source may be used. -/
def Ctx.readyAt (c : Ctx) (srcs : List Nat) : Nat :=
  srcs.foldl (fun m k => max m (SMap.get (fun _ => 0) c.ready k)) c.cycles

/-- The cycles of an instruction are spent: the stall for its sources, its issue count; its results may be used their
latency after it issues. CYCLES saturates (R146). -/
def Ctx.spend (c : Ctx) (srcs : List Nat) (n : Nat) (dsts : List (Nat × Nat)) : Ctx :=
  let t := c.readyAt srcs
  { c with cycles := min (t + n) 0xFFFFFFFF,
           ready := dsts.foldl (fun m e => SMap.put (fun _ => 0) e.1 (t + e.2) m) c.ready }

/-! ### The frame of an instruction -/

/-- The size of the instruction memory (R150). -/
abbrev imemSize (x : Nat) : Nat := if isSignal x then 0x8000 else 0x40000

/-- The end of what pc may name: of instruction memory, or of the words of an INLINE and the HALT behind them (log 10). -/
def Ctx.limit (c : Ctx) (x : Nat) : Nat :=
  match c.kind with
  | .inlineRun _ _ => if isSignal x then imemSize x else 4 * c.inlineLen + 4
  | _ => imemSize x

/-- pc names the HALT that follows the words of an INLINE (R101). -/
def Ctx.atInlineEnd (c : Ctx) (x : Nat) : Bool :=
  match c.kind with
  | .inlineRun _ _ => !isSignal x && c.pc.toNat == 4 * c.inlineLen
  | _ => false

/-- The engine's program memory base in the register map (R150). -/
abbrev engineBase (x : Nat) : Nat := if isSignal x then 0x1000000 + x * 0x40000 else 0xC00000 + stewardOf x * 0x100000

/-- The context may issue an instruction now: it runs, waits for nothing (R118, R123), its run of this tick has not ended
and has budget (R156), and neither safe state (R415) nor a power state (R382) holds engines still. -/
def Dev.mayIssue (d : Dev) (x : Nat) : Bool :=
  let c := d.ctx x
  c.running && c.wait == .none && !d.safe && d.power == 0 && (!isSignal x || (!c.ended && c.cycles < c.budget))

/-- The exception codes. -/
abbrev Exc.ILLEGAL : Nat := 1
abbrev Exc.ALIGN : Nat := 2
abbrev Exc.MEMRANGE : Nat := 3
abbrev Exc.BUSERR : Nat := 4
abbrev Exc.UNIT_REFUSED : Nat := 5
abbrev Exc.BUDGET : Nat := 6
abbrev Exc.TRAP : Nat := 7

/-- An exception for which no handler exists ends the run (R149, R171, R101). `ref` is the reason and detail of a refusal
that UNIT_REFUSED trapped. -/
def Dev.endByException (d : Dev) (x code : Nat) (addr : Word) (ref : Option (Nat × Nat)) : Dev :=
  if isSignal x then d.raiseUnit 1 0x05 (ctxUnit x) (BitVec.ofNat 32 code) addr
  else
    let s := stewardOf x
    let k := (d.ctx x).kind
    let d := d.leaf (ctxUnit x) (A.STW_STAT s) 0
    let d := match k with
      | .entry n cmd =>
        let d := d.setEntry (entryKey s n) { d.entry (entryKey s n) with lastExc := code }
        if cmd.isNone then d.raiseUnit 0 0x07 (ctxUnit x) (BitVec.ofNat 32 code) addr else d
      | _ => d
    let d := match ref with
      | some r => d.completeRun k r.1 0xFFF r.2 [BitVec.ofNat 32 code, addr]
      | none => d.completeRun k Rsn.STATE 0xFFF 0 [BitVec.ofNat 32 code, addr]
    d.freeThread x

/-- An exception is taken (R147): cause, return address and detail are written; with a handler, the open loops go to the
hidden copy and pc to `EXC_VEC`, in 4 cycles; without one the run ends (R149). -/
def Dev.takeException (d : Dev) (x code : Nat) (addr info : Word) (ref : Option (Nat × Nat)) : Dev :=
  let c := d.ctx x
  let d := if isSignal x then d.leaf (ctxUnit x) (A.ENG_STAT x) 1 else d
  let c' := { c with excCause := code, excAddr := addr, excInfo := info }
  if c.excVec ≠ 0 && !c.excActive then
    d.setCtx x { c' with excActive := true, hidden := c.loops, loops := [], pc := c.excVec,
                         cycles := min (c.cycles + 4) 0xFFFFFFFF }
  else (d.setCtx x c').endByException x code addr ref

/-- An instruction at pc: nothing where the context may not issue it, or where its sources are not ready within the
budget; MEMRANGE past the end of instruction memory (R124); ILLEGAL without effect where the word is not legal (R117,
R122); else its body. -/
def Dev.insn (d : Dev) (x : Nat) (w : Word) (srcs : List Nat) (legal : Ctx → Bool) (body : Ctx → Dev → Dev) : Dev :=
  let c := d.ctx x
  if !d.mayIssue x || c.atInlineEnd x then d
  else if c.limit x ≤ c.pc.toNat then d.takeException x Exc.MEMRANGE c.pc c.pc none
  else if !legal c then d.takeException x Exc.ILLEGAL c.pc w none
  else if isSignal x && c.budget ≤ c.readyAt srcs then d
  else body c d

/-- An instruction whose effect is on the context alone: its cycles, its effect, and pc moves on (R125). -/
def Dev.ctxOp (d : Dev) (x : Nat) (w : Word) (srcs : List Nat) (lat : List (Nat × Nat)) (legal : Ctx → Bool)
    (f : Ctx → Ctx) : Dev :=
  d.insn x w srcs legal (fun c d => d.setCtx x (f (c.spend srcs 1 lat)).advance)

/-- An instruction that writes gd and no other register. -/
def Dev.gOp (d : Dev) (x : Nat) (w : Word) (srcs : List Nat) (lat gd : Nat) (legal : Bool) (v : Ctx → Word) : Dev :=
  d.ctxOp x w srcs (if gd = 0 then [] else [(gd, lat)]) (fun _ => legal) (fun c => c.setG gd (v c))

/-- A branch, jump or LOOP at the end of an open level is illegal (R125). -/
def Ctx.endsBody (c : Ctx) : Bool := c.loops.any (fun l => l.stop == c.pc)

/-- A taken branch or jump: MEMRANGE where the target lies outside (R124), else three cycles; `f` writes the link. -/
def Dev.jumpOp (d : Dev) (x : Nat) (c : Ctx) (srcs : List Nat) (lat : List (Nat × Nat)) (target : Word) (f : Ctx → Ctx) :
    Dev :=
  if c.limit x ≤ target.toNat then d.takeException x Exc.MEMRANGE c.pc target none
  else d.setCtx x ((f (c.spend srcs 3 lat)).jump target)

/-- A conditional branch (R123–R125). -/
def Dev.branch (d : Dev) (x major a b : Nat) (off : BitVec 16) (p : Word → Word → Bool) : Dev :=
  d.insn x (bWord major a b off.toNat) [a, b] (fun c => !c.endsBody) (fun c d =>
    if p (c.gr a) (c.gr b) then d.jumpOp x c [a, b] [] (c.pc + disp16 off) id
    else d.setCtx x (c.spend [a, b] 1 []).advance)

end Sys2Proof.Machine
end

