-- ==== Sys2Proof/Machine/UlfelMem.lean ====
section
/-! DEFINITION. The memory instructions (R126, R127, R150) and the sample instructions (R128–R130). A load or store through
a steward's register window leaves its context waiting; REGISTER_WINDOW_DONE performs it. -/
namespace Sys2Proof.Machine

/-- An engine address range lies in data memory (R150). -/
def inData (x : Nat) (a : Word) (n : Nat) : Bool :=
  if isSignal x then 0x10000 ≤ a.toNat && a.toNat + n ≤ 0x30000 else 0x40000 ≤ a.toNat && a.toNat + n ≤ 0x100000

/-- An engine address lies in the register window, and the context may use it (R150). -/
def Dev.inWindow (d : Dev) (x : Nat) (a : Word) : Bool :=
  !isSignal x && (d.ctx x).tenant == 0 && 0x80000000 ≤ a.toNat && a.toNat < 0x88000000

/-- The value of loaded octets, little-endian, extended (R126). -/
def loadValue (bs : List Byte) (signed : Bool) : Word :=
  let w := bytesWord bs
  if signed then BitVec.ofInt 32 (toSigned (8 * bs.length) w.toNat) else w

/-- A load of `n` octets (R126). -/
def Dev.loadOp (d : Dev) (env : Env) (x : Fin 96) (major n : Nat) (signed : Bool) (dd a : Fin 32) (imm : BitVec 16) : Dev :=
  d.insn x.val (iWord major dd.val a.val imm.toNat) [a.val] (fun _ => true) (fun c d =>
    let ad := c.gr a.val + sext16 imm
    let dst := if dd.val = 0 then [] else [(dd.val, 3)]
    if ad.toNat % n ≠ 0 then d.takeException x.val Exc.ALIGN c.pc ad none
    else if inData x.val ad n then
      d.setCtx x.val ((c.spend [a.val] 1 dst).setG dd.val
        (loadValue (memBytes (d.memNow env) (engineBase x.val + ad.toNat) n) signed)).advance
    else if d.inWindow x.val ad then
      d.setCtx x.val { c.spend [a.val] 1 [] with wait := .load dd.val (ad.toNat - 0x80000000) n signed }
    else d.takeException x.val Exc.MEMRANGE c.pc ad none)

/-- A store of `n` octets (R126). -/
def Dev.storeOp (d : Dev) (x : Fin 96) (major n : Nat) (dd a : Fin 32) (imm : BitVec 16) : Dev :=
  d.insn x.val (iWord major dd.val a.val imm.toNat) [a.val, dd.val] (fun _ => true) (fun c d =>
    let ad := c.gr a.val + sext16 imm
    let bs := (wordBytes (c.gr dd.val)).take n
    if ad.toNat % n ≠ 0 then d.takeException x.val Exc.ALIGN c.pc ad none
    else if inData x.val ad n then
      (d.memStore (engineBase x.val + ad.toNat) bs).setCtx x.val (c.spend [a.val, dd.val] 1 []).advance
    else if d.inWindow x.val ad then
      d.setCtx x.val { c.spend [a.val, dd.val] 1 [] with wait := .store (ad.toNat - 0x80000000) bs }
    else d.takeException x.val Exc.MEMRANGE c.pc ad none)

/-- LDW (R126) -/
def execLdw (x : Fin 96) (dd a : Fin 32) (imm : BitVec 16) (s : State) : Host.Outcome State Fault Refusal :=
  run (fun env d => d.loadOp env x 0x18 4 false dd a imm) s
/-- LDH -/
def execLdh (x : Fin 96) (dd a : Fin 32) (imm : BitVec 16) (s : State) : Host.Outcome State Fault Refusal :=
  run (fun env d => d.loadOp env x 0x19 2 true dd a imm) s
/-- LDHU -/
def execLdhu (x : Fin 96) (dd a : Fin 32) (imm : BitVec 16) (s : State) : Host.Outcome State Fault Refusal :=
  run (fun env d => d.loadOp env x 0x1A 2 false dd a imm) s
/-- LDB -/
def execLdb (x : Fin 96) (dd a : Fin 32) (imm : BitVec 16) (s : State) : Host.Outcome State Fault Refusal :=
  run (fun env d => d.loadOp env x 0x1B 1 true dd a imm) s
/-- LDBU -/
def execLdbu (x : Fin 96) (dd a : Fin 32) (imm : BitVec 16) (s : State) : Host.Outcome State Fault Refusal :=
  run (fun env d => d.loadOp env x 0x1C 1 false dd a imm) s
/-- STW -/
def execStw (x : Fin 96) (dd a : Fin 32) (imm : BitVec 16) (s : State) : Host.Outcome State Fault Refusal :=
  lift (fun d => d.storeOp x 0x1D 4 dd a imm) s
/-- STH -/
def execSth (x : Fin 96) (dd a : Fin 32) (imm : BitVec 16) (s : State) : Host.Outcome State Fault Refusal :=
  lift (fun d => d.storeOp x 0x1E 2 dd a imm) s
/-- STB -/
def execStb (x : Fin 96) (dd a : Fin 32) (imm : BitVec 16) (s : State) : Host.Outcome State Fault Refusal :=
  lift (fun d => d.storeOp x 0x1F 1 dd a imm) s

/-- The four lanes. -/
abbrev lanes : List Nat := [0, 1, 2, 3]

/-- LDV: lane 0 at the lowest address; signal engines alone (R117, R126). -/
def execLdv (x : Fin 96) (dd a : Fin 32) (imm : BitVec 16) (s : State) : Host.Outcome State Fault Refusal :=
  run (fun env d => d.insn x.val (iWord 0x20 dd.val a.val imm.toNat) [a.val]
    (fun _ => isSignal x.val && dd.val < 16) (fun c d =>
      let ad := c.gr a.val + sext16 imm
      if ad.toNat % 16 ≠ 0 then d.takeException x.val Exc.ALIGN c.pc ad none
      else if inData x.val ad 16 then
        d.setCtx x.val (lanes.foldl (fun c i =>
          c.setLane dd.val i (memWordAt (d.memNow env) (engineBase x.val + ad.toNat + 4 * i)))
          (c.spend [a.val] 1 [(Rk.v dd.val, 3)])).advance
      else d.takeException x.val Exc.MEMRANGE c.pc ad none)) s

/-- STV (R117, R126) -/
def execStv (x : Fin 96) (dd a : Fin 32) (imm : BitVec 16) (s : State) : Host.Outcome State Fault Refusal :=
  lift (fun d => d.insn x.val (iWord 0x21 dd.val a.val imm.toNat) [a.val, Rk.v dd.val]
    (fun _ => isSignal x.val && dd.val < 16) (fun c d =>
      let ad := c.gr a.val + sext16 imm
      if ad.toNat % 16 ≠ 0 then d.takeException x.val Exc.ALIGN c.pc ad none
      else if inData x.val ad 16 then
        (d.memStore (engineBase x.val + ad.toNat) (lanes.flatMap (fun i => wordBytes (c.lane dd.val i)))).setCtx x.val
          (c.spend [a.val, Rk.v dd.val] 1 []).advance
      else d.takeException x.val Exc.MEMRANGE c.pc ad none)) s

/-! ### Samples (R128–R130) -/

/-- A sample of the sample store, source side, by index and period. -/
def Dev.srcAt (d : Dev) (i p : Nat) : Sample := SMap.get (fun _ => {}) d.src (i * 64 + p)
/-- A sample of a source is written. -/
def Dev.setSrc (d : Dev) (i p : Nat) (s : Sample) : Dev := { d with src := SMap.put (fun _ => {}) (i * 64 + p) s d.src }
/-- A sample of the sample store, destination side. -/
def Dev.dstAt (d : Dev) (i p : Nat) : Sample := SMap.get (fun _ => {}) d.dst (i * 64 + p)
/-- A sample of a destination is written. -/
def Dev.setDst (d : Dev) (i p : Nat) (s : Sample) : Dev := { d with dst := SMap.put (fun _ => {}) (i * 64 + p) s d.dst }

/-- A sample address names four channels of a period of this tick (R129). -/
def sampleOk (c : Ctx) (a : Word) : Bool :=
  a.toNat % 256 ≤ 252 && a.toNat / 256 % 64 < c.tickSize && a.toNat / 16384 == 0

/-- The change of ga by INC (R128). -/
def sampleInc (fn : BitVec 11) : Word := if fn = 1 then 4 else if fn = 2 then 256 else 0

/-- An output sample of this tick's run is stored. -/
def Ctx.setOut (c : Ctx) (ch p : Nat) (s : Sample) : Ctx :=
  { c with outNow := SMap.put (fun _ => {}) (ch * 64 + p) s c.outNow }

/-- SLD (R128, R129) -/
def execSld (x : Fin 96) (dd a b : Fin 32) (fn : BitVec 11) (s : State) : Host.Outcome State Fault Refusal :=
  lift (fun d => d.insn x.val (rWord 0x24 dd.val a.val b.val fn.toNat) [a.val]
    (fun _ => isSignal x.val && dd.val < 16 && b.val < 4 && fn.toNat < 3) (fun c d =>
      let ad := c.gr a.val
      if !sampleOk c ad then d.takeException x.val Exc.MEMRANGE c.pc ad none
      else
        let c' := c.spend [a.val] 1 [(Rk.v dd.val, 4), (Rk.tag b.val, 4)]
        let c' := lanes.foldl (fun c' i =>
          let v := d.dstAt (0x1A000 + 256 * x.val + ad.toNat % 256 + i) (ad.toNat / 256 % 64)
          (c'.setLane dd.val i v.v).setTag b.val i v.tag) c'
        d.setCtx x.val (c'.setG a.val (ad + sampleInc fn)).advance)) s

/-- SST: the last store to an output wins; a MUTED sample is stored as zero (R128, R129). -/
def execSst (x : Fin 96) (dd a b : Fin 32) (fn : BitVec 11) (s : State) : Host.Outcome State Fault Refusal :=
  let srcs := [a.val, Rk.v dd.val, Rk.tag b.val]
  lift (fun d => d.insn x.val (rWord 0x25 dd.val a.val b.val fn.toNat) srcs
    (fun _ => isSignal x.val && dd.val < 16 && b.val < 4 && fn.toNat < 3) (fun c d =>
      let ad := c.gr a.val
      if !sampleOk c ad then d.takeException x.val Exc.MEMRANGE c.pc ad none
      else
        let c' := lanes.foldl (fun (c' : Ctx) i =>
          if c.predLane b.val i then
            let tg := c.tag b.val i
            c'.setOut (ad.toNat % 256 + i) (ad.toNat / 256 % 64) { v := if tg = 2 then 0 else c.lane dd.val i, tag := tg }
          else c') (c.spend srcs 1 [])
        d.setCtx x.val (c'.setG a.val (ad + sampleInc fn)).advance)) s

/-- STAG: fn[2:0] is the tag, 0 to 4 (R129). -/
def execStag (x : Fin 96) (dd a b : Fin 32) (fn : BitVec 11) (s : State) : Host.Outcome State Fault Refusal :=
  lift (fun d => d.ctxOp x.val (rWord 0x26 dd.val a.val b.val fn.toNat) [Rk.tag b.val, Rk.tag dd.val]
    [(Rk.tag dd.val, 1)]
    (fun _ => isSignal x.val && dd.val < 4 && b.val < 4 && a.val == 0 && fn.toNat < 5)
    (fun c => lanes.foldl (fun c' i => if c.predLane b.val i then c'.setTag dd.val i fn.toNat else c') c)) s

/-- TAGMAX (R130) -/
def execTagmax (x : Fin 96) (dd a b : Fin 32) (fn : BitVec 11) (s : State) : Host.Outcome State Fault Refusal :=
  lift (fun d => d.ctxOp x.val (rWord 0x27 dd.val a.val b.val fn.toNat) [Rk.tag a.val, Rk.tag b.val]
    [(Rk.tag dd.val, 1)]
    (fun _ => isSignal x.val && dd.val < 4 && a.val < 4 && b.val < 4 && fn == 0)
    (fun c => lanes.foldl (fun c' i => c'.setTag dd.val i (combTag (c.tag a.val i) (c.tag b.val i))) c)) s

end Sys2Proof.Machine
end

