-- ==== Sys2Proof/Machine/UlfelQueue.lean ====
section
/-! DEFINITION. The queue instructions (R138, R139): mailboxes and the tenant event queue; stewards alone (R117). -/
namespace Sys2Proof.Machine

/-- The key of the mailbox from global thread `p` to steward `s`. -/
abbrev boxKey (s p : Nat) : Nat := s * 32 + p

/-- A mailbox. -/
def Dev.box (d : Dev) (k : Nat) : Mailbox := SMap.get (fun _ => {}) d.boxes k
/-- A mailbox is replaced. -/
def Dev.setBox (d : Dev) (k : Nat) (m : Mailbox) : Dev := { d with boxes := SMap.put (fun _ => {}) k m d.boxes }

/-- A mailbox is reset after a pointer mismatch (R93): its entries discarded and counted, its credits granted anew. -/
def Dev.resetBox (d : Dev) (k : Nat) : Dev :=
  let m := d.box k
  let d := (d.setBox k { m with wr := 0, wr2 := 0, rd := 0, rd2 := 0, entries := [], credits := 8 }).count Ctr.REGEN_QUEUE 1
  d.record 1 0x04 8 (0x0F0 + k / 32) (BitVec.ofNat 32 (0x40000000 + k / 32 * 2 ^ 8 + k % 32))
    (BitVec.ofNat 32 m.entries.length)

/-- An update of a mailbox, whose pointers the device compares with their copies first (R93). -/
def Dev.moveBox (d : Dev) (k : Nat) (f : Dev → Dev) : Dev :=
  if (d.box k).wr == (d.box k).wr2 && (d.box k).rd == (d.box k).rd2 then f d else d.resetBox k

/-- The result word of a refusal that gives no target (R134). -/
def resultWord (reason : Nat) : Word := BitVec.ofNat 32 (0x300 + reason)

/-- A word is taken from a mailbox: the entry, its credit back to the producer (R138). -/
def Dev.takeBox (d : Dev) (k : Nat) : Dev :=
  let m := d.box k
  match m.entries with
  | [] => d
  | w :: ws => d.setBox k { m with entries := ws, last := w, rd := m.rd + 1, rd2 := m.rd2 + 1, credits := m.credits + 1 }

/-- A thread that waits for an entry of the mailbox takes it, the lowest thread number first (R139). -/
def Dev.serveGet (d : Dev) (k : Nat) : Dev :=
  match (List.range 8).find? (fun t => match (d.ctx (threadCtx (k / 32) t)).wait with
      | .qget _ b => b == k
      | _ => false) with
  | none => d
  | some t =>
    let x := threadCtx (k / 32) t
    match (d.box k).entries with
    | [] => d
    | w :: _ => (d.takeBox k).updCtx x (fun c => match c.wait with
        | .qget gd _ => { c.setG gd w with wait := .none }.advance
        | _ => c)

/-- A word is posted to a mailbox that holds a credit: the source "mailbox non-empty" fires where it was empty (R140), a
waiting thread takes it. -/
def Dev.putBox (d : Dev) (k : Nat) (w : Word) : Dev :=
  let m := d.box k
  let d := d.setBox k { m with entries := m.entries ++ [w], wr := m.wr + 1, wr2 := m.wr2 + 1, credits := m.credits - 1 }
  let d := if m.entries.isEmpty then
      d.fireSource (fun s => srcKind s == 6 && bits s 0 5 == k % 32) (fun x => !isSignal x && stewardOf x == k / 32)
        (fun e _ => e / 1024 == k / 32) 1
    else d
  d.serveGet k

/-- A producer that waits for a credit of the mailbox posts (R139). -/
def Dev.servePut (d : Dev) (k : Nat) : Dev :=
  let x := 64 + k % 32
  match (d.ctx x).wait with
  | .qput gd b w =>
    if b = k && (d.box k).credits ≠ 0 then
      (d.putBox k w).updCtx x (fun c => { c.setG gd 0 with wait := .none }.advance)
    else d
  | _ => d

/-- A queue instruction's word is legal: stewards alone, fn[0] is W where the instruction has it. -/
def queueLegal (x : Fin 96) (fn : BitVec 11) (w : Bool) : Bool := !isSignal x.val && (if w then fn.toNat < 2 else fn == 0)

/-- QPUT (R138, R139) -/
def execQput (x : Fin 96) (dd a b : Fin 32) (fn : BitVec 11) (s : State) : Host.Outcome State Fault Refusal :=
  lift (fun d => d.insn x.val (rWord 0x34 dd.val a.val b.val fn.toNat) [a.val, b.val] (fun _ => queueLegal x fn true)
    (fun c d =>
      let id := (c.gr a.val).toNat
      let w := c.gr b.val
      let fin (d : Dev) (r : Nat) : Dev := d.updCtx x.val (fun c =>
        ((c.spend [a.val, b.val] 1 (if dd.val = 0 then [] else [(dd.val, 4)])).setG dd.val (BitVec.ofNat 32 r)).advance)
      if id < 4 then
        let k := boxKey id (x.val - 64)
        d.moveBox k (fun d =>
          if (d.box k).credits ≠ 0 then fin (d.putBox k w) 0
          else if fn = 0 then fin d Rsn.NO_BUFFER
          else d.updCtx x.val (fun c => { c.spend [a.val, b.val] 1 [] with wait := .qput dd.val k w }))
      else if id = 0x100 then
        let ok := (d.queue c.tenant 2).credits != 0 && d.on (F.Q_EN c.tenant 2) && !(d.queue c.tenant 2).stopped
        fin (d.postEvent c.tenant (ctxUnit x.val) 4 w) (if ok then 0 else Rsn.NO_BUFFER)
      else fin d Rsn.RANGE)) s

/-- QGET: b must be zero (R138, R139) -/
def execQget (x : Fin 96) (dd a b : Fin 32) (fn : BitVec 11) (s : State) : Host.Outcome State Fault Refusal :=
  lift (fun d => d.insn x.val (rWord 0x35 dd.val a.val b.val fn.toNat) [a.val]
    (fun _ => queueLegal x fn true && b.val == 0) (fun c d =>
      let id := (c.gr a.val).toNat
      let fin (d : Dev) (w : Word) : Dev := d.updCtx x.val (fun c =>
        ((c.spend [a.val] 1 (if dd.val = 0 then [] else [(dd.val, 4)])).setG dd.val w).advance)
      if 0x20 ≤ id && id < 0x40 then
        let k := boxKey (stewardOf x.val) (id - 0x20)
        d.moveBox k (fun d =>
          match (d.box k).entries with
          | w :: _ => fin ((d.takeBox k).servePut k) w
          | [] =>
            if fn = 0 then fin (d.updCtx x.val (fun c => { c with underrun := true })) (d.box k).last
            else d.updCtx x.val (fun c => { c.spend [a.val] 1 [] with wait := .qget dd.val k }))
      else fin (d.updCtx x.val (fun c => { c with uresult := resultWord Rsn.RANGE })) 0)) s

/-- QCRED: b and fn must be zero (R138, R139) -/
def execQcred (x : Fin 96) (dd a b : Fin 32) (fn : BitVec 11) (s : State) : Host.Outcome State Fault Refusal :=
  lift (fun d => d.insn x.val (rWord 0x36 dd.val a.val b.val fn.toNat) [a.val]
    (fun _ => queueLegal x fn false && b.val == 0) (fun c d =>
      let id := (c.gr a.val).toNat
      let fin (d : Dev) (n : Nat) : Dev := d.updCtx x.val (fun c =>
        ((c.spend [a.val] 1 (if dd.val = 0 then [] else [(dd.val, 2)])).setG dd.val (BitVec.ofNat 32 n)).advance)
      if id < 4 then fin d (d.box (boxKey id (x.val - 64))).credits
      else if 0x20 ≤ id && id < 0x40 then fin d (d.box (boxKey (stewardOf x.val) (id - 0x20))).entries.length
      else if id = 0x100 then fin d (d.queue c.tenant 2).credits
      else fin (d.updCtx x.val (fun c => { c with uresult := resultWord Rsn.RANGE })) 0)) s

end Sys2Proof.Machine
end

