-- ==== Sys2Proof/Machine/UlfelEvent.lean ====
section
/-! DEFINITION. Events and time (R140–R142): ARM, WAITEV, TICKWAIT, TIME, SNAP, and timers. -/
namespace Sys2Proof.Machine

/-- The check of a source word and its parameter for a tenant (R140, R165): the reason it is not bound with, 0 if it is.
A unit that is not implemented is no source: RANGE. -/
def Dev.bindCheck (d : Dev) (tenant : Nat) (signal : Bool) (src param : Word) : Nat :=
  let zero (lo n : Nat) : Bool := bits src lo n == 0
  let owner (u : Nat) : Nat := if d.rd (F.UNIT_OWNER_OWNER u) = tenant then 0 else Rsn.NOT_OWNER
  match srcKind src with
  | 0 => if zero 0 28 then 0 else Rsn.RANGE
  | 3 => if zero 0 27 && param != 0 then 0 else Rsn.RANGE
  | k =>
    if signal then Rsn.RANGE
    else if k = 1 || k = 2 then
      (if !zero 12 16 || (classOf (bits src 0 12)).isNone then Rsn.RANGE else owner (bits src 0 12))
    else if k = 4 then (if !zero 6 22 || bits src 4 2 == 0 then Rsn.RANGE else owner 0x0FB)
    else if k = 5 then (if zero 0 28 then 0 else Rsn.RANGE)
    else if k = 6 then (if zero 5 23 then 0 else Rsn.RANGE)
    else if k = 7 then (if !zero 3 25 then Rsn.RANGE else if tenant = 0 then 0 else Rsn.NOT_OWNER)
    else if k = 8 then (if zero 3 25 then 0 else Rsn.RANGE)
    else Rsn.RANGE

/-- ARM: slot d[2:0]; what is not allowed leaves the slot disarmed (R140). -/
def execArm (x : Fin 96) (dd a b : Fin 32) (fn : BitVec 11) (s : State) : Host.Outcome State Fault Refusal :=
  lift (fun d => d.insn x.val (rWord 0x38 dd.val a.val b.val fn.toNat) [a.val, b.val]
    (fun _ => dd.val < 8 && fn == 0) (fun c d =>
      let src := c.gr a.val
      let r := d.bindCheck c.tenant (isSignal x.val) src (c.gr b.val)
      let old := c.slots.getD dd.val {}
      let slot : Slot := { data := old.data, src := if r = 0 then src else 0, param := if r = 0 then c.gr b.val else 0 }
      let c' : Ctx := { c.spend [a.val, b.val] 1 [] with slots := c.slots.set dd.val slot }
      let c' : Ctx := if r = 0 then c'
        else if isSignal x.val then { c' with excInfo := BitVec.ofNat 32 r } else { c' with uresult := resultWord r }
      d.setCtx x.val c'.advance)) s

/-- WAITEV: a must be zero, the mask is imm[7:0]; a mask of zero returns at once (R140). -/
def execWaitev (x : Fin 96) (dd a : Fin 32) (imm : BitVec 16) (s : State) : Host.Outcome State Fault Refusal :=
  lift (fun d => d.insn x.val (iWord 0x39 dd.val a.val imm.toNat) [] (fun _ => a.val == 0 && imm.toNat < 256) (fun c d =>
    let c := c.spend [] 1 []
    if imm = 0 then d.setCtx x.val (c.setG dd.val 0).advance
    else d.setCtx x.val { c with wait := .event dd.val imm.toNat }.wakeEvent)) s

/-- The domain ticks (R308). -/
def Dev.ticking (d : Dev) (m : Nat) : Bool := let st := d.ustate (0x0A0 + m); st == 2 || st == 3 || st == 4

/-- The largest number of cycles of a run (R151). -/
def Dev.noteCycles (d : Dev) (e : Nat) : Dev :=
  d.wr (F.ENG_MAXCYC_MAXCYC e) (max (d.rd (F.ENG_MAXCYC_MAXCYC e)) (d.ctx e).cycles)

/-- TICKWAIT (R141): b and fn must be zero. On a signal engine the run for the tick ends, within its budget (R156, R157);
on a steward the thread waits for a tick of the domain ga[2:0]. -/
def execTickwait (x : Fin 96) (dd a b : Fin 32) (fn : BitVec 11) (s : State) : Host.Outcome State Fault Refusal :=
  lift (fun d => d.insn x.val (rWord 0x3A dd.val a.val b.val fn.toNat) (if isSignal x.val then [] else [a.val])
    (fun _ => b.val == 0 && fn == 0 && (!isSignal x.val || a.val == 0)) (fun c d =>
      if isSignal x.val then
        (d.setCtx x.val { c.spend [] 1 [] with wait := .nextTick dd.val, ended := true, ovrRun := 0 }).noteCycles x.val
      else
        let m := (c.gr a.val).toNat % 8
        let c := c.spend [a.val] 1 []
        if d.ticking m then d.setCtx x.val { c with wait := .tick dd.val m }
        else d.setCtx x.val ({ c with uresult := resultWord Rsn.NO_CLOCK }.setG dd.val 0xFFFFFFFF).advance)) s

/-- TIME: one reading of the STC, taken up to 20 ns after the issue: how much later is a free value (R142). -/
def execTime (x : Fin 96) (dd a b : Fin 32) (fn : BitVec 11) (s : State) : Host.Outcome State Fault Refusal :=
  lift (fun d => d.insn x.val (rWord 0x3B dd.val a.val b.val fn.toNat) []
    (fun _ => dd.val % 2 == 0 && dd.val != 0 && a.val == 0 && b.val == 0 && fn == 0) (fun c d =>
      let t := t64Of (d.stcNs + Config.freeNat d.free % 21)
      (d.draw.fragValue (ctxUnit x.val) Isl.TIME 1 t 0).setCtx x.val (((c.spend [] 1 [(dd.val, 8), (dd.val + 1, 8)]).setG dd.val (loWord t)).setG (dd.val + 1)
        (hiWord t)).advance)) s

/-- SNAP: a snapshot is requested (R142). -/
def execSnap (x : Fin 96) (dd a b : Fin 32) (fn : BitVec 11) (s : State) : Host.Outcome State Fault Refusal :=
  lift (fun d => d.insn x.val (rWord 0x3C dd.val a.val b.val fn.toNat) []
    (fun _ => a.val == 0 && b.val == 0 && fn == 0) (fun c d =>
      d.snapRequest.setCtx x.val (((c.spend [] 1 (if dd.val = 0 then [] else [(dd.val, 4)])).setG dd.val
        d.snapServed).advance))) s

/-- A timer has run for one more interval and may fire: periodic, or for the first time (R140). -/
def Slot.mayExpire (s : Slot) : Bool := srcKind s.src == 3 && (s.src.getLsbD 27 || s.periods == 0)

/-- TIMER_EXPIRE: the timer of a running context's slot, or of a valid entry, has elapsed an interval (R140). -/
def execTimerExpire (k : TimerRef) (s : State) : Host.Outcome State Fault Refusal :=
  lift (fun d => match k with
    | .slot x n =>
      let sl := (d.ctx x.val).slots.getD n.val {}
      if (d.ctx x.val).running && sl.mayExpire then
        d.updCtx x.val (fun c =>
          { c with slots := c.slots.set n.val { sl with periods := sl.periods + 1 } }.fire n.val
            (BitVec.ofNat 32 (sl.periods + 1)))
      else d
    | .entry t n =>
      let e := d.entry (entryKey t.val n.val)
      if e.valid && e.slot.mayExpire then
        { d.setEntry (entryKey t.val n.val) { e with slot := { e.slot with periods := e.slot.periods + 1 } } with
          firings := d.firings ++ [(entryKey t.val n.val, BitVec.ofNat 32 (e.slot.periods + 1))] }
      else d) s

end Sys2Proof.Machine
end

