-- ==== Sys2Proof/Machine/UlfelSys.lean ====
section
/-! DEFINITION. The system instructions and the control and status registers (R143–R149), overruns of the tick budget
(R156–R158). WAIT is in Power.lean. -/
namespace Sys2Proof.Machine

/-- The word of a SYS instruction. -/
def sysWord (d a b : Fin 32) (fn : Nat) : Word := rWord 0x3D d.val a.val b.val fn

/-- NOP (R121) -/
def execNop (x : Fin 96) (dd a b : Fin 32) (s : State) : Host.Outcome State Fault Refusal :=
  lift (fun d => d.ctxOp x.val (sysWord dd a b 0) [] [] (fun _ => dd.val == 0 && a.val == 0 && b.val == 0) id) s

/-- FENCE (R143): in this model every earlier instruction of the thread has taken effect, so it completes. -/
def execFence (x : Fin 96) (dd a b : Fin 32) (s : State) : Host.Outcome State Fault Refusal :=
  lift (fun d => d.ctxOp x.val (sysWord dd a b 1) [] [] (fun _ => dd.val == 0 && a.val == 0 && b.val == 0) id) s

/-- The thread's run halts, and its command completes with g1 to g4 (R101, R144). -/
def Dev.haltThread (d : Dev) (x : Nat) : Dev :=
  let c := d.ctx x
  (d.completeRun c.kind 0 0xFFF 0 [c.gr 1, c.gr 2, c.gr 3, c.gr 4]).freeThread x

/-- HALT (R144). On a signal engine the run of this tick ends and no later tick starts one. -/
def execHalt (x : Fin 96) (dd a b : Fin 32) (s : State) : Host.Outcome State Fault Refusal :=
  lift (fun d =>
    if d.mayIssue x.val && (d.ctx x.val).atInlineEnd x.val then d.haltThread x.val
    else d.insn x.val (sysWord dd a b 2) [] (fun _ => dd.val == 0 && a.val == 0 && b.val == 0) (fun c d =>
      if isSignal x.val then
        ((d.setCtx x.val { c.spend [] 1 [] with running := false, ended := true }).noteCycles x.val).wr
          (F.ENG_STAT_HALTED x.val) 1
      else d.haltThread x.val)) s

/-- TRAP #code: it completes, and the exception follows (R147). -/
def execTrap (x : Fin 96) (dd a b : Fin 32) (code : BitVec 10) (s : State) : Host.Outcome State Fault Refusal :=
  lift (fun d => d.insn x.val (sysWord dd a b (0x400 + code.toNat)) []
    (fun _ => dd.val == 0 && a.val == 0 && b.val == 0) (fun c d =>
      (d.setCtx x.val (c.spend [] 1 [])).takeException x.val Exc.TRAP (c.pc + 4) (code.setWidth 32) none)) s

/-! ### Control and status registers (R146) -/

/-- Two tag registers, as TAGS_LO and TAGS_HI show them. -/
def Ctx.tagsWord (c : Ctx) (n : Nat) : Word :=
  BitVec.ofNat 32 ((List.range 8).foldl (fun a i => a + c.tag (n + i / 4) (i % 4) * 2 ^ (4 * i)) 0)

/-- The predicates, as PRED shows them. -/
def Ctx.predWord (c : Ctx) : Word :=
  BitVec.ofNat 32 (lanes.foldl (fun a n => a + (c.pred n).toNat * 2 ^ (4 * n)) 0)

/-- The open loop level `n`, as the loop CSRs show it: count, start, end. -/
def Ctx.loopCsr (c : Ctx) (n i : Nat) : Word :=
  match c.loops[n]? with
  | none => 0
  | some l => if i = 0 then l.count else if i = 1 then l.start else l.stop

/-- The value a CSR reads, if the engine kind implements it (R146). CYCLES of a thread are elapsed cycles: those it used,
and those other threads took from it, which the spec does not fix: a free value (log 13). -/
def Dev.csrRead (d : Dev) (x n : Nat) : Option Word :=
  let c := d.ctx x
  let s := isSignal x
  let nat (v : Nat) : Option Word := some (BitVec.ofNat 32 v)
  let only (p : Bool) (v : Nat) : Option Word := if p then nat v else none
  match n with
  | 0x000 => nat (engineOf x + (if s then 0 else 2 ^ 7 + threadOf x * 2 ^ 8))
  | 0x001 => nat c.tenant
  | 0x008 => if s then some c.predWord else none
  | 0x009 => if s then some (c.tagsWord 0) else none
  | 0x00A => if s then some (c.tagsWord 2) else none
  | 0x010 => if s then some c.tickNo else none
  | 0x011 => only s c.budget
  | 0x012 => nat (if s then c.cycles else min (c.cycles + Config.freeNat d.free) 0xFFFFFFFF)
  | 0x013 => only s c.tickSize
  | 0x014 => if s then some c.tickEntry else none
  | 0x015 => only s (c.ovrTotal + c.ovrRun * 2 ^ 16)
  | 0x020 => nat c.excCause
  | 0x021 => some c.excAddr
  | 0x022 => some c.excInfo
  | 0x023 => some c.excVec
  | 0x024 => nat ((if c.excUref then 1 else 0) + (if s && c.excBudget then 2 else 0))
  | 0x025 => some c.excScratch
  | 0x026 => some 0
  | 0x027 => nat (if c.excActive then 1 else 0)
  | 0x030 => some (c.loopCsr 0 0)
  | 0x031 => some (c.loopCsr 0 1)
  | 0x032 => some (c.loopCsr 0 2)
  | 0x033 => some (c.loopCsr 1 0)
  | 0x034 => some (c.loopCsr 1 1)
  | 0x035 => some (c.loopCsr 1 2)
  | 0x040 => only s c.vstat
  | 0x041 => if s then none else some c.uresult
  | 0x042 => only (!s) (if c.underrun then 1 else 0)
  | 0x043 => nat c.evlost
  | 0x044 => nat c.firedMask
  | _ => if 0x048 ≤ n && n ≤ 0x04F then some (c.slots.getD (n - 0x048) {}).data else none

/-- What a read of a CSR clears: its RCL fields (R146). -/
def Ctx.csrClear (c : Ctx) (n : Nat) : Ctx :=
  if n = 0x042 then { c with underrun := false } else if n = 0x043 then { c with evlost := 0 } else c

/-- The bits of a CSR that can be written; none where it has no RW or WO field, or the engine kind lacks it (R146). -/
def csrMask (x n : Nat) : Option Word :=
  let s := isSignal x
  let only (p : Bool) (m : Word) : Option Word := if p then some m else none
  match n with
  | 0x008 => only s 0xFFFF
  | 0x009 => only s 0xFFFFFFFF
  | 0x00A => only s 0xFFFFFFFF
  | 0x014 => only s 0xFFFFFFFC
  | 0x021 => some 0xFFFFFFFC
  | 0x023 => some 0xFFFFFFFC
  | 0x024 => some (if s then 3 else 1)
  | 0x025 => some 0xFFFFFFFF
  | 0x026 => some 0xFFFFFFFF
  | 0x040 => only s 0x1F
  | _ => none

/-- Two tag registers are written, with their predicates (R116). -/
def Ctx.setTags (c : Ctx) (n : Nat) (w : Word) : Ctx :=
  (List.range 8).foldl (fun c i => c.setTag (n + i / 4) (i % 4) (bits w (4 * i) 4)) c

/-- A tag word holds a reserved tag. -/
def badTags (w : Word) : Bool := (List.range 8).any (fun i => 4 < bits w (4 * i) 4)

/-- A CSR is written; the value has its reserved bits zero. -/
def Ctx.csrWrite (c : Ctx) (n : Nat) (w : Word) : Ctx :=
  match n with
  | 0x008 => lanes.foldl (fun c i => c.setPred i (BitVec.ofNat 4 (bits w (4 * i) 4))) c
  | 0x009 => c.setTags 0 w
  | 0x00A => c.setTags 2 w
  | 0x014 => { c with tickEntry := w }
  | 0x021 => { c with excAddr := w }
  | 0x023 => { c with excVec := w }
  | 0x024 => { c with excUref := w.getLsbD 0, excBudget := w.getLsbD 1 }
  | 0x025 => { c with excScratch := w }
  | 0x040 => { c with vstat := w.toNat }
  | _ => c

/-- The pairs a CSR read waits for. -/
def csrSrcs (n : Nat) : List Nat := if 0x008 ≤ n && n ≤ 0x00A then lanes.map Rk.tag else []

/-- CSRR: a must be zero, the number is imm[11:0] (R146). -/
def execCsrr (x : Fin 96) (dd a : Fin 32) (imm : BitVec 16) (s : State) : Host.Outcome State Fault Refusal :=
  lift (fun d =>
    let v := d.csrRead x.val imm.toNat
    d.insn x.val (iWord 0x3E dd.val a.val imm.toNat) (csrSrcs imm.toNat)
      (fun _ => a.val == 0 && imm.toNat < 4096 && v.isSome) (fun c d =>
        d.draw.setCtx x.val ((c.spend (csrSrcs imm.toNat) 1 (if dd.val = 0 then [] else [(dd.val, 2)])).csrClear
          imm.toNat |>.setG dd.val (v.getD 0)).advance)) s

/-- The return from a handler (R148). -/
def Dev.xret (d : Dev) (x : Nat) (c : Ctx) (srcs : List Nat) : Dev :=
  d.setCtx x { c.spend srcs 3 [] with pc := c.excAddr, loops := c.hidden, hidden := [], excActive := false }

/-- CSRW: d must be zero; a write of XRET outside a handler is illegal (R146, R148). -/
def Dev.csrw (d : Dev) (x : Nat) (dd a : Fin 32) (imm : BitVec 16) : Dev :=
  let n := imm.toNat
  d.insn x (iWord 0x3F dd.val a.val n) [a.val]
    (fun c => dd.val == 0 && n < 4096 && (csrMask x n).isSome && (n != 0x026 || c.excActive) &&
      !((n == 0x009 || n == 0x00A) && badTags (c.gr a.val))) (fun c d =>
      if n = 0x026 then d.xret x c [a.val]
      else
        let w := c.gr a.val
        let m := (csrMask x n).getD 0
        let d := d.when ((w &&& ~~~ m) != 0) (fun d => d.sat (F.UNIT_RSV_WRITES_RSV_WRITES (ctxUnit x)) 1)
        d.setCtx x ((c.spend [a.val] 1 []).csrWrite n (w &&& m)).advance)

/-- CSRW (R146) -/
def execCsrw (x : Fin 96) (dd a : Fin 32) (imm : BitVec 16) (s : State) : Host.Outcome State Fault Refusal :=
  lift (fun d => d.csrw x.val dd a imm) s

/-- XRET: any write of the CSR returns from the handler (R148). -/
def execXret (x : Fin 96) (a : Fin 32) (s : State) : Host.Outcome State Fault Refusal :=
  lift (fun d => d.csrw x.val 0 a 0x026) s

/-! ### Overruns (R149, R156–R158) -/

/-- The run of a signal engine's tick ends as an overrun (R157): its stores are discarded, it is counted, and the next run
starts at `TICK_ENTRY` or in the handler (R149); at OVR_LIMIT the engine faults (R158). -/
def Dev.overrun (d : Dev) (e : Nat) : Dev :=
  let c := d.ctx e
  let d := (d.noteCycles e).leaf (0x0B0 + e) (A.ENG_STAT e) 0
  let next : Word := if c.wait = .none then c.pc else c.pc + 4
  let run := c.ovrRun + 1
  let c' := { c with wait := .none, ended := true, overran := true, outNow := [], ovrTotal := min (c.ovrTotal + 1) 0xFFFF,
                     ovrRun := min run 0xFFFF }
  let d := if c.excBudget && !c.excActive && c.excVec ≠ 0 then
      (d.setCtx e { c' with excCause := Exc.BUDGET, excAddr := next, excInfo := BitVec.ofNat 32 c.cycles,
                            excActive := true, hidden := c.loops, loops := [], toHandler := true }).leaf (0x0B0 + e)
        (A.ENG_STAT e) 1
    else d.setCtx e { c' with toEntry := true, excActive := false, loops := [], hidden := [] }
  if d.rd (F.ENG_CFG_OVR_LIMIT e) ≤ run then
    let c := d.ctx e
    let d := d.raiseUnit 1 0x06 (0x0B0 + e) (BitVec.ofNat 32 (c.ovrTotal + c.ovrRun * 2 ^ 16)) (BitVec.ofNat 32 c.budget)
    (d.wr (F.UNIT_STATE_REASON (0x0B0 + e)) Rsn.CAPACITY).wr (F.UNIT_STATE_DETAIL (0x0B0 + e)) 0x003
  else d

/-- TICK_BUDGET_EXPIRE: a run's CYCLES reach the budget (R149, R156). -/
def execTickBudgetExpire (e : Fin 64) (s : State) : Host.Outcome State Fault Refusal :=
  lift (fun d =>
    let c := d.ctx e.val
    if c.running && !c.ended && !d.safe && d.power == 0 then
      (d.setCtx e.val { c with cycles := c.budget }).overrun e.val
    else d) s

end Sys2Proof.Machine
end

