-- ==== Sys2Proof/Machine/Ticks.lean ====
section
/-! DEFINITION. The start of a tick of a media clock domain (R308): the count and its timestamp, what the router's moves of the
last tick left for flows, rings and ports, deliveries, moves, meters, engine runs. Moves are computed at the start of their
tick and published at the start of the next (R362). -/
namespace Sys2Proof.Machine

/-! ### The clock (R308–R318) -/

/-- A nonzero target time: the STC time of a media count, in 2⁻¹⁶ ns (R309). -/
def countTime (n hz : Nat) : Int := (n * 65536 * 1000000000 / hz : Nat)

/-- The media count at which the tick that starts now begins (R308, R309): at the first tick after entry to SYNCING the
multiple of T nearest to now, or for a stream the count given; then T periods after the last. -/
def Dev.nextCount (d : Dev) (m c : Nat) : Nat :=
  let x := d.mclk m
  let t := 2 ^ (if x.ticking then x.running else x.tickLog)
  if x.ticking then (x.count + t) % 2 ^ 64
  else if d.rd (F.MCS_CTRL_SRC m) = 2 then c / t * t % 2 ^ 64
  else (2 * d.now16 * d.domainHz m + t * 65536 * 1000000000) / (2 * t * 65536 * 1000000000) * t % 2 ^ 64

/-- How far a timestamp lies from its event, within ±2 ns, in 2⁻¹⁶ ns: a free value (R308, R341; log 14). -/
def Dev.stampError (d : Dev) : Int := (Config.freeNat d.free % (4 * 65536 + 1) : Nat) - (2 * 65536 : Int)

/-- The phase error of the tick (R318): for the STC from its timestamp, for a stream, pin or group as given. -/
def Dev.phaseError (d : Dev) (m : Nat) (e : Int) : Int :=
  match d.rd (F.MCS_CTRL_SRC m) with
  | 0 => 0
  | 1 => ((d.mclk m).tickAt : Int) - countTime (d.mclk m).count (d.domainHz m)
  | _ => e

/-- The loop looks at the phase error (R318). The trim it applies is a free value within ±PULL (R516; log 36). -/
def Dev.loopStep (d : Dev) (m : Nat) (e : Int) : Dev :=
  let free := d.rd (F.MCS_CTRL_SRC m) = 0
  let d := if free then d.wr (F.MCS_STATUS_BYPASS m) 1 else d
  let d := d.refUpdate m
  let d := d.wr (F.MCS_PHASE_PHASE m) (ofSigned 32 (divRound e 65536))
  if d.on (F.MCS_STATUS_BYPASS m) then d.wr (F.MCS_STATUS_TRIM m) 0
  else
    let x := d.mclk m
    let good := e.natAbs ≤ d.rd (F.MCS_LOCK_LOCK_WIN m) * 10 * 65536 && d.refNow m
    let bad := d.rd (F.MCS_LOCK_UNLOCK_WIN m) * 10 * 65536 < e.natAbs
    let d := d.setMclk m { x with goodSince := if good then (if x.goodSince.isSome then x.goodSince else some d.clk) else none
                                  badTicks := if bad then x.badTicks + 1 else 0 }
    let most := d.pull m * 20
    let trim : Int := (Config.freeNat d.free % (2 * most + 1) : Nat) - (most : Int)
    d.draw.wr (F.MCS_STATUS_TRIM m) (ofSigned 16 trim)

/-- The clock of the domain at the start of a tick. -/
def Dev.clockTick (d : Dev) (m c : Nat) (e : Int) : Dev :=
  let x := d.mclk m
  let n := d.nextCount m c
  let at16 := ((d.now16 : Int) + d.stampError).toNat
  let d := d.draw.setMclk m { x with ticking := true, count := n, tickAt := at16, running := x.tickLog,
                                     marks := ((at16, n) :: x.marks).take 17 }
  let d := d.wr (F.MCS_COUNT_LO_COUNT m) n
  let d := (d.count (Ctr.MCS m Mc.TICKS) 1).loopStep m (d.phaseError m e)
  if d.rd (F.MCS_CTRL_SRC m) = 0 then d.acquired (0x0A0 + m) else d

/-! ### What the last tick's moves left (R361, R362) -/

/-- The region, not OFF, that a destination lies in. -/
def Dev.regionOf (d : Dev) (i : Nat) : Option Nat :=
  (List.range 64).find? (fun r => d.ustate (0xC00 + r) != 0 && d.inRegion r (i - 0x10000))

/-- A destination is written at the ticks of domain `m`: its region's, or any domain's where it lies in none. -/
def Dev.movedBy (d : Dev) (m i : Nat) : Bool :=
  match d.regionOf i with
  | some r => d.rd (F.PR_REGION_CFG_DOMAIN r) == m
  | none => true

/-- The moves of the tick that has ended are complete: destinations of the domain hold what they wrote. -/
def Dev.publish (d : Dev) (m : Nat) : Dev :=
  let mine := d.moving.filter (fun e => d.movedBy m (e.1 / 64))
  let keep := d.dst.filter (fun e => !d.movedBy m (e.1 / 64))
  { d with moving := d.moving.filter (fun e => !d.movedBy m (e.1 / 64)),
           dst := mine.foldl (fun a e => SMap.put (fun _ => {}) e.1 e.2 a) keep }

/-- The flows of a domain that are not OFF, in a direction. -/
def Dev.domainFlows (d : Dev) (m : Nat) (tx : Bool) : List Nat :=
  d.flowsNotOff.filter (fun f => d.flowDomain f == m && d.flowTx f == tx)

/-- A transmit flow takes the samples of the tick that has ended, `t` periods from `n`: those of its packets are held, the
others close as MUTED (R280, R287, R290). -/
def Dev.flowTake (d : Dev) (f n t : Nat) : Dev :=
  d.each (List.range t) (fun d p =>
    let x := d.flow f
    let k := n + p
    let into := x.txFrom.any (fun a => a ≤ k) && x.txTo.all (fun b => k < b)
    if into then
      let ss := (List.range (d.flowChans f)).map (fun c => d.dstAt (d.rd (F.FLOW_FIRST_FIRST f) + c) p)
      d.setFlow f { x with txbuf := SMap.put (fun _ => {}) k { first := d.rd (F.FLOW_FIRST_FIRST f), samples := ss } x.txbuf }
    else d.closePeriod f Fc.MUTED)

/-- A transmit flow in SYNCING learns where its first packet begins (R287): the first multiple of SPP from `n` on. -/
def Dev.flowFirst (d : Dev) (f n : Nat) : Dev :=
  let x := d.flow f
  if d.ustate (0x400 + f) ≠ 2 || x.txFrom.isSome then d
  else
    let spp := max 1 (d.flowSpp f)
    let first := if d.flowFmt f = 3 then n else (n + spp - 1) / spp * spp
    d.setFlow f { x with txFrom := some first, txTo := none, next := first }

/-- A record ring takes the tick that has ended (R111). -/
def Dev.ringTake (d : Dev) (r t : Nat) : Dev :=
  let x := d.hchRing r
  if !d.hchRuns r || x.tick ≠ t then d
  else
    let ss := (List.range t).flatMap (fun p => (List.range (d.rd (F.HCH_CFG_CHANS r))).map (fun c =>
      d.dstAt (0x19400 + d.rd (F.HCH_CFG_FIRST_CH r) + c) p))
    d.setHch r { x with record := x.record ++ [ss] }

/-- The output indices of a group: enabled slots of its output pins. -/
def Dev.groupOutputs (d : Dev) (g : Nat) : List Nat :=
  (groupPins g).flatMap (fun p =>
    if d.pinDir p.1 p.2 = 2 then (d.enabledSlots p.1 p.2).map (fun j => 0x18000 + 64 * p.1 + 32 * p.2 + j) else [])

/-- A group takes the tick that has ended for its output frames (R343). What is older than 512 periods has been played. -/
def Dev.groupTake (d : Dev) (g n t : Nat) : Dev :=
  let x := d.group g
  let outs := d.groupOutputs g
  if d.ustate (0x040 + g) = 0 || outs.isEmpty then d
  else
    let buf := (List.range t).foldl (fun a p =>
      SMap.put (fun _ => []) (n + p) (outs.map (fun i => (i, d.dstAt i p))) a) (x.outBuf.filter (fun e => n ≤ e.1 + 512))
    d.setGroup g { x with outBuf := buf }

/-- The consumers of a domain take the tick that has ended: `t` periods from `n`. -/
def Dev.takeAll (d : Dev) (m n t : Nat) : Dev :=
  let d := d.each (d.domainFlows m true) (fun d f => d.flowTake f n t)
  let d := d.each ((List.range 64).map (64 + ·)) (fun d r => if d.rd (F.HCH_CFG_DOMAIN r) = m then d.ringTake r t else d)
  d.each (List.range 16) (fun d g => if d.rd (F.APG_CFG_DOMAIN g) = m then d.groupTake g n t else d)

/-! ### Swaps (R366, R367) -/

/-- The counters of a region (R378). -/
abbrev Ctr.REGION (r off : Nat) : Nat := 0x80A000 + r * 0x20 + off
/-- A leaf of a region (R364). -/
def Dev.regionEvt (d : Dev) (r b : Nat) : Dev := d.leafLater (0xC00 + r) (A.PR_REGION_EVT r) b

/-- The shadow entries of a region. -/
def Dev.shadowCopy (d : Dev) (r : Nat) : List Word :=
  (List.range (d.regionCount r)).map (fun i => d.reg (patchShadow (d.regionBase r + i)))

/-- A captured copy replaces the active entries; a chained request starts its capture (R366, R367). -/
def Dev.swapRegion (d : Dev) (r : Nat) : Dev :=
  let x := d.region r
  let d := d.setRegs (patchActive (d.regionBase r)) x.copy
  let d := (((d.wr (F.PR_REGION_SWAP_PENDING r) 0).count (Ctr.REGION r 0x10) 1).regionEvt r 0).dirty
  let d := d.setRegion r { x with copy := [] }
  if d.on (F.PR_REGION_SWAP_CHAINED r) then
    ((d.wr (F.PR_REGION_SWAP_CHAINED r) 0).wr (F.PR_REGION_SWAP_CAPTURE r) 1).setRegion r { d.region r with copy := d.shadowCopy r }
  else d

/-! ### Deliveries (R276–R278, R286, R288) -/

/-- The samples of a source index for the tick are written. -/
def Dev.deliver (d : Dev) (p : Nat) (ss : List (Nat × Sample)) : Dev := d.each ss (fun d s => d.setSrc s.1 p s.2)

/-- A sample once more: tagged REPEAT, or MUTED zero where it was MUTED (R17). -/
def again (s : Sample) : Sample := if s.tag = 2 then {} else { v := s.v, tag := 1 }

/-- One period of a receive flow (R276, R277, R288): its fate, and what it delivers. -/
def Dev.flowPeriod (d : Dev) (f n p : Nat) : Dev :=
  let x := d.flow f
  let st := d.ustate (0x400 + f)
  let got : Period := SMap.get (fun _ => {}) x.buf n
  let mute : Dev := d.setFlow f { x with last := [], open_ := x.open_ ++ [(n, .muted)] }
  let give : Dev :=
    (d.setFlow f { x with last := got.samples, run := 0, open_ := x.open_ ++ [(n, .present)] }).deliver p
      (got.samples.zipIdx.map (fun s => (got.first + s.2, s.1)))
  if st = 3 then
    if got != {} && x.run < d.rd (F.FLOW_BUF_HOLD f) then give
    else if d.rd (F.FLOW_BUF_HOLD f) ≤ x.run then mute
    else
      let ss := (List.range (d.flowChans f)).map (fun c => again (x.last.getD c {}))
      let d := (d.setFlow f { x with last := ss, run := x.run + 1, open_ := x.open_ ++ [(n, .concealed)] }).deliver p
        (ss.zipIdx.map (fun s => (d.rd (F.FLOW_FIRST_FIRST f) + s.2, s.1)))
      if x.run = 0 then d.flowEvt f 0 else d
  else if st = 4 && got != {} then give
  else mute

/-- A receive flow at the start of a tick of `t` periods from `n` (R276, R286, R290). -/
def Dev.flowTick (d : Dev) (f n t : Nat) : Dev :=
  let u := 0x400 + f
  let d := d.flowCloseRx f
  let full := (List.range t).all (fun p => (SMap.get (fun _ => {}) (d.flow f).buf (n + p) : Period) != {})
  let d := if d.ustate u = 2 && full then d.acquired u else d
  let d := if d.ustate u = 2 then d.sat (F.UNIT_SYNC_COUNT_SYNC_COUNT u) (d.flowChans f * t) else d
  let d := d.each (List.range t) (fun d p => d.flowPeriod f (n + p) p)
  (d.setFlow f { d.flow f with buf := (d.flow f).buf.filter (fun e => n + t ≤ e.1) }).flowDepth f

/-- A playback ring at the start of a tick (R111). -/
def Dev.ringTick (d : Dev) (r t : Nat) : Dev :=
  if !d.hchRuns r then d
  else
    let d := if (d.hchRing r).block.isEmpty then d.hchUnderrun r else d
    let x := d.hchRing r
    let n := d.rd (F.HCH_CFG_CHANS r)
    let d := d.each (List.range t) (fun d p =>
      d.deliver p ((List.range n).map (fun c => (0x9400 + d.rd (F.HCH_CFG_FIRST_CH r) + c, x.block.getD (p * n + c) {}))))
    d.setHch r { x with last := x.block.drop (x.block.length - n), block := [], hostAt := x.host }

/-- The counters of a group (R357). -/
abbrev Ctr.GROUP (g off : Nat) : Nat := 0x8C0000 + g * 0x100 + off
abbrev Gc.FRAMES : Nat := 0x00
abbrev Gc.UNDERRUNS : Nat := 0x08
abbrev Gc.OVERRUNS : Nat := 0x10
abbrev Gc.LATE_FRAMES : Nat := 0x18
abbrev Gc.FRAME_ERRS : Nat := 0x20
abbrev Gc.CLK_LOSTS : Nat := 0x28
/-- The counters of a bridge (R357). -/
abbrev Ctr.BRG (b off : Nat) : Nat := 0x8C4000 + b * 0x100 + off

/-- One period of a direct group (R342, R345). No period before the first frame is an underrun (log 32). -/
def Dev.groupPeriod (d : Dev) (g n p : Nat) : Dev :=
  let x := d.group g
  match (SMap.get (fun _ => []) x.inBuf n : List (Nat × Sample)) with
  | [] =>
    if x.last.isEmpty then d
    else
      let ss := x.last.map (fun e => (e.1, again e.2))
      let d := d.setGroup g { x with last := ss.foldl (fun a e => SMap.put (fun _ => {}) e.1 e.2 a) [] }
      ((d.deliver p ss).groupEvt g 2).count (Ctr.GROUP g Gc.UNDERRUNS) 1
  | ss =>
    (d.setGroup g { x with last := ss.foldl (fun a e => SMap.put (fun _ => {}) e.1 e.2 a) [] }).deliver p ss

/-- The combined tag of a window of samples for a bridge (R352): NONAUDIO counts as MUTED; and how many it was. -/
def bridgeTag (ss : List Sample) : Nat × Nat :=
  (ss.foldl (fun t s => combTag t (if s.tag = 4 then 2 else s.tag)) 2, (ss.filter (fun s => s.tag = 4)).length)

/-- One period of a bridge's inputs (R352): the interpolated value is a free value (log 33), its tag that of the window. -/
def Dev.bridgePeriod (d : Dev) (b p : Nat) (inputs : List Nat) : Dev :=
  let w := (d.group b).window
  d.each inputs (fun d i =>
    let ss := w.filterMap (fun f => (f.samples.find? (fun s => s.1 == i)).map (·.2))
    let t := bridgeTag ss
    let d := if t.2 = 0 then d else (d.count (Ctr.BRG b 0x20) t.2).leafLater (0x090 + b) (A.BRG_EVT b) 3
    if t.1 = 2 then d
    else
      let locking := d.ustate (0x090 + b) == 2
      let d := if locking then
          (d.count (Ctr.BRG b 0x18) 1).sat (F.UNIT_SYNC_COUNT_SYNC_COUNT (0x090 + b)) 1
        else d
      d.draw.setSrc i p { v := Config.freeWord d.free, tag := if locking then 3 else t.1 })

/-- A port group at the start of a tick of its domain. -/
def Dev.groupTick (d : Dev) (g n t : Nat) : Dev :=
  let d :=
    if d.on (F.APG_CFG_BRIDGED g) then
      let inputs := ((d.group g).window.flatMap (fun f => f.samples.map (·.1))).eraseDups
      if d.ustate (0x040 + g) = 3 && d.active (0x090 + g) && SMap.get (fun _ => 0) d.bridges g = 0 then
        d.each (List.range t) (fun d p => d.bridgePeriod g p inputs)
      else d
    else if d.ustate (0x040 + g) = 3 then d.each (List.range t) (fun d p => d.groupPeriod g (n + p) p)
    else d
  d.setGroup g { d.group g with inBuf := (d.group g).inBuf.filter (fun e => n + t ≤ e.1) }

/-- The outputs of a signal engine's run that has ended (R128, R157): the stored samples; after an overrun the values of the
tick before, repeated. -/
def Dev.engineOutputs (d : Dev) (e told t : Nat) : List ((Nat × Nat) × Sample) :=
  let c := d.ctx e
  if d.ustate (0x0B0 + e) ≠ 3 && d.ustate (0x0B0 + e) ≠ 4 then []
  else if c.overran then
    (List.range 256).flatMap (fun ch =>
      let s := again (d.srcAt (0xA000 + 256 * e + ch) (told - 1))
      (List.range t).map (fun p => ((0xA000 + 256 * e + ch, p), s)))
  else c.outNow.map (fun o => ((0xA000 + 256 * e + o.1 / 64, o.1 % 64), o.2))

/-- The signal engines bound to a domain. -/
def Dev.domainEngines (d : Dev) (m : Nat) : List Nat := (List.range 64).filter (fun e => d.rd (F.ENG_CFG_DOMAIN e) == m)

/-- The sources of a domain are read anew for the tick of `t` periods from `n`; the last tick had `told`. -/
def Dev.sources (d : Dev) (m n told t : Nat) : Dev :=
  let outs := (d.domainEngines m).flatMap (fun e => d.engineOutputs e told t)
  let d := { d with src := d.src.filter (fun s => match d.indexDomain (s.1 / 64) with
      | some k => k != m
      | none => false) }
  let d := d.each outs (fun d o => d.setSrc o.1.1 o.1.2 o.2)
  let d := d.each (d.domainFlows m false) (fun d f => d.flowTick f n t)
  let d := d.each (List.range 64) (fun d r => if d.rd (F.HCH_CFG_DOMAIN r) = m then d.ringTick r t else d)
  d.each (List.range 16) (fun d g => if d.rd (F.APG_CFG_DOMAIN g) = m then d.groupTick g n t else d)

/-! ### Moves (R359–R363, R370) -/

/-- π in 2⁻¹²⁸. -/
abbrev piFix : Int := 0x3243F6A8885A308D313198A2E03707344

/-- The Taylor series of the sine from a term on, in 2⁻¹²⁸. -/
def sinTail (x2 : Int) : Nat → Nat → Int → Int
  | 0, _, _ => 0
  | fuel + 1, k, term => term + sinTail x2 fuel (k + 2) (-(term * x2 / (((k + 1) * (k + 2) : Nat) * 2 ^ 128)))

/-- sin(2π × k / n) in 2⁻¹²⁸. -/
def sinFix (k n : Nat) : Int :=
  let a : Int := if n < 2 * (k % n) then (k % n : Nat) - (n : Int) else (k % n : Nat)
  let x := 2 * piFix * a / n
  sinTail (x * x / 2 ^ 128) 45 1 x

/-- The test tone in period `n` of a domain of nominal rate `hz` (R359). -/
def toneSample (hz n : Nat) : Sample :=
  { v := BitVec.ofNat 32 (ofSigned 32 (divRound (sinFix (997 * n) hz) (10 * 2 ^ 97))), tag := 0 }

/-- A source in a period (R359). -/
def Dev.sourceAt (d : Dev) (m i n p : Nat) : Sample :=
  if i = 0xF000 then {} else if i = 0xF001 then toneSample (d.domainHz m) n else d.srcAt i p

/-- The gain of a destination, by table word. -/
def Dev.levelOf (d : Dev) (w : Nat) : LevelRt := SMap.get (fun _ => {}) d.levels w
/-- LEVEL of a gain table entry, signed Q8.24 (R369). -/
def Dev.gainLevel (d : Dev) (k : Nat) : Int := toSigned 32 (d.reg (A.PR_GAIN_LEVEL k)).toNat
/-- Division rounded away from zero. -/
def divAway (x : Int) (n : Nat) : Int := if 0 ≤ x then (x + n - 1) / n else -((-x + n - 1) / n)

/-- The gain of a destination at a tick: a changed target starts a ramp (R370). -/
def Dev.retarget (d : Dev) (m w : Nat) : Dev :=
  let k := bits (d.reg (patchActive w)) 16 8
  let x := d.levelOf w
  let target := d.gainLevel k
  if target = x.target then d
  else
    let n := max 1 ((2 * d.rd (F.PR_GAIN_RAMP_RAMP k) * d.domainHz m + 2000) / 4000)
    { d with levels := SMap.put (fun _ => {}) w { x with target := target, step := divAway (target - x.level) n } d.levels }

/-- A ramp moves one period (R370). -/
def LevelRt.advance (x : LevelRt) : LevelRt :=
  let l := x.level + x.step
  if (0 ≤ x.step && x.target ≤ l) || (x.step < 0 && l ≤ x.target) then { x with level := x.target, step := 0 } else { x with level := l }

/-- A destination's ramp moves one period. -/
def Dev.ramp (d : Dev) (w : Nat) : Dev :=
  let x := d.levelOf w
  if x.level = x.target then d else { d with levels := SMap.put (fun _ => {}) w x.advance d.levels }

/-- The destinations of a region have their entries' levels, with no ramp (R370). -/
def Dev.setLevels (d : Dev) (r : Nat) : Dev :=
  let lo := d.regionBase r
  let hi := lo + d.regionCount r
  let own := (List.range (d.regionCount r)).map (fun i =>
    let l := d.gainLevel (bits (d.reg (patchActive (lo + i))) 16 8)
    (lo + i, ({ level := l, target := l } : LevelRt)))
  { d with levels := d.levels.filter (fun e => e.1 < lo) ++ own.filter (fun e => e.2 != {}) ++
                     d.levels.filter (fun e => hi ≤ e.1) }

/-- One move (R361, R363): the entry at table word `w`, period `n`, the tick's `p`-th. -/
def Dev.move (d : Dev) (r m w : Nat) (e : Word) (n p : Nat) : Dev :=
  let i := bits e 0 16
  let foreign (o : Option Nat) : Bool := o.any (· != m)
  let cross := foreign (d.indexDomain i)
  let lost := foreign (d.indexDomain (0x10000 + w))
  let s : Sample := if cross then {} else d.sourceAt m i n p
  let v : Word := if e.getLsbD 24 then (if s.v = 0x80000000 then 0x7FFFFFFF else -s.v) else s.v
  let l := (d.levelOf w).level
  let g := gainApply d.free l v
  let out : Sample := if s.tag = 2 then {} else { v := g.1, tag := s.tag }
  let d := (if s.tag = 2 then d else d.draw).count (Ctr.REGION r 0) 1
  let d := if cross || lost then
      (d.count (Ctr.REGION r 8) ((if cross then 1 else 0) + if lost then 1 else 0)).regionEvt r 1
    else d
  if lost then d else { d with moving := SMap.put (fun _ => {}) ((0x10000 + w) * 64 + p) out d.moving }

/-- A region at the start of a tick of `t` periods from `n` (R361, R365, R370). -/
def Dev.regionTick (d : Dev) (r m n t : Nat) : Dev :=
  let u := 0xC00 + r
  let d :=
    if d.ustate u ≠ 2 then d
    else if (d.region r).synced then d.acquired u
    else
      ((d.setRegion r { d.region r with synced := true }).sat (F.UNIT_SYNC_COUNT_SYNC_COUNT u) (d.regionCount r * t)).setLevels r
  if d.ustate u ≠ 3 then d
  else
    let ws := (List.range (d.regionCount r)).map (d.regionBase r + ·)
    let d := d.each ws (fun d w => d.retarget m w)
    let es := d.activeEntries (d.regionBase r) (d.regionCount r)
    let d := d.fragSamples u t (es.map (fun e => bits e.2 0 16))
    d.each (List.range t) (fun d p =>
      let d := d.each ws Dev.ramp
      d.each es (fun d e => d.move r m e.1 e.2 (n + p) p))

/-! ### Meters (R374, R375) -/

/-- A sample of an index for a meter in domain `m`: none where its unit is in another domain (R374). -/
def Dev.metered (d : Dev) (m i n p : Nat) : Option Sample :=
  if (d.indexDomain i).any (· != m) then none
  else some (if i < 0x10000 then d.sourceAt m i n p else SMap.get (fun _ => {}) d.moving (i * 64 + p))

/-- One period of a meter cell (R374). -/
def Dev.meterPeriod (d : Dev) (m tau c i n p : Nat) : Dev :=
  let a := Ctr.CELL c
  let w0 := d.stat64 a % 2 ^ 32
  let w1 := d.stat64 a / 2 ^ 32
  let w2 := BitVec.ofNat 32 (d.stat64 (a + 8))
  let s := d.metered m i n p
  let x : Sample := s.getD {}
  let v : Word := if s.isSome then x.v else 0
  let peak := max w0 (min v.toInt.natAbs 0x7FFFFFFF)
  let ms := (Config.meanSquare tau (d.domainHz m) (BitVec.ofNat 32 w1) v).toNat
  let atEnd := v = 0x7FFFFFFF || v = 0x80000000
  let w2 := putBits w2 0 16 (min (bits w2 0 16 + if atEnd then 1 else 0) 0xFFFF)
  let w2 := if s.isSome then putBits w2 (16 + x.tag) 1 1 else putBits w2 31 1 1
  (d.setStat a (peak + ms * 2 ^ 32)).setStat (a + 8) (w2.toNat + n % 2 ^ 32 * 2 ^ 32)

/-- A loudness cell at a tick (R375): BS.1770-4, which the spec cites and does not restate, so its results are free values
(log 35); the NA bit is exact. -/
def Dev.loudTick (d : Dev) (m c n t : Nat) : Dev :=
  let a := Ctr.LOUD c
  let i := d.rd (F.MTR_LD_CFG_INDEX c)
  let na := (List.range (d.rd (F.MTR_LD_CFG_COUNT c))).any (fun k => (List.range t).any (fun p =>
    (d.metered m (i + k) (n + p) p).any (fun s => s.tag == 4)))
  let fresh (k bits : Nat) : Nat := (Config.freeWord (d.free + k)).toNat % 2 ^ bits
  let old := d.stat64 (a + 16)
  let naBit := if na || old / 2 ^ 63 = 1 then 2 ^ 31 else 0
  let d' := ((((((d.draw).draw).draw).draw).draw).draw)
  ((d'.setStat a (fresh 0 16 + fresh 1 16 * 2 ^ 32)).setStat (a + 8) (fresh 2 16 + fresh 3 16 * 2 ^ 32)).setStat (a + 16)
    (fresh 4 16 + (fresh 5 31 + naBit) * 2 ^ 32)

/-- The meter bank at a tick of a domain. -/
def Dev.meterTick (d : Dev) (m n t : Nat) : Dev :=
  if d.ustate 0x0F8 ≠ 3 then d
  else
    let d := d.when (d.scoped 0x0F8) (fun d => d.fragSamples 0x0F8 t
      ((d.bindings.map (·.2)).filter (fun i => i < 0x10000 && d.indexDomain i == some m)))
    let d := d.each (List.range 64) (fun d r =>
      if !d.on (F.MTR_RANGE_CFG_EN r) || d.rd (F.MTR_RANGE_CFG_DOMAIN r) ≠ m then d
      else
        let tau := d.rd (F.MTR_RANGE_CFG_TAU r)
        d.each (List.range (d.rd (F.MTR_RANGE_CELLS_COUNT r))) (fun d k =>
          d.each (List.range t) (fun d p =>
            d.meterPeriod m tau (d.rd (F.MTR_RANGE_CELLS_FIRST r) + k) (d.rd (F.MTR_RANGE_INDEX_INDEX r) + k) (n + p) p)))
    d.each (List.range 256) (fun d c =>
      if d.on (F.MTR_LD_CFG_EN c) && d.rd (F.MTR_LD_CFG_DOMAIN c) = m then d.loudTick m c n t else d)

/-! ### Engines and stewards (R141, R153–R157) -/

/-- The number of ticks of a domain (R146, R327). -/
def Dev.tickNo (d : Dev) (m : Nat) : Word := BitVec.ofNat 32 (d.stat64 (Ctr.MCS m Mc.TICKS))

/-- The engine's run for the tick begins (R141, R154, R157). -/
def Dev.beginTickRun (d : Dev) (e m t : Nat) : Dev :=
  let c := d.ctx e
  let no := d.tickNo m
  let c : Ctx :=
    { c with tickNo := no, tickSize := t, budget := tickBudget (coreHz d.figureOpp) t (d.domainHz m),
             cycles := 0, ready := [], outNow := [], overran := false, ended := false }
  let c : Ctx := match c.wait with
    | .nextTick r => if c.toEntry || c.toHandler then { c with wait := .none } else ({ c with wait := .none }.setG r no).advance
    | _ => c
  let c : Ctx := if c.toHandler then { c with pc := c.excVec } else if c.toEntry then { c with pc := c.tickEntry } else c
  (d.setCtx e { c with toEntry := false, toHandler := false }).wr (F.ENG_BUDGET_BUDGET e) c.budget

/-- A signal engine at the start of a tick (R153); after HALT the run ends at once (R144). -/
def Dev.engineTick (d : Dev) (e m t : Nat) : Dev :=
  let u := 0x0B0 + e
  if d.ustate u = 2 then
    if (d.ctx e).synced then
      ((d.updCtx e (fun c => { c with running := true, toEntry := true, wait := .none })).acquired u).beginTickRun e m t
    else (d.updCtx e (fun c => { c with synced := true, ended := true })).sat (F.UNIT_SYNC_COUNT_SYNC_COUNT u) (256 * t)
  else if d.ustate u = 3 then
    let halted := !(d.ctx e).running
    let d := d.beginTickRun e m t
    if halted then d.updCtx e (fun c => { c with ended := true }) else d
  else d

/-- A run that has not ended when the tick starts has overrun (R156). -/
def Dev.cutRun (d : Dev) (e : Nat) : Dev :=
  let c := d.ctx e
  if d.ustate (0x0B0 + e) = 3 && c.running && !c.ended then d.overrun e else d

/-- The steward threads that wait for the domain's tick, and the sources bound to it (R140, R141). -/
def Dev.stewardTick (d : Dev) (m : Nat) : Dev :=
  let no := d.tickNo m
  let d := d.each ((List.range 32).map (64 + ·)) (fun d x => match (d.ctx x).wait with
    | .tick r k => if k = m then d.updCtx x (fun c => ({ c with wait := .none }.setG r no).advance) else d
    | _ => d)
  d.fireSource (fun w => srcKind w == 8 && bits w 0 3 == m) (fun _ => true) (fun _ _ => true) no

/-- A tick of domain `m` starts (R308). `c` is the media count of a stream's first period, `e` the phase error of a stream, pin or
group in 2⁻¹⁶ ns (R309, R316). In safe state every destination reads MUTED (R415). -/
def Dev.tickStart (d : Dev) (m c : Nat) (e : Int) : Dev :=
  if !d.ticking m || !d.domainOn (10 + m) then d
  else
    let x := d.mclk m
    let told := 2 ^ x.running
    let first := !x.ticking
    let d := d.each (d.domainEngines m) Dev.cutRun
    let d := (d.publish m).when d.safe (fun d => { d with dst := [] })
    let d := if first then d else d.takeAll m x.count told
    let d := d.clockTick m c e
    let d := d.fragTick m (d.tickNo m).toNat
    let n := (d.mclk m).count
    let t := d.tickSize m
    let d := d.each (d.domainFlows m true) (fun d f => d.flowFirst f n)
    let d := d.each (List.range 64) (fun d r =>
      if d.ustate (0xC00 + r) ≠ 0 && d.rd (F.PR_REGION_CFG_DOMAIN r) = m && d.on (F.PR_REGION_SWAP_PENDING r) then d.swapRegion r
      else d)
    let d := d.sources m n told t
    let d := d.each (List.range 64) (fun d r => if d.rd (F.PR_REGION_CFG_DOMAIN r) = m then d.regionTick r m n t else d)
    let d := d.meterTick m n t
    let d := d.each (d.domainEngines m) (fun d e => d.engineTick e m t)
    d.stewardTick m

/-- TICK_START: a tick of domain `m` starts (R308), unless a replay drives its media clock (R450). -/
def execTickStart (m : Fin 8) (c : Nat) (e : Int) (s : State) : Host.Outcome State Fault Refusal :=
  lift (fun d => if d.replays (0x0A0 + m.val) then d else d.tickStart m.val c e) s

end Sys2Proof.Machine
end

