-- ==== Sys2Proof/Machine/Patch.lean ====
section
/-! DEFINITION. Updating a patch region (R366, R367), writes of the shadow table (R360, R364), and the cells of the meter bank
that a program restarts or clears (R375, R376). -/
namespace Sys2Proof.Machine

/-- A GO is refused: REASON, the region's descriptor, SWAP_REFUSED, and SWAP_BUSY for BUSY (R366, R367). -/
def Dev.swapRefused (d : Dev) (r reason : Nat) : Dev :=
  let d := ((d.wr (F.PR_REGION_SWAP_REASON r) reason).refuse (0xC00 + r) reason 0).regionEvt r 2
  d.when (reason == Rsn.BUSY) (fun d => d.count (Ctr.REGION r 0x18) 1)

/-- A capture starts: the shadow entries of the region are copied (R366). -/
def Dev.startCapture (d : Dev) (r : Nat) : Dev :=
  (d.wr (F.PR_REGION_SWAP_CAPTURE r) 1).setRegion r { d.region r with copy := d.shadowCopy r }

/-- A GO by a tenant, with or without CHAIN (R366, R367). A region that is DRAINING or FAULTED refuses with STATE (DEDUCED,
log 40). -/
def Dev.regionGo (d : Dev) (t r : Nat) (chain : Bool) : Dev × Verdict :=
  let u := 0xC00 + r
  let busy := d.on (F.PR_REGION_SWAP_CAPTURE r) || d.on (F.PR_REGION_SWAP_PENDING r)
  let v := firstOf [
    (t != 0 && t != d.rd (F.UNIT_OWNER_OWNER u), Rsn.NOT_OWNER, 0),
    (d.cfgRefuses t 0, Rsn.CFG_CRC, 0),
    (d.on (F.PR_REGION_SWAP_CHAINED r) || (busy && !chain), Rsn.BUSY, 0),
    (d.safe || 4 ≤ d.ustate u, Rsn.STATE, 0)]
  if v.1 ≠ 0 then (d.swapRefused r v.1, v)
  else if busy then ((d.accept u).wr (F.PR_REGION_SWAP_CHAINED r) 1, (0, 0))
  else ((d.accept u).startCapture r, (0, 0))

/-- A capture has ended: the copy is checked; it waits for its tick, or applies at once in a region that is OFF or STANDBY, or
is discarded with RANGE (R366). A chained request then starts (log 40). -/
def Dev.captureDone (d : Dev) (r : Nat) : Dev :=
  if !d.on (F.PR_REGION_SWAP_CAPTURE r) then d
  else
    let ok := (d.region r).copy.zipIdx.all (fun e => entryOk (d.regionBase r + e.2) e.1)
    let d := d.wr (F.PR_REGION_SWAP_CAPTURE r) 0
    if ok then
      let d := d.wr (F.PR_REGION_SWAP_REASON r) 0
      if d.ustate (0xC00 + r) = 0 || d.ustate (0xC00 + r) = 1 then d.swapRegion r else d.wr (F.PR_REGION_SWAP_PENDING r) 1
    else
      let d := (d.setRegion r { d.region r with copy := [] }).swapRefused r Rsn.RANGE
      if d.on (F.PR_REGION_SWAP_CHAINED r) then (d.wr (F.PR_REGION_SWAP_CHAINED r) 0).startCapture r else d

/-- A shadow word lies in the range of a region that is being captured (R366). -/
def Dev.capturing (d : Dev) (w : Nat) : Bool :=
  (List.range 64).any (fun r => d.on (F.PR_REGION_SWAP_CAPTURE r) && d.inRegion r w)

/-- A shadow entry is written; non-zero reserved bits are ignored and counted (R360). -/
def Dev.shadowWrite (d : Dev) (w : Nat) (v : Word) : Dev :=
  (d.setReg (patchShadow w) (putBits v 25 6 0)).when (bits v 25 6 != 0) (fun d => d.sat (F.UNIT_RSV_WRITES_RSV_WRITES 0x0F9) 1)

/-- A write of the patch router's block is ignored and counted (R364). -/
def Dev.patchIgnored (d : Dev) : Dev := d.sat F.PR_IGNORED_COUNT 1

/-- A write of `PR_REGIONr_WDATA`, outside a capture (R364). -/
def Dev.wdataWrite (d : Dev) (r : Nat) (v : Word) : Dev :=
  let p := d.rd (F.PR_REGION_WPTR_PTR r)
  if d.regionCount r ≤ p then d.patchIgnored
  else (d.shadowWrite (d.regionBase r + p) v).wrap (F.PR_REGION_WPTR_PTR r)

/-- RESTART of a loudness cell in use: integration begins now (R375). -/
def Dev.loudRestart (d : Dev) (c : Nat) : Dev :=
  if !d.on (F.MTR_LD_CFG_EN c) then d
  else
    let a := Ctr.LOUD c
    let na := d.stat64 (a + 16) / 2 ^ 63 * 2 ^ 63
    ((d.setStat (a + 8) (d.stat64 (a + 8) / 2 ^ 32 * 2 ^ 32 + 0x8000)).setStat (a + 16) (na + 0x8000)).setStat (a + 24) d.t64

/-- SWAP_CAPTURE_DONE: the capture of a region ends (R366). -/
def execSwapCaptureDone (r : Fin 64) (s : State) : Host.Outcome State Fault Refusal := lift (fun d => d.captureDone r.val) s

end Sys2Proof.Machine
end

