-- ==== Sys2Proof/Machine/Ports.lean ====
section
/-! DEFINITION. Port groups, ports, decimators and rate bridges (R328–R357): frames, blocks, placement, non-audio, loss and
acquisition. -/
namespace Sys2Proof.Machine

/-- The counters of a port and of a decimator (R357). -/
abbrev Ctr.AP (n off : Nat) : Nat := 0x8C1000 + n * 0x40 + off
abbrev Ctr.DEC (k off : Nat) : Nat := 0x8C2000 + k * 0x40 + off

/-- A leaf of a port, of a decimator, of a bridge. -/
def Dev.portLeaf (d : Dev) (n b : Nat) : Dev := d.leafLater (0x050 + n) (A.AP_EVT n) b
def Dev.decimEvt (d : Dev) (k b : Nat) : Dev := d.leafLater (0x100 + k) (A.DEC_EVT k) b
def Dev.bridgeEvt (d : Dev) (b e : Nat) : Dev := d.leafLater (0x090 + b) (A.BRG_EVT b) e

/-- W: bits of a slot (R332). -/
abbrev Dev.slotBits (d : Dev) (g : Nat) : Nat := d.slotWidth g

/-- The sample of an index in the last frame (R334). -/
def Dev.lastFrame (d : Dev) (g i : Nat) : Sample :=
  match (d.group g).window with
  | f :: _ => ((f.samples.find? (fun s => s.1 == i)).map (·.2)).getD {}
  | [] => {}

/-! ### The slots of a frame (R333, R334, R337, R346, R347) -/

/-- Key of a pair of a pin: port × 32 + pin × 16 + pair, the port within its group. -/
abbrev pairKey (n k i : Nat) : Nat := n % 4 * 32 + k * 16 + i

/-- The slots received on a pin in the frame that ended: index, value, and none where the slot was not completely received. -/
def Dev.pinSlotsIn (d : Dev) (g n k : Nat) (ins : List (Nat × Word)) : List (Nat × Option Word) :=
  (d.enabledSlots n k).map (fun j =>
    let i := 0x8000 + 64 * n + 32 * k + j
    (i, (ins.find? (fun e => e.1 == i)).map (fun e => BitVec.ofNat 32 (e.2.toNat % 2 ^ d.slotBits g * 2 ^ (32 - d.slotBits g)))))

/-- A pair carries the IEC 61937 preamble in a frame (R346). -/
def preamble (n k i : Nat) (ss : List (Nat × Option Word)) : Bool :=
  let at16 (j : Nat) : Option Nat := (ss.find? (fun s => s.1 == 0x8000 + 64 * n + 32 * k + j)).bind (fun s => s.2.map (fun v => bits v 16 16))
  at16 (2 * i) == some 0xF872 && at16 (2 * i + 1) == some 0x4E1F

/-- Non-audio detection on one pair of a pin (R347): entry, the count of frames since the last preamble, the end. The result
tells whether this frame is delivered in non-audio. -/
def Dev.pairFrame (d : Dev) (g n k i : Nat) (hit : Bool) : Dev :=
  let x := d.group g
  let key := pairKey n k i
  let left := SMap.get (fun _ => 0) x.nonaudio key
  let stat : Fld := ⟨A.AP_NA_STAT n, 16 * k + i, 1⟩
  if hit then
    let d := d.setGroup g { x with nonaudio := SMap.put (fun _ => 0) key (2 ^ d.rd (F.AP_NA_HOLD_LOG2 n) + 1) x.nonaudio }
    let d := if left = 1 then d.portLeaf n 1 else d
    if left ≤ 1 then ((d.wr stat 1).portLeaf n 0).count (Ctr.AP n 0) 1 else d
  else if left = 0 then d
  else
    let d := d.setGroup g { x with nonaudio := SMap.put (fun _ => 0) key (left - 1) x.nonaudio }
    if left = 1 then (d.wr stat 0).portLeaf n 1 else d

/-- The sample of a slot, with its tag: repeated where it was not received, in non-audio muted or tagged, SETTLING during a
remap (R334, R337, R345, R347). -/
def Dev.slotSample (d : Dev) (g n k : Nat) (settling : Bool) (s : Nat × Option Word) : Nat × Sample :=
  let j := s.1 % 32
  let na := SMap.get (fun _ => 0) (d.group g).nonaudio (pairKey n k (j / 2)) != 0
  let base : Sample := match s.2 with
    | some v => { v, tag := 0 }
    | none => again (d.lastFrame g s.1)
  let base : Sample := if !na then base
    else if d.on (F.AP_NA_PASS n) then (if s.2.isSome then { base with tag := 4 } else base)
    else {}
  (s.1, if settling && base.tag != 2 && base.tag != 4 then { base with tag := 3 } else base)

/-- An input pin of a port in the frame that ended: what it delivers. -/
def Dev.pinFrame (d : Dev) (g n k : Nat) (ins : List (Nat × Word)) : Dev × List (Nat × Sample) :=
  if d.pinDir n k ≠ 1 || !(d.active (0x050 + n) || d.ustate (0x050 + n) = 4) then (d, [])
  else
    let ss := d.pinSlotsIn g n k ins
    let d := if !d.on (F.AP_NA_DET n) then d
      else d.each ((List.range 16).filter (fun i => d.slotOn n k (2 * i) && d.slotOn n k (2 * i + 1)))
        (fun d i => d.pairFrame g n k i (preamble n k i ss))
    let key := n % 4 * 2 + k
    let left := SMap.get (fun _ => 0) (d.group g).remap key
    let out := ss.map (d.slotSample g n k (left != 0))
    let d := if left = 0 then d
      else (d.setGroup g { d.group g with remap := SMap.put (fun _ => 0) key (left - 1) (d.group g).remap }).count
        (Ctr.AP n 0x10) (out.filter (fun s => s.2.tag == 3)).length
    let naFrames := ((List.range 16).filter (fun i => SMap.get (fun _ => 0) (d.group g).nonaudio (pairKey n k i) != 0)).length
    if d.ustate (0x050 + n) = 3 then (d.count (Ctr.AP n 8) naFrames, out)
    else (d.sat (F.UNIT_SYNC_COUNT_SYNC_COUNT (0x050 + n)) (if d.ustate (0x050 + n) = 2 then out.length else 0), [])

/-- One output of a decimator in the frame that ended (R348, R351): the filter's coefficients are not in the spec, so its
value, and whether it saturates, are free values (log 37). -/
def Dev.decimOut (d : Dev) (g k : Nat) (falling bad : Bool) : Dev × List (Nat × Sample) :=
  let i := 0x9000 + 2 * k + (if falling then 1 else 0)
  let en := if falling then d.on (F.DEC_CFG_EN_F k) else d.on (F.DEC_CFG_EN_R k)
  let left := if falling then (d.decim k).leftF else (d.decim k).leftR
  if !en then (d, [])
  else if bad then (d, [(i, again (d.lastFrame g i))])
  else
    let clip := Config.freeBool d.free
    let v := Config.freeWord (d.free + 1)
    let d := d.draw.draw
    let d := if clip then (d.decimEvt k 1).count (Ctr.DEC k 8) 1 else d
    let v : Word := if clip then (if v.getLsbD 31 then 0x80000000 else 0x7FFFFFFF) else v
    let d := if left = 0 then d else d.count (Ctr.DEC k 0) 1
    (d, [(i, { v, tag := if left = 0 then 0 else 3 })])

/-- A decimator in the frame that ended, with its bit clock count (R351). -/
def Dev.decimFrame (d : Dev) (g k bclks : Nat) : Dev × List (Nat × Sample) :=
  let n := k / 2
  if d.pinDir n (k % 2) ≠ 3 || !d.active (0x100 + k) then (d, [])
  else
    let bad := bclks != filtRatio (d.rd (F.DEC_CFG_FILT k))
    let a := d.decimOut g k false bad
    let b := a.1.decimOut g k true bad
    let out := a.2 ++ b.2
    let d := if d.ustate (0x100 + k) = 2 then b.1.sat (F.UNIT_SYNC_COUNT_SYNC_COUNT (0x100 + k)) out.length else b.1
    if bad then (((d.decimEvt k 2).count (Ctr.DEC k 0x10) 1).settleDecim k true true, out)
    else
      let x := d.decim k
      let y : DecimRt := { x with leftR := x.leftR - 1, leftF := x.leftF - 1,
                                  done := x.done || (max x.leftR x.leftF == 1) }
      ((d.setDecim k y).wr (F.DEC_STATUS_SETTLE_LEFT k) (max y.leftR y.leftF), out)

/-- The samples of the frame that ended. -/
def Dev.frameSamples (d : Dev) (g bclks : Nat) (ins : List (Nat × Word)) : Dev × List (Nat × Sample) :=
  let r := (groupPins g).foldl (fun (a : Dev × List (Nat × Sample)) p =>
    let b := a.1.pinFrame g p.1 p.2 ins
    (b.1, a.2 ++ b.2)) (d, [])
  ((List.range 8).map (8 * g + ·)).foldl (fun (a : Dev × List (Nat × Sample)) k =>
    let b := a.1.decimFrame g k bclks
    (b.1, a.2 ++ b.2)) r

/-! ### The end of a frame (R334, R339, R341) -/

/-- The mean frame interval of a group, in 2⁻¹⁶ ns, as a fraction (R341). -/
def Dev.frameInterval (d : Dev) (g : Nat) : Nat × Nat :=
  let x := d.group g
  match x.times[0]?, x.times[16]? with
  | some a, some b => if b < a then (a - b, 16 * d.groupBlock g) else (65536 * 1000000000, d.groupHz g)
  | _, _ => (65536 * 1000000000, d.groupHz g)

/-- A complete frame joins its block; a full block is ready to cross into CORE (R341). -/
def Dev.addFrame (d : Dev) (g t : Nat) (ss : List (Nat × Sample)) : Dev :=
  let x := d.group g
  let f : PortFrame := { t, samples := ss }
  let taps := 64 * max 1 ((d.groupHz g + d.domainHz (d.rd (F.APG_CFG_DOMAIN g)) - 1) / d.domainHz (d.rd (F.APG_CFG_DOMAIN g)))
  let x := { x with window := (f :: x.window).take taps, block := x.block ++ [f] }
  if x.block.length < d.groupBlock g then d.setGroup g x
  else
    let first := (x.block.head?.map (·.t)).getD t
    let count := d.stat64 (Ctr.GROUP g Gc.FRAMES) - x.block.length
    d.setGroup g { x with block := [], ready := x.ready ++ [(count, x.block)], times := (first :: x.times).take 17 }

/-- The frame in progress ends with so many bit clocks (R332, R334). -/
def Dev.endFrame (d : Dev) (g bclks : Nat) (ins : List (Nat × Word)) : Dev :=
  let u := 0x040 + g
  let x := d.group g
  match x.frameAt with
  | none => d
  | some t =>
    let error := (2 ≤ x.frames && d.rd (F.APG_STATUS_BCLKS g) != bclks % 65536) || !d.bclksOk g bclks
    let d := (d.wr (F.APG_STATUS_BCLKS g) bclks).count (Ctr.GROUP g Gc.FRAMES) 1
    let d := d.setGroup g { x with good := if error then 0 else x.good + 1, errs := if error then x.errs + 1 else 0 }
    let d := if error then (d.groupEvt g 1).count (Ctr.GROUP g Gc.FRAME_ERRS) 1 else d.wr (F.APG_STATUS_FRAMING g) 1
    let r := d.frameSamples g bclks ins
    let d := r.1.addFrame g t (if d.ustate u = 3 then r.2 else [])
    if 2 ≤ (d.group g).errs then
      let d := d.wr (F.APG_STATUS_FRAMING g) 0
      if d.ustate u = 3 then (d.groupEvt g 1).groupLost g else d
    else if d.ustate u = 2 && 2 ≤ (d.group g).good && d.rd (F.RM_STAT_CLASS g) == d.rd (F.APG_CFG_RATE g) then d.acquired u
    else d

/-- The ports of a group that are SYNCING enter IN_SERVICE with it, or at the first frame sync after their own (R340); a
direct port needs its domain's ticks. -/
def Dev.acquirePorts (d : Dev) (g : Nat) (withGroup : Bool) : Dev :=
  let us := ((List.range 4).map (0x050 + 4 * g + ·)).filter (fun u => d.ustate u == 2)
  let ok := d.ustate (0x040 + g) == 3 && (d.on (F.APG_CFG_BRIDGED g) || d.ticking (d.rd (F.APG_CFG_DOMAIN g)))
  let seen := (d.group g).seen
  let d := d.setGroup g { d.group g with seen := us }
  if ok then d.each (us.filter (fun u => withGroup || seen.contains u)) Dev.acquired else d

/-! ### Output frames (R333, R336, R343, R345) -/

/-- A sample on the wire of a slot of W bits, left in the low bits (R333). -/
def slotOut (w : Nat) (s : Sample) : Word :=
  if s.tag = 2 then 0 else bytesWord ((List.replicate (4 - w / 8) (0 : Byte) ++ narrow (w / 8) s).reverse)

/-- The domain period that an output frame at `t` plays (R343). -/
def Dev.outputPeriod (d : Dev) (g : Nat) (t delta : Int) : Int :=
  d.periodAt (d.rd (F.APG_CFG_DOMAIN g)) (t - d.rd (F.APG_LAT_LAT g) * 65536 - delta)

/-- The predicted time of the frame that begins (R343): none before the first block. -/
def Dev.predicted (d : Dev) (g : Nat) : Option Int :=
  let x := d.group g
  let p := d.frameInterval g
  x.times.head?.map (fun t => (t : Int) + ((d.groupBlock g + x.block.length) * p.1 / p.2 : Nat))

/-- What a direct group's output pins send in the frame that begins. Before the first block has crossed nothing is predicted,
and zeros are sent (log 38). -/
def Dev.directOutputs (d : Dev) (g : Nat) (outs : List Nat) : Dev × List (Nat × Sample) :=
  let x := d.group g
  match d.predicted g, x.dout with
  | some t, some delta =>
    let m := (d.outputPeriod g t delta).toNat
    let d := match x.lastOut with
      | none => d
      | some l =>
        if m = l then (d.groupEvt g 2).count (Ctr.GROUP g Gc.UNDERRUNS) 1
        else if l + 2 ≤ m then (d.groupEvt g 3).count (Ctr.GROUP g Gc.OVERRUNS) 1
        else d
    let ss : List (Nat × Sample) := SMap.get (fun _ => []) x.outBuf m
    (d.setGroup g { d.group g with lastOut := some m }, outs.map (fun i => (i, ((ss.find? (fun s => s.1 == i)).map (·.2)).getD {})))
  | _, _ => (d, outs.map (fun i => (i, ({} : Sample))))

/-- What a bridged group's output pins send: interpolated values are free values, zero where every sample held is MUTED
(R352, R354; log 33). -/
def Dev.bridgedOutputs (d : Dev) (g : Nat) (outs : List Nat) : Dev × List (Nat × Sample) :=
  let x := d.group g
  outs.foldl (fun (a : Dev × List (Nat × Sample)) i =>
    let quiet := x.outBuf.all (fun b => b.2.all (fun s => s.1 != i || s.2.tag == 2 || s.2.tag == 4))
    if !a.1.active (0x090 + g) || quiet then (a.1, a.2 ++ [(i, ({} : Sample))])
    else (a.1.draw, a.2 ++ [(i, { v := Config.freeWord a.1.free, tag := 0 })])) (d, [])

/-- The frame that begins sends its output slots: the samples of ports IN_SERVICE, zero for others (R336). -/
def Dev.sendFrame (d : Dev) (g : Nat) : Dev :=
  let all := d.groupOutputs g
  let live := all.filter (fun i => d.ustate (0x050 + (i - 0x18000) / 64) == 3 || d.ustate (0x050 + (i - 0x18000) / 64) == 4)
  if all.isEmpty then d
  else
    let r := if d.ustate (0x040 + g) ≠ 3 || d.safe || live.isEmpty then (d, [])
      else if d.on (F.APG_CFG_BRIDGED g) then d.bridgedOutputs g live
      else d.directOutputs g live
    r.1.emit (.slots g (all.map (fun i =>
      (i, slotOut (d.slotBits g) (((r.2.find? (fun s => s.1 == i)).map (·.2)).getD {})))))

/-- The time of a frame sync edge, less `APGg_TS_DELAY`, in 2⁻¹⁶ ns (R341). -/
def Dev.frameStamp (d : Dev) (g : Nat) : Nat :=
  ((d.now16 : Int) + d.stampError - toSigned 32 (d.rd (F.APG_TS_DELAY_DELAY g))).toNat

/-- FRAME_SYNC: a rising edge of a group's frame sync. It ends a frame of `bclks` bit clocks, with the slots completely
received in it by source index, right-aligned, and begins the next (R328, R334, R339–R343). -/
def execFrameSync (g : Fin 16) (bclks : Nat) (ins : List (Nat × Word)) (s : State) : Host.Outcome State Fault Refusal :=
  lift (fun d =>
    let g := g.val
    let u := 0x040 + g
    if (!d.active u && d.ustate u ≠ 4) || d.replays u then d
    else
      let before := d.ustate u
      let d := d.endFrame g bclks ins
      let d := d.acquirePorts g (before = 2 && d.ustate u = 3)
      let x := d.group g
      let at_ := d.frameStamp g
      let d := d.draw.setGroup g { x with frameAt := some at_, frames := x.frames + 1 }
      (d.fragEdge u (16 + g) at_).sendFrame g) s

/-! ### Blocks (R341–R345) -/

/-- The centring of a direct group, from its first block (R342, R343). -/
def Dev.centre (d : Dev) (g first : Nat) : Dev :=
  let x := d.group g
  let m := d.rd (F.APG_CFG_DOMAIN g)
  if x.din.isSome || d.on (F.APG_CFG_BRIDGED g) || !(d.mclk m).ticking then d
  else
    let lat : Int := d.rd (F.APG_LAT_LAT g) * 65536
    let half : Int := (65536 * 1000000000 / (2 * d.domainHz m) : Nat)
    let mid (t : Int) : Int := d.tau m (d.periodAt m t).toNat + half
    let din := mid (first + lat) - (first + lat)
    let dout := (first - lat) - mid (first - lat)
    let d := d.setGroup g { x with din := some din, dout := some dout }
    (d.wr (F.APG_DELTA_D_IN g) (ofSigned 16 (divRound din 65536))).wr (F.APG_DELTA_D_OUT g) (ofSigned 16 (divRound dout 65536))

/-- A frame is placed in a period of its domain, or discarded (R342, R345). -/
def Dev.placeFrame (d : Dev) (g : Nat) (t delta : Int) (f : PortFrame) : Dev :=
  let m := d.rd (F.APG_CFG_DOMAIN g)
  let x := d.group g
  let n := d.periodAt m (t + d.rd (F.APG_LAT_LAT g) * 65536 + delta)
  if n < (d.mclk m).count + d.tickSize m then (d.groupEvt g 4).count (Ctr.GROUP g Gc.LATE_FRAMES) 1
  else if !(SMap.get (fun _ => []) x.inBuf n.toNat : List (Nat × Sample)).isEmpty then
    (d.groupEvt g 3).count (Ctr.GROUP g Gc.OVERRUNS) 1
  else d.setGroup g { x with inBuf := SMap.put (fun _ => []) n.toNat f.samples x.inBuf }

/-- A block has crossed into CORE: its frames are placed (R341–R345). -/
def Dev.takeBlock (d : Dev) (g count : Nat) (fs : List PortFrame) : Dev :=
  let first := (fs.head?.map (·.t)).getD 0
  let d := (d.setGroup g { d.group g with blockAt := first }).fragBlock g count fs
  let d := (d.wr (F.APG_FRAME_LO_COUNT g) count).centre g first
  match (d.group g).din with
  | none => d
  | some delta =>
    let p := d.frameInterval g
    d.each fs.zipIdx (fun d f =>
      if f.1.samples.isEmpty then d else d.placeFrame g ((first + f.2 * p.1 / p.2 : Nat) : Int) delta f.1)

/-- PORT_BLOCK_TRANSFER: the oldest complete block crosses the causeway into CORE (R341–R345). -/
def execPortBlockTransfer (g : Fin 16) (s : State) : Host.Outcome State Fault Refusal :=
  lift (fun d =>
    let x := d.group g.val
    match x.ready with
    | [] => d
    | (count, fs) :: rest => (d.setGroup g.val { x with ready := rest }).takeBlock g.val count fs) s

/-- A read of `APGg_FRAME_LO` latches the time of that block's first frame (R330). -/
def Dev.frameLatch (d : Dev) (g : Nat) : Dev :=
  let t := t64Of ((d.group g).blockAt / 65536)
  (d.setReg (A.APG_FRAME_TIME_LO g) (loWord t)).setReg (A.APG_FRAME_TIME_HI g) (hiWord t)

/-- GROUP_CLK_LOST: two nominal frame periods have passed without a frame sync edge (R339). -/
def execGroupClkLost (g : Fin 16) (s : State) : Host.Outcome State Fault Refusal :=
  lift (fun d =>
    let g := g.val
    if d.ustate (0x040 + g) = 3 then ((d.groupEvt g 0).count (Ctr.GROUP g Gc.CLK_LOSTS) 1).groupLost g else d) s

/-- DECIM_SETTLED: a decimator's settling count has reached zero (R340, R351). -/
def execDecimSettled (k : Fin 128) (s : State) : Host.Outcome State Fault Refusal :=
  lift (fun d =>
    let k := k.val
    let x := d.decim k
    if x.done && x.leftR = 0 && x.leftF = 0 then
      let d := (d.setDecim k { x with done := false }).decimEvt k 0
      if d.ustate (0x040 + k / 8) = 3 then d.acquired (0x100 + k) else d
    else if d.ustate (0x100 + k) = 2 && x.leftR = 0 && x.leftF = 0 && d.ustate (0x040 + k / 8) = 3 then d.acquired (0x100 + k)
    else d) s

/-- BRIDGE_LOCK: a bridge's fit has given a ratio (Q4.28) and a phase in ns; within range and within 100 ns it locks (R355). -/
def execBridgeLock (b : Fin 16) (ratio : Word) (phase : Int) (s : State) : Host.Outcome State Fault Refusal :=
  lift (fun d =>
    let b := b.val
    let u := 0x090 + b
    if d.ustate u ≠ 2 || d.ustate (0x040 + b) ≠ 3 || !d.ticking (d.rd (F.APG_CFG_DOMAIN b)) then d
    else
      let d := (d.setReg (A.BRG_RATIO b) ratio).wr (F.BRG_PHASE_PHASE b) (ofSigned 32 phase)
      if ratio.toNat < 2 ^ 26 || 2 ^ 30 < ratio.toNat then
        ({ d with bridges := SMap.put (fun _ => 0) b 1 d.bridges }.bridgeEvt b 2).count (Ctr.BRG b 0x10) 1
      else
        let d := { d with bridges := SMap.put (fun _ => 0) b 0 d.bridges }
        if 100 < phase.natAbs then d
        else (((d.wr (F.BRG_STATUS_LOCKED b) 1).bridgeEvt b 0).count (Ctr.BRG b 0) 1).acquired u) s

end Sys2Proof.Machine
end

