-- ==== Sys2Proof/Machine/Host.lean ====
section
/-! DEFINITION. Host paths, tenants and queues (R74–R111): binding, tenant queues, the commands of a queue. -/
namespace Sys2Proof.Machine

/-- A write that the host block or a doorbell page ignores counts (R107). -/
def Dev.ignored (d : Dev) : Dev := d.sat F.HOST_STATUS_IGNORED 1

/-- Some queue of a tenant is enabled. -/
def Dev.anyQueue (d : Dev) (t : Nat) : Bool := d.on (F.Q_EN t 0) || d.on (F.Q_EN t 1) || d.on (F.Q_EN t 2)

/-- The bits a write changes in a word. -/
def changedBits (old new : Word) : List Nat := (List.range 32).filter (fun i => old.getLsbD i != new.getLsbD i)

/-- A write of `HOST_BIND` w (R86): ignored whole where it changes the bit of a tenant with a queue enabled; a bind that
would make a 65th SPI tenant is ignored by itself. Bit 0 of word 0 is reserved. -/
def Dev.hostBind (d : Dev) (w : Nat) (v m : Word) : Dev :=
  let a := F.HOST_BIND_SPI w |>.addr
  let old := d.reg a
  let d := d.when (w == 0 && (v &&& m).getLsbD 0) (fun d => d.countReserved a)
  let new := (old &&& ~~~ m) ||| (v &&& m)
  let ch := (changedBits old new).filter (fun i => !(w == 0 && i == 0))
  if ch.any (fun i => d.anyQueue (32 * w + i)) then d.ignored
  else d.each ch (fun d i =>
    if new.getLsbD i then
      if 64 ≤ d.rd F.HOST_SPI_TENANTS_COUNT then d.ignored
      else (d.setReg a (putBits (d.reg a) i 1 1)).wr F.HOST_SPI_TENANTS_COUNT (d.rd F.HOST_SPI_TENANTS_COUNT + 1)
    else (d.setReg a (putBits (d.reg a) i 1 0)).wr F.HOST_SPI_TENANTS_COUNT (d.rd F.HOST_SPI_TENANTS_COUNT - 1))

/-- A write of `HOST_T0_PATH` (R87). -/
def Dev.hostT0Path (d : Dev) (v m : Word) : Dev :=
  let new := ((d.reg A.HOST_T0_PATH &&& ~~~ m) ||| (v &&& m)) &&& 1
  if new = d.reg A.HOST_T0_PATH then d else if d.anyQueue 0 then d.ignored else d.setReg A.HOST_T0_PATH new

/-- A map is bad by itself (R78): its counts, or a tenant bound to the management SPI. -/
def Dev.vfBadAlone (d : Dev) (v : Nat) : Bool :=
  let f := d.rd (F.HOST_VF_MAP_FIRST v)
  let c := d.rd (F.HOST_VF_MAP_COUNT v)
  c == 0 || 32 < c || f == 0 || 512 < f + c || (List.range c).any (fun i => d.spiBound (f + i))

/-- Two maps share a tenant. -/
def Dev.vfOverlap (d : Dev) (v w : Nat) : Bool :=
  d.rd (F.HOST_VF_MAP_FIRST v) < d.rd (F.HOST_VF_MAP_FIRST w) + d.rd (F.HOST_VF_MAP_COUNT w) &&
    d.rd (F.HOST_VF_MAP_FIRST w) < d.rd (F.HOST_VF_MAP_FIRST v) + d.rd (F.HOST_VF_MAP_COUNT v)

/-- VF Enable with a number of virtual functions (R78); none clears it. -/
def Dev.vfEnable (d : Dev) (n : Nat) : Dev :=
  if n = 0 then { d with host := { d.host with vfEnable := false, numVfs := 0, vfMaps := [] } }
  else
    let vs := (List.range n).map (· + 1)
    let bad := vs.filter (fun v => d.vfBadAlone v || vs.any (fun w => w != v && d.vfOverlap v w))
    let word (k : Nat) : Word := BitVec.ofNat 32 ((bad.filter (fun v => v / 32 == k)).foldl (fun a v => a + 2 ^ (v % 32)) 0)
    let d := (d.setReg (F.HOST_VF_BAD_BAD 0).addr (word 0)).setReg (F.HOST_VF_BAD_BAD 1).addr (word 1)
    { d with host := { d.host with
        vfEnable := true, numVfs := n,
        vfMaps := (vs.filter (fun v => !bad.contains v)).map
          (fun v => (v, d.rd (F.HOST_VF_MAP_FIRST v), d.rd (F.HOST_VF_MAP_COUNT v))) } }

/-! ### Enabling and moving tenant queues -/

/-- A queue starts: pointers and fills zero, credits granted (R89, R96). -/
def Dev.startQueue (d : Dev) (t q : Nat) : Dev :=
  let x := d.queue t q
  let n := d.qDepth t q
  let d := d.setQueue t q { x with wr := 0, wr2 := 0, rd := 0, rd2 := 0, entries := [], credits := n,
                                   armed := true, stopped := false }
  let d := d.wr (F.Q_EN t q) 1
  if q = 0 then (d.wr (F.SQ_CREDIT_CREDIT t) n).wr (F.SQ_HEAD_HEAD t) 0
  else if q = 2 then d.coalesced t
  else d

/-- A queue stops: entries not consumed are discarded and credits lapse (R96). -/
def Dev.stopQueue (d : Dev) (t q : Nat) : Dev :=
  let x := d.queue t q
  let d := d.setQueue t q { x with wr := 0, wr2 := 0, rd := 0, rd2 := 0, entries := [], credits := 0,
                                   dropped := if q = 2 then 0 else x.dropped, stopped := false }
  let d := d.wr (F.Q_EN t q) 0
  if q = 0 then
    let d := d.wr (F.SQ_CREDIT_CREDIT t) 0
    let d : Dev := { d with cmds := d.cmds.map (fun (c : Cmd) => if c.tenant = t then { c with lapsed := true } else c) }
    let y := d.queue t 1
    if y.held.isEmpty then d
    else d.setQueue t 1 { y with held := y.held.map (fun (ws : List Word) => putBits (ws.headD 0) 24 4 0 :: ws.drop 1) }
  else d

/-- The check of a queue's EN (R96). -/
def Dev.enCheck (d : Dev) (t q : Nat) : Nat :=
  let k := d.rd (F.Q_DEPTH_LOG2 t q)
  if !d.spiBound t && (k < 4 || 12 < k || bits (d.reg (A.Q_BASE_LO t q)) 0 12 != 0) then Rsn.RANGE
  else if q = 0 && (!d.on (F.Q_EN t 1) || d.qDepth t 1 < d.qDepth t 0) then Rsn.INCOMPLETE
  else 0

/-- A write of a queue's configuration word (R95, R96). -/
def Dev.writeQCfg (d : Dev) (t q : Nat) (v m : Word) : Dev :=
  let a := A.SQ_CFG t + 0x10 * q
  let old := d.reg a
  let new := (old &&& ~~~ m) ||| (v &&& m)
  let en := d.on (F.Q_EN t q)
  let d := d.when (en && bits new 0 4 != bits old 0 4) Dev.ignored
  let keep := if en then bits old 0 4 else bits new 0 4
  let d := ((d.wr (F.Q_DEPTH_LOG2 t q) keep).wr (F.Q_THRESH t q) (bits new 8 12)).wr (F.Q_IRQ t q) (bits new 30 1)
  if !en && new.getLsbD 31 then
    let r := d.enCheck t q
    if r = 0 then d.startQueue t q else d.wr (F.QSTAT_REASON t) r
  else if en && !new.getLsbD 31 then
    if q = 1 && d.on (F.Q_EN t 0) then d.wr (F.QSTAT_REASON t) Rsn.STATE else d.stopQueue t q
  else d

/-- A write of a queue's base word: ignored while the queue is enabled; the written value is kept whole for the check of
EN (R96). -/
def Dev.writeQBase (d : Dev) (t q hi : Nat) (v m : Word) : Dev :=
  let a := A.Q_BASE_LO t q + 4 * hi
  let new := (d.reg a &&& ~~~ m) ||| (v &&& m)
  if d.on (F.Q_EN t q) then (if new = d.reg a then d else d.ignored)
  else (d.setReg a new).when (hi = 0 && bits (v &&& m) 0 12 != 0) (fun d => d.countReserved a)

/-- A write of `SQ_TAIL` (R90, R96). -/
def Dev.sqTail (d : Dev) (t : Nat) (v : Word) : Dev :=
  if !d.on (F.Q_EN t 0) || d.spiBound t then d.ignored
  else d.moveQueue t 0 (fun d =>
    let x := d.queue t 0
    let n := (v.setWidth 16 - x.wr).toNat
    if d.rd (F.SQ_CREDIT_CREDIT t) < n then d.wr (F.QSTAT_SQ_OVERCREDIT t) 1
    else ((d.setQueue t 0 (x.advWr n)).wr (F.SQ_CREDIT_CREDIT t) (d.rd (F.SQ_CREDIT_CREDIT t) - n)).threshold t 0 x.fill)

/-- A write of `CQ_HEAD` or `EQ_HEAD` (R91, R96, R97, R98, R106). -/
def Dev.qHead (d : Dev) (t q : Nat) (v : Word) : Dev :=
  if !d.on (F.Q_EN t q) || d.spiBound t then d.ignored
  else d.moveQueue t q (fun d =>
    let x := d.queue t q
    let n := (v.setWidth 16 - x.rd).toNat
    if x.fill < n then (d.wr (if q = 1 then F.QSTAT_CQ_UNDERRUN t else F.QSTAT_EQ_UNDERRUN t) 1).ignored
    else
      let x' := { x.advRd n with credits := x.credits + n, armed := true, stopped := x.stopped && v.setWidth 16 != (0 : BitVec 16) }
      (d.setQueue t q x').when (q = 2) (fun d => d.coalesced t))

/-- The words of a tenant's SQ_PORT (R95). -/
def Dev.sqPortWords (d : Dev) (t : Nat) : List Word := d.regsAt (F.SQ_PORT_ENTRY t 0).addr 16

/-- A write of word `i` of SQ_PORT; word 15 posts the sixteen as one command (R94). -/
def Dev.sqPort (d : Dev) (t i : Nat) (v m : Word) : Dev :=
  let a := (F.SQ_PORT_ENTRY t i).addr
  let d := d.setReg a ((d.reg a &&& ~~~ m) ||| (v &&& m))
  if i ≠ 15 then d
  else if !d.on (F.Q_EN t 0) then d.ignored
  else d.moveQueue t 0 (fun d =>
    let x := d.queue t 0
    if d.rd (F.SQ_CREDIT_CREDIT t) = 0 then d.wr (F.QSTAT_SQ_OVERCREDIT t) 1
    else ((d.setQueue t 0 { x.advWr 1 with entries := x.entries ++ [d.sqPortWords t] }).wr (F.SQ_CREDIT_CREDIT t)
        (d.rd (F.SQ_CREDIT_CREDIT t) - 1)).threshold t 0 x.fill)

/-- What a read port of a completion or event queue shows: the oldest entry, or the last one again (R91). -/
def Queue.port (x : Queue) (i : Nat) : Word := (x.entries.headD x.last).getD i 0

/-- A read of word `i` of CQ_PORT or EQ_PORT: on an empty queue it sets UNDERRUN; the last word consumes (R91, R95). -/
def Dev.portRead (d : Dev) (t q i : Nat) : Dev :=
  let x := d.queue t q
  match x.entries with
  | [] => d.wr (if q = 1 then F.QSTAT_CQ_UNDERRUN t else F.QSTAT_EQ_UNDERRUN t) 1
  | e :: es =>
    if i + 1 < (if q = 1 then 8 else 4) then d
    else d.moveQueue t q (fun d =>
      (d.setQueue t q { x.advRd 1 with entries := es, last := e, credits := x.credits + 1, armed := true }).when (q = 2)
        (fun d => d.coalesced t))

/-- A write of `USER_DB`: the doorbell triggers armed on the tenant fire with the value (R140). -/
def Dev.userDb (d : Dev) (t : Nat) (v : Word) : Dev :=
  d.fireSource (fun w => srcKind w == 5) (fun x => (d.ctx x).tenant == t) (fun _ e => e.tenant == t) v

/-! ### The commands of a queue (R99–R103) -/

/-- The fields of a command descriptor (R99). -/
abbrev cOpcode (ws : List Word) : Nat := bits (ws.getD 0 0) 0 4
abbrev cWait (ws : List Word) : Bool := (ws.getD 0 0).getLsbD 8
abbrev cSeq (ws : List Word) : Nat := bits (ws.getD 0 0) 16 16
abbrev cTenant (ws : List Word) : Nat := bits (ws.getD 1 0) 0 9
abbrev cTarget (ws : List Word) : Nat := bits (ws.getD 2 0) 0 16
abbrev cSteward (ws : List Word) : Nat := bits (ws.getD 2 0) 16 2
abbrev cNargs (ws : List Word) : Nat := bits (ws.getD 3 0) 0 4
abbrev cOrder (ws : List Word) : Nat := bits (ws.getD 3 0) 4 4
/-- The ARG words in use; words beyond NARGS are ignored (R99). -/
abbrev cArgs (ws : List Word) : List Word := (ws.drop 4).take (cNargs ws)

/-- A field that must be zero is not, or the command is out of range (R99). -/
def Dev.cmdRange (d : Dev) (ws : List Word) : Bool :=
  let op := cOpcode ws
  let w0 := ws.getD 0 0
  let w2 := ws.getD 2 0
  op == 0 || 4 < op || bits w0 4 4 != 0 || bits w0 9 7 != 0 || bits (ws.getD 1 0) 9 23 != 0 || bits w2 18 14 != 0 ||
    bits (ws.getD 3 0) 8 24 != 0 || 12 < cNargs ws ||
    (op != 3 && (cWait ws || cOrder ws != 0)) ||
    (op == 3 && (bits w2 12 4 != 0 || cSteward ws != 0 || cNargs ws != 0)) ||
    (op == 4 && (cTarget ws != 0 || cSteward ws != 0 || cNargs ws != 0)) ||
    (op == 2 && cTarget ws != 0) ||
    ((op == 1 || op == 2) && d.ustate (0x0F0 + cSteward ws) != 3)

/-- The RUN or INLINE commands of a tenant that wait for a thread hold back the commands behind them (R100). -/
def Dev.heldBack (d : Dev) (t : Nat) : Bool :=
  d.stewards.any (fun s => s.2.startq.any (fun r => match r.kind with
    | .entry _ (some c) => c.1 == t
    | .inlineRun u _ => u == t
    | _ => false))

/-- A trigger or RUN is dropped by policy or overflow: counted, and DROP_EVT set (R161, R169). -/
def Dev.dropRun (d : Dev) (k : Nat) : Dev :=
  let e := d.entry k
  (d.setEntry k { e with dropped := min (e.dropped + 1) 0xFFFF }).leaf (0x0F0 + k / 1024) (A.STW_STAT (k / 1024)) 1

/-- A RUN for an entry that is running meets the entry's policy (R102, R169). -/
def Dev.policyRun (d : Dev) (s n t seq : Nat) (args : List Word) : Dev :=
  let k := entryKey s n
  let e := d.entry k
  let req : StartReq := { kind := .entry n (some (t, seq)), tenant := t, args := args, pc := e.addr }
  if !e.running then (d.setEntry k { e with running := true }).requestStart s req
  else match e.policy with
    | 1 => (d.dropRun k).completeCmd t seq Rsn.BUSY 0xFFF 0 []
    | 2 =>
      if e.waiting.length < 15 then d.setEntry k { e with waiting := e.waiting ++ [req] }
      else (d.dropRun k).completeCmd t seq Rsn.BUSY 0xFFF 0 []
    | _ =>
      match e.waiting with
      | [] => d.setEntry k { e with waiting := [req] }
      | r :: rs =>
        let r' := match r.kind with
          | .entry _ none => { r with args := r.args.set 1 (r.args.getD 1 0 + 1) }
          | _ => r
        (d.setEntry k { e with waiting := r' :: rs, coalesced := min (e.coalesced + 1) 0xFFFF }).completeCmd t seq
          Rsn.BUSY 0xFFF 0 []

/-- A RUN command starts (R102, R166). -/
def Dev.startRun (d : Dev) (t : Nat) (ws : List Word) : Dev :=
  let s := cSteward ws
  let n := cTarget ws
  let e := d.entry (entryKey s n)
  if 1024 ≤ n || d.rd (F.STW_ETAB_COUNT_COUNT s) ≤ n || !e.valid then d.completeCmd t (cSeq ws) Rsn.RANGE 0xFFF 0 []
  else if t ≠ 0 && t ≠ e.tenant && !e.anyTenant then d.completeCmd t (cSeq ws) Rsn.NOT_OWNER 0xFFF 0 []
  else d.policyRun s n t (cSeq ws) (cArgs ws)

/-- An INLINE command asks for a thread (R101, R168); the request holds the number of its instructions. The words' own
address the spec does not give: pc counts from 0 (log 10). -/
def Dev.startInline (d : Dev) (t : Nat) (ws : List Word) : Dev :=
  d.requestStart (cSteward ws) { kind := .inlineRun t (cSeq ws), tenant := t, args := [BitVec.ofNat 32 (cNargs ws)] }

/-- A UNITOP command gives its order (R103). -/
def Dev.startUnitop (d : Dev) (t : Fin 512) (ws : List Word) : Dev :=
  let u := bits (ws.getD 2 0) 0 12
  let fin (d : Dev) (v : Verdict) : Dev :=
    d.completeCmd t.val (cSeq ws) v.1 u v.2 [BitVec.ofNat 32 (d.rd (F.UNIT_CMD_TARGET u))]
  if (classOf u).isNone then d.completeCmd t.val (cSeq ws) Rsn.RANGE u 0 []
  else
    let r := d.giveOrder (.cmd t) u (cOrder ws)
    let d := r.1
    let st := d.ustate u
    if r.2.1 ≠ 0 || !cWait ws || cOrder ws = 0 ||
        (!d.on (F.UNIT_CMD_BUSY u) && !d.walking u && st == targetState (d.rd (F.UNIT_CMD_TARGET u))) then fin d r.2
    else { d with waits := d.waits ++ [{ unit := u, target := d.rd (F.UNIT_CMD_TARGET u), who := .cmd t.val (cSeq ws) }] }

/-- A command that has been fetched starts (R99–R103). -/
def Dev.startCmd (d : Dev) (t : Fin 512) (ws : List Word) : Dev :=
  let done (d : Dev) (r : Nat) : Dev := d.completeCmd t.val (cSeq ws) r 0xFFF 0 []
  if cTenant ws ≠ t.val then done d Rsn.NOT_OWNER
  else if d.cmdRange ws then done d Rsn.RANGE
  else match cOpcode ws with
    | 1 => d.startRun t.val ws
    | 2 => d.startInline t.val ws
    | 3 => d.startUnitop t ws
    | _ => done d 0

/-- The next command of a tenant's queue: from the device for an SPI-bound tenant, else as the DMA read it (R94). -/
def Dev.nextCmd (d : Dev) (t : Nat) (ws : List Word) : List Word := if d.spiBound t then (d.queue t 0).entries.headD [] else ws

/-- The function through which a tenant reaches the device. -/
def Dev.fnOf (d : Dev) (t : Nat) : Nat := ((d.vfOf t).map (·.1)).getD 0

/-- A command may be fetched now (R79, R100, R385, R400, R413): the queue enabled and not empty, DMA allowed, the host
subsystem not stopped, nothing holding the queue back, and a FENCE only after every earlier command. -/
def Dev.mayFetch (d : Dev) (t : Nat) (ws : List Word) : Bool :=
  d.on (F.Q_EN t 0) && (d.queue t 0).fill != 0 && d.power == 0 && !d.on F.PWR_STATUS_TRANSIT && d.coreOn &&
    d.rd F.ERR_STATUS_STOPPED / 2 ^ 0xA % 2 == 0 && (d.spiBound t || !d.host.d3hot.contains (d.fnOf t)) && !d.heldBack t &&
    (cOpcode (d.nextCmd t ws) != 4 || d.cmds.all (fun c => c.tenant != t))

/-- The device fetches the next command of a queue and starts it (R100). -/
def Dev.fetchCmd (d : Dev) (t : Fin 512) (ws : List Word) : Dev :=
  if !d.mayFetch t.val ws then d
  else d.moveQueue t.val 0 (fun d =>
    let cmd := d.nextCmd t.val ws
    let x := d.queue t.val 0
    let d := (d.setQueue t.val 0 { x.advRd 1 with entries := x.entries.drop 1 }).wr (F.SQ_HEAD_HEAD t.val) (x.rd + 1).toNat
    let d : Dev := { d with cmds := d.cmds ++ [{ tenant := t.val, seq := cSeq cmd : Cmd }] }
    d.startCmd t cmd)

/-- A completion that was held is posted, credit having returned (R97). -/
def Dev.postHeld (d : Dev) (t : Nat) : Dev :=
  let x := d.queue t 1
  match x.held with
  | [] => d
  | ws :: rest =>
    if x.credits = 0 || x.stopped || !d.on (F.Q_EN t 1) then d else (d.setQueue t 1 { x with held := rest }).putCompletion t ws

/-- The tenants a function level reset concerns (R79): a virtual function's, or every PCIe-bound tenant. -/
def Dev.flrTenants (d : Dev) (fn : Nat) : List Nat :=
  if fn = 0 then (d.queues.map (fun e => e.1 / 4)).eraseDups.filter (fun t => !d.spiBound t)
  else (d.host.vfMaps.filter (fun m => m.1 == fn)).flatMap (fun m => (List.range m.2.2).map (· + m.2.1))

/-- A function level reset (R79): the queues of its tenants disabled, its vectors masked, completions of commands already
started discarded; it is in D0 again. -/
def Dev.flr (d : Dev) (fn : Nat) : Dev :=
  let ts := d.flrTenants fn
  let d : Dev := { d with cmds := d.cmds.map (fun (c : Cmd) => if ts.contains c.tenant then { c with discard := true } else c) }
  let d := d.each ts (fun d t => d.each [0, 1, 2] (fun d q =>
    (d.stopQueue t q).setQueue t q { (d.stopQueue t q).queue t q with held := [] }))
  { d with host := { d.host with
      msix := d.host.msix.filter (fun e => e.1 / 4096 != fn), pba := d.host.pba.filter (fun e => e.1 != fn),
      d3hot := d.host.d3hot.filter (· != fn) } }

/-- Entry to D3hot (R79). -/
def Dev.enterD3hot (d : Dev) (fn : Nat) : Dev :=
  { d with host := { d.host with d3hot := fn :: d.host.d3hot.filter (· != fn) } }

/-- An access to a function's BAR2/3: one word of its MSI-X table; clearing a mask sends what is pending (R75). -/
def Dev.writeMsix (d : Dev) (fn off : Nat) (v : Word) : Dev :=
  let n := if fn = 0 then 1024 else 32
  if off % 4 ≠ 0 || n * 16 ≤ off then d
  else
    let d := d.setMsix fn (off / 4) v
    let e := off / 16
    if off / 4 % 4 = 3 && !v.getLsbD 0 && d.host.pba.contains (fn, e) then
      ({ d with host := { d.host with pba := d.host.pba.filter (· != (fn, e)) } }).signal fn e
    else d

/-! ### Held events (R45, R92) -/

/-- 10 ms after the last event of a unit, a held one is posted (R45). -/
def Dev.expireUnit (d : Dev) (u : Nat) : Dev :=
  let r := d.unit u
  if r.heldPost then d.postUnit u else d

/-- 10 ms after the last threshold event of a queue, a held one is posted (R92). -/
def Dev.expireQueue (d : Dev) (t q : Nat) : Dev :=
  let x := d.queue t q
  if x.thrHeld then
    (d.setQueue t q { x with thrHeld := false, thrPost := some d.clk }).postEvent t noUnit 2 (queueDetail q)
  else d

end Sys2Proof.Machine
end

