-- ==== Sys2Proof/Machine/ResetState.lean ====
section
/-! DEFINITION. What the resets keep and what they return to reset values (R457–R463, R383, R393, R412), below the level of
commands. -/
namespace Sys2Proof.Machine

/-- The output pin PWR_GOOD in the model's record of pin levels. -/
abbrev Pin.PWR_GOOD : Nat := 0

/-- The kinds of reset: a fall of RESET_N, a monitor trip or a thermal shutdown, which reset AON too; `GLB_SOFT_RESET` and a
PCIE_PERST_N that acts as it; the warm boot after LISTEN (R460). -/
inductive ResetKind where
  | board | soft | warm
deriving DecidableEq, Repr

/-- The bits of `MGT_RESET_CAUSE` (R466). -/
abbrev Cause.COLD : Nat := 0
abbrev Cause.RESET_N : Nat := 1
abbrev Cause.PERST : Nat := 2
abbrev Cause.SOFT : Nat := 3
abbrev Cause.LISTEN : Nat := 4
abbrev Cause.SUPPLY : Nat := 5
abbrev Cause.THERM : Nat := 6

/-- A register word that a reset keeps: the causes of resets, the levels of pins, the log's head; for a soft reset the MGT island but
its boot registers; for the warm boot the PWR block and the AON fields of the CLK block (R460, R466, R485, R407, R383). -/
def keptWord (k : ResetKind) (a : Nat) : Bool :=
  a == A.MGT_RESET_CAUSE || a == A.MGT_PIN_LEVEL || a == A.GPIO_IN || a == A.MGT_VDDIO_LEVEL || a == A.ERR_LOG ||
    (match k with
      | .board => false
      | .soft => 0xA00C ≤ a && a < 0xB000
      | .warm => (0x1000 ≤ a && a < 0x2000) || (0x2008 ≤ a && a < 0x2030))

/-- A counter that a reset keeps: those of the PWR block, for the warm boot (R403). -/
def keptStat (k : ResetKind) (a : Nat) : Bool := k == .warm && 0x803000 ≤ a && a < 0x804000

/-- The device with everything at its reset values but what the reset keeps. Peat, and what it holds of the key store and of
security, outlives all of them (R460); so do what is outside the device and the model's own record. -/
def Dev.afterReset (d : Dev) (k : ResetKind) : Dev :=
  let soft := k == .soft
  let new : Dev :=
    { regs := d.regs.filter (fun e => keptWord k e.1), stat := d.stat.filter (fun e => keptStat k e.1)
      clk := d.clk, free := d.free, out := d.out, hostMem := d.hostMem, peat := d.peat, keys := d.keys
      sec := { debugFlag := d.sec.debugFlag, pendingErase := d.sec.pendingErase, minSvn := d.sec.minSvn }
      host := if soft then { vfEnable := d.host.vfEnable, numVfs := d.host.numVfs, d3hot := d.host.d3hot } else {}
      mgt := if soft then d.mgt else {}
      pwr := if k == .warm then { wakeOut := d.pwr.wakeOut } else {}
      rst := { d.rst with warm := k == .warm }
      memw := d.memw ++ [.clear 0xC00000 0x2000000] }
  let new := new.wr F.PWR_DOMAIN_STATE_VDDIO (d.rd F.PWR_DOMAIN_STATE_VDDIO)
  let new := new.when (k == .warm) (fun n =>
    ((n.wr F.PWR_DOMAIN_STATE_ON 0).wr F.PWR_DOMAIN_STATE_ISLANDS 0x3F))
  if k = .board then new else new.count Ctr.LOG_DROPPED d.err.deferred.length

/-- A bit of `MGT_RESET_CAUSE` is set (R466). -/
def Dev.resetCause (d : Dev) (b : Nat) : Dev := d.setBit A.MGT_RESET_CAUSE b

/-- The key store is erased, its slots overwritten one by one (R433, R434). -/
def Dev.eraseKeys (d : Dev) : Dev := { d with keys := [] }

/-- Steps 2 and 3 of the reset sequence (R459): what fuses and peat give to registers; a key store erase that was pending ends
(R435). -/
def Dev.readPersistent (d : Dev) (fuses : Fuses) : Dev :=
  let d := if d.sec.pendingErase then { d.eraseKeys with sec := { d.sec with pendingErase := false } } else d
  let d := (d.wr F.SEC_STATUS_DBG_OPENED (if d.sec.debugFlag then 1 else 0)).wr F.SEC_STATUS_BOOT_SIGNED
    (if fuses.hash.all (· == 0) then 0 else 1)
  (d.wr F.SEC_MIN_SVN_MIN d.sec.minSvn).setRegs (A.SEC_FUSE_HASH 0) fuses.hash

/-- Boot begins as the straps select (R467). -/
def Dev.beginBoot (d : Dev) : Dev :=
  let load := d.rst.boot % 2 = 1
  let d := ((d.wr F.MGT_BOOT_STATUS_BOOT d.rst.boot).wr F.MGT_BOOT_STATUS_HOSTIF (if d.rst.hostif then 1 else 0)).wr
    F.MGT_BOOT_STATUS_STATE (if load then 1 else 3)
  { d with boot := { since := d.clk } }

/-- Boot has ended: its time (R466), and step 8 of an exit from LISTEN (R393). -/
def Dev.bootEnds (d : Dev) : Dev :=
  let d := d.wr F.MGT_BOOT_TIME_US (min ((d.clk - d.boot.since) / 1000) (2 ^ 32 - 1))
  if d.rst.warm then
    let d := { d with rst := { d.rst with warm := false } }
    ((((d.wr F.PWR_STATUS_STATE 0).wr F.PWR_STATUS_TRANSIT 0).wr F.PWR_MODE_REQ 0).pwrEvt 0).pwrEvt 1
  else d

/-- Step 6 of the reset sequence, and the release of islands after LISTEN: registers read what persists, the primary path is the
strap's (R462), the patch and engine memories read zero (R463), boot begins. -/
def Dev.released (d : Dev) (fuses : Fuses) : Dev :=
  let d := (d.readPersistent fuses).wr F.HOST_T0_PATH_PATH (if d.rst.hostif then 1 else 0)
  let d := { d with rst := { d.rst with phase := 0 } }.beginBoot
  if d.rst.boot % 2 = 1 then d else d.bootEnds

/-- The device is reset and held, or begins its sequence at once (R457, R458, R460); WAKE_OUT_N is released (R389). -/
def Dev.resetAndHold (d : Dev) (k : ResetKind) (cause phase : Nat) : Dev :=
  let low := d.pwr.wakeOut
  let d := ((d.afterReset k).resetCause cause).emit (.pin Pin.PWR_GOOD false)
  let d := d.when low (fun d => d.emit (.pin Pin.WAKE_OUT_N true))
  { d with rst := { d.rst with phase := phase } }

/-- The warm boot after LISTEN, or after a RETAIN that lost the register image (R392, R393). -/
def Dev.warmBoot (d : Dev) (fuses : Fuses) : Dev := ((d.afterReset .warm).resetCause Cause.LISTEN).released fuses

end Sys2Proof.Machine
end

