-- ==== Sys2Proof/Machine/Power.lean ====
section
/-! DEFINITION. Power states, wake sources, domain power and the operating point (R382–R403), and the wake-pattern detector
(R211). -/
namespace Sys2Proof.Machine

/-- The counters of R403. -/
abbrev Pw.QUIET : Nat := 0
abbrev Pw.RETAIN : Nat := 1
abbrev Pw.LISTEN : Nat := 2
abbrev Pw.WAKES : Nat := 3
abbrev Pw.EDGES_LOST : Nat := 4
abbrev Pw.REFUSED : Nat := 5
abbrev Pw.OPP_CHANGES : Nat := 6
abbrev Pw.OPP_REFUSED : Nat := 7

/-- A counter of R403 counts. -/
def Dev.pwrCount (d : Dev) (i : Nat) : Dev := d.count (Ctr.PWR i) 1

/-! ### Requests (R384) -/

/-- The classes that carry traffic: an entry waits until none of their units runs (R384). -/
def trafficUnit (u : Nat) : Bool :=
  match unitKind u with
  | .stream _ => true
  | .flow _ => true
  | .port _ => true
  | .decim _ => true
  | .bridge _ => true
  | .seng _ => true
  | .region _ => true
  | .meters => true
  | .hostch => true
  | .ring _ => true
  | _ => false

/-- The lowest unit that stands in the way of an entry (R384). -/
def Dev.trafficBlock (d : Dev) : Option Nat :=
  ((d.regs.filter (fun e => 0x10040 ≤ e.1 && e.1 < 0x50000 && e.1 % 0x40 == 4 && 2 ≤ bits e.2 0 3)).map
    (fun e => (e.1 - 0x10000) / 0x40)).find? trafficUnit

/-- Some wake source is enabled for a target state (R384, R388). -/
def Dev.wakeEnabled (d : Dev) (target : Nat) : Bool :=
  if target = 3 then d.rd ⟨A.PWR_WAKE_EN, 0, 5⟩ != 0 || d.rd ⟨A.PWR_WAKE_LNK, 1, 7⟩ != 0
  else d.rd ⟨A.PWR_WAKE_EN, 0, 5⟩ != 0 || d.island 1 || d.island 2

/-- What steps 5 of R386 and 2 of R391 need is there (R384). -/
def Dev.supplyCodes (d : Dev) : Bool :=
  d.on F.CLK_PMB_CORE_ADDR && d.on F.CLK_PMB_SRAM_ADDR && d.on F.CLK_VOUT_CORE_RET_CODE && d.on F.CLK_VOUT_SRAM_RET_CODE &&
    d.on (F.CLK_VOUT_OPP_CODE 1) && d.on F.CLK_VOUT_SRAM_RUN_CODE

/-- The check of a power request: the reason, and the unit of a STATE refusal (R384, R402, R416). -/
def Dev.powerCheck (d : Dev) (target : Nat) : Nat × Nat :=
  let now := d.power
  if d.safe then (Rsn.STATE, 0xFFF)
  else if 4 ≤ target then (Rsn.RANGE, 0xFFF)
  else if d.on F.PWR_STATUS_TRANSIT || d.on F.CLK_OPP_STATUS_CHANGING then (Rsn.BUSY, 0xFFF)
  else if target = now || target = 0 then (0, 0xFFF)
  else if 2 ≤ now then (Rsn.STATE, 0xFFF)
  else match d.trafficBlock with
    | some u => (Rsn.STATE, u)
    | none =>
      if 2 ≤ target && (!d.wakeEnabled target || !d.supplyCodes) then (Rsn.INCOMPLETE, 0xFFF) else (0, 0xFFF)

/-- The device enters QUIET (R385). -/
def Dev.enterQuiet (d : Dev) : Dev :=
  ((d.each (List.range 24) Dev.discardTx).wr F.PWR_STATUS_STATE 1).pwrEvt 0 |>.pwrCount Pw.QUIET

/-- Entries of the causeways into CORE are discarded (R381, R386): the lanes, frames on their way, blocks of port groups. -/
def Dev.emptyCauseways (d : Dev) : Dev :=
  let d := d.each (List.range 24) (fun d n =>
    let d := d.linkStops n
    d.setLink n { d.link n with audio := [], other := [] })
  let d := d.each (List.range 12) (fun d k => d.setRing k { d.ring k with audio := [], other := [] })
  d.each (List.range 16) (fun d g => d.setGroup g { d.group g with ready := [], block := [] })

/-- Entry to RETAIN or LISTEN has been accepted: fence, parking, banks, and the PMBus requests (R386 steps 1 to 5). Runs end with no
completion (R173); a recording ends (R448); deferred records are lost (R412). -/
def Dev.beginEntry (d : Dev) (target : Nat) : Dev :=
  let d := d.wr F.PWR_STATUS_TRANSIT 1
  let d := d.each (List.range 24) Dev.discardTx
  let d := d.each (List.range 4) (fun d s => d.endRuns s true)
  let d := (d.fragEnd 4).count Ctr.LOG_DROPPED d.err.deferred.length
  let d := { d with err := { d.err with deferred := [] } }
  let magic := (d.reg (A.LNK_UCAST_HI (d.rd F.PWR_WAKE_LNK_LINK) 0)).toNat % 2 ^ 16 * 2 ^ 32 +
    (d.reg (A.LNK_UCAST_LO (d.rd F.PWR_WAKE_LNK_LINK) 0)).toNat
  let d := d.emptyCauseways.regrant 104
  let d := { d with pwr := { d.pwr with
      toward := target, waking := false, domains := d.rd F.PWR_DOMAIN_STATE_ON, opp := d.rd F.CLK_OPP_STATUS_CUR, magic } }
  let d := d.wr F.PWR_DOMAIN_STATE_ON 0
  (d.sendVout false (d.rd F.CLK_VOUT_CORE_RET_CODE)).sendVout true (d.rd F.CLK_VOUT_SRAM_RET_CODE)

/-- QUIET ends (R385): the cause is recorded, threads in WAIT go on with ACCEPTED (R145). -/
def Dev.endQuiet (d : Dev) (cause : Nat) : Dev :=
  let d := (d.wr F.PWR_STATUS_STATE 0).wr F.PWR_MODE_REQ 0
  let d := (((d.wr F.PWR_WAKE_CAUSE_CAUSE cause).pwrEvt 0).pwrEvt 1).pwrCount Pw.WAKES
  d.each (List.range 96) (fun d x => match (d.ctx x).wait with
    | .power r => d.updCtx x (fun c => ({ c with wait := .none }.setG r 0).advance)
    | _ => d)

/-- A wake is recognised in RETAIN or LISTEN: the exit begins (R391 steps 1 and 2, R389). -/
def Dev.beginExit (d : Dev) (cause : Nat) : Dev :=
  let d := ((d.wr F.PWR_WAKE_CAUSE_CAUSE cause).wr F.PWR_STATUS_TRANSIT 1).pwrCount Pw.WAKES
  let out := cause != 32 && d.on F.PWR_WAKE_EN_OUT_EN
  let d := { d with pwr := { d.pwr with waking := true, wakeOut := d.pwr.wakeOut || out } }
  let d := d.when out (fun d => d.emit (.pin Pin.WAKE_OUT_N false))
  (d.sendVout false (d.rd (F.CLK_VOUT_OPP_CODE 1))).sendVout true (d.rd F.CLK_VOUT_SRAM_RUN_CODE)

/-- A wake source that is honoured in the present state (R388). -/
def Dev.wakeUp (d : Dev) (cause : Nat) : Dev :=
  if d.power = 1 && d.pwr.toward = 0 then d.endQuiet cause
  else if 2 ≤ d.power && d.pwr.toward != 0 && !d.pwr.waking then d.beginExit cause
  else d

/-- Level wakes that are present (R387, R402): WAKE_IN high in level mode; in LISTEN a latched pattern. -/
def Dev.levelWakes (d : Dev) : Nat :=
  (if d.on F.PWR_WAKE_EN_WAKE_IN && d.on F.PWR_WAKE_EN_IN_LEVEL && d.on F.MGT_PIN_LEVEL_WAKE_IN then 1 else 0) +
    (if d.power = 3 && d.on F.PWR_WAKE_HIT_HIT then 16 else 0)

/-- A level wake that is present is honoured: when an entry is complete, and when its enable is written (R387, R388; log 110). -/
def Dev.honourLevels (d : Dev) : Dev := if d.levelWakes = 0 then d else d.wakeUp d.levelWakes

/-- A power request, by `PWR_CMD` or by WAIT (R384). -/
def Dev.powerRequest (d : Dev) (target : Nat) : Dev × Nat :=
  let v := d.powerCheck target
  let d := (d.wr F.PWR_STATUS_REASON v.1).wr F.PWR_STATUS_UNIT v.2
  if v.1 ≠ 0 then ((d.pwrEvt 2).pwrCount Pw.REFUSED, v.1)
  else if target = d.power then (d, 0)
  else if target = 0 then (d.wakeUp 32, 0)
  else if target = 1 then (d.enterQuiet.honourLevels, 0)
  else (d.beginEntry target, 0)

/-- WAIT gd (R145, R173): a steward thread of tenant 0 sleeps while the device enters the state that `PWR_MODE`.REQ names. -/
def execWait (x : Fin 96) (dd a b : Fin 32) (s : State) : Host.Outcome State Fault Refusal :=
  lift (fun d => d.insn x.val (sysWord dd a b 3) []
    (fun _ => !isSignal x.val && a.val == 0 && b.val == 0) (fun c d =>
      let c := c.spend [] 1 []
      let give (d : Dev) (r : Nat) : Dev := d.setCtx x.val ((c.setG dd.val (BitVec.ofNat 32 r)).advance)
      let req := d.rd F.PWR_MODE_REQ
      if c.tenant ≠ 0 then give d Rsn.NOT_OWNER
      else if req = 0 then give d Rsn.STATE
      else
        let r := (d.setCtx x.val { c with wait := .power dd.val }).powerRequest req
        if r.2 ≠ 0 then give r.1 r.2 else r.1)) s

/-! ### Entry commit and wakes (R386–R389) -/

/-- A PMBUS record (R398): the regulator of VDD_CORE or VDD_SRAM, the command, INFO1. -/
def Dev.pmbusRecord (d : Dev) (sram : Bool) (code info1 : Nat) : Dev :=
  let a := d.rd (if sram then F.CLK_PMB_SRAM_ADDR else F.CLK_PMB_CORE_ADDR)
  d.raise 0 0x0B 0xB 0 (BitVec.ofNat 32 (a + code * 256)) (BitVec.ofNat 32 info1)

/-- A device transaction on the PMBus failed, and the bit of INFO1 it sets (R398). -/
def pmbFails (e : PmbEnd) : Option Nat :=
  match e with
  | .nack => some (2 ^ 16)
  | .stretch => some (2 ^ 17)
  | _ => none

/-- ENTRY_COMMIT: step 5 of R386 has ended, as the two transactions tell; the islands go off, wake sources are armed, the entry is
complete (steps 6 to 8), and the on-chip trace buffer is lost with CORE (R453); or it is abandoned. -/
def execEntryCommit (core sram : PmbEnd) (s : State) : Host.Outcome State Fault Refusal :=
  liftAon (fun d =>
    let t := d.pwr.toward
    if t = 0 || 2 ≤ d.power then d
    else match pmbFails core, pmbFails sram with
      | some b, _ => (d.pmbusRecord false Pmb.VOUT_COMMAND b).abandonEntry
      | none, some b => (d.pmbusRecord true Pmb.VOUT_COMMAND b).abandonEntry
      | none, none =>
        let d := d.wr F.PWR_DOMAIN_STATE_ISLANDS (if t = 3 then 32 else 46)
        let d := if t = 3 then { d with time := { d.time with ppsOut := false } } else d
        let d := ((d.wr F.PWR_STATUS_STATE t).wr F.PWR_STATUS_TRANSIT 0).loseBanks
        let d := { d with frg := { d.frg with ocb := [] } }
        ((d.pwrEvt 0).pwrCount (if t = 3 then Pw.LISTEN else Pw.RETAIN)).honourLevels) s

/-- An edge wake: honoured in a state that has the source, lost and counted while an entry is under way (R387, R388, R402). -/
def Dev.edgeWake (d : Dev) (cause : Nat) (listen : Bool) : Dev :=
  if d.pwr.toward ≠ 0 && d.power < 2 then d.pwrCount Pw.EDGES_LOST
  else if d.power = 3 && !listen then d
  else d.wakeUp cause

/-- WAKE_IN: AON samples the pin at a new level (R388). -/
def execWakeIn (level : Bool) (s : State) : Host.Outcome State Fault Refusal :=
  liftAon (fun d =>
    let rise := level && !d.on F.MGT_PIN_LEVEL_WAKE_IN
    let d := (d.wr F.MGT_PIN_LEVEL_WAKE_IN (if level then 1 else 0)).fragPin 0 (if level then 1 else 0)
    if !d.on F.PWR_WAKE_EN_WAKE_IN then d
    else if d.on F.PWR_WAKE_EN_IN_LEVEL then (if level then d.wakeUp 1 else d)
    else if rise then d.edgeWake 1 true
    else d) s

/-- PCIE_WAKE: the partner starts an exit from L1 (R388). -/
def execPcieWake (s : State) : Host.Outcome State Fault Refusal :=
  liftAon (fun d => if d.on F.PWR_WAKE_EN_PCIE then d.edgeWake 2 false else d) s

/-- WAKE_TIMER_EXPIRE: MS after arming (R383, R388). -/
def execWakeTimerExpire (s : State) : Host.Outcome State Fault Refusal :=
  liftAon (fun d => if d.on F.PWR_WAKE_EN_TIMER && d.on F.PWR_WAKE_TIMER_MS then d.wakeUp 4 else d) s

/-- MSPI_WAKE: AON samples a falling edge of MSPI_CS_N (R388). -/
def execMspiWake (s : State) : Host.Outcome State Fault Refusal :=
  liftAon (fun d =>
    let d := d.fragPin 1 0
    if d.on F.PWR_WAKE_EN_MSPI then d.edgeWake 8 true else d) s

/-- A frame holds the magic sequence of an address (R211). -/
def magicIn (addr : Nat) : List Byte → Bool
  | [] => false
  | b :: bs =>
    let want := List.replicate 6 (0xFF : Byte) ++
      (List.replicate 16 ((List.range 6).map (fun i => BitVec.ofNat 8 (addr / 2 ^ (8 * (5 - i)))))).flatten
    want.isPrefixOf (b :: bs) || magicIn addr bs

/-- Pattern `p` matches the first 32 octets (R211). An octet beyond the frame's end does not match. -/
def Dev.patternHit (d : Dev) (p : Nat) (o : List Byte) : Bool :=
  d.rd F.PWR_WAKE_LNK_PAT_EN / 2 ^ p % 2 == 1 && (List.range 32).all (fun i =>
    !(d.reg (A.PWR_WAKE_MASK p)).getLsbD i ||
      o[i]? == some (BitVec.ofNat 8 (bits (d.reg (A.PWR_WAKE_PAT p (i / 4))) (8 * (i % 4)) 8)))

/-- WAKE_PATTERN_HIT: in LISTEN, or on the way to it, the detector sees a frame with a good FCS from its link, or none: its link has
come up (R211). -/
def execWakePatternHit (f : Option (List Byte)) (s : State) : Host.Outcome State Fault Refusal :=
  liftAon (fun d =>
    if d.pwr.toward ≠ 3 then d
    else
      let hit := match f with
        | none => if d.on F.PWR_WAKE_LNK_LINKUP then 32 else 0
        | some o => (List.range 4).foldl (fun a p => a + if d.patternHit p o then 2 ^ p else 0) 0 +
            (if d.on F.PWR_WAKE_LNK_MAGIC && magicIn d.pwr.magic o then 16 else 0)
      let d := d.wr F.PWR_WAKE_HIT_HIT (Nat.lor (d.rd F.PWR_WAKE_HIT_HIT) hit)
      if hit = 0 then d else d.wakeUp 16) s

/-- RETAIN_EXIT: the steps of R391 have run; where the register image was lost, a warm boot follows step 5 (R392). -/
def execRetainExit (s : State) : Host.Outcome State Fault Refusal :=
  runAon (fun env d =>
    if d.power ≠ 2 || !d.pwr.waking then d
    else if d.retained 40 then d.restore.pwrEvt 1
    else d.warmBoot env.fuses) s

/-- LISTEN_EXIT: steps 1 to 5 of R391 have run; islands start as at a cold start, and the device boots (R393). -/
def execListenExit (s : State) : Host.Outcome State Fault Refusal :=
  runAon (fun env d =>
    if d.power ≠ 3 || !d.pwr.waking then d else d.warmBoot env.fuses) s

/-- WAKE_OUT_N is released (R389). -/
def Dev.wakeAck (d : Dev) : Dev :=
  if d.pwr.wakeOut then { (d.emit (.pin Pin.WAKE_OUT_N true)) with pwr := { d.pwr with wakeOut := false } } else d

/-! ### Domain power (R399) -/

/-- The units of a domain of `PWR_DOMAIN_REQ` (R383). -/
def domainUnits (i : Nat) : List Nat :=
  if i < 4 then (List.range 16).map (0x0B0 + 16 * i + ·) ++ [0x0F0 + i]
  else if i < 10 then (List.range 4).map (0x010 + 4 * (i - 4) + ·)
  else [0x0A0 + (i - 10)]

/-- A write of `PWR_DOMAIN_REQ` is taken (R399). -/
def Dev.domainRequest (d : Dev) (v : Nat) : Dev :=
  let out (d : Dev) (r u : Nat) : Dev := (d.wr F.PWR_DOMAIN_REASON_REASON r).wr F.PWR_DOMAIN_REASON_UNIT u
  if d.on F.PWR_STATUS_TRANSIT then out d Rsn.BUSY 0xFFF
  else
    let bad := (List.range 18).filterMap (fun i =>
      if v / 2 ^ i % 2 = 0 && d.domainOn i then (domainUnits i).find? (fun u => d.ustate u != 0) else none)
    let d := d.each (List.range 18) (fun d i =>
      let b := 2 ^ i
      let up := v / b % 2 = 1
      let on := d.domainOn i
      let rest := d.pwr.rising - d.pwr.rising / b % 2 * b
      let fall := d.pwr.falling - d.pwr.falling / b % 2 * b
      if up then { d with pwr := { d.pwr with rising := if on then rest else rest + b, falling := fall } }
      else if on && (domainUnits i).any (fun u => d.ustate u != 0) then { d with pwr := { d.pwr with rising := rest } }
      else { d with pwr := { d.pwr with rising := rest, falling := if on then fall + b else fall } })
    match bad.min? with
    | some u => out d Rsn.STATE u
    | none => out d 0 0xFFF

/-- A cluster's memories lose their content (R390, R399): those of its engines, and of its steward with what was bound from
them. -/
def Dev.clusterLost (d : Dev) (c : Nat) : Dev :=
  { d with memw := d.memw ++ [.clear (0x1000000 + c * 0x400000) (0x1000000 + (c + 1) * 0x400000),
                              .clear (0xC00000 + c * 0x100000) (0xC00000 + (c + 1) * 0x100000)],
           entries := d.entries.filter (fun e => e.1 / 1024 != c), boxes := d.boxes.filter (fun e => e.1 / 32 != c) }

/-- DOMAIN_POWER_DONE: domain `i` has finished its power-up or power-down; `ok` false for a quad with no SDREF (R399). -/
def execDomainPowerDone (i : Fin 18) (ok : Bool) (s : State) : Host.Outcome State Fault Refusal :=
  lift (fun d =>
    let i := i.val
    let b := 2 ^ i
    let on := d.rd F.PWR_DOMAIN_STATE_ON
    if d.pwr.rising / b % 2 = 1 then
      let d := { d with pwr := { d.pwr with rising := d.pwr.rising - b } }
      if ok || i < 4 || 10 ≤ i then d.wr F.PWR_DOMAIN_STATE_ON (Nat.lor on b)
      else (d.wr F.PWR_DOMAIN_REASON_REASON Rsn.NO_CLOCK).wr F.PWR_DOMAIN_REASON_UNIT 0xFFF
    else if d.pwr.falling / b % 2 = 1 then
      let d := ({ d with pwr := { d.pwr with falling := d.pwr.falling - b } }).wr F.PWR_DOMAIN_STATE_ON (on - on / b % 2 * b)
      if i < 4 then d.clusterLost i else d.regrant (if i < 10 then 24 else 3)
    else d) s

/-! ### The operating point (R396–R398) -/

/-- The first resource whose load exceeds the figures of an operating point, in the order of R34 (R396). -/
def Dev.oppResource (d : Dev) (k : Nat) : Nat :=
  let d := d.wr F.CLK_OPP_STATUS_CUR k
  if d.declsOver [] 256 then 1
  else if patchLimit k < d.routerLoad none then 2
  else if (List.range 8).any (fun m => !(d.overBudget m (d.mclk m).tickLog).isEmpty) then 3
  else if d.flowsNotOff.any (d.switchOver []) then 4
  else 0

/-- A write of `CLK_OPP`.REQ is taken (R396, R416). -/
def Dev.oppRequest (d : Dev) (k : Nat) : Dev :=
  let cur := d.rd F.CLK_OPP_STATUS_CUR
  let out (d : Dev) (r res : Nat) : Dev := (d.wr F.CLK_OPP_STATUS_REASON r).wr F.CLK_OPP_STATUS_RESOURCE res
  let no (r res : Nat) : Dev := ((out d r res).pwrEvt 2).pwrCount Pw.OPP_REFUSED
  if d.safe then no Rsn.STATE 0
  else if d.on F.CLK_OPP_STATUS_CHANGING || d.on F.PWR_STATUS_TRANSIT then no Rsn.BUSY 0
  else if k = cur then out d 0 0
  else if 2 ≤ d.power then no Rsn.STATE 0
  else if !(d.on F.CLK_PMB_CORE_ADDR && d.on F.CLK_PMB_SRAM_ADDR && d.on (F.CLK_VOUT_OPP_CODE cur) &&
      d.on (F.CLK_VOUT_OPP_CODE k) && d.on F.CLK_VOUT_SRAM_RUN_CODE) then no Rsn.INCOMPLETE 0
  else match d.oppResource k with
    | 0 => (out d 0 0).startChange k
    | r => no Rsn.OPP r

/-- A change of operating point completes (R397). -/
def Dev.oppDone (d : Dev) : Dev :=
  let d := (d.wr F.CLK_OPP_STATUS_CUR d.pwr.newOpp).wr F.CLK_OPP_STATUS_CHANGING 0
  let d := { d with pwr := { d.pwr with change := 0 } }.pwrCount Pw.OPP_CHANGES
  d.each (d.frg.scope.take 1) (fun d u => d.fragValue u 0x3F 2 d.pwr.newOpp 0)

/-- A change of operating point is ended by its regulator (R398): the old code is sent again; on the way down the old frequency
returns first. -/
def Dev.oppFails (d : Dev) (code bit : Nat) : Dev :=
  let d := (d.sendVout false (d.rd (F.CLK_VOUT_OPP_CODE (d.rd F.CLK_OPP_STATUS_CUR)))).wr F.CLK_OPP_STATUS_REASON Rsn.INTERNAL
  let down := d.pwr.change = 2
  let d := d.pmbusRecord false code (d.pwr.statusWord + bit)
  let d := { d with pwr := { d.pwr with change := if down then 6 else 0 } }
  if down then d else d.wr F.CLK_OPP_STATUS_CHANGING 0

/-- STATUS_WORD of the VDD_CORE regulator is read (R397). -/
def Dev.sendStatus (d : Dev) : Dev :=
  let r := d.reg A.CLK_PMB_CORE
  let d := d.when (bits r 16 1 = 1) (fun d => d.emit (.pmbus (bits r 0 7) Pmb.PAGE [BitVec.ofNat 8 (bits r 8 8)]))
  d.emit (.pmbus (bits r 0 7) Pmb.STATUS_WORD [])

/-- OPP_FREQ_SWITCH: the core PLL switches at the next tick start (R397, R398). -/
def execOppFreqSwitch (s : State) : Host.Outcome State Fault Refusal :=
  lift (fun d =>
    match d.pwr.change with
    | 1 =>
      let d := { d with pwr := { d.pwr with freq := d.pwr.newOpp, change := 2 } }
      d.sendVout false (d.rd (F.CLK_VOUT_OPP_CODE d.pwr.newOpp))
    | 5 => { d with pwr := { d.pwr with freq := d.pwr.newOpp } }.oppDone
    | 6 => { d with pwr := { d.pwr with freq := d.rd F.CLK_OPP_STATUS_CUR, change := 0 } }.wr F.CLK_OPP_STATUS_CHANGING 0
    | _ => d) s

/-- OPP_VOUT_TAKEN: the VOUT_COMMAND of a change has ended on the bus (R397, R398). -/
def execOppVoutTaken (e : PmbEnd) (s : State) : Host.Outcome State Fault Refusal :=
  lift (fun d =>
    if d.pwr.change ≠ 2 && d.pwr.change ≠ 3 then d
    else match pmbFails e with
      | some b => d.oppFails Pmb.VOUT_COMMAND b
      | none => if d.pwr.change = 2 then d.oppDone else ({ d with pwr := { d.pwr with change := 4 } }).sendStatus) s

/-- OPP_POWER_GOOD: a read of STATUS_WORD has ended on the bus, no sooner than 100 µs after the VOUT_COMMAND where it shows
POWER_GOOD#, bit 11, at 0 (R397). -/
def execOppPowerGood (e : PmbEnd) (w : BitVec 16) (s : State) : Host.Outcome State Fault Refusal :=
  lift (fun d =>
    if d.pwr.change ≠ 4 then d
    else match pmbFails e with
      | some b => d.oppFails Pmb.STATUS_WORD b
      | none =>
        if e = PmbEnd.pec then
          ({ d with pwr := { d.pwr with statusWord := d.pwr.statusWord % 2 ^ 16 + 2 ^ 19 } }).sendStatus
        else
          let d := { d with pwr := { d.pwr with statusWord := d.pwr.statusWord / 2 ^ 16 * 2 ^ 16 + w.toNat } }
          if w.getLsbD 11 then d.sendStatus else { d with pwr := { d.pwr with change := 5 } }) s

/-- OPP_POWER_GOOD_TIMEOUT: 2 ms after the VOUT_COMMAND was taken (R398). -/
def execOppPowerGoodTimeout (s : State) : Host.Outcome State Fault Refusal :=
  lift (fun d => if d.pwr.change = 4 then d.oppFails Pmb.STATUS_WORD (2 ^ 18) else d) s

end Sys2Proof.Machine
end

