-- ==== Sys2Proof/Machine/Secure.lean ====
section
/-! DEFINITION. Acknowledging errors, restarting subsystems, the fault log's deferral, the conservation audit (R410–R422); peat, the
key store, the fuses, opening debug (R423–R436). -/
namespace Sys2Proof.Machine

/-! ### Errors (R410–R414) -/

/-- A write of `ERR_ACK` (R410). -/
def Dev.errAck (d : Dev) (seq : Nat) : Dev :=
  if d.on F.ERR_FIRST_HDR_VALID && d.rd F.ERR_FIRST_HDR_SEQ = seq then
    (d.setRegs A.ERR_FIRST_HDR (d.regsAt A.ERR_NEXT_HDR 8)).setRegs A.ERR_NEXT_HDR (List.replicate 8 0)
  else d.sat F.ERR_STATUS_ACK_BAD 1

/-- A write of `ERR_RESTART` with GO (R414, R416). -/
def Dev.restartGo (d : Dev) (sub : Nat) : Dev :=
  let v := firstOf [(d.safe, Rsn.STATE, 0), (0xC ≤ sub, Rsn.RANGE, 0), (d.on F.ERR_RESTART_BUSY, Rsn.BUSY, 0),
    (d.rd F.ERR_STATUS_STOPPED / 2 ^ sub % 2 = 0, Rsn.STATE, 0)]
  if v.1 ≠ 0 then d.wr F.ERR_RESTART_REASON v.1
  else { d.wr F.ERR_RESTART_BUSY 1 with err := { d.err with restarting := some sub } }

/-- ERR_RESTART_DONE: the subsystem's units are reset, its buffers and credits return (the packet
buffer's pool is whole again whatever was lost of it), its bit is cleared (R414). -/
def execErrRestartDone (s : State) : Host.Outcome State Fault Refusal :=
  lift (fun d =>
    match d.err.restarting with
    | none => d
    | some sub =>
      let d := { d with err := { d.err with restarting := none } }
      let d := d.each (d.unitsOn sub) (fun d u => d.beginUnit (.cmd 0) u Ord.RESET)
      let d := if sub = 2 then
          (d.each d.swc.bufs Dev.freeCells).wr F.SWC_STATUS_CELLS_FREE 65536 |>.each (List.range 8) (fun d c => d.wr (F.SWC_CLASS_USE_USE c) 0)
        else d
      let d := d.wr F.ERR_STATUS_STOPPED (d.rd F.ERR_STATUS_STOPPED - d.rd F.ERR_STATUS_STOPPED / 2 ^ sub % 2 * 2 ^ sub)
      let d := (d.wr F.ERR_RESTART_BUSY 0).wr F.ERR_RESTART_REASON 0
      (d.count Ctr.RESTARTS 1).count Ctr.REGEN_RESTART 1) s

/-- LOG_DEFERRED_APPEND: the log's limit allows the oldest deferred record (R412). -/
def execLogDeferredAppend (s : State) : Host.Outcome State Fault Refusal :=
  lift (fun d =>
    match d.err.deferred with
    | [] => d
    | e :: es =>
      if d.logAllows then
        ({ d with err := { d.err with deferred := es, lastAppend := some d.clk } }).appendLog e
      else d) s

/-! ### The conservation audit (R418–R421) -/

/-- One check: the invariant, the thing concerned, what its sum should be, what it is (R419, R420). -/
structure AuditCheck where
  inv : Nat
  index : Nat
  want : Nat
  got : Nat

/-- Invariant 0, the packet buffer (R257). -/
def Dev.auditBuffer (d : Dev) : List AuditCheck :=
  let free := 65536 - d.rd F.SWC_STATUS_CELLS_FREE
  [⟨0, 0, free, d.stat64 Ctr.CELLS_ALLOCATED - d.stat64 Ctr.CELLS_FREED⟩,
   ⟨0, 0, free, (List.range 8).foldl (fun a c => a + d.rd (F.SWC_CLASS_USE_USE c)) 0⟩,
   ⟨0, 0, (d.swc.bufs.filter (fun b => b.refs != 0)).length, d.stat64 Ctr.FRAMES_ADMITTED - d.stat64 Ctr.FRAMES_FREED⟩]

/-- Invariant 1, the sample store pool. -/
def Dev.auditPool (d : Dev) : List AuditCheck :=
  [⟨1, 0, 32768, d.poolFree + d.flows.foldl (fun a e => a + e.2.blocks) 0⟩]

/-- Invariant 2, tenant credits. A command that ran when its queue was last re-granted keeps its credit until it completes, so that
credits and outstanding commands make up the depth (DEDUCED, log 47). -/
def Dev.auditQueues (d : Dev) : List AuditCheck :=
  d.queues.filterMap (fun e =>
    let t := e.1 / 4
    let q := e.1 % 4
    if !d.on (F.Q_EN t q) then none
    else
      let x := e.2
      let sum :=
        if q = 0 then
          d.rd (F.SQ_CREDIT_CREDIT t) + x.fill + (d.cmds.filter (fun c => c.tenant == t && !c.lapsed)).length + d.heldCredits t
        else x.credits + x.fill
      some ⟨2, e.1, d.qDepth t q, sum⟩)

/-- Invariant 4, ring tokens (R237). -/
def Dev.auditRings (d : Dev) : List AuditCheck :=
  ((List.range 12).filter (fun k => d.ustate (0x030 + k) != 0)).map (fun k =>
    let c (o : Nat) : Nat := d.stat64 (Ctr.RING k o)
    ⟨4, k, c Rc.TOKENS_RX + c Rc.TOKENS_GEN, c Rc.TOKENS_FWD + c Rc.TOKENS_ABSORBED + c Rc.TOKENS_STRIPPED⟩)

/-- Invariant 5, flow accounts (R291). -/
def Dev.auditFlows (d : Dev) : List AuditCheck :=
  d.flowsNotOff.map (fun f =>
    let c (o : Nat) : Nat := d.stat64 (Ctr.FLOW f o)
    ⟨5, f, (d.flow f).closed, c Fc.DELIVERED + c Fc.CONCEALED + c Fc.MUTED + c Fc.DISCARDED_LATE⟩)

/-- Every check of an audit. Causeway credits, invariant 3, are held with the entries themselves in this model and agree by
construction (log 48). -/
def Dev.auditChecks (d : Dev) : List AuditCheck :=
  d.auditBuffer ++ d.auditPool ++ d.auditQueues ++ d.auditRings ++ d.auditFlows

/-- The subsystem that a failed invariant stops, and the source unit (R420). -/
def auditSource (inv index : Nat) : Nat × Nat :=
  match inv with
  | 0 => (2, 0) | 1 => (3, 0) | 2 => (0xA, 0) | 4 => (1, 0x030 + index) | 5 => (3, 0x400 + index) | _ => (0, 0)

/-- A failed invariant (R420, R421): its leaf, counter and latch, and its record, at most one in 10 ms. -/
def Dev.auditFailed (d : Dev) (out : Bool) (c : AuditCheck) : Dev :=
  let d := (d.setBit A.AUD_EVT c.inv).count (Ctr.VIOL c.inv) 1
  let d := d.wr F.AUD_STATUS_PASS (d.rd F.AUD_STATUS_PASS - d.rd F.AUD_STATUS_PASS / 2 ^ c.inv % 2 * 2 ^ c.inv)
  let d := if d.err.auditLatched then d
    else
      let d := ((d.wr F.AUD_VIOL_INFO_INV c.inv).wr F.AUD_VIOL_INFO_INDEX c.index)
      { (d.setReg A.AUD_VIOL_EXPECT (loWord c.want)).setReg A.AUD_VIOL_ACTUAL (loWord c.got) with
        err := { d.err with auditLatched := true } }
  if d.err.auditLast.any (fun e => e.1 == c.inv && d.clk < e.2 + 10000000) then d
  else
    let d := { d with err := { d.err with auditLast := (c.inv, d.clk) :: d.err.auditLast.filter (fun e => e.1 != c.inv) } }
    let src := auditSource c.inv c.index
    d.raise (if out then 0 else 2) 0x0A src.1 src.2 (BitVec.ofNat 32 c.inv) (BitVec.ofNat 32 c.index)

/-- AUDIT_CHECK: the six invariants are sampled and checked (R419–R421). Of several failures of one invariant the first is
reported. -/
def execAuditCheck (s : State) : Host.Outcome State Fault Refusal :=
  lift (fun d =>
    let out := d.err.eccUncorr || d.on F.CFG_STATUS_MISMATCH
    let cs := d.auditChecks
    let d := ((d.count Ctr.CHECKS 1).wr F.AUD_STATUS_PASS 0x3F).wr F.AUD_STATUS_OUTSIDE (if out then 1 else 0)
    d.each (List.range 6) (fun d i =>
      match cs.find? (fun c => c.inv == i && c.want != c.got) with
      | some c => d.auditFailed out c
      | none => d)) s

/-- A read of `AUD_VIOL_ACTUAL` releases the latch (R421). -/
def Dev.auditRead (d : Dev) : Dev := { d with err := { d.err with auditLatched := false } }

/-! ### Peat (R423, R424) -/

/-- A host access to a peat region is refused with LOCKED (R423). -/
def Dev.peatLocked (d : Dev) (a : Nat) (write : Bool) : Bool :=
  if a < Peat.LOG then true
  else if a < Peat.BOOT then write
  else if a < Peat.USER then write && d.rd F.SEC_LOCK_LOCKS / 4 % 2 == 1
  else if a < Peat.SYSTEM then false
  else write

/-- A write of `SEC_PEAT_CMD` (R424). -/
def Dev.peatCmd (d : Dev) (op : Nat) : Dev :=
  let a := d.rd F.SEC_PEAT_ADDR_ADDR * 8
  let v := firstOf [(d.on F.SEC_PEAT_CMD_BUSY, Rsn.BUSY, 0), (op = 0 || op = 3, Rsn.RANGE, 0),
    (d.peatLocked a (op = 2), Rsn.LOCKED, 0)]
  if v.1 ≠ 0 then d.wr F.SEC_PEAT_CMD_REASON v.1
  else { d.wr F.SEC_PEAT_CMD_BUSY 1 with sec := { d.sec with peatOp := some (op = 2), peatAt := a / 8 } }

/-- The peat access that runs has its effect (R424). The layout of the system region is not given: a read of it gives free
values. -/
def Dev.peatDone (d : Dev) : Dev :=
  match d.sec.peatOp with
  | none => d
  | some write =>
    let i := d.sec.peatAt
    let d := { d with sec := { d.sec with peatOp := none } }
    let d := if write then d.setPeat i (d.reg A.SEC_PEAT_DATA_HI ++ d.reg A.SEC_PEAT_DATA_LO)
      else if Peat.SYSTEM ≤ 8 * i then
        ((d.setReg A.SEC_PEAT_DATA_LO (Config.freeWord d.free)).setReg A.SEC_PEAT_DATA_HI (Config.freeWord (d.free + 1))).draw.draw
      else
        let w := (d.peatWord i).toNat
        (d.setReg A.SEC_PEAT_DATA_LO (loWord w)).setReg A.SEC_PEAT_DATA_HI (hiWord w)
    (d.wr F.SEC_PEAT_CMD_BUSY 0).wr F.SEC_PEAT_CMD_REASON 0

/-- PEAT_ACCESS_DONE: the access completes (R424). -/
def execPeatAccessDone (s : State) : Host.Outcome State Fault Refusal := lift Dev.peatDone s

/-- A write that the SEC block ignores (R436). -/
def Dev.secIgnored (d : Dev) : Dev := d.sat F.SEC_IGNORED_COUNT 1

/-! ### Keys (R425, R426) -/

/-- A type fits a slot (R425). -/
def keyFits (slot type : Nat) : Bool := if slot = 0 then type == 3 else if slot = 1 then type == 4 else type == 1 || type == 2

/-- A write of `SEC_KEY_CMD` (R426, R433, R434). -/
def Dev.keyCmd (d : Dev) (slot op type : Nat) : Dev :=
  let kind := (SMap.get (fun _ => {}) d.keys slot : KeySlot).kind
  let v := firstOf [
    (op = 0 || 4 ≤ op, Rsn.RANGE, 0), (d.rd F.SEC_LOCK_LOCKS % 2 = 1, Rsn.LOCKED, 0),
    (d.on F.SEC_KEY_CMD_BUSY || d.sec.erasing, Rsn.BUSY, 0), (d.sec.eraseFailed, Rsn.INTERNAL, 0),
    (op = 3 && slot = 0 && kind ≠ 0, Rsn.STATE, 0), ((op = 3 && slot ≠ 0) || (op = 1 && !keyFits slot type), Rsn.RANGE, 0)]
  if v.1 ≠ 0 then d.wr F.SEC_KEY_CMD_REASON v.1
  else { d.wr F.SEC_KEY_CMD_BUSY 1 with sec := { d.sec with keyOp := some (slot, op, type) } }

/-- KEY_CMD_DONE: the key operation has its effect; the key data are cleared (R426). -/
def execKeyCmdDone (s : State) : Host.Outcome State Fault Refusal :=
  lift (fun d =>
    match d.sec.keyOp with
    | none => d
    | some (slot, op, type) =>
      let put (d : Dev) (k : KeySlot) : Dev := { d with keys := SMap.put (fun _ => {}) slot k d.keys }
      let d := { d with sec := { d.sec with keyOp := none } }
      let d :=
        if op = 1 then put d { kind := type, words := d.regsAt (A.SEC_KEY_DATA 0) (if type = 1 then 4 else 8) }
        else if op = 2 then put d {}
        else
          let ws := (List.range 8).map (fun i => Config.freeWord (d.free + i))
          let d := put { d with free := d.free + 8 } { kind := 3, words := ws }
          d.setRegs (A.SEC_ID_PUB 0) ((List.range 16).map (Config.publicKey ws))
      let d := d.setRegs (A.SEC_KEY_DATA 0) (List.replicate 8 0)
      (d.wr F.SEC_KEY_CMD_BUSY 0).wr F.SEC_KEY_CMD_REASON 0) s

/-! ### Locks, fuses, MIN_SVN (R430, R431, R436) -/

/-- A write of `SEC_LOCK`: a 1 sets a lock (R436). -/
def Dev.setLocks (d : Dev) (v : Nat) : Dev := d.wr F.SEC_LOCK_LOCKS (Nat.lor (d.rd F.SEC_LOCK_LOCKS) v)

/-- A write of `SEC_FUSE_PROG` (R430). With another KEY it is ignored and counted (DEDUCED, log 49). -/
def Dev.fuseGo (d : Dev) (fuses : Fuses) (key : Nat) : Dev :=
  if key ≠ 0x9616 then d.secIgnored
  else if fuses.programmed || d.sec.fusing then d
  else { d with sec := { d.sec with fusing := true } }

/-- FUSE_PROGRAM_DONE: the staged hash is in the fuses, once and for all (R430). -/
def execFuseProgramDone (s : State) : Host.Outcome State Fault Refusal :=
  if s.dev.inReset || !s.dev.coreOn || !s.dev.sec.fusing || s.fuses.programmed then .next s
  else
    let hash := s.dev.regsAt (A.SEC_FUSE_STAGE 0) 8
    lift (fun d =>
      let d := { d with sec := { d.sec with fusing := false } }
      (d.setRegs (A.SEC_FUSE_HASH 0) hash).wr F.SEC_STATUS_BOOT_SIGNED (if hash.all (· == 0) then 0 else 1))
      { s with fuses := { programmed := true, hash := hash } }

/-- A write of `SEC_MIN_SVN` raises it; a lower value is ignored and counted (R431). -/
def Dev.raiseSvn (d : Dev) (v : Nat) : Dev :=
  if v < d.sec.minSvn then d.secIgnored else { d.wr F.SEC_MIN_SVN_MIN v with sec := { d.sec with minSvn := v } }

/-! ### Opening debug (R433–R435) -/

/-- A write of `SEC_DBG_OPEN` with GO (R433): the overwrite begins, and a recording ends (R448). -/
def Dev.debugOpen (d : Dev) (key : Nat) : Dev :=
  if key ≠ 0xDB61 then d.secIgnored
  else if d.rd F.SEC_LOCK_LOCKS / 2 % 2 = 1 || d.sec.erasing then d
  else { d.fragEnd 3 with sec := { d.sec with erasing := true, pendingErase := true } }

/-- DEBUG_ERASE_DONE: every word of the key store has been written zero and read back as zero, or one has failed three times, in slot
and word (R433, R434). A FATAL record that was raised takes effect now (R435). -/
def execDebugEraseDone (fail : Option (Fin 256 × Fin 16)) (s : State) : Host.Outcome State Fault Refusal :=
  lift (fun d =>
    if !d.sec.erasing then d
    else
      let due := d.sec.safeDue
      let d := d.eraseKeys
      let d := (d.when d.sec.keyOp.isSome (fun d => d.wr F.SEC_KEY_CMD_REASON Rsn.BUSY)).wr F.SEC_KEY_CMD_BUSY 0
      let d := { d with sec := { d.sec with erasing := false, safeDue := false, keyOp := none } }
      let d := match fail with
        | none =>
          let d := { d with sec := { d.sec with debugFlag := true, pendingErase := false } }
          ((d.wr F.SEC_STATUS_ERASED 1).wr F.SEC_STATUS_DBG_OPENED 1).wr F.SEC_STATUS_TAP_OPEN 1
        | some (slot, word) =>
          let d := { d with sec := { d.sec with eraseFailed := true } }
          (d.wr F.SEC_STATUS_ERASE_FAIL 1).raise 2 0x0F 0xB 0 (BitVec.ofNat 32 slot.val) (BitVec.ofNat 32 word.val)
      if due then d.enterSafe else d) s

end Sys2Proof.Machine
end

