-- ==== Sys2Proof/Machine/Pins.lean ====
section
/-! DEFINITION. Pins: GPIO (R486, R487), the PMBus master (R488, R489), the audio port supplies (R484, R485), the thermal
sensors (R509, R510), the test access port (R432, R433), and the levels the device drives. -/
namespace Sys2Proof.Machine

/-! ### Levels that the device drives -/

/-- PPS_OUT as the time unit drives it (R302). -/
def Dev.ppsLevel (d : Dev) : Bool := d.time.ppsOut

/-- The first sample period of the tick of a domain runs (R486): its strobe is high. -/
def Dev.strobe (d : Dev) (m : Nat) : Bool :=
  d.ticking m && (d.mclk m).ticking && d.domainHz m != 0 &&
    (d.stcFine / 2 ^ 16 - (d.mclk m).tickAt) * d.domainHz m < 65536000000000

/-- The level driven on GPIOi, none while it is an input (R486, R487, R401). -/
def Dev.gpioOut (d : Dev) (i : Nat) : Option Bool :=
  if d.ustate 0x0FB ≠ 3 || !(d.reg A.GPIO_DIR).getLsbD i || d.inReset || !d.island 2 then none
  else match bits (d.reg A.GPIO_FUNC) (2 * i) 2 with
    | 1 => some (d.strobe (i % 8))
    | 2 => some d.ppsLevel
    | _ => some ((d.reg A.GPIO_OUT).getLsbD i)

/-- INT0_N is driven low (R85). -/
def Dev.int0Low (d : Dev) : Bool := !d.inReset && d.power != 3 && Nat.land d.summary (d.rd F.HOST_INTPIN_EN_INT0_MASK) != 0

/-- INT1_N is driven low (R85). -/
def Dev.int1Low (d : Dev) : Bool :=
  !d.inReset && d.power != 3 && d.on F.HOST_INTPIN_EN_INT1_EN &&
    (List.range 512).any (fun t => d.spiBound t && ((d.queue t 1).fill != 0 || (d.queue t 2).fill != 0))

/-- MSPI_ALERT_N is driven low (R83). -/
def Dev.alertLow (d : Dev) : Bool := !d.inReset && d.power != 3 && d.host.spiErr

/-- HEARTBEAT (R465): 1 kHz in ACTIVE and QUIET outside safe state, else low. -/
def Dev.heartbeat (d : Dev) : Bool := !d.inReset && d.power < 2 && !d.safe && d.clk / 500000 % 2 == 0

/-- PWR_GOOD (R465). -/
def Dev.powerGood (d : Dev) : Bool := !d.inReset

/-- WAKE_OUT_N is driven low (R389). -/
def Dev.wakeOutLow (d : Dev) : Bool := d.pwr.wakeOut && d.on F.PWR_WAKE_EN_OUT_EN

/-! ### GPIO -/

/-- GPIO_EDGE: a new level has been taken on a pin (R487). -/
def execGpioEdge (i : Fin 16) (level : Bool) (s : State) : Host.Outcome State Fault Refusal :=
  liftAon (fun d =>
    let i := i.val
    let v := if level then 1 else 0
    if !d.island 2 || bits (d.reg A.GPIO_IN) i 1 = v then d
    else
      let kind := if level then 1 else 2
      let d := d.setReg A.GPIO_IN (putBits (d.reg A.GPIO_IN) i 1 v)
      let d := if Nat.land (bits (d.reg A.GPIO_EDGE) (2 * i) 2) kind = 0 then d
        else if d.coreOn then d.leafLater 0x0FB A.GPIO_EVT i else d.setBit A.GPIO_EVT i
      if !d.coreOn then d
      else d.fireSource (fun w => srcKind w == 4 && bits w 0 4 == i && Nat.land (bits w 4 2) kind != 0) (fun _ => true)
        (fun _ _ => true) (BitVec.ofNat 32 v)) s

/-! ### The PMBus master (R488, R489) -/

/-- A write transaction to a regulator that the device drives (R489). -/
def Dev.pmbProtected (d : Dev) (addr kind : Nat) : Bool :=
  kind < 3 && (addr == d.rd F.CLK_PMB_CORE_ADDR || addr == d.rd F.CLK_PMB_SRAM_ADDR)

/-- A posted write of `PMB_XFER`: refused with RANGE or STATE, or a transaction that waits for the bus (R489). -/
def Dev.pmbXfer (d : Dev) (addr code kind : Nat) : Dev :=
  if 5 ≤ kind then d.wr F.PMB_STATUS_REASON Rsn.RANGE
  else if d.pmbProtected addr kind then d.wr F.PMB_STATUS_REASON Rsn.STATE
  else { d with mgt := { d.mgt with xfer := some (addr, code, kind) } }

/-- What a host transaction writes on the bus after its code (R488). -/
def Dev.pmbData (d : Dev) (kind : Nat) : List Byte :=
  let w := d.reg A.PMB_DATA
  match kind with
  | 1 => [w.extractLsb' 0 8]
  | 2 => [w.extractLsb' 0 8, w.extractLsb' 8 8]
  | _ => []

/-- PMB_XFER_DONE: the host transaction has ended on the bus, with the data of a read (R489); the device's own transactions come
first. -/
def execPmbXferDone (e : PmbEnd) (data : BitVec 16) (s : State) : Host.Outcome State Fault Refusal :=
  liftAon (fun d =>
    match d.mgt.xfer with
    | none => d
    | some (addr, code, kind) =>
      if d.on F.CLK_OPP_STATUS_CHANGING || d.on F.PWR_STATUS_TRANSIT || !d.island 2 then d
      else
        let d := (({ d with mgt := { d.mgt with xfer := none } }).emit (.pmbus addr code (d.pmbData kind))).wr F.PMB_STATUS_REASON 0
        let read (d : Dev) : Dev := if kind = 3 then d.wr F.PMB_DATA_DATA (data.toNat % 256)
          else if kind = 4 then d.wr F.PMB_DATA_DATA data.toNat else d
        (match e with
          | .nack => d.wr F.PMB_STATUS_NACK 1
          | .stretch => d.wr F.PMB_STATUS_TIMEOUT 1
          | .done => read d
          | .pec => if 3 ≤ kind && d.on F.PMB_CTRL_PEC then (read d).wr F.PMB_STATUS_PEC_ERR 1 else read d).postComplete .pmb) s

/-! ### The supplies of the audio port banks (R484, R485) -/

/-- VDDIO_SUPPLY_LOSS: a bank loses its supply (R484). -/
def execVddioSupplyLoss (b : Fin 8) (s : State) : Host.Outcome State Fault Refusal :=
  liftAny (fun d =>
    let b := b.val
    let clear (d : Dev) (f : Fld) : Dev := d.wr f (Nat.land (d.rd f) (255 - 2 ^ b))
    let d := clear (clear (clear d F.PWR_DOMAIN_STATE_VDDIO) F.MGT_VDDIO_LEVEL_V33) F.MGT_VDDIO_LEVEL_MEASURED
    if d.inReset || !d.coreOn then d
    else d.each [2 * b, 2 * b + 1] (fun d g =>
      if d.ustate (0x040 + g) = 3 then ((d.groupEvt g 0).count (Ctr.GROUP g Gc.CLK_LOSTS) 1).groupLost g else d)) s

/-- VDDIO_SUPPLY_RETURN: a bank's supply is back and measured, at 3.3 V or 1.8 V (R485). -/
def execVddioSupplyReturn (b : Fin 8) (v33 : Bool) (s : State) : Host.Outcome State Fault Refusal :=
  liftAny (fun d =>
    let b := b.val
    let set (d : Dev) (f : Fld) : Dev := d.wr f (Nat.lor (d.rd f) (2 ^ b))
    let d := set (set d F.PWR_DOMAIN_STATE_VDDIO) F.MGT_VDDIO_LEVEL_MEASURED
    d.wr F.MGT_VDDIO_LEVEL_V33 (Nat.land (d.rd F.MGT_VDDIO_LEVEL_V33) (255 - 2 ^ b) + if v33 then 2 ^ b else 0)) s

/-! ### The thermal sensors (R509, R510) -/

/-- The warning threshold in 1/16 °C: at most 135 °C (R509). -/
def Dev.thermLimit (d : Dev) : Int := min 2160 (toSigned 16 (d.rd F.THERM_WARN_LIMIT))

/-- The highest of the readings, with its sensor (R509). -/
def hottest : List (Int × Nat) → Int × Nat
  | [] => (-32768, 0)
  | [t] => t
  | t :: u :: ts => let m := hottest (u :: ts); if m.1 ≤ t.1 then t else m

/-- The sensors have been read (R509, R510). -/
def Dev.thermSample (d : Dev) (ts : List (BitVec 16)) : Dev :=
  let d := d.each ts.zipIdx (fun d t => d.wr (F.THERM_TEMP_TEMP t.2) t.1.toNat)
  let hot := hottest (ts.zipIdx.map (fun t => (t.1.toInt, t.2)))
  let max := hot.1
  let d := d.wr F.THERM_MAX_TEMP (ofSigned 16 max)
  let d := d.when (toSigned 16 (d.rd F.THERM_PEAK_TEMP) < max) (fun d => d.wr F.THERM_PEAK_TEMP (ofSigned 16 max))
  let info : Word := BitVec.ofNat 32 (ofSigned 32 max)
  let d := if d.thermLimit < max && !d.mgt.warned then
      (({ d with mgt := { d.mgt with warned := true } }).setBit A.THERM_EVT 0).raise 0 0x0C 0xB 0 (BitVec.ofNat 32 hot.2) info
    else if d.mgt.warned && max ≤ d.thermLimit - 80 then ({ d with mgt := { d.mgt with warned := false } }).setBit A.THERM_EVT 1
    else d
  let trip := 2240 ≤ max
  let new := trip && !d.mgt.tripped
  let d := { d with mgt := { d.mgt with tripped := trip || d.mgt.tripped } }
  d.when new (fun d => d.raise 3 0x0D 0xB 0 (BitVec.ofNat 32 hot.2) info)

/-- THERM_SAMPLE: one reading of the four sensors, signed, in 1/16 °C (R509, R510). -/
def execThermSample (t0 t1 t2 t3 : BitVec 16) (s : State) : Host.Outcome State Fault Refusal :=
  liftAon (fun d => d.thermSample [t0, t1, t2, t3]) s

/-! ### The test access port (R432, R433) -/

/-- The next state of the controller (IEEE 1149.1). -/
def TapState.next (t : TapState) (tms : Bool) : TapState :=
  match t, tms with
  | .testLogicReset, false => .runTestIdle
  | .testLogicReset, true => .testLogicReset
  | .runTestIdle, false => .runTestIdle
  | .runTestIdle, true => .selectDr
  | .selectDr, false => .captureDr
  | .selectDr, true => .selectIr
  | .captureDr, false => .shiftDr
  | .captureDr, true => .exit1Dr
  | .shiftDr, false => .shiftDr
  | .shiftDr, true => .exit1Dr
  | .exit1Dr, false => .pauseDr
  | .exit1Dr, true => .updateDr
  | .pauseDr, false => .pauseDr
  | .pauseDr, true => .exit2Dr
  | .exit2Dr, false => .shiftDr
  | .exit2Dr, true => .updateDr
  | .updateDr, false => .runTestIdle
  | .updateDr, true => .selectDr
  | .selectIr, false => .captureIr
  | .selectIr, true => .testLogicReset
  | .captureIr, false => .shiftIr
  | .captureIr, true => .exit1Ir
  | .shiftIr, false => .shiftIr
  | .shiftIr, true => .exit1Ir
  | .exit1Ir, false => .pauseIr
  | .exit1Ir, true => .updateIr
  | .pauseIr, false => .pauseIr
  | .pauseIr, true => .exit2Ir
  | .exit2Ir, false => .shiftIr
  | .exit2Ir, true => .updateIr
  | .updateIr, false => .runTestIdle
  | .updateIr, true => .selectDr

/-- The instructions of the TAP (R432, R433). -/
abbrev Tap.IDCODE : Nat := 0x01
abbrev Tap.REGACC : Nat := 0x10

/-- REGACC is the instruction, and it is available (R433). -/
def Dev.regaccOn (d : Dev) : Bool := d.mgt.tapIr == Tap.REGACC && d.on F.SEC_STATUS_TAP_OPEN

/-- The length of the data register selected (R432, R433). -/
def Dev.tapLen (d : Dev) : Nat := if d.mgt.tapIr = Tap.IDCODE then 32 else if d.regaccOn then 64 else 1

/-- What the data register selected captures (R432, R433). -/
def Dev.tapCapture (d : Dev) : Nat := if d.mgt.tapIr = Tap.IDCODE then 0x1961609D else if d.regaccOn then d.mgt.tapReg else 0

/-- A rising edge of TCK: what the state does, then the next state, an update as it is entered. -/
def Dev.tapEdge (d : Dev) (tms tdi : Bool) : Dev :=
  let m := d.mgt
  let shift (n : Nat) : Nat := m.tapShift / 2 + (if tdi then 2 ^ (n - 1) else 0)
  let next := m.tapState.next tms
  let d := match m.tapState with
    | .captureDr => { d with mgt := { m with tapShift := d.tapCapture } }
    | .captureIr => { d with mgt := { m with tapShift := 1 } }
    | .shiftDr => ({ d with mgt := { m with tapShift := shift d.tapLen } }).emit (.tdo (m.tapShift % 2))
    | .shiftIr => ({ d with mgt := { m with tapShift := shift 8 } }).emit (.tdo (m.tapShift % 2))
    | _ => d
  let d := { d with mgt := { d.mgt with tapState := next } }
  match next with
  | .testLogicReset => { d with mgt := { d.mgt with tapIr := Tap.IDCODE } }
  | .updateIr => { d with mgt := { d.mgt with tapIr := d.mgt.tapShift % 256 } }
  | .updateDr =>
    if d.regaccOn then
      { d with mgt := { d.mgt with tapReg := d.mgt.tapShift, tapGo := d.mgt.tapShift / 2 ^ 63 % 2 == 1 } }
    else d
  | _ => d

/-- TAP_TRANSITION: a rising edge of TCK, TRST_N high, with TMS and TDI; Fragal records it (R438). -/
def execTapTransition (tms tdi : Bool) (s : State) : Host.Outcome State Fault Refusal :=
  liftAon (fun d =>
    if !d.island 2 then d
    else (d.fragPin 2 ((if tms then 1 else 0) + if tdi then 2 else 0)).tapEdge tms tdi) s

end Sys2Proof.Machine
end

