-- ==== Sys2Proof/Machine/Fragal.lean ====
section
/-! DEFINITION. Fragal's orders (R437, R444–R449): starting a recording, checkpoints, digest intervals, the sinks' pointers and
buffer, the trace tail. Replay is in Replay.lean. -/
namespace Sys2Proof.Machine

/-! ### The scope (R437) -/

/-- The enabled entries of `FRG_SCOPE`. -/
def Dev.scopeEntries (d : Dev) : List Nat :=
  ((List.range 16).filter (fun i => d.on (F.FRG_SCOPE_EN i))).map (fun i => d.rd (F.FRG_SCOPE_UNIT i))

/-- The scope with each cabinet replaced by its members at every depth, in ascending order. -/
def Dev.scopeUnits (d : Dev) : List Nat :=
  let us := d.scopeEntries.flatMap (fun u => if isCabinet u then (d.tree 800 u).filter (fun m => !isCabinet m) else [u])
  (List.range 0x1000).filter us.contains

/-- What else must be in the scope with a unit. -/
def companion (u : Nat) : Option Nat :=
  match unitKind u with
  | .port n => some (0x040 + n / 4)
  | .decim k => some (0x040 + k / 8)
  | .bridge b => some (0x040 + b)
  | .flow f => some (0x200 + f / 8)
  | _ => none

/-- The check of R437. -/
def Dev.scopeCheck (d : Dev) : Nat :=
  let us := d.scopeUnits
  if d.scopeEntries.any (fun u => unitKind u == .reserved) || 1024 < us.length then Rsn.RANGE
  else if us.any (fun u => (companion u).any (fun v => !us.contains v) ||
      (d.unitDomains u).any (fun m => !us.contains (0x0A0 + m) && !d.ticking m)) then Rsn.INCOMPLETE
  else 0

/-- The check of a START with MODE 0b01 (R444). -/
def Dev.recordCheck (d : Dev) : Nat :=
  let st := d.rd F.FRG_STATUS_STATE
  let log := d.rd F.FRG_HRING_CFG_SIZE_LOG2
  (firstOf [
    (d.scopeCheck ≠ 0, d.scopeCheck, 0), (st ≠ Frg.IDLE && st ≠ Frg.STOPPED, Rsn.BUSY, 0),
    (d.on F.FRG_CTRL_SINK && (!d.island 1 || log < 16), Rsn.RANGE, 0), (d.rd F.FRG_CTRL_DIG_TICKS = 0, Rsn.RANGE, 0),
    (d.on F.FRG_CTRL_ENCRYPT && ((d.keyWords 1 4).isNone || d.sec.erasing), Rsn.INCOMPLETE, 0),
    (!d.ticking (d.rd F.FRG_CTRL_DOMAIN), Rsn.NO_CLOCK, 0), (d.safe, Rsn.STATE, 0)]).1

/-- START with MODE 0b01 (R444). -/
def Dev.recordStart (d : Dev) : Dev :=
  let r := d.recordCheck
  let d := d.wr F.FRG_CMD_REASON r
  if r ≠ 0 then d
  else
    let d := (d.wr F.FRG_STATUS_STATE Frg.ARMING).wr F.FRG_OCB_FILL_CHUNKS 0
    { d.draw with frg := { ocb := d.frg.ocb, host := d.frg.host, tail := d.frg.tail, scope := d.scopeUnits,
                           nonce := Config.freeWord d.free } }

/-! ### Checkpoints (R445, R446) -/

/-- A CKPT record (R441). -/
def ckptRecord (addr : Nat) (data : List Byte) : List Byte :=
  fragRecord Rt.CKPT 0 0xFFF 0x3F 0 (leBytes addr 8 ++ leBytes data.length 4 ++ data)

/-- CKPT records of consecutive pieces of a range of register words. -/
def Dev.ckptRegs (d : Dev) (a words : Nat) : List (List Byte) :=
  (List.range ((words + 1023) / 1024)).map (fun i =>
    ckptRecord (a + 4096 * i) ((d.regsAt (a + 4096 * i) (min 1024 (words - 1024 * i))).flatMap wordBytes))

/-- CKPT records of consecutive pieces of an engine's memory. -/
def ckptMem (m : List Host.Cell) (a pieces : Nat) : List (List Byte) :=
  (List.range pieces).map (fun i => ckptRecord (a + 4096 * i) (memBytes m (a + 4096 * i) 4096))

/-- What a checkpoint holds of a unit (R445): its descriptor, its register block, an engine's memories, a region's table words. -/
def Dev.ckptUnit (d : Dev) (m : List Host.Cell) (u : Nat) : List (List Byte) :=
  d.ckptRegs (0x10000 + u * 0x40) 16 ++ (if (unitBlock u).1 = 0 then [] else d.ckptRegs (unitBlock u).1 ((unitBlock u).2 / 4)) ++
    match unitKind u with
    | .seng e => ckptMem m (engineBase e) 64
    | .steward s => ckptMem m (engineBase (64 + 8 * s)) 256
    | .region r => d.ckptRegs (patchActive (d.regionBase r)) (d.regionCount r) ++ d.ckptRegs (patchShadow (d.regionBase r)) (d.regionCount r)
    | _ => []

/-- The public key of the identity key, X then Y in big-endian octets; zeros where slot 0 is empty (R441). -/
def Dev.identity (d : Dev) : List Byte :=
  match d.keyWords 0 3 with
  | some k => (List.range 16).flatMap (fun i => (wordBytes (Config.publicKey k i)).reverse)
  | none => List.replicate 64 0

/-- What HEADER says of a scoped domain: media count, the timestamps behind τ, the dither register (R441). -/
def Dev.domainState (d : Dev) (m : Nat) : List Byte :=
  let x := d.mclk m
  leBytes x.count 8 ++ leBytes x.tickAt 16 ++ leBytes x.lfsr.toNat 4 ++ leBytes x.marks.length 4 ++
    x.marks.flatMap (fun p => leBytes p.1 16 ++ leBytes p.2 8)

/-- HEADER without its signature (R441). -/
def Dev.headerBody (d : Dev) : List Byte :=
  let ms := (List.range 8).filter (fun m => d.frg.scope.contains (0x0A0 + m))
  leBytes (d.reg A.GLB_ID).toNat 4 ++ leBytes (d.reg A.CFG_CRC_NOW).toNat 4 ++ leBytes (d.reg A.FRG_CTRL).toNat 4 ++
    leBytes d.frg.scope.length 4 ++ d.frg.scope.flatMap (fun u => leBytes u 2) ++ leBytes (d.rd F.CLK_OPP_STATUS_CUR) 2 ++
    leBytes d.t64 8 ++ ms.flatMap d.domainState ++ d.identity

/-- HEADER (R441): signed with the identity key over all octets before the signature. -/
def Dev.headerRecord (d : Dev) : List Byte :=
  let body := d.headerBody
  let whole := fragRecord Rt.HEADER 0 0xFFF 0x3F 0 (body ++ List.replicate 64 0)
  let signed := whole.take (16 + body.length)
  let sig := match d.keyWords 0 3 with
    | some k => (List.range 64).map (Config.ecdsaSign k signed)
    | none => List.replicate 64 0
  padTo (signed ++ sig) whole.length

/-- A checkpoint begins (R445): a new segment, HEADER, and the records that stream. -/
def Dev.checkpoint (d : Dev) (m : List Host.Cell) : Dev :=
  let d := { d with frg := { d.frg with segment := d.clk, ckptDue := false } }
  let at_ := d.frg.chunk + d.frg.body.length / 4064
  let d := (d.fragPut d.headerRecord).wr F.FRG_CMD_BUSY 1
  let recs := d.frg.scope.flatMap (d.ckptUnit m) ++
    (if d.frg.scope.any (fun u => 0xC00 ≤ u && u < 0xC40) then d.ckptRegs (A.PR_GAIN_LEVEL 0) 512 else [])
  if d.rd F.FRG_STATUS_STATE ≠ Frg.RECORDING then d.wr F.FRG_CMD_BUSY 0
  else { d with frg := { d.frg with ckpt := recs, headers := at_ :: d.frg.headers } }

/-- FRAGAL_ARM_COMPLETE: the next tick start of DOMAIN (R444). -/
def execFragalArmComplete (s : State) : Host.Outcome State Fault Refusal :=
  run (fun env d =>
    let m := d.rd F.FRG_CTRL_DOMAIN
    if d.rd F.FRG_STATUS_STATE ≠ Frg.ARMING || !d.ticking m then d
    else
      let d := (d.wr F.FRG_STATUS_STATE Frg.RECORDING).frgEvt 0
      ({ d with frg := { d.frg with start := (d.mclk m).count } }).checkpoint env.mem) s

/-- A CHECKPOINT order (R446). Outside RECORDING it answers STATE (DEDUCED, log 45). -/
def Dev.checkpointOrder (d : Dev) (m : List Host.Cell) : Dev :=
  if d.rd F.FRG_STATUS_STATE ≠ Frg.RECORDING then d.wr F.FRG_CMD_REASON Rsn.STATE
  else if d.on F.FRG_CMD_BUSY then d.wr F.FRG_CMD_REASON Rsn.BUSY
  else (d.wr F.FRG_CMD_REASON 0).checkpoint m

/-- CHECKPOINT_PERIOD_EXPIRE: PERIOD ms have passed (R446). -/
def execCheckpointPeriodExpire (s : State) : Host.Outcome State Fault Refusal :=
  run (fun env d =>
    if d.rd F.FRG_STATUS_STATE ≠ Frg.RECORDING || d.rd F.FRG_CKPT_PERIOD = 0 then d
    else if d.on F.FRG_CMD_BUSY then d.count (Ctr.FRG 6) 1
    else d.checkpoint env.mem) s

/-- CHECKPOINT_DONE: the last CKPT record is written (R445); one that a GAP forced follows (R446). -/
def execCheckpointDone (s : State) : Host.Outcome State Fault Refusal :=
  run (fun env d =>
    if d.rd F.FRG_STATUS_STATE ≠ Frg.RECORDING || !d.on F.FRG_CMD_BUSY then d
    else
      let due := d.frg.ckptDue
      let d := d.each d.frg.ckpt Dev.fragPut
      let d := (({ d with frg := { d.frg with ckpt := [] } }).wr F.FRG_CMD_BUSY 0).frgEvt 3
      let d := d.count (Ctr.FRG 5) 1
      if due && d.rd F.FRG_STATUS_STATE = Frg.RECORDING then d.checkpoint env.mem else d) s

/-- STOP (R448). With nothing to stop it answers STATE (DEDUCED, log 45). -/
def Dev.recordStop (d : Dev) : Dev :=
  let st := d.rd F.FRG_STATUS_STATE
  if st = Frg.ARMING || st = Frg.RECORDING then (d.wr F.FRG_CMD_REASON 0).fragEnd 1 else d.wr F.FRG_CMD_REASON Rsn.STATE

/-! ### Sinks (R447, R453) -/

/-- A write of `FRG_HRING_HOSTPTR` (R447): credit returns; after dropped records one GAP tells their number, and a checkpoint
follows. -/
def Dev.hostPtr (d : Dev) (m : List Host.Cell) (v : Word) : Dev :=
  let d := { d with frg := { d.frg with host := v } }
  if d.rd F.FRG_STATUS_STATE ≠ Frg.RECORDING || !d.on F.FRG_CTRL_SINK || d.frg.lost.1 = 0 || d.hringCredit = 0 then d
  else
    let lost := d.frg.lost
    let d := { d with frg := { d.frg with lost := (0, 0) } }
    let d := d.fragPut (fragRecord Rt.GAP 0 0xFFF 0x3F d.fragCycle (leBytes lost.1 8 ++ leBytes lost.2 8))
    let d := (d.count (Ctr.FRG 3) 1).frgEvt 2
    if d.on F.FRG_CMD_BUSY then { d with frg := { d.frg with ckptDue := true } } else d.checkpoint m

/-- A write in the FRG block is ignored (R453). -/
def Dev.frgIgnored (d : Dev) : Dev := d.sat F.FRG_IGNORED_COUNT 1
/-- The address of the on-chip buffer moves on (R453). -/
def Dev.ocbNext (d : Dev) : Dev := d.wrap F.FRG_OCB_ADDR_ADDR
/-- The word that a read of `FRG_OCB_DATA` gives (R453). -/
def Dev.ocbWord (d : Dev) : Word := SMap.get (fun _ => 0) d.frg.ocb (d.rd F.FRG_OCB_ADDR_ADDR)
/-- A write of `FRG_OCB_DATA` (R453). -/
def Dev.ocbWrite (d : Dev) (v : Word) : Dev :=
  if d.rd F.FRG_STATUS_STATE = Frg.RECORDING then d.frgIgnored.ocbNext
  else ({ d with frg := { d.frg with ocb := SMap.put (fun _ => 0) (d.rd F.FRG_OCB_ADDR_ADDR) v d.frg.ocb } }).ocbNext

/-- A chunk with TAIL set, and its check of integrity made anew (R440, R449). -/
def tailChunk (key : Option (List Word)) (nonce : Word) (n : Nat) (b : List Byte) : List Byte :=
  let head := b.take 14 ++ [b.getD 14 0 ||| 2] ++ [0]
  let body := (b.drop 16).take 4064
  head ++ body ++
    match key with
    | some k => leBytes (Config.chunkTag k nonce n head body) 16
    | none => leBytes (crc32c (head ++ body)).toNat 4 ++ List.replicate 12 0

/-- TRACE_TAIL_DONE: the copy of the trace tail completes (R449). -/
def execTraceTailDone (s : State) : Host.Outcome State Fault Refusal :=
  lift (fun d =>
    match d.frg.tail with
    | none => d
    | some (first, header) =>
      let key := if d.on F.FRG_CTRL_ENCRYPT then some ((d.keyWords 1 4).getD []) else none
      let n := d.frg.chunk - first
      let d := { d with frg := { d.frg with tail := none } }
      let bs := (List.range n).flatMap (fun i => tailChunk key d.frg.nonce (first + i) (d.ocbChunk (first + i)))
      let d := d.peatWords (Peat.TAIL / 8) (wordsOf (tailHead n first header true ++ bs))
      (d.count (Ctr.FRG 7) 1).frgEvt 5) s

/-! ### Digest intervals (R443, R452) -/

/-- The little-endian number of octets. -/
def leNat : List Byte → Nat
  | [] => 0
  | b :: bs => b.toNat + 256 * leNat bs

/-- A divergence is reported, and the replay stops (R452). -/
def Dev.diverge (d : Dev) (kind unit cycle : Nat) (expect found : Word) : Dev :=
  let m := d.rd F.FRG_CTRL_DOMAIN
  let tick := if kind = 1 then d.frg.start else (d.mclk m).count
  let d := (d.wr F.FRG_DIV_INFO_KIND kind).wr F.FRG_DIV_INFO_UNIT unit
  let d := ((d.setReg A.FRG_DIV_TICK (loWord tick)).setReg A.FRG_DIV_CYCLE_LO (loWord cycle)).setReg A.FRG_DIV_CYCLE_HI (hiWord cycle)
  let d := (d.setReg A.FRG_DIV_EXPECT expect).setReg A.FRG_DIV_FOUND found
  ((d.wr F.FRG_STATUS_STATE Frg.DIVERGED).frgEvt 4).count (Ctr.FRG 8) 1

/-- The digest of a scoped unit over the interval: 0 for one with no output, such as a unit that is OFF; else a free value, since the
model keeps no list of outputs (log 50). -/
def Dev.digest (d : Dev) (i u : Nat) : Word := if d.ustate u = 0 then 0 else Config.freeWord (d.free + i)

/-- DIGEST_INTERVAL_CLOSE: DIG_TICKS ticks of DOMAIN have passed (R442, R443): in recording the pending ORDER records and DIGEST are
written; in replay the digests are compared with the DIGEST record that comes next (R452). -/
def execDigestIntervalClose (s : State) : Host.Outcome State Fault Refusal :=
  lift (fun d =>
    let st := d.rd F.FRG_STATUS_STATE
    let us := d.frg.scope.zipIdx
    let now := (d.mclk (d.rd F.FRG_CTRL_DOMAIN)).count
    if st = Frg.RECORDING then
      let c := d.fragCycle
      let orders := d.frg.orders
      let d := { d with frg := { d.frg with orders := [] } }
      let d := d.each orders (fun d o => d.fragPut (fragRecord Rt.ORDER 0 0xFFF 0x3F c (orderBody o.1 o.2)))
      let body := leBytes d.frg.start 8 ++ leBytes us.length 4 ++ leBytes 0 4 ++
        us.flatMap (fun u => leBytes u.1 2 ++ leBytes 0 2 ++ wordBytes (d.digest u.2 u.1))
      let d := d.fragPut (fragRecord Rt.DIGEST 0 0xFFF 0x3F c body)
      { d with frg := { d.frg with start := now }, free := d.free + us.length }
    else if st = Frg.REPLAYING && d.frg.trace.head? == some (BitVec.ofNat 8 Rt.DIGEST) then
      let n := 8 * leNat ((d.frg.trace.drop 2).take 2)
      let body := (d.frg.trace.take n).drop 16
      let bad := us.find? (fun u => bytesWord ((body.drop (16 + 8 * u.2 + 4)).take 4) != d.digest u.2 u.1)
      let d := { d with frg := { d.frg with trace := d.frg.trace.drop n }, free := d.free + us.length }
      match bad with
      | some u => d.diverge 1 u.1 d.fragCycle (bytesWord ((body.drop (16 + 8 * u.2 + 4)).take 4)) (s.dev.digest u.2 u.1)
      | none => { d with frg := { d.frg with start := now } }
    else d) s

end Sys2Proof.Machine
end

