-- ==== Sys2Proof/Machine/Replay.lean ====
section
/-! DEFINITION. The start of a replay (R450, R451): reading and authenticating chunks, the HEADER, loading the checkpoint. -/
namespace Sys2Proof.Machine

/-- The record octets of a chunk that is whole and passes its tag or its CRC, with FIRST (R440). -/
def Dev.openChunk (d : Dev) (bs : List Byte) : Option (List Byte × Nat) :=
  let head := bs.take 16
  let data := (bs.drop 16).take 4064
  let n := leNat (bs.take 8)
  let nonce := bytesWord ((bs.drop 8).take 4)
  let first := leNat ((bs.drop 12).take 2)
  if bs.length ≠ 4096 then none
  else if (bs.getD 14 0).getLsbD 0 then
    match d.keyWords 1 4 with
    | none => none
    | some k =>
      if Config.chunkTag k nonce n head data = leNat (bs.drop 4080) then
        some ((List.range 4064).map (fun i => (Config.chunkOpen k nonce n data).getD i 0), first)
      else none
  else if crc32c (head ++ data) = bytesWord ((bs.drop 4080).take 4) then some (data, first)
  else none

/-- Chunks are opened in order, up to the first that fails; whether one failed. -/
def Dev.openChunks (d : Dev) : List (List Byte) → List (List Byte × Nat) × Bool
  | [] => ([], false)
  | c :: cs => match d.openChunk c with
    | none => ([], true)
    | some x => let r := Dev.openChunks d cs; (x :: r.1, r.2)

/-- The record octets of opened chunks from the first record that starts in them. -/
def fromFirst : List (List Byte × Nat) → List Byte
  | [] => []
  | (b, first) :: cs => if first = 0xFFFF then fromFirst cs else b.drop (first - 16) ++ (cs.map (·.1)).flatten

/-- The length of the record that starts here, in octets (R441). -/
def recordLen (t : List Byte) : Nat := 8 * leNat ((t.drop 2).take 2)

/-- The whole records at the front of a trace, and the octets left. -/
def splitRecords : Nat → List Byte → List (List Byte) × List Byte
  | 0, t => ([], t)
  | n + 1, t =>
    let len := recordLen t
    if t.length < 16 || len < 16 || t.length < len then ([], t)
    else
      let r := splitRecords n (t.drop len)
      (t.take len :: r.1, r.2)

/-- The type of a record, its unit and its cycle (R441). -/
def recType (r : List Byte) : Nat := (r.getD 0 0).toNat
def recUnit (r : List Byte) : Nat := leNat ((r.drop 4).take 2) % 4096
def recCycle (r : List Byte) : Nat := leNat ((r.drop 8).take 8)

/-- A CKPT record is loaded: register words, or octets of an engine memory (R441, R451). -/
def Dev.loadCkpt (d : Dev) (r : List Byte) : Dev :=
  let b := r.drop 16
  let a := leNat (b.take 8)
  let data := (b.drop 12).take (leNat ((b.drop 8).take 4))
  if 0xC00000 ≤ a then d.memStore a data else d.setRegs a (wordsOf data)

/-- The parts of a HEADER: GLB_ID, scope, operating point, media counts and timestamps of the scoped domains, what is signed, the key
and the signature (R441). -/
structure HeaderParts where
  id : Nat
  scope : List Nat
  opp : Nat
  domains : List (Nat × McsRt)
  signed : List Byte
  key : List Byte
  sig : List Byte

/-- One domain's part of a HEADER, and what follows it. -/
def domainPart (x : McsRt) (b : List Byte) : McsRt × List Byte :=
  let n := leNat ((b.drop 28).take 4)
  let rest := b.drop 32
  ({ x with ticking := true, count := leNat (b.take 8), tickAt := leNat ((b.drop 8).take 16),
            lfsr := bytesWord ((b.drop 24).take 4),
            marks := (List.range (min n 17)).map (fun i =>
              (leNat ((rest.drop (24 * i)).take 16), leNat ((rest.drop (24 * i + 16)).take 8))) },
    rest.drop (24 * n))

/-- The domains' parts of a HEADER in order, and what follows them. -/
def Dev.domainParts (d : Dev) : List Nat → List Byte → List (Nat × McsRt) × List Byte
  | [], b => ([], b)
  | m :: ms, b =>
    let p := domainPart (d.mclk m) b
    let r := Dev.domainParts d ms p.2
    ((m, p.1) :: r.1, r.2)

/-- A HEADER is read. -/
def Dev.readHeader (d : Dev) (r : List Byte) : HeaderParts :=
  let b := r.drop 16
  let n := leNat ((b.drop 12).take 4)
  let scope := (List.range n).map (fun i => leNat ((b.drop (16 + 2 * i)).take 2))
  let c := b.drop (16 + 2 * n)
  let p := d.domainParts ((List.range 8).filter (fun m => scope.contains (0x0A0 + m))) (c.drop 10)
  let signed := r.take (r.length - p.2.length + 64)
  { id := leNat (b.take 4), scope, opp := leNat (c.take 2), domains := p.1, signed,
    key := p.2.take 64, sig := (p.2.drop 64).take 64 }

/-- The signature of a HEADER verifies; one of a device with no identity key holds zeros, and there is nothing to verify (DEDUCED,
log 51). -/
def HeaderParts.verifies (h : HeaderParts) : Bool := h.key.all (· == 0) || Config.ecdsaOk h.key h.signed h.sig

/-- A record ends its segment. -/
def endsSegment (r : List Byte) : Bool := recType r == Rt.HEADER || recType r == Rt.END || recType r == Rt.GAP

/-- Whole chunks of the on-chip buffer (R453). -/
def Dev.ocbChunks (d : Dev) : List (List Byte) := (List.range (d.rd F.FRG_OCB_FILL_CHUNKS)).map d.ocbChunk

/-- START with MODE 0b10 (R451): from the on-chip buffer, or from chunks that the host has supplied in its ring. Conditions in the
order of R32 as far as they are known before the HEADER is read (DEDUCED, log 51). -/
def Dev.replayStart (d : Dev) (chunks : List (List Byte)) : Dev :=
  let st := d.rd F.FRG_STATUS_STATE
  let chunks := if d.on F.FRG_CTRL_SINK then chunks else d.ocbChunks
  let opened := d.openChunks chunks
  let t := fromFirst opened.1
  let rs := splitRecords t.length t
  let head := rs.1.head?.filter (fun r => recType r == Rt.HEADER)
  let h := d.readHeader (head.getD [])
  let outside := d.regs.any (fun e => 0x10040 ≤ e.1 && e.1 < 0x50000 && e.1 % 0x40 == 4 && bits e.2 0 3 != 0 &&
    (let u := (e.1 - 0x10000) / 0x40
     !h.scope.contains u && !isCabinet u))
  let v := (firstOf [
    (d.scopeCheck ≠ 0, d.scopeCheck, 0),
    (st = Frg.ARMING || st = Frg.RECORDING || st = Frg.REPLAYING, Rsn.BUSY, 0), (d.safe, Rsn.STATE, 0),
    (head.isNone, Rsn.INCOMPLETE, 0), (!h.verifies, Rsn.LOCKED, 0), (h.id ≠ (d.reg A.GLB_ID).toNat, Rsn.FORMAT, 0),
    (outside, Rsn.INCOMPLETE, 0)]).1
  let d := d.wr F.FRG_CMD_REASON v
  if v ≠ 0 then d
  else
    let rest := rs.1.drop 1
    let ckpts := (rest.takeWhile (fun r => !endsSegment r)).filter (fun r => recType r == Rt.CKPT)
    let after := (rest.takeWhile (fun r => !endsSegment r)).filter (fun r => recType r != Rt.CKPT) ++
      rest.dropWhile (fun r => !endsSegment r)
    let d := d.each ckpts Dev.loadCkpt
    let d := d.each h.domains (fun d x => d.setMclk x.1 x.2)
    let d : Dev := { d with frg := { ocb := d.frg.ocb, host := d.frg.host, tail := d.frg.tail, scope := h.scope, opp := h.opp,
                                     segment := d.clk, start := (d.mclk (d.rd F.FRG_CTRL_DOMAIN)).count,
                                     trace := after.flatten ++ rs.2 } }
    let d := d.when (d.on F.FRG_CTRL_SINK) (fun d => d.setReg A.FRG_HRING_DEVPTR (d.reg A.FRG_HRING_DEVPTR + BitVec.ofNat 32 chunks.length))
    let d := (d.wr F.FRG_STATUS_STATE Frg.REPLAYING).frgEvt 0
    if opened.2 then d.diverge 4 0xFFF 0 0 0 else d

end Sys2Proof.Machine
end

