-- ==== Sys2Proof/Machine/Registers.lean ====
section
/-! DEFINITION. Reading a word of the register map (R9, R47, R61–R63): the value shown and what the read changes. -/
namespace Sys2Proof.Machine

/-! ### The fields of a word (R9) -/

/-- The fields of the register word at an offset of a block. -/
def fieldsAt (b : Block) (off : Nat) : List FieldRow :=
  match findRow b.rows off with
  | some (r, _) => r.fields
  | none => []

/-- The bits of the fields of a word that have one of some access codes. -/
def accMask (p : Acc → Bool) : List FieldRow → Word
  | [] => 0
  | f :: fs => (if p f.acc then fieldMask f.lo f.width else 0) ||| accMask p fs

/-- The bits of fields within which some bits are reserved (R86, R191): every fourth bit of a class map, bit 0 of `HOST_BIND0`. -/
def reservedWithin (b : Block) (off : Nat) : Word :=
  match b with
  | .lnk _ => if off = 0x48 || (0x50 ≤ off && off < 0x70) then 0x88888888 else 0
  | .host => if off = 0x40 then 1 else 0
  | _ => 0

/-- The bits of a word that no field holds (R12). -/
def reservedBits (b : Block) (off : Nat) : Word := ~~~ accMask (fun _ => true) (fieldsAt b off) ||| reservedWithin b off

/-! ### Words that the block computes -/

/-- The 32-bit word at an address of a table of 64-bit counters. -/
def halfOf (v : Dword) (a : Nat) : Word := if a / 4 % 2 = 0 then v.setWidth 32 else v.extractLsb' 32 32

/-- A bit by its truth. -/
abbrev bit (c : Bool) : Nat := if c then 1 else 0

/-- PEND of tenants 32w to 32w + 31 (R107). -/
def Dev.pendWord (d : Dev) (w : Nat) : Word :=
  BitVec.ofNat 32 ((List.range 32).foldl (fun a i =>
    a + bit ((d.queue (32 * w + i) 1).fill != 0 || (d.queue (32 * w + i) 2).fill != 0) * 2 ^ i) 0)

/-- A staged value anywhere has not applied (R52). -/
def Dev.stagedPending (d : Dev) : Bool := d.staged.any (fun s => s.mask != 0) || !d.accepted.isEmpty

/-- The value of a register word: what the register file holds, with the fields that follow other state (R42, R52, R72, R95, R107,
R161, R259, R263, R295, R312, R354, R364, R372, R453, R485). The level of PMB_ALERT_N is not driven by any command: a free value. -/
def Dev.shown (d : Dev) (p : Path) (b : Block) (off : Nat) (w : Word) : Word :=
  match b with
  | .glb =>
    if off = 0x14 then putBits w 1 1 (bit d.stagedPending)
    else if off = 0x80 then BitVec.ofNat 32 d.summary
    else w
  | .unit u => if u = 0 && off = 0x38 then putBits w 16 12 d.rootCount else w
  | .tnt t =>
    if off = 0 then putBits (putBits w 12 1 (bit (d.spiBound t))) 16 6 (d.fnOf t)
    else if off = 0x58 then BitVec.ofNat 32 (d.queue t 1).fill
    else if off = 0x5C then BitVec.ofNat 32 (d.queue t 2).fill
    else if 0xC0 ≤ off && off < 0xE0 then (d.queue t 1).port ((off - 0xC0) / 4)
    else if 0xE0 ≤ off && off < 0xF0 then (d.queue t 2).port ((off - 0xE0) / 4)
    else w
  | .host =>
    if 0x80 ≤ off && off < 0xC0 then d.pendWord ((off - 0x80) / 4)
    else if 0x800 ≤ off && off % 16 = 0xC then
      let r := (off - 0x800) / 16
      putBits w 0 16 ((d.hchRing r).fill (isRecord r))
    else w
  | .stw s =>
    if off = 0x14 then
      let busy := (List.range 8).foldl (fun a i => a + bit (d.ctx (64 + 8 * s + i)).running * 2 ^ i) 0
      putBits (BitVec.ofNat 32 busy) 16 8 (min (d.steward s).startq.length 0xFF)
    else w
  | .time =>
    let l := d.stcLatched p
    if off = 0 then BitVec.ofNat 32 d.time.ns
    else if off = 4 then l.1.setWidth 32
    else if off = 8 then l.2 ++ l.1.extractLsb' 32 16
    else w
  | .strm s =>
    if off = 4 then
      let on := (List.range 8).foldl (fun a i => a + bit (d.ustate (0x400 + 8 * s + i) != 0) * 2 ^ i) 0
      putBits (putBits (BitVec.ofNat 32 (d.slotsUsed s false none)) 8 8 (d.slotsUsed s true none)) 16 8 on
    else if off = 8 then BitVec.ofNat 32 d.poolFree
    else w
  | .pr =>
    if off = 0 then BitVec.ofNat 32 (d.routerLoad none)
    else if 0x100 ≤ off && off < 0x900 && off % 0x20 = 0x14 then
      let r := (off - 0x100) / 0x20
      d.reg (patchShadow (d.regionBase r + d.rd (F.PR_REGION_WPTR_PTR r)))
    else w
  | .mtr => if off = 0 then putBits (BitVec.ofNat 32 d.meterCells) 16 9 d.loudCells else w
  | .brg g => if off = 0x10 then putBits w 16 9 (d.bridgeLoad g 0) else w
  | .mcs m => if off = 0x40 then putBits w 1 1 (bit (d.refNow m)) else w
  | .frg => if off = 0x78 then d.ocbWord else w
  | .mgt => if off = 0x40 then putBits w 0 1 (bit (Config.freeBool d.free)) else w
  | _ => w

/-- The value a read of the word at an aligned address returns (R9): write-only fields read zero. -/
def Dev.readLoc (d : Dev) (env : Env) (p : Path) (a : Nat) : Loc → Word
  | .reg b off => d.shown p b off (d.reg a) &&& ~~~ accMask (· == .wo) (fieldsAt b off)
  | .live sh => halfOf (SMap.get (fun _ => 0) d.stat (sh / 8 * 8)) sh
  | .patchActive _ => d.reg a
  | .patchShadow _ => d.reg a
  | .shelf => halfOf (SMap.get (fun _ => 0) d.shelf (a / 8 * 8)) a
  | .stwMem _ _ => memWordAt (d.memNow env) a
  | .sengMem _ _ => memWordAt (d.memNow env) a
  | .bitOf _ _ => 0
  | .none => 0

/-- The value of the word that holds an address; a bit alias gives its bit (R63). -/
def Dev.readWord (d : Dev) (env : Env) (p : Path) (a : Nat) : Word :=
  match locate a with
  | .bitOf x b => BitVec.ofNat 32 (bits (d.readLoc env p (x / 4 * 4) (locate x)) (x % 4 * 8 + b) 1)
  | l => d.readLoc env p (a / 4 * 4) l

/-! ### What a read changes (R61, R62) -/

/-- The RCL bits of a word that a read clears: the bits read, but for the latches that an aligned read of the whole word alone
releases (R62). -/
def clearedBy (b : Block) (off : Nat) (m : Word) (full : Bool) : Word :=
  let keep := b == .glb && (off == 0x30 || off == 0x64) && !full
  if keep then 0 else m &&& accMask (· == .rcl) (fieldsAt b off)

/-- Latches and ports that a read of a whole word moves (R62, R91, R295, R298, R312, R328, R421, R453). -/
def Dev.readMoves (d : Dev) (p : Path) (b : Block) (off : Nat) (full : Bool) : Dev :=
  match b with
  | .glb => if off = 0x30 && full then d.wr F.GLB_BUSERR_INFO_VALID 0 else d
  | .aud => if off = 0x10 && full then d.auditRead else d
  | .tnt t =>
    if 0xC0 ≤ off && off < 0xE0 && (full || (d.queue t 1).entries.isEmpty) then d.portRead t 1 ((off - 0xC0) / 4)
    else if 0xE0 ≤ off && off < 0xF0 && (full || (d.queue t 2).entries.isEmpty) then d.portRead t 2 ((off - 0xE0) / 4)
    else d
  | .time => if off = 0 then d.stcLatch p else if off = 0x60 then d.ppsLatch else d
  | .mcs m => if off = 0x4C then d.countLatch m else d
  | .apg g => if off = 0x20 then d.frameLatch g else d
  | .frg => if off = 0x78 then d.ocbNext else d
  | .mgt => if off = 0x40 then d.draw else d
  | _ => d

/-- A read of some bits of a register word has been answered: leaves returned as 1 are cleared, and the unit's SUM follows (R45, R61). -/
def Dev.readReg (d : Dev) (p : Path) (a : Nat) (b : Block) (off : Nat) (m : Word) (full : Bool) : Dev :=
  let old := d.reg a
  let clear := old &&& clearedBy b off m full
  let d := d.readMoves p b off full
  if clear = 0 then d
  else
    let d := d.setReg a (d.reg a &&& ~~~ clear)
    match unitOfAddr a with
    | some u => d.touch u
    | none => d

/-- A read of some bits of the word that holds an address (R61, R62): through a bit alias, of that bit alone, with no latch
released. -/
def Dev.readTouch (d : Dev) (p : Path) (a : Nat) (m : Word) (full : Bool) : Dev :=
  match locate a with
  | .reg b off => d.readReg p (a / 4 * 4) b off m full
  | .bitOf x b => match locate x with
    | .reg bl off => d.readReg p (x / 4 * 4) bl off (fieldMask (x % 4 * 8 + b) 1) false
    | _ => d
  | _ => d

end Sys2Proof.Machine
end

