-- ==== Sys2Proof/Machine/Reset.lean ====
section
/-! DEFINITION. Resets as commands: the pins RESET_N and PCIE_PERST_N, the supply monitors, the thermal shutdown, and the
reset sequence (R457–R462, R510). -/
namespace Sys2Proof.Machine

/-- The board's reset, a monitor trip or the thermal shutdown: a peat write that is in progress completes first (R457, R510). -/
def Dev.boardReset (d : Dev) (cause : Nat) : Dev :=
  (d.when (d.sec.peatOp == some true) Dev.peatDone).resetAndHold .board cause 1

/-- RESET_N_ASSERT: RESET_N falls (R458, R460). -/
def execResetNAssert (s : State) : Host.Outcome State Fault Refusal :=
  liftAny (fun d =>
    let d := d.boardReset Cause.RESET_N
    { d with rst := { d.rst with board := true } }) s

/-- SUPPLY_TRIP: a monitored supply leaves its range (R457). -/
def execSupplyTrip (s : State) : Host.Outcome State Fault Refusal :=
  liftAny (fun d =>
    let d := d.boardReset Cause.SUPPLY
    { d with rst := { d.rst with board := true } }) s

/-- Step 1 of the sequence: the straps are latched (R459, R462). -/
def Dev.latchStraps (d : Dev) (boot : Nat) (hostif : Bool) : Dev :=
  { d with rst := { d.rst with phase := 2, boot := boot, hostif := hostif } }

/-- RESET_RELEASE: RESET_N is high, and every monitored supply has been back for 1 ms, with the straps as the board ties them; the
sequence begins, unless a thermal shutdown still holds the device (R457–R459). -/
def execResetRelease (boot : Fin 4) (hostif : Bool) (s : State) : Host.Outcome State Fault Refusal :=
  liftAny (fun d =>
    if d.rst.phase ≠ 1 || !d.rst.board then d
    else
      let d := { d with rst := { d.rst with board := false } }
      if d.rst.therm then d else d.latchStraps boot.val hostif) s

/-- RESET_SEQUENCE_COMPLETE: step 6 (R459): islands released, PWR_GOOD high, boot begins. -/
def execResetSequenceComplete (s : State) : Host.Outcome State Fault Refusal :=
  carry (fun env d => if d.rst.phase ≠ 2 then d else (d.released env.fuses).emit (.pin Pin.PWR_GOOD true)) s

/-- The HOST island and the PCIe interface are reset (R461): what PCIe holds of its own, and the queues of PCIe-bound tenants as by a
function level reset of the physical function. -/
def Dev.hostReset (d : Dev) : Dev :=
  let d := d.flr 0
  { d with host := { d.host with vfEnable := false, numVfs := 0, vfMaps := [], msix := [], pba := [], d3hot := [] } }

/-- PERST_ASSERT: PCIE_PERST_N has been low for 1 µs (R461). With PCIe primary it resets the device as `GLB_SOFT_RESET` does, and holds
it until the pin rises. -/
def execPerstAssert (s : State) : Host.Outcome State Fault Refusal :=
  liftAny (fun d =>
    let d := { d.wr F.MGT_PIN_LEVEL_PERST 0 with rst := { d.rst with perst := true } }
    if d.rst.phase = 1 && (d.rst.board || d.rst.therm) then d
    else if d.rst.hostif then (if d.inReset then d else d.hostReset)
    else
      let d := d.resetAndHold .soft Cause.PERST 1
      { d with host := {} }) s

/-- PERST_RELEASE: PCIE_PERST_N is high (R461). -/
def execPerstRelease (s : State) : Host.Outcome State Fault Refusal :=
  liftAny (fun d =>
    let d := { d.wr F.MGT_PIN_LEVEL_PERST 1 with rst := { d.rst with perst := false } }
    if d.rst.phase = 1 && !d.rst.board && !d.rst.therm && !d.rst.hostif then { d with rst := { d.rst with phase := 2 } } else d) s

/-- THERM_SHUTDOWN: 1 ms after the trip (R510). -/
def execThermShutdown (s : State) : Host.Outcome State Fault Refusal :=
  liftAon (fun d =>
    if !d.mgt.tripped then d
    else
      let d := d.boardReset Cause.THERM
      { d with rst := { d.rst with therm := true } }) s

/-- THERM_RECOVER: every sensor has read below 120 °C for 100 ms (R510); the sequence runs, with the straps as they are now, unless
RESET_N or a supply still holds the device. -/
def execThermRecover (boot : Fin 4) (hostif : Bool) (s : State) : Host.Outcome State Fault Refusal :=
  liftAny (fun d =>
    if d.rst.phase ≠ 1 || !d.rst.therm then d
    else
      let d := { d with rst := { d.rst with therm := false } }
      if d.rst.board then d else d.latchStraps boot.val hostif) s

/-- A write of `GLB_SOFT_RESET` with GO and the right KEY (R73, R460): the sequence runs; with another KEY nothing happens but a
count. -/
def Dev.softReset (d : Dev) (v : Word) : Dev :=
  if !v.getLsbD 0 then d
  else if bits v 16 16 ≠ 0x9616 then d.sat F.GLB_RSV_WRITES_COUNT 1
  else d.resetAndHold .soft Cause.SOFT 2

end Sys2Proof.Machine
end

