-- ==== Sys2Proof/Machine/Steward.lean ====
section
/-! DEFINITION. Stewards (R161–R171): loading the entry table, triggers, the start of runs. -/
namespace Sys2Proof.Machine

/-- `ELOAD`.GO: a load begins, or is refused while one runs (R165). -/
def Dev.eloadGo (d : Dev) (s : Nat) : Dev :=
  if d.on (F.STW_ELOAD_BUSY s) then d.wr (F.STW_ELOAD_REASON s) Rsn.BUSY else d.wr (F.STW_ELOAD_BUSY s) 1

/-- The check of an entry (R165): its words 0 to 3. -/
def Dev.entryCheck (d : Dev) (w0 w1 w2 w3 : Word) : Nat :=
  let r := d.bindCheck (bits w1 16 9) false w2 w3
  if 0x40000 ≤ bits w0 2 30 * 4 then Rsn.RANGE
  else if bits w1 0 2 = 3 || r = Rsn.RANGE || srcKind w2 = 8 then Rsn.RANGE
  else r

/-- Pending and queued runs of an entry no longer valid are discarded and counted; their RUN commands complete with STATE
(R166). -/
def Dev.discardWaiting (d : Dev) (k : Nat) : Dev :=
  let e := d.entry k
  (d.setEntry k { e with waiting := [], dropped := min (e.dropped + e.waiting.length) 0xFFFF }).each e.waiting
    (fun d r => d.completeRun r.kind Rsn.STATE 0xFFF 0 [0])

/-- One entry is read, checked and bound (R164–R166). -/
def Dev.loadEntry (d : Dev) (mem : List Host.Cell) (s n : Nat) : Dev :=
  let k := entryKey s n
  let a := 0xC00000 + s * 0x100000 + (d.steward s).etabBase + 32 * n
  let w (i : Nat) : Word := memWordAt mem (a + 4 * i)
  let old := d.entry k
  let inUse := (w 0).getLsbD 0
  let r := if inUse then d.entryCheck (w 0) (w 1) (w 2) (w 3) else 0
  let ok := inUse && r == 0
  let addr := BitVec.ofNat 32 (bits (w 0) 2 30 * 4)
  let same := old.addr == addr && old.policy == bits (w 1) 0 2 && old.tenant == bits (w 1) 16 9 && old.slot.src == w 2
  let slot : Slot := if ok && same && old.valid && old.slot.param == w 3 then old.slot else { src := w 2, param := w 3 }
  let e := { old with valid := ok, addr, policy := bits (w 1) 0 2, tenant := bits (w 1) 16 9,
                      anyTenant := (w 1).getLsbD 31, slot, reason := r,
                      runs := if same then old.runs else 0, coalesced := if same then old.coalesced else 0,
                      dropped := if same then old.dropped else 0 }
  let d := d.setEntry k e
  let d := if ok then d else d.discardWaiting k
  if r ≠ 0 && d.rd (F.STW_ELOAD_REASON s) = 0 then (d.wr (F.STW_ELOAD_REASON s) r).wr (F.STW_ELOAD_ENTRY s) n else d

/-- The entry table has been read (R165): entries up to COUNT are bound or refused, the others are no longer valid. -/
def Dev.eloadDone (d : Dev) (env : Env) (s : Nat) : Dev :=
  if !d.on (F.STW_ELOAD_BUSY s) then d
  else
    let n := d.rd (F.STW_ETAB_COUNT_COUNT s)
    let mem := d.memNow env
    let d := (d.wr (F.STW_ELOAD_REASON s) 0).wr (F.STW_ELOAD_ENTRY s) 0
    let d := d.each (d.entries.filter (fun e => e.1 / 1024 == s && n ≤ e.1 % 1024 && e.2.valid))
      (fun d e => (d.setEntry e.1 { d.entry e.1 with valid := false }).discardWaiting e.1)
    let d := d.setSteward s { d.steward s with etabBase := d.rd (F.STW_ETAB_BASE_BASE s) * 32 }
    (d.each (List.range (min n 1024)) (fun d i => d.loadEntry mem s i)).wr (F.STW_ELOAD_BUSY s) 0

/-- ELOAD_COMPLETE (R165) -/
def execEloadComplete (t : Fin 4) (s : State) : Host.Outcome State Fault Refusal := run (fun env d => d.eloadDone env t.val) s

/-- A trigger's firing that an entry admits meets its policy (R168, R169). -/
def Dev.policyTrigger (d : Dev) (k : Nat) (data : Word) : Dev :=
  let e := d.entry k
  let s := k / 1024
  let n := k % 1024
  let req : StartReq := { kind := .entry n none, tenant := e.tenant, args := [data, 0, BitVec.ofNat 32 n], pc := e.addr }
  if !e.running then (d.setEntry k { e with running := true }).requestStart s req
  else match e.policy with
    | 1 => d.dropRun k
    | 2 => if e.waiting.length < 15 then d.setEntry k { e with waiting := e.waiting ++ [req] } else d.dropRun k
    | _ => match e.waiting with
      | [] => d.setEntry k { e with waiting := [req] }
      | r :: rs =>
        let r' := match r.kind with
          | .entry _ none => { r with args := r.args.set 1 (r.args.getD 1 0 + 1) }
          | _ => r
        d.setEntry k { e with waiting := r' :: rs, coalesced := min (e.coalesced + 1) 0xFFFF }

/-- A firing of a trigger reaches its entry (R169, R170): dropped where the steward is not IN_SERVICE, or the unit's owner
is no longer the entry's tenant. -/
def Dev.handleFiring (d : Dev) (k : Nat) (data : Word) : Dev :=
  let e := d.entry k
  let owner := match srcKind e.slot.src with
    | 1 => some (bits e.slot.src 0 12)
    | 2 => some (bits e.slot.src 0 12)
    | 4 => some 0x0FB
    | _ => none
  let owned := match owner with
    | some u => d.rd (F.UNIT_OWNER_OWNER u) == e.tenant
    | none => true
  if !e.valid then d
  else if !owned || d.ustate (0x0F0 + k / 1024) ≠ 3 then d.setEntry k { e with dropped := min (e.dropped + 1) 0xFFFF }
  else d.policyTrigger k data

/-- TRIGGER_FIRE: the oldest firing of an entry's trigger is handled (R169, R170). -/
def execTriggerFire (t : Fin 4) (n : Fin 1024) (s : State) : Host.Outcome State Fault Refusal :=
  lift (fun d =>
    let k := entryKey t.val n.val
    match d.firings.find? (fun f => f.1 == k) with
    | none => d
    | some f => { d with firings := d.firings.erase f }.handleFiring k f.2) s

/-- The oldest start request of a steward takes its lowest free thread (R167, R168). -/
def Dev.runStart (d : Dev) (s : Nat) : Dev :=
  let st := d.steward s
  if d.ustate (0x0F0 + s) ≠ 3 || d.safe || d.power ≠ 0 then d
  else match st.startq, d.freeThreadOf s with
    | r :: rs, some t => (d.setSteward s { st with startq := rs }).beginRun (threadCtx s t) r
    | _, _ => d

/-- RUN_START (R167) -/
def execRunStart (t : Fin 4) (s : State) : Host.Outcome State Fault Refusal := lift (fun d => d.runStart t.val) s

end Sys2Proof.Machine
end

