-- ==== Sys2Proof/Machine/Writes.lean ====
section
/-! DEFINITION. Writing a word of the register map (R9, R12, R50–R60): what each access code does, and what the write of each
register that does more than store does. A write has a mask `m` of the bits written: all of them, or the one of a bit alias (R63). -/
namespace Sys2Proof.Machine

/-! ### The access codes (R9) -/

/-- A word with some bits replaced. -/
def merge (old m v : Word) : Word := (old &&& ~~~ m) ||| (v &&& m)

/-- The word lies in the configuration set, whole or in part (R68, R364). -/
def inConfig (b : Block) (off a : Nat) : Bool :=
  match b with
  | .unit _ => off == 0x8 || off == 0xC || off == 0x14 || off == 0x38
  | .pr => !(0x100 ≤ off && off < 0x900 && (off % 0x20 == 0x10 || off % 0x20 == 0x14))
  | _ => (0x100000 ≤ a && a < 0x1E0000) || (0x200000 ≤ a && a < 0x400000)

/-- A write of the configuration set makes the scan in progress invalid (R69). -/
def Dev.dirtyIf (d : Dev) (c : Bool) : Dev := if c then d.dirty else d

/-- The fields that a write would give a reserved encoding (R12). -/
def Dev.badFields (d : Dev) (b : Block) (off a : Nat) (m v : Word) : List FieldRow :=
  (fieldsAt b off).filter (fun f =>
    m &&& fieldMask f.lo f.width != 0 && reservedValue b off f.lo (bits (merge (d.reg a) m v) f.lo f.width))

/-- The fields of a word with access RW, WS and WP are written as their codes say (R9); RO, RCL and LVL fields are not. A field that
would hold a reserved encoding keeps its value, and the write counts (R12). -/
def Dev.plainWrite (d : Dev) (p : Path) (b : Block) (off a : Nat) (m v : Word) : Dev :=
  let fs := fieldsAt b off
  let bad := d.badFields b off a m v
  let d := if bad.isEmpty then d else d.countReserved a
  let m := m &&& ~~~ (reservedWithin b off ||| accMask (fun _ => true) bad)
  let rw := m &&& accMask (· == .rw) fs
  let wp := m &&& accMask (· == .wp) fs
  let ws := fs.filter (fun f => f.acc == .ws && m &&& fieldMask f.lo f.width != 0)
  let d := if rw = 0 then d else d.setReg a (merge (d.reg a) rw v)
  let d := d.each ws (fun d f =>
    let fm := m &&& fieldMask f.lo f.width
    d.writeWs true p a (setOf b off f.inSet) fm fm v)
  let d := if wp = 0 then d else match slowDomain b off with
    | some s => d.post s { addr := a, mask := wp, val := v, path := p }
    | none => d
  d.dirtyIf (inConfig b off a && (rw != 0 || wp != 0 || !ws.isEmpty))

/-- Bit 0 of a commit register: GO (R54). -/
def isCommit (b : Block) (off : Nat) : Bool :=
  match b with
  | .lnk _ => off == 0xC | .ring _ => off == 0x1C | .apg _ => off == 0xC | .ap _ => off == 0x1C | .dec _ => off == 0xC
  | .brg _ => off == 0xC | .mcs _ => off == 0x30 | .pr => off == 0x8 | .mtr => off == 0xC | .strm _ => off == 0xC
  | .seng _ => off == 0xC | .host => off == 0x7F0 | .mgt => off == 0x108
  | _ => false

/-! ### Registers that do more than store

Each takes the written word with the bits that are not written as zero, `w`, beside mask and value. -/

/-- GLB (R58, R64, R73). -/
def Dev.writeGlb (d : Dev) (p : Path) (off a : Nat) (m v : Word) : Dev :=
  let w := v &&& m
  if off = 0x10 then (if w.getLsbD 0 then d.commitAll else d)
  else if off = 0x20 then (if w.getLsbD 0 then d.snapRequest else d)
  else if off = 0x100 then d.softReset w
  else d.plainWrite p .glb off a m v

/-- CFG (R70, R71). -/
def Dev.writeCfg (d : Dev) (p : Path) (off a : Nat) (m v : Word) : Dev :=
  if off = 0x8 then (d.plainWrite p .cfg off a m v).wr F.CFG_CTRL_REF_VALID 1
  else if off = 0xC then (if (v &&& m).getLsbD 0 then d.wr F.CFG_CRC_CAPTURE_BUSY 1 else d)
  else d.plainWrite p .cfg off a m v

/-- A unit's descriptor (R26, R42, R43, R45, R61). -/
def Dev.writeUnit (d : Dev) (p : Path) (u off a : Nat) (m v : Word) : Dev :=
  let w := v &&& m
  if off = 0x8 then (if u = 0 then d else d.plainWrite p (.unit u) off a m v)
  else if off = 0x10 then (d.setReg a (d.reg a &&& ~~~ (w &&& 6))).touch u
  else if off = 0x14 then (d.plainWrite p (.unit u) off a m v).touchBoth u
  else if off = 0x18 then (if bits w 0 4 = 0 then d else (d.giveOrder (.reg p) u (bits w 0 4)).1)
  else d.plainWrite p (.unit u) off a m v

/-- A doorbell page (R90–R98, R109, R140). -/
def Dev.writeTnt (d : Dev) (p : Path) (t off a : Nat) (m v : Word) : Dev :=
  let w := v &&& m
  if 0x10 ≤ off && off < 0x40 then
    let q := (off - 0x10) / 0x10
    if off % 0x10 = 8 then d.writeQCfg t q v m else d.writeQBase t q (off % 0x10 / 4) v m
  else if off = 0x40 then d.sqTail t w
  else if off = 0x44 then d.qHead t 1 w
  else if off = 0x48 then d.qHead t 2 w
  else if 0x80 ≤ off && off < 0xC0 then d.sqPort t ((off - 0x80) / 4) v m
  else if off = 0xF0 then (if d.coreOn then d.userDb t w else d)
  else if 0x400 ≤ off then d.hchPtr t ((off - 0x400) / 4) (w.setWidth 16)
  else d.plainWrite p (.tnt t) off a m v

/-- HOST (R78, R86, R87). -/
def Dev.writeHost (d : Dev) (p : Path) (off a : Nat) (m v : Word) : Dev :=
  if off = 0 then d.hostT0Path v m
  else if 0x40 ≤ off && off < 0x80 then d.hostBind ((off - 0x40) / 4) v m
  else if 0x104 ≤ off && off < 0x200 && d.host.vfEnable then d.ignored
  else d.plainWrite p .host off a m v

/-- A link (R200, R427): a MACsec table under its lock, a channel's VALIDATE, the packet number of an association in use. -/
def Dev.writeLnk (d : Dev) (p : Path) (n off a : Nat) (m v : Word) : Dev :=
  let u := 0x010 + n
  if (off = 0x2C0 || 0x2000 ≤ off) && d.rd F.SEC_LOCK_LOCKS / 8 % 2 = 1 then d.refuse u Rsn.LOCKED 0
  else if 0x2000 ≤ off && off < 0x2200 && off % 0x20 = 8 then
    if m &&& 6 ≠ 0 && bits (merge (d.reg a) m v) 1 2 = 3 then (d.refuse u Rsn.RANGE 0).plainWrite p (.lnk n) off a (m &&& ~~~ 6) v
    else d.plainWrite p (.lnk n) off a m v
  else if 0x2400 ≤ off && off % 0x10 = 4 then
    if (d.reg (a - 4)).getLsbD 31 then d.countReserved a else d.plainWrite p (.lnk n) off a m v
  else if off = 0x264 then
    let d := d.plainWrite p (.lnk n) off a m v
    if bits (d.reg a) 0 10 = 0 || bits (d.reg a) 16 10 = 0 then d.countReserved a else d
  else d.plainWrite p (.lnk n) off a m v

/-- A ring of local frames lies in a steward's data memory (R207, R210). -/
def ringInData (base size : Nat) : Bool := 0x40000 ≤ base && base + size ≤ 0x100000

/-- A write of `SPQq_CFG` (R96, R210): while EN is set the size, depth and steward stand; a rising EN is checked. -/
def Dev.writeSpqCfg (d : Dev) (q a : Nat) (m v : Word) : Dev :=
  let old := d.reg a
  let new := merge old (m &&& 0x7F) v
  if old.getLsbD 0 then
    let d := d.when (new &&& 0x7E != old &&& 0x7E) (fun d => d.sat F.SWC_IGNORED_COUNT 1)
    if new.getLsbD 0 then d else d.setSpq q {} |>.wr (F.SPQ_CFG_EN q) 0
  else
    let d := d.setReg a (new &&& ~~~ 1)
    let depth := d.rd (F.SPQ_CFG_DEPTH_LOG2 q)
    if !new.getLsbD 0 then d
    else if depth = 0 || 6 < depth || !ringInData (d.rd (F.SPQ_BASE_BASE q) * 64) (d.spqDepth q * d.spqSlot q) then
      d.wr (F.SPQ_CFG_REASON q) Rsn.RANGE
    else ((d.setSpq q {}).wr (F.SPQ_CFG_EN q) 1).wr (F.SPQ_CFG_REASON q) 0

/-- A write of `LTXs_CFG` (R96, R210). The register has no REASON: a refused EN stays 0. -/
def Dev.writeLtxCfg (d : Dev) (s a : Nat) (m v : Word) : Dev :=
  let old := d.reg a
  let new := merge old (m &&& 0x8F0FFFE0) v
  if old.getLsbD 31 then
    let d := d.when (new &&& 0x0F0FFFE0 != old &&& 0x0F0FFFE0) (fun d => d.sat F.SWC_IGNORED_COUNT 1)
    if new.getLsbD 31 then d
    else
      let d : Dev := { d with swc := { d.swc with descs := d.swc.descs.filter (fun x => x.ring != s) } }
      (d.setLtx s {}).wr (F.LTX_CFG_EN s) 0
  else
    let d := d.setReg a (new &&& 0x0F0FFFE0)
    let depth := d.rd (F.LTX_CFG_DEPTH_LOG2 s)
    if !new.getLsbD 31 || depth < 2 || 8 < depth || !ringInData (d.rd (F.LTX_CFG_BASE s) * 32) (2 ^ depth * 32) then d
    else (d.setLtx s {}).wr (F.LTX_CFG_EN s) 1

/-- The switch core (R207–R210, R246, R247). -/
def Dev.writeSwc (d : Dev) (env : Env) (p : Path) (off a : Nat) (m v : Word) : Dev :=
  let w := v &&& m
  let ignored : Dev := d.sat F.SWC_IGNORED_COUNT 1
  if 0x10 ≤ off && off < 0x20 && d.on F.SWC_FDB_CMD_BUSY then ignored
  else if off = 0x20 then d.fdbGo w
  else if 0x40 ≤ off && off < 0x80 && off % 8 = 0 then
    let c := (off - 0x40) / 8
    let sum := (List.range 8).foldl (fun s k => s + if k = c then bits (merge (d.reg a) m v) 0 17 else d.rd (F.SWC_QUOTA_RES_RESERVED k)) 0
    if 49152 < sum then ignored else d.plainWrite p .swc off a m v
  else if 0x8000 ≤ off && off < 0x8100 then
    let q := (off - 0x8000) / 0x20
    if off % 0x20 = 0 then (if d.on (F.SPQ_CFG_EN q) then ignored else d.plainWrite p .swc off a m v)
    else if off % 0x20 = 4 then d.writeSpqCfg q a m v
    else if off % 0x20 = 8 then d.spqHead q (w.setWidth 16)
    else d
  else if 0x8200 ≤ off && off < 0x8240 then
    let s := (off - 0x8200) / 0x10
    if off % 0x10 = 0 then d.writeLtxCfg s a m v
    else if off % 0x10 = 4 then d.ltxTail env s (w.setWidth 16)
    else d
  else d.plainWrite p .swc off a m v

/-- ERR (R410, R414). -/
def Dev.writeErr (d : Dev) (p : Path) (off a : Nat) (m v : Word) : Dev :=
  let w := v &&& m
  if off = 0x44 then d.errAck (bits w 0 16)
  else if off = 0x4C then (if w.getLsbD 8 then d.restartGo (bits w 0 4) else d)
  else d.plainWrite p .err off a m v

/-- SEC (R424, R426, R430, R431, R433, R436). A GO of `SEC_DBG_OPEN` under its lock is refused; no register shows that reason. -/
def Dev.writeSec (d : Dev) (env : Env) (p : Path) (off a : Nat) (m v : Word) : Dev :=
  let w := v &&& m
  if off = 0x4 then d.setLocks (bits w 0 4)
  else if off = 0x8 then (if w.getLsbD 0 then d.debugOpen (bits w 16 16) else d)
  else if off = 0x10 then d.keyCmd (bits w 0 8) (bits w 8 3) (bits w 12 4)
  else if 0x20 ≤ off && off < 0x40 then d.setReg a (merge (d.reg a) m v)
  else if (off = 0x84 || off = 0x88) && d.on F.SEC_PEAT_CMD_BUSY then d.secIgnored
  else if off = 0x8C then d.peatCmd (bits w 0 2)
  else if off = 0x90 then d.raiseSvn (bits (merge (d.reg a) m v) 0 16)
  else if off = 0xE0 then (if w.getLsbD 0 then d.fuseGo env.fuses (bits w 16 16) else d)
  else d.plainWrite p .sec off a m v

/-- A write of `FRG_CMD` (R444, R446, R448, R451); `chunks` are those that the host ring holds for a replay. MODE 0b00 and 0b11 are
refused at START. -/
def Dev.fragCmd (d : Dev) (env : Env) (op : Nat) (chunks : List (List Byte)) : Dev :=
  match op with
  | 1 => match d.rd F.FRG_CTRL_MODE with
    | 1 => d.recordStart
    | 2 => d.replayStart chunks
    | _ => d.wr F.FRG_CMD_REASON Rsn.RANGE
  | 2 => d.recordStop
  | 3 => d.checkpointOrder (d.memNow env)
  | _ => d

/-- A word written to the on-chip buffer; the last word of a chunk makes it whole (R453, DEDUCED, log 51). -/
def Dev.ocbWritten (d : Dev) (v : Word) : Dev :=
  let i := d.rd F.FRG_OCB_ADDR_ADDR
  let recording := d.rd F.FRG_STATUS_STATE = Frg.RECORDING
  let d := d.ocbWrite v
  if i % 1024 = 1023 && !recording then d.wr F.FRG_OCB_FILL_CHUNKS (max (d.rd F.FRG_OCB_FILL_CHUNKS) (i / 1024 + 1)) else d

/-- FRG (R453). -/
def Dev.writeFrg (d : Dev) (env : Env) (p : Path) (off a : Nat) (m v : Word) : Dev :=
  let w := v &&& m
  let st := d.rd F.FRG_STATUS_STATE
  let open_ := st = Frg.IDLE || st = Frg.STOPPED || st = Frg.DONE || st = Frg.DIVERGED
  if off = 0x8 then d.fragCmd env (bits w 0 2) []
  else if off = 0x6C then d.hostPtr (d.memNow env) w
  else if off = 0x78 then d.ocbWritten (merge d.ocbWord m v)
  else if (off < 0x8 || (0x20 ≤ off && off < 0x6C)) && !open_ then d.frgIgnored
  else d.plainWrite p .frg off a m v

/-- TIME (R296–R302, R326). -/
def Dev.writeTime (d : Dev) (p : Path) (off a : Nat) (m v : Word) : Dev :=
  let w := v &&& m
  if off = 0x10 && d.servoRuns then d.timeIgnored
  else if 0x14 ≤ off && off < 0x28 && d.on F.TIME_CMD_BUSY then d.timeIgnored
  else if off = 0x28 then d.timeCmd (bits w 0 2)
  else if off = 0x30 then (d.plainWrite p .time off a m v).servoWritten
  else if off = 0x40 then d.servoOfs w
  else if off = 0x50 then
    let d := d.plainWrite p .time off a m v
    if d.rd F.TIME_PPS_WIDTH = 0 || 999 < d.rd F.TIME_PPS_WIDTH then d.timeIgnored else d
  else if 0x400 ≤ off && off < 0x580 && off % 0x10 = 0 then
    let i := (off - 0x400) / 0x10
    let new := merge (d.reg a) m v
    let badDiv := bits new 0 10 = 0 || 1000 < bits new 0 10 || (i < 16 && bits new 0 10 != 1)
    let badTol := bits new 16 16 < 50 || 50000 < bits new 16 16
    let d := d.when badDiv Dev.timeIgnored |>.when badTol Dev.timeIgnored
    d.plainWrite p .time off a
      (m &&& (if badDiv then ~~~ fieldMask 0 10 else ~~~ 0) &&& (if badTol then ~~~ fieldMask 16 16 else ~~~ 0)) v
  else d.plainWrite p .time off a m v

/-- The patch router (R364, R366, R369). -/
def Dev.writePr (d : Dev) (p : Path) (off a : Nat) (m v : Word) : Dev :=
  let w := v &&& m
  let r := (off - 0x100) / 0x20
  if 0x100 ≤ off && off < 0x900 && off % 0x20 = 8 then
    if w.getLsbD 0 then (d.regionGo 0 r (w.getLsbD 1)).1 else d
  else if 0x100 ≤ off && off < 0x900 && off % 0x20 = 0x14 then d.wdataWrite r (merge (d.reg (patchShadow (d.regionBase r +
      d.rd (F.PR_REGION_WPTR_PTR r)))) m v)
  else if 0x1000 ≤ off && off < 0x1800 && off % 8 = 4 && (bits w 0 10 = 0 || 1000 < bits w 0 10) then d.patchIgnored
  else d.plainWrite p .pr off a m v

/-- The meter bank (R372, R375, R376). -/
def Dev.writeMtr (d : Dev) (p : Path) (off a : Nat) (m v : Word) : Dev :=
  let w := v &&& m
  if 0x800 ≤ off && off < 0x1800 && off % 0x10 = 8 then (if w.getLsbD 0 then d.loudRestart ((off - 0x800) / 0x10) else d)
  else if 0x2000 ≤ off then
    let bad := bits w 0 10 = 0 || 1000 < bits w 0 10
    let d := if bad then d.sat F.MTR_IGNORED_COUNT 1 else d.plainWrite p .mtr off a m v
    if w.getLsbD 31 then d.clearHist ((off - 0x2000) / 4) else d
  else d.plainWrite p .mtr off a m v

/-- MGT and GPIO (R485–R488). -/
def Dev.writeMgt (d : Dev) (p : Path) (off a : Nat) (m v : Word) : Dev :=
  let w := v &&& m
  if off = 0x48 then
    let new := merge (d.reg a) m v
    let bad := (List.range 8).filter (fun b => bits new (2 * b) 2 = 3)
    let d := if bad.isEmpty then d else d.countReserved a
    d.plainWrite p .mgt off a (bad.foldl (fun m b => m &&& ~~~ fieldMask (2 * b) 2) m) v
  else if off = 0x110 then d.wr F.GPIO_OUT_OUT (Nat.lor (d.rd F.GPIO_OUT_OUT) (bits w 0 16))
  else if off = 0x114 then d.wr F.GPIO_OUT_OUT (Nat.land (d.rd F.GPIO_OUT_OUT) (0xFFFF - bits w 0 16))
  else d.plainWrite p .mgt off a m v

/-- A write of non-zero bits where no field lies counts (R12). -/
def Dev.noteReserved (d : Dev) (b : Block) (off a : Nat) (w : Word) : Dev :=
  d.when (w &&& reservedBits b off != 0 && !(b == .host && off == 0x40) &&
    !(match b with | .tnt _ => 0x10 ≤ off && off < 0x40 && off % 0x10 == 0 | _ => false)) (fun d => d.countReserved a)

/-- Some bits of a register word are written by tenant 0 on a path. -/
def Dev.writeReg (d : Dev) (env : Env) (p : Path) (b : Block) (off a : Nat) (m v : Word) : Dev :=
  let d := d.noteReserved b off a (v &&& m)
  if isCommit b off then (if (v &&& m).getLsbD 0 then (d.commitGo 0 a).1 else d)
  else match b with
    | .glb => d.writeGlb p off a m v
    | .cfg => d.writeCfg p off a m v
    | .unit u => d.writeUnit p u off a m v
    | .tnt t => d.writeTnt p t off a m v
    | .host => d.writeHost p off a m v
    | .stw s => if off = 0xC then (if (v &&& m).getLsbD 0 then d.eloadGo s else d) else d.plainWrite p b off a m v
    | .lnk n => d.writeLnk p n off a m v
    | .swc => d.writeSwc env p off a m v
    | .pwr => if off = 0x2C then (if (v &&& m).getLsbD 0 then d.wakeAck else d) else d.plainWrite p b off a m v
    | .err => d.writeErr p off a m v
    | .sec => d.writeSec env p off a m v
    | .frg => d.writeFrg env p off a m v
    | .time => d.writeTime p off a m v
    | .pr => d.writePr p off a m v
    | .mtr => d.writeMtr p off a m v
    | .mgt => d.writeMgt p off a m v
    | _ => d.plainWrite p b off a m v

/-! ### Posted writes that a slow domain takes (R59, R60) -/

/-- What the taking of a posted write sets off: a power request, domains, the level of WAKE_OUT_N, a level wake, an operating point, a calibration,
a PMBus transaction (R314, R384, R388, R389, R396, R399, R489). -/
def Dev.takenWrite (d : Dev) (w : Staged) : Dev :=
  if w.addr = A.PWR_CMD then (d.powerRequest (d.rd F.PWR_CMD_TARGET)).1
  else if w.addr = A.PWR_DOMAIN_REQ then d.domainRequest (bits (d.reg A.PWR_DOMAIN_REQ) 0 18)
  else if w.addr = A.PWR_WAKE_EN then
    (d.when d.pwr.wakeOut (fun d => d.emit (.pin Pin.WAKE_OUT_N (!d.on F.PWR_WAKE_EN_OUT_EN)))).honourLevels
  else if w.addr = A.CLK_OPP then d.oppRequest (d.rd F.CLK_OPP_REQ)
  else if w.addr = A.PMB_XFER then d.pmbXfer (d.rd F.PMB_XFER_ADDR) (d.rd F.PMB_XFER_CODE) (d.rd F.PMB_XFER_KIND)
  else match blockAt w.addr with
    | some (.mcs m, off) => if off = 0x60 && (w.val &&& w.mask).getLsbD 8 then d.calGo m else d
    | _ => d

/-- A slow domain takes its posted writes: their values are in force, BUSY clears, their effects begin. BUSY of the PMBus stays until
a transaction has ended on the bus (R489). -/
def Dev.takePosted (d : Dev) (s : SlowDomain) : Dev :=
  if s == .pmb && d.mgt.xfer.isSome then d
  else
    let mine := d.posted.filter (fun w => w.slow == some s)
    let d := (d.postComplete s).each mine Dev.takenWrite
    if s == .pmb && d.mgt.xfer.isSome then d.setPostBusy s true else d

end Sys2Proof.Machine
end

