-- ==== Sys2Proof/Machine/Access.lean ====
section
/-! DEFINITION. Accesses to the register map (R47–R50, R63, R75–R84, R126): what a path reaches, what is a bus error, reads and writes
of one or more words, the frames of the management SPI. -/
namespace Sys2Proof.Machine

/-! ### What is a bus error (R48, R49, R57, R60) -/

/-- An engine memory window: writes of fewer than four bytes are taken there. -/
def Loc.window : Loc → Bool
  | .stwMem _ _ => true
  | .sengMem _ _ => true
  | _ => false

/-- Requests of up to 64 bytes are taken there. -/
def Loc.wide : Loc → Bool
  | .reg (.unit _) _ => true
  | .patchActive _ => true
  | .patchShadow _ => true
  | .shelf => true
  | l => l.window

/-- The location takes a request of `n` bytes at an address (R48). -/
def sizeOk (l : Loc) (a n : Nat) (write : Bool) : Bool :=
  if n = 4 then a % 4 == 0
  else if n < 4 then n != 0 && a % 4 + n ≤ 4 && (!write || l.window)
  else (n == 8 || n == 16 || n == 32 || n == 64) && a % n == 0 && l.wide

/-- The register word that a location names, through a bit alias too, with its address and the bits that an access concerns. -/
def Loc.word (a : Nat) : Loc → Option (Block × Nat × Nat × Word)
  | .reg b off => some (b, off, a / 4 * 4, 0xFFFFFFFF)
  | .bitOf x i => match locate x with
    | .reg b off => some (b, off, x / 4 * 4, fieldMask (x % 4 * 8 + i) 1)
    | _ => Option.none
  | _ => Option.none

/-- No such location for this access: reserved, or the port of a tenant that is bound to PCIe (R49, R63, R94). -/
def Dev.absent (d : Dev) (a : Nat) (l : Loc) : Bool :=
  match l with
  | .none => true
  | .bitOf x _ => match locate x with
    | .none => true
    | .bitOf _ _ => true
    | _ => false
  | _ => match l.word a with
    | some (.tnt t, off, _, _) => 0x80 ≤ off && off < 0xF0 && !d.spiBound t
    | _ => false

/-- While a boot image loads, a host path reaches GLB, PWR, CLK, ERR, SEC and MGT alone (R470). -/
def Dev.loadingBars (d : Dev) (p : Path) (a : Nat) : Bool :=
  d.rd F.MGT_BOOT_STATUS_STATE == 1 && (match p with | .boot => false | .window => false | _ => true) &&
    !(a < 0x5000 || (0xA000 ≤ a && a < 0xB000))

/-- The address whose domain an access needs: of a bit alias, the byte's (R47). -/
def Loc.base (a : Nat) : Loc → Nat
  | .bitOf x _ => x
  | _ => a

/-- A field of some bits of a word lies in a set that is pending (R57). -/
def Dev.inPending (d : Dev) (b : Block) (off : Nat) (m : Word) : Bool :=
  (fieldsAt b off).any (fun f => m &&& fieldMask f.lo f.width != 0 &&
    (setOf b off f.inSet).any (fun sid => d.accepted.any (fun s => s.1 == sid)))

/-- A shadow word, or what `PR_REGIONr_WDATA` stands for, lies in a range that is being captured (R366). -/
def Dev.captureBars (d : Dev) (l : Loc) : Bool :=
  match l with
  | .patchShadow i => d.capturing i
  | .reg .pr off =>
    0x100 ≤ off && off < 0x900 && off % 0x20 == 0x14 &&
      (let r := (off - 0x100) / 0x20
       d.capturing (d.regionBase r + d.rd (F.PR_REGION_WPTR_PTR r)))
  | _ => false

/-- The kind of bus error that an access to the word of an address is, if it is one (R72); `req` and `n` are the whole request's address and
size. Of several, the first of this order is reported (DEDUCED, log 52). -/
def Dev.wordError (d : Dev) (p : Path) (a req n : Nat) (write : Bool) : Option Nat :=
  let l := locate a
  if d.absent a l then some Bus.UNIMPLEMENTED
  else if !d.reachable (l.base a) || d.loadingBars p (l.base a) then some Bus.DOMAIN_OFF
  else if !sizeOk l req n write then some Bus.SIZE
  else if !write then none
  else match l.word a with
    | none => if d.captureBars l then some Bus.PENDING else none
    | some (b, off, _, m) =>
      if m &&& accMask (· == .wp) (fieldsAt b off) ≠ 0 && (slowDomain b off).any d.postBusy then some Bus.POST_BUSY
      else if d.inPending b off m || d.captureBars l then some Bus.PENDING
      else none

/-- The addresses of the words of a request. -/
def requestWords (a n : Nat) : List Nat := (List.range (min 17 (max 1 ((a % 4 + n + 3) / 4)))).map (fun i => a / 4 * 4 + 4 * i)

/-- The first word of a request that is a bus error: its address and kind (R48). A request within one word is reported at its own
address. -/
def Dev.requestError (d : Dev) (p : Path) (a n : Nat) (write : Bool) : Option (Nat × Nat) :=
  (requestWords a n).findSome? (fun w => (d.wordError p w a n write).map (fun k => (if n ≤ 4 then a else w, k)))

/-! ### Reads and writes -/

/-- The bits of the word at `w` that a request reads. -/
def readBits (a n w : Nat) : Word :=
  if 4 ≤ n then 0xFFFFFFFF else fieldMask (8 * (a - w)) (8 * n)

/-- The words of a request are read in order. -/
def Dev.readAll (d : Dev) (env : Env) (p : Path) (a n : Nat) (ws : List Nat) : Dev × List Byte :=
  ws.foldl (fun (x : Dev × List Byte) w =>
    (x.1.readTouch p w (readBits a n w) (4 ≤ n), x.2 ++ wordBytes (x.1.readWord env p w))) (d, [])

/-- A read request: the bytes read, or none after a bus error (R48, R49). -/
def Dev.readRequest (d : Dev) (env : Env) (p : Path) (a n : Nat) : Dev × Option (List Byte) :=
  match d.requestError p a n false with
  | some (w, k) => (d.busError p w k false, none)
  | none =>
    let r := d.readAll env p a n (requestWords a n)
    (r.1, some ((r.2.drop (a % 4)).take n))

/-- An engine's instruction memory is in the configuration set (R68). -/
def Loc.code : Loc → Bool
  | .stwMem _ off => off < 0x40000
  | .sengMem _ off => off < 0x8000
  | _ => false

/-- A whole word is written where it leads (R9, R63, R67, R360). -/
def Dev.writeWord (d : Dev) (env : Env) (p : Path) (a : Nat) (v : Word) : Dev :=
  match locate a with
  | .reg b off => d.writeReg env p b off a 0xFFFFFFFF v
  | .patchActive _ => d.patchIgnored
  | .patchShadow i => d.shadowWrite i v
  | .stwMem s off => (d.memStore a (wordBytes v)).dirtyIf (Loc.stwMem s off).code
  | .sengMem e off => (d.memStore a (wordBytes v)).dirtyIf (Loc.sengMem e off).code
  | .bitOf x i => match locate x with
    | .reg b off => d.writeReg env p b off (x / 4 * 4) (fieldMask (x % 4 * 8 + i) 1)
        (if v.getLsbD 0 then 0xFFFFFFFF else 0)
    | _ => d
  | _ => d

/-- The words of a write in order. -/
def Dev.writeAll (d : Dev) (env : Env) (p : Path) (a : Nat) : List Word → Dev
  | [] => d
  | w :: ws => Dev.writeAll (d.writeWord env p a w) env p (a + 4) ws

/-- A write request (R48, R49); false after a bus error. -/
def Dev.writeRequest (d : Dev) (env : Env) (p : Path) (a : Nat) (bs : List Byte) : Dev × Bool :=
  match d.requestError p a bs.length true with
  | some (w, k) => (d.busError p w k true, false)
  | none =>
    if bs.length < 4 then ((d.memStore a bs).dirtyIf (locate a).code, true)
    else (d.writeAll env p a (wordsOf bs), true)

/-! ### Fragal's HOST records (R438, R441) -/

/-- The code of a path in a HOST record. -/
def pathCode : Path → Nat
  | .spi => 1
  | .window => 2
  | .jtag => 3
  | _ => 0

/-- The scoped unit that an address concerns: of a doorbell page, the first that its tenant owns. -/
def Dev.hostTarget (d : Dev) (a : Nat) : Option Nat :=
  if 0x400000 ≤ a && a < 0x600000 then
    d.frg.scope.find? (fun u => d.rd (F.UNIT_OWNER_OWNER u) == (a - 0x400000) / 0x1000)
  else (unitOfAddr a).filter (fun u => d.frg.scope.contains u)

/-- A write (0), command (1) or doorbell write (2) from outside the scope is recorded. -/
def Dev.hostRecord (d : Dev) (p : Path) (t kind a : Nat) (data : List Byte) (u : Option Nat) : Dev :=
  if d.rd F.FRG_STATUS_STATE ≠ Frg.RECORDING then d
  else match u with
    | none => d
    | some u =>
      let from_ := match p with
        | .window => 0x3F
        | .spi => Isl.MGT
        | .jtag => Isl.MGT
        | _ => Isl.HOST
      let cw := causeway from_ Isl.CORE 0
      (d.fragInput Rt.HOST 0 u cw (leBytes (pathCode p) 1 ++ leBytes t 2 ++ leBytes kind 1 ++ leBytes a 4 ++ data)).fragRelease u cw

/-- A write of a host path or of JTAG is recorded before it is carried out, if it is no bus error. -/
def Dev.recordWrite (d : Dev) (p : Path) (t a : Nat) (bs : List Byte) : Dev :=
  if (d.requestError p a bs.length true).isSome then d
  else d.hostRecord p t (if 0x400000 ≤ a && a < 0x600000 then 2 else 0) a bs (d.hostTarget a)

/-! ### The host paths (R75, R77, R78, R84) -/

/-- Where an address of a path leads: to the register map, to a function's MSI-X table, nowhere within a page or session (a bus error of
kind 0), or to a virtual function that is not there (Unsupported Request). -/
inductive Route where
  | map (a : Nat)
  | msix (fn off : Nat)
  | outside (a : Nat)
  | unsupported
deriving DecidableEq, Repr

/-- The first tenant and the count of a virtual function that is enabled with a good map (R78). -/
def Dev.vfMap (d : Dev) (v : Nat) : Option (Nat × Nat) :=
  if d.host.vfEnable then (d.host.vfMaps.find? (fun m => m.1 == v)).map (·.2) else none

/-- Where an address of a path leads. -/
def Dev.route (d : Dev) (p : Path) (a : Nat) : Route :=
  match p with
  | .spi =>
    let t := d.host.session
    if t = 0 || (0x400000 + t * 0x1000 ≤ a && a < 0x401000 + t * 0x1000) then .map a else .outside a
  | .vf v => match d.vfMap v.val with
    | none => .unsupported
    | some (first, n) =>
      let t := 0x400000 + (first + a / 0x1000) * 0x1000 + a % 0x1000
      if 0x20000 ≤ a then .unsupported else if a / 0x1000 < n then .map t else .outside t
  | .msix fn => if fn.val ≠ 0 && (d.vfMap fn.val).isNone then .unsupported else .msix fn.val a
  | _ => .map a

/-- The tenant as which a path acts at an address. -/
def Dev.pathTenant (d : Dev) (p : Path) (a : Nat) : Nat :=
  match p with
  | .spi => d.host.session
  | .vf _ => (a - 0x400000) / 0x1000
  | _ => 0

/-- The interface of a path is powered and out of reset (R379, R461). -/
def Dev.pathUp (d : Dev) : Path → Bool
  | .pcie => d.island 1 && !d.rst.perst
  | .vf _ => d.island 1 && !d.rst.perst
  | .msix _ => d.island 1 && !d.rst.perst
  | .spi => d.island 2
  | .jtag => d.island 2 && d.on F.SEC_STATUS_TAP_OPEN
  | .window => d.coreOn
  | .boot => d.rd F.MGT_BOOT_STATUS_STATE == 1

/-- A word of BAR2/3: the MSI-X table, or the pending bit array (R75). -/
def Dev.msixRead (d : Dev) (fn off : Nat) : Word :=
  let n := if fn = 0 then 1024 else 32
  let pba := if fn = 0 then 0x8000 else 0x2000
  if off < 16 * n then d.msixWord fn (off / 4)
  else if pba ≤ off && off < pba + n / 8 then
    BitVec.ofNat 32 ((List.range 32).foldl (fun a i => a + bit (d.host.pba.contains (fn, (off - pba) / 4 * 32 + i)) * 2 ^ i) 0)
  else 0

/-- A request ends in an error on its path (R49, R78). -/
def Dev.fails (d : Dev) (p : Path) : Dev := d.emit (.error p)

/-- A read of `n` bytes at an address of a path: what it returns, none for an error (R48, R49, R75). -/
def Dev.pathRead (d : Dev) (env : Env) (p : Path) (a n : Nat) : Dev × Option (List Byte) :=
  match d.route p a with
  | .map a => d.readRequest env p a n
  | .msix fn off => (d, some (((wordBytes (d.msixRead fn (off / 4 * 4))).drop (off % 4)).take n))
  | .outside a => (d.busError p a Bus.UNIMPLEMENTED false, none)
  | .unsupported => (d, none)

/-- A write of some bytes at an address of a path; false for an error. -/
def Dev.pathWrite (d : Dev) (env : Env) (p : Path) (a : Nat) (bs : List Byte) : Dev × Bool :=
  match d.route p a with
  | .map b => (d.recordWrite p (d.pathTenant p b) b bs).writeRequest env p b bs
  | .msix fn off => (d.writeMsix fn off (bytesWord bs), true)
  | .outside b => (d.busError p b Bus.UNIMPLEMENTED true, false)
  | .unsupported => (d, false)

/-- A read as a command: the completion leaves on the path. -/
def Dev.hostRead (d : Dev) (env : Env) (p : Path) (a n : Nat) : Dev :=
  if !d.pathUp p then d.fails p
  else match d.pathRead env p a n with
    | (d, some bs) => d.emit (.data p (wordsOf (bs ++ List.replicate (3 - (bs.length + 3) % 4) 0)))
    | (d, none) => d.fails p

/-- A write as a command. A dropped write has no completion (R49). -/
def Dev.hostWrite (d : Dev) (env : Env) (p : Path) (a : Nat) (bs : List Byte) : Dev :=
  if !d.pathUp p then d.fails p
  else match d.pathWrite env p a bs with
    | (d, true) => d
    | (d, false) => d.fails p

/-- The address on a path of an address of the register map: a virtual function sees its tenants' doorbell pages alone, and the rest
lies beyond its BAR0 (R75, R78). -/
def Dev.pathAddr (d : Dev) (p : Path) (x : Nat) : Nat :=
  match p with
  | .vf v => match d.vfMap v.val with
    | some (first, n) =>
      let lo := 0x400000 + first * 0x1000
      if lo ≤ x && x < lo + n * 0x1000 then x - lo else 0x20000
    | none => 0x20000
  | _ => x

/-- The path is one into the register map; BAR2/3 is not (R75). -/
def toMap : Path → Bool
  | .msix _ => false
  | _ => true

/-- A write of one word at an address of the register map, as a command. -/
def Dev.poke (d : Dev) (env : Env) (p : Path) (x : Nat) (v : Word) : Dev :=
  if toMap p then d.hostWrite env p (d.pathAddr p x) (wordBytes v) else d

/-- A read of one word at an address of the register map, as a command. -/
def Dev.peek (d : Dev) (env : Env) (p : Path) (x : Nat) : Dev :=
  if toMap p then d.hostRead env p (d.pathAddr p x) 4 else d

/-- A write of one word to a posted register, carried to its being taken by the slow domain (R59, log 53). -/
def Dev.pokeTaken (d : Dev) (env : Env) (p : Path) (a : Nat) (v : Word) (s : SlowDomain) : Dev :=
  let n := d.posted.length
  let d := d.poke env p a v
  if n < d.posted.length then d.takePosted s else d

/-! ### The management SPI (R80–R84) -/

/-- The status byte (R82): `err` tells a bus error of the frame's first word. -/
def Dev.spiStatus (d : Dev) (err : Bool) : Byte :=
  BitVec.ofNat 8 (bit (d.posted.any (fun w => w.path == .spi)) + bit (err || d.host.spiErr) * 2 + bit d.int0Low * 4 +
    bit d.int1Low * 8 + bit (d.host.session != 0) * 16)

/-- One data word of a read frame: all ones for a bus error (R49). -/
def Dev.spiWord (d : Dev) (env : Env) (a : Nat) : Dev × Word × Bool :=
  match d.pathRead env .spi a 4 with
  | (d, some bs) => (d, bytesWord bs, false)
  | (d, none) => (d, 0xFFFFFFFF, true)

/-- A read frame of `n` words: the status byte comes with the first word (R81, R82). -/
def Dev.spiRead (d : Dev) (env : Env) (a n : Nat) : Dev :=
  if !d.pathUp .spi then d
  else
    let first := d.spiWord env a
    let st := first.1.spiStatus first.2.2
    let r := (List.range (n - 1)).foldl (fun (x : Dev × List Word) i =>
      let w := x.1.spiWord env (a + 4 * (i + 1))
      (w.1, x.2 ++ [w.2.1])) (first.1, [first.2.1])
    r.1.emit (.spi st r.2)

/-- ERR is set (R82). -/
def Dev.spiFault (d : Dev) : Dev := { d with host := { d.host with spiErr := true } }

/-- The words of a write frame, each an access of its own. -/
def Dev.spiWrites (d : Dev) (env : Env) (a : Nat) : List Word → Dev
  | [] => d
  | w :: ws => Dev.spiWrites (d.pathWrite env .spi a (wordBytes w)).1 env (a + 4) ws

/-- A write frame of 1 to 16 words; one that ends inside a word, or has none or more than 16, sets ERR (R81, log 52). -/
def Dev.spiWrite (d : Dev) (env : Env) (a : Nat) (ws : List Word) (part : Bool) : Dev :=
  if !d.pathUp .spi then d
  else (d.spiWrites env a (ws.take 16)).when (part || ws.isEmpty || 16 < ws.length) Dev.spiFault

/-- TENANT (R81, R84). -/
def Dev.spiTenant (d : Dev) (v : BitVec 16) : Dev :=
  let t := v.toNat % 512
  if 512 ≤ v.toNat || (t ≠ 0 && !d.spiBound t) then d.spiFault else { d with host := { d.host with session := t } }

/-- STATUS: the status byte; the sticky part of ERR clears (R81). -/
def Dev.spiStatusCmd (d : Dev) : Dev :=
  { d.emit (.spi (d.spiStatus false) []) with host := { d.host with spiErr := false } }

end Sys2Proof.Machine
end

