-- ==== Sys2Proof/Machine/UnitInsn.lean ====
section
/-! DEFINITION. The unit instructions (R134–R137) and the register window of the stewards (R126, R150). -/
namespace Sys2Proof.Machine

/-! ### Unit space (R134, R135) -/

/-- The word that a tenant's unit-space offset selects: a refusal's reason, or 0 and the word's address in the map (R134, R135). A word of
another unit that lies within the block, and a word the block's chapter does not give, are beyond the unit's block (DEDUCED, log 55). -/
def Dev.unitAddr (d : Dev) (t u off : Nat) : Nat × Nat :=
  if (classOf u).isNone then (Rsn.RANGE, 0)
  else if t ≠ 0 && t ≠ d.rd (F.UNIT_OWNER_OWNER u) then (Rsn.NOT_OWNER, 0)
  else if off < 0x40 then (0, A.UNIT_ID u + off)
  else
    let a := (unitBlock u).1 + (off - 0x100)
    if off < 0x100 || (unitBlock u).1 = 0 || (unitBlock u).2 ≤ off - 0x100 || unitOfAddr a ≠ some u || locate a = .none then
      (Rsn.RANGE, 0)
    else if !d.reachable a then (Rsn.DOMAIN_OFF, 0)
    else (0, a)

/-- A field of the word at an address is posted to a slow domain that is busy (R60, R135). -/
def Dev.postWaits (d : Dev) (a : Nat) : Bool :=
  match locate a with
  | .reg b off => accMask (· == .wp) (fieldsAt b off) != 0 && (slowDomain b off).any d.postBusy
  | _ => false

/-- A write of tenant 0 contradicts a value that stands from its other path, which comes first (R113). -/
def Dev.yields (d : Dev) (p : Path) (b : Block) (off a : Nat) (v : Word) : Bool :=
  d.pathIsSpi p != d.on F.GLB_ARB_PRIO_SPI_FIRST &&
    (fieldsAt b off).any (fun f => f.acc == .ws && (d.contrary (d.pathIsSpi p) a (fieldMask f.lo f.width) (fieldMask f.lo f.width) v).isSome)

/-- The reason with which a link refuses a write of a MACsec word (R427). -/
def Dev.macsecReason (d : Dev) (b : Block) (off : Nat) (v : Word) : Nat :=
  match b with
  | .lnk _ =>
    if (off = 0x2C0 || 0x2000 ≤ off) && d.rd F.SEC_LOCK_LOCKS / 8 % 2 = 1 then Rsn.LOCKED
    else if 0x2000 ≤ off && off < 0x2200 && off % 0x20 = 8 && bits v 1 2 = 3 then Rsn.RANGE
    else 0
  | _ => 0

/-- A tenant writes a whole word of a unit: as tenant 0 does on its primary path; what another tenant writes takes no part in the arbitration
of tenant 0's paths (R44, R112, R134, R135). -/
def Dev.unitStore (d : Dev) (env : Env) (t : Nat) (b : Block) (off a : Nat) (v : Word) : Dev × Verdict :=
  if t = 0 then
    let r := if d.yields .window b off a v then Rsn.CONFLICT else d.macsecReason b off v
    (d.writeReg env .window b off a 0xFFFFFFFF v, (r, 0))
  else
    let d' := { d with stands := [] }.writeReg env .window b off a 0xFFFFFFFF v
    ({ d' with stands := d.stands }, (d.macsecReason b off v, 0))

/-- The way the orders of a tenant's unit instructions come (R112, R135). -/
def unitSrc (t : Fin 512) : OrderSrc := if t.val = 0 then .reg .window else .cmd t

/-- A tenant's write of a word of a unit, with its outcome: orders, GO of a commit and of a swap as that tenant's (R26, R44, R56, R134,
R366; a USET of `UNIT_CMD` gives its order, DEDUCED, log 55). -/
def Dev.unitWrite (d : Dev) (env : Env) (t : Fin 512) (u off a : Nat) (v : Word) : Dev × Verdict :=
  match locate a with
  | .reg b o =>
    if off < 0x40 then
      if t.val ≠ 0 && (off = 0x8 || off = 0xC || (off = 0x38 && isCabinet u)) then (d, (Rsn.NOT_OWNER, 0))
      else if off = 0x18 then (d.noteReserved b o a v).giveOrder (unitSrc t) u (bits v 0 4)
      else d.unitStore env t.val b o a v
    else if isCommit b o then
      let d := d.noteReserved b o a v
      if v.getLsbD 0 then d.commitGo t.val a else (d, (0, 0))
    else if b = .pr && 0x100 ≤ o && o < 0x900 && o % 0x20 = 8 then
      let d := d.noteReserved b o a v
      if v.getLsbD 0 then d.regionGo t.val ((o - 0x100) / 0x20) (v.getLsbD 1) else (d, (0, 0))
    else d.unitStore env t.val b o a v
  | _ => (d, (0, 0))

/-- The commit sets of one unit that hold a written field are committed, as by the block's GO (R56, R134). -/
def Dev.commitUnitSets (d : Dev) (t u : Nat) : Dev × Verdict :=
  let reg := (commitRegsOf u).headD 0
  let note (d : Dev) (r : Nat) : Dev :=
    if reg = 0 then d
    else
      let d := d.setReg reg (putBits (d.reg reg) 8 8 r)
      d.setReg reg (putBits (d.reg reg) 1 1 (bit (d.accepted.any (fun s => setOfReg reg s.1))))
  if d.accepted.any (fun s => s.1.1 == u) then (((note d Rsn.BUSY).refuse u Rsn.BUSY 0), (Rsn.BUSY, 0))
  else
    let r := (d.heldSets.filter (fun s => s.1 == u)).foldl (fun (x : Dev × Verdict) sid =>
      let y := x.1.commitSet d.held t sid
      (y.1, if x.2.1 = 0 then y.2 else x.2)) (d, (0, 0))
    (note r.1 r.2.1, r.2)

/-- A tenant writes a word of a unit by its offset in unit space, its checks first (R134, R135). -/
def Dev.unitSet (d : Dev) (env : Env) (t : Fin 512) (u off : Nat) (v : Word) (commit : Bool) : Dev × Verdict :=
  match d.unitAddr t.val u off with
  | (0, a) =>
    let r := d.unitWrite env t u off a v
    if commit && r.2.1 = 0 then r.1.commitUnitSets t.val u else r
  | (r, _) => (d, (r, 0))

/-! ### The instructions -/

/-- The tenant of a thread. -/
def Dev.ctxTenant (d : Dev) (x : Nat) : Fin 512 := Fin.ofNat 512 (d.ctx x).tenant

/-- The result word of an order (R134): TARGET after it. -/
def Dev.orderWord (d : Dev) (u : Nat) (v : Verdict) : Word :=
  BitVec.ofNat 32 (v.1 + d.rd (F.UNIT_CMD_TARGET u) * 2 ^ 8 + v.2 * 2 ^ 16)

/-- The result word of an access or a wait (R134): TARGET reads 0b11. -/
def accessWord (v : Verdict) : Word := BitVec.ofNat 32 (v.1 + 3 * 2 ^ 8 + v.2 * 2 ^ 16)

/-- What a write of an unit instruction by a steward outside the scope means to Fragal (R438). -/
def Dev.recordUnit (d : Dev) (x t kind u a : Nat) (data : List Byte) : Dev :=
  if d.frg.scope.contains (ctxUnit x) || !d.frg.scope.contains u then d else d.hostRecord .window t kind a data (some u)

/-- A unit instruction whose access is done, or refused: the thread waits for UNIT_OP_DONE with what it will be given. -/
def Dev.unitEnds (d : Dev) (x : Nat) (gd : Option (Nat × Word)) (r : Word) : Dev :=
  d.updCtx x (fun c => { c with wait := .unitDone gd r })

/-- The write of a USET is made, now that its block takes it. -/
def Dev.usetNow (d : Dev) (env : Env) (x u off : Nat) (v : Word) (commit : Bool) : Dev :=
  let t := d.ctxTenant x
  let d := d.recordUnit x t.val 0 u (d.unitAddr t.val u off).2 (wordBytes v)
  let r := d.unitSet env t u off v commit
  r.1.unitEnds x none (accessWord r.2)

/-- UGET gd, ga, #off (R134, R135). -/
def execUget (x : Fin 96) (dd a : Fin 32) (imm : BitVec 16) (s : State) : Host.Outcome State Fault Refusal :=
  run (fun env d => d.insn x.val (iWord 0x30 dd.val a.val imm.toNat) [a.val] (fun _ => !isSignal x.val && !imm.getLsbD 15)
    (fun c d =>
      let off := imm.toNat % 2 ^ 15
      if off % 4 ≠ 0 then d.takeException x.val Exc.ALIGN c.pc (BitVec.ofNat 32 off) none
      else
        let d := d.setCtx x.val (c.spend [a.val] 1 [])
        match d.unitAddr c.tenant (c.gr a.val).toNat off with
        | (0, ad) => (d.readTouch .window ad 0xFFFFFFFF true).unitEnds x.val (some (dd.val, d.readWord env .window ad)) (accessWord (0, 0))
        | (r, _) => d.unitEnds x.val (some (dd.val, 0)) (accessWord (r, 0)))) s

/-- USET gs, ga, #off[, C] (R134, R135). -/
def execUset (x : Fin 96) (dd a : Fin 32) (imm : BitVec 16) (s : State) : Host.Outcome State Fault Refusal :=
  run (fun env d => d.insn x.val (iWord 0x31 dd.val a.val imm.toNat) [a.val, dd.val] (fun _ => !isSignal x.val)
    (fun c d =>
      let off := imm.toNat % 2 ^ 15
      let u := (c.gr a.val).toNat
      if off % 4 ≠ 0 then d.takeException x.val Exc.ALIGN c.pc (BitVec.ofNat 32 off) none
      else
        let d := d.setCtx x.val (c.spend [a.val, dd.val] 1 [])
        let w := d.unitAddr c.tenant u off
        if w.1 = 0 && d.postWaits w.2 then d.updCtx x.val (fun c => { c with wait := .uset u off (c.gr dd.val) (imm.getLsbD 15) })
        else d.usetNow env x.val u off (c.gr dd.val) (imm.getLsbD 15))) s

/-- UCMD gd, ga, #order[, W] (R26, R136). -/
def execUcmd (x : Fin 96) (dd a : Fin 32) (imm : BitVec 16) (s : State) : Host.Outcome State Fault Refusal :=
  run (fun _ d => d.insn x.val (iWord 0x32 dd.val a.val imm.toNat) [a.val]
    (fun _ => !isSignal x.val && imm.toNat < 0x20)
    (fun c d =>
      let u := (c.gr a.val).toNat
      let order := imm.toNat % 16
      let d := d.setCtx x.val (c.spend [a.val] 1 [])
      let fin (d : Dev) (r : Word) : Dev := d.unitEnds x.val (some (dd.val, r)) r
      if (classOf u).isNone then fin d (accessWord (Rsn.RANGE, 0))
      else
        let t := d.ctxTenant x.val
        let d := d.recordUnit x.val t.val 1 u 0 (wordBytes (BitVec.ofNat 32 order))
        let r := d.giveOrder (unitSrc t) u order
        let d := r.1
        if r.2.1 ≠ 0 || !imm.getLsbD 4 || order = 0 ||
            (!d.on (F.UNIT_CMD_BUSY u) && !d.walking u && d.ustate u == targetState (d.rd (F.UNIT_CMD_TARGET u))) then
          fin d (d.orderWord u r.2)
        else
          ({ d with waits := d.waits ++ [{ unit := u, target := d.rd (F.UNIT_CMD_TARGET u), who := .ctx x.val }] } : Dev).updCtx x.val
            (fun c => { c with wait := .order dd.val u }))) s

/-- UWAIT gd, ga, #state, #ms (R136). -/
def execUwait (x : Fin 96) (dd a : Fin 32) (imm : BitVec 16) (s : State) : Host.Outcome State Fault Refusal :=
  run (fun _ d => d.insn x.val (iWord 0x33 dd.val a.val imm.toNat) [a.val] (fun _ => !isSignal x.val && !imm.getLsbD 3)
    (fun c d =>
      let u := (c.gr a.val).toNat
      let st := imm.toNat % 8
      let d := d.setCtx x.val (c.spend [a.val] 1 [])
      let no (d : Dev) (r : Nat) : Dev := d.unitEnds x.val (some (dd.val, accessWord (r, 0))) (accessWord (r, 0))
      if (classOf u).isNone then no d Rsn.RANGE
      else if c.tenant ≠ 0 && c.tenant ≠ d.rd (F.UNIT_OWNER_OWNER u) then no d Rsn.NOT_OWNER
      else if 6 ≤ st then no d Rsn.RANGE
      else if d.ustate u = st || d.ustate u = 5 then
        d.unitEnds x.val (some (dd.val, d.reg (A.UNIT_STATE u) &&& 0x0FFFFFFF)) (accessWord (0, 0))
      else d.updCtx x.val (fun c => { c with wait := .state dd.val u st (imm.toNat / 16) }))) s

/-- A unit instruction completes: gd and `URESULT` are written and the thread resumes; a refusal is trapped under UREF (R137). -/
def Dev.unitResume (d : Dev) (x : Nat) (gd : Option (Nat × Word)) (r : Word) : Dev :=
  let c := d.ctx x
  let c := { (match gd with | some (n, w) => c.setG n w | none => c) with uresult := r, wait := .none }
  if bits r 0 8 ≠ 0 && c.excUref then
    (d.setCtx x c).takeException x Exc.UNIT_REFUSED (c.pc + 4) r (some (bits r 0 8, bits r 16 12))
  else d.setCtx x c.advance

/-- UNIT_OP_DONE: the access or order of a waiting thread has ended and the thread resumes; a USET that waits for its block is made once
the block takes it (R135–R137). -/
def execUnitOpDone (x : Fin 96) (s : State) : Host.Outcome State Fault Refusal :=
  run (fun env d =>
    let x := x.val
    let fin (d : Dev) : Dev := match (d.ctx x).wait with
      | .unitDone gd r => d.unitResume x gd r
      | _ => d
    match (d.ctx x).wait with
    | .uset u off v commit =>
      if d.postWaits (d.unitAddr (d.ctx x).tenant u off).2 then d else fin (d.usetNow env x u off v commit)
    | _ => fin d) s

/-- UWAIT_TIMEOUT: the timeout of a UWAIT expires; no refusal (R136, R137). -/
def execUwaitTimeout (x : Fin 96) (s : State) : Host.Outcome State Fault Refusal :=
  lift (fun d =>
    match (d.ctx x.val).wait with
    | .state gd u _ ms =>
      if ms = 0 then d
      else d.unitResume x.val (some (gd, (d.reg (A.UNIT_STATE u) &&& 0x0FFFFFFF) ||| 0x80000000)) 0x80000300
    | _ => d) s

/-! ### The register window (R126, R150) -/

/-- A load or store through the window completes (R48, R49, R126): a bus error raises BUSERR, a faulting load leaves gd unchanged; a store
to a posted word waits while its slow domain is busy. -/
def Dev.windowDone (d : Dev) (env : Env) (x : Nat) : Dev :=
  let fault (d : Dev) (a : Nat) : Dev :=
    (d.updCtx x (fun c => { c with wait := .none })).takeException x Exc.BUSERR (d.ctx x).pc (BitVec.ofNat 32 (0x80000000 + a)) none
  match (d.ctx x).wait with
  | .load gd a n signed =>
    match d.readRequest env .window a n with
    | (d, some bs) => d.updCtx x (fun c => { c.setG gd (loadValue bs signed) with wait := .none }.advance)
    | (d, none) => fault d a
  | .store a bs =>
    if d.postWaits a then d
    else
      let d := if d.frg.scope.contains (ctxUnit x) then d else d.recordWrite .window 0 a bs
      match d.writeRequest env .window a bs with
      | (d, true) => d.updCtx x (fun c => match c.wait with
          | .store _ _ => { c with wait := .none }.advance
          | _ => c)
      | (d, false) => fault d a
  | _ => d

/-- REGISTER_WINDOW_DONE (R126). -/
def execRegisterWindowDone (x : Fin 96) (s : State) : Host.Outcome State Fault Refusal :=
  run (fun env d => d.windowDone env x.val) s

/-! ### Writes that come directly or by USET -/

/-- A write by tenant 0 at an address of the map, or a write of a tenant at an offset in a unit's space, which acts in CORE. -/
def Dev.eitherWrite (d : Dev) (env : Env) (src : OrderSrc) (u off a : Nat) (v : Word) : Dev :=
  match src with
  | .reg p => d.poke env p a v
  | .cmd t => if d.coreOn then (d.unitSet env t u off v false).1 else d

/-- UNIT_EVT_WRITE (R44, R61, R134). -/
def execUnitEvtWrite (src : OrderSrc) (u : BitVec 12) (v : Word) (s : State) : Host.Outcome State Fault Refusal :=
  runAon (fun env d => d.eitherWrite env src u.toNat 0x10 (A.UNIT_EVT u.toNat) v) s

/-- REGION_SWAP: a write of a region's SWAP with GO (R366). -/
def execRegionSwap (src : OrderSrc) (r : Fin 64) (v : Word) (s : State) : Host.Outcome State Fault Refusal :=
  runAon (fun env d => d.eitherWrite env src (0xC00 + r.val) 0x108 (A.PR_REGION_SWAP r.val) (v ||| 1)) s

/-- REGION_WDATA_WRITE (R364). -/
def execRegionWdataWrite (src : OrderSrc) (r : Fin 64) (v : Word) (s : State) : Host.Outcome State Fault Refusal :=
  runAon (fun env d => d.eitherWrite env src (0xC00 + r.val) 0x114 (A.PR_REGION_WDATA r.val) v) s

end Sys2Proof.Machine
end

