-- ==== Sys2Proof/Machine/Boot.lean ====
section
/-! DEFINITION. Booting from an image (R428–R431, R466–R471): its checks, its load table, its end. -/
namespace Sys2Proof.Machine

/-- Octets of peat from an offset on, a multiple of eight. -/
def Dev.peatBytes (d : Dev) (a n : Nat) : List Byte :=
  ((List.range ((n + 7) / 8)).flatMap (fun i => leBytes (d.peatWord (a / 8 + i)).toNat 8)).take n

/-- The little-endian number in some octets of an image. -/
def imageField (o : List Byte) (at_ n : Nat) : Nat := leNat ((o.drop at_).take n)

/-- LENGTH of an image's header (R428). -/
def imageLength (o : List Byte) : Nat := imageField o 8 4

/-- The format of an image (R428, R429, R468): magic, format, the octets that must be zero, the flash mode, and a length that its source
holds (DEDUCED, log 57). -/
def imageFormat (o : List Byte) (limit : Nat) : Bool :=
  imageField o 0 4 == 0x5A574249 && imageField o 4 4 == 1 && imageField o 14 2 == 0 && imageField o 24 1 < 3 &&
    imageField o 25 7 == 0 && imageField o 96 32 == 0 && imageField o 192 64 == 0 && imageLength o ≤ limit

/-- The check of an image that fails (R429–R431): 1 format, 2 key hash, 3 signature, 4 SVN; 0 for an image that is accepted. While the
fuses read zero the key and the signature are not checked. -/
def Dev.imageCheck (d : Dev) (fuses : Fuses) (o body : List Byte) (limit : Nat) : Nat :=
  let key := (o.drop 32).take 64
  let unsigned := fuses.hash.all (· == 0)
  if !imageFormat o limit then 1
  else if !unsigned && (List.range 8).map (Config.sha256 key) ≠ fuses.hash then 2
  else if !unsigned && !Config.ecdsaOk key (o.take 128 ++ body) ((o.drop 128).take 64) then 3
  else if imageField o 12 2 < d.rd F.SEC_MIN_SVN_MIN then 4
  else 0

/-- Boot fails (R431, R471): `check` and the image offset of the failing entry. -/
def Dev.bootFails (d : Dev) (check off : Nat) : Dev :=
  let d := d.raise 0 0x0E 0xB 0 (BitVec.ofNat 32 check) (BitVec.ofNat 32 off)
  let d := ((d.wr F.MGT_BOOT_STATUS_STATE 4).wr F.MGT_BOOT_STATUS_FALLBACK 1).bootEnds
  { d with boot := { since := d.boot.since } }

/-- The most body octets that the source of an image holds (R468): the boot profile, or flash. -/
def Dev.imageLimit (d : Dev) : Nat := if d.rst.boot = 3 then 0x20000 - 512 else 0x1000000

/-- The image that a boot reads: from the boot profile (R467, R468), or as the boot flash gave it. -/
def Dev.bootImage (d : Dev) (image : List Byte) : List Byte :=
  if d.rst.boot = 3 then
    let o := d.peatBytes (Peat.BOOT + 256) 256
    o ++ d.peatBytes (Peat.BOOT + 512) (min (imageLength o) d.imageLimit)
  else image

/-- `n` octets of a list, with zeros behind its end. -/
def octets (n : Nat) (o : List Byte) : List Byte := o.take n ++ List.replicate (n - o.length) 0

/-- The image has been read whole and is checked before any entry executes (R470). -/
def Dev.imageRead (d : Dev) (fuses : Fuses) (image : List Byte) : Dev :=
  if d.rd F.MGT_BOOT_STATUS_STATE ≠ 1 || d.boot.running then d
  else
    let o := octets 256 (d.bootImage image)
    let body := octets (min (imageLength o) d.imageLimit) ((d.bootImage image).drop 256)
    match d.imageCheck fuses o body d.imageLimit with
    | 0 =>
      { d.wr F.SEC_STATUS_BOOT_OK 1 with boot := { d.boot with
          body, table := imageField o 16 4, resume := BitVec.ofNat 32 (imageField o 20 4), running := true } }
    | check => d.bootFails check 0

/-- BOOT_IMAGE_READ_DONE: the image has been read from flash, as `image`, or from peat (R468, R470). -/
def execBootImageReadDone (image : List Byte) (s : State) : Host.Outcome State Fault Refusal :=
  runAon (fun env d => d.imageRead env.fuses image) s

/-! ### The load table (R469) -/

/-- The four words of the entry that is next; none beyond the body. -/
def Dev.tableEntry (d : Dev) : Option (List Word) :=
  let at_ := d.boot.table + 16 * d.rd F.MGT_BOOT_STATUS_ENTRIES
  if at_ + 16 ≤ d.boot.body.length then some (wordsOf ((d.boot.body.drop at_).take 16)) else none

/-- The image offset of the entry that is next (DEDUCED, log 57). -/
def Dev.entryOffset (d : Dev) : Nat := 256 + d.boot.table + 16 * d.rd F.MGT_BOOT_STATUS_ENTRIES

/-- A load table entry fails (R469, R471). -/
def Dev.entryFails (d : Dev) : Dev := d.bootFails 1 d.entryOffset

/-- An entry has executed; one that is not END among the first 4,096 has another behind it (R469). -/
def Dev.entryDone (d : Dev) : Dev :=
  let n := d.rd F.MGT_BOOT_STATUS_ENTRIES + 1
  if 4096 ≤ n then d.entryFails else d.wr F.MGT_BOOT_STATUS_ENTRIES n

/-- Octets are written upwards from an address, a word at a time; false at a bus error. -/
def Dev.loadWords (d : Dev) (env : Env) (a : Nat) : List Byte → Nat → Dev × Bool
  | _, 0 => (d, true)
  | bs, n + 1 =>
    if bs.isEmpty then (d, true)
    else match d.writeRequest env .boot a (bs.take 4) with
      | (d, true) => Dev.loadWords d env (a + 4) (bs.drop 4) n
      | r => r

/-- An entry's writes, then the next entry, or the failure of the boot. -/
def Dev.loadBytes (d : Dev) (env : Env) (a : Nat) (bs : List Byte) : Dev :=
  match d.loadWords env a bs (bs.length / 4 + 1) with
  | (d, true) => d.entryDone
  | (d, false) => d.entryFails

/-- The load table entry that is next completes (R469): a write of a posted word waits for its block, a POLL for its value until
`expired`. END is completed by BOOT_COMPLETE. -/
def Dev.tableStep (d : Dev) (env : Env) (expired : Bool) : Dev :=
  if d.rd F.MGT_BOOT_STATUS_STATE ≠ 1 || !d.boot.running then d
  else match d.tableEntry with
    | none => d.entryFails
    | some ws =>
      let addr := (ws.getD 1 0).toNat
      let arg := ws.getD 2 0
      let src := ws.getD 3 0
      match bits (ws.getD 0 0) 0 8 with
      | 0 => d
      | 1 =>
        if arg.toNat % 4 ≠ 0 || d.boot.body.length < src.toNat + arg.toNat then d.entryFails
        else d.loadBytes env addr ((d.boot.body.drop src.toNat).take arg.toNat)
      | 2 => d.loadBytes env addr (List.replicate arg.toNat 0)
      | 3 => if d.postWaits addr then d else d.loadBytes env addr (wordBytes arg)
      | 4 => match d.readRequest env .boot addr 4 with
        | (d, none) => d.entryFails
        | (d, some bs) => if bytesWord bs &&& src = arg then d.entryDone else if expired then d.entryFails else d
      | 5 => if 1000000 < arg.toNat then d.entryFails else d.entryDone
      | _ => d.entryFails

/-- LOAD_TABLE_ENTRY: an entry completes; `expired` tells that 100 ms of a POLL have passed (R469). -/
def execLoadTableEntry (expired : Bool) (s : State) : Host.Outcome State Fault Refusal :=
  runAon (fun env d => d.tableStep env expired) s

/-- The end of the table: RESUME, ENABLE of steward 0, RUNNING (R470), or the failure of the ENABLE (R471). -/
def Dev.bootDone (d : Dev) : Dev :=
  if d.rd F.MGT_BOOT_STATUS_STATE ≠ 1 || !d.boot.running || d.tableEntry.all (fun ws => bits (ws.getD 0 0) 0 8 != 0) then d
  else
    let off := d.entryOffset
    let d := d.wr F.MGT_BOOT_STATUS_ENTRIES (d.rd F.MGT_BOOT_STATUS_ENTRIES + 1)
    let d := (d.wr (F.STW_RESUME_VEC 0) (d.boot.resume.toNat / 4)).dirty
    let r := d.giveOrder (.reg .boot) 0x0F0 Ord.ENABLE
    if r.2.1 ≠ 0 then r.1.bootFails 1 off
    else
      let d := (r.1.wr F.MGT_BOOT_STATUS_STATE 2).bootEnds
      { d with boot := { since := d.boot.since } }

/-- BOOT_COMPLETE (R470). -/
def execBootComplete (s : State) : Host.Outcome State Fault Refusal :=
  lift (fun d => d.bootDone) s

end Sys2Proof.Machine
end

