-- ==== Sys2Proof/Machine/HostRows.lean ====
section
/-! DEFINITION. The commands of the host paths, tenants and queues (R75–R111). -/
namespace Sys2Proof.Machine

/-! ### PCI Express (R78, R79) -/

/-- A command of the PCIe link acts while its island is powered and out of reset. -/
def Dev.onPcie (d : Dev) (f : Dev → Dev) : Dev := if d.pathUp .pcie then f d else d

/-- FUNCTION_LEVEL_RESET (R79). -/
def execFunctionLevelReset (fn : Fin 64) (s : State) : Host.Outcome State Fault Refusal :=
  liftAon (fun d => d.onPcie (fun d => d.flr fn.val)) s

/-- VF_ENABLE: VF Enable is set with NumVFs `n`, at most 63 (R78). -/
def execVfEnable (n : Fin 64) (s : State) : Host.Outcome State Fault Refusal :=
  liftAon (fun d => d.onPcie (fun d => d.vfEnable n.val)) s

/-- D3HOT_ENTRY (R79). -/
def execD3hotEntry (fn : Fin 64) (s : State) : Host.Outcome State Fault Refusal :=
  liftAon (fun d => d.onPcie (fun d => d.enterD3hot fn.val)) s

/-! ### The management SPI (R80–R84) -/

/-- READ: a frame that reads `n` + 1 words (R81). -/
def execRead (addr : BitVec 32) (n : Fin 16) (s : State) : Host.Outcome State Fault Refusal :=
  runAon (fun env d => d.spiRead env addr.toNat (n.val + 1)) s

/-- QREAD: as READ, on four lines (R81). -/
def execQread (addr : BitVec 32) (n : Fin 16) (s : State) : Host.Outcome State Fault Refusal :=
  runAon (fun env d => d.spiRead env addr.toNat (n.val + 1)) s

/-- WRITE: a frame that writes words; `part` tells that it ends inside a further word (R81). -/
def execWrite (addr : BitVec 32) (ws : List Word) (part : Bool) (s : State) : Host.Outcome State Fault Refusal :=
  runAon (fun env d => d.spiWrite env addr.toNat ws part) s

/-- QWRITE: as WRITE, on four lines (R81). -/
def execQwrite (addr : BitVec 32) (ws : List Word) (part : Bool) (s : State) : Host.Outcome State Fault Refusal :=
  runAon (fun env d => d.spiWrite env addr.toNat ws part) s

/-- STATUS (R82). -/
def execStatus (s : State) : Host.Outcome State Fault Refusal :=
  liftAon (fun d => if d.pathUp .spi then d.spiStatusCmd else d) s

/-- TENANT (R84). -/
def execTenant (v : BitVec 16) (s : State) : Host.Outcome State Fault Refusal :=
  liftAon (fun d => if d.pathUp .spi then d.spiTenant v else d) s

/-- A command byte that the table of R81 gives. -/
def spiKnown (c : Byte) : Bool := [0x03, 0xEB, 0x02, 0x32, 0x05, 0x71].contains c.toNat

/-- SPI_UNKNOWN_COMMAND: a frame with a command byte that the table does not give; one that it does give is that command's row (R81). -/
def execSpiUnknownCommand (c : Byte) (s : State) : Host.Outcome State Fault Refusal :=
  liftAon (fun d => if d.pathUp .spi && !spiKnown c then d.spiFault else d) s

/-! ### Tenants (R86, R87) -/

/-- HOST_BIND_WRITE (R86). -/
def execHostBindWrite (p : Path) (w : Fin 16) (v : Word) (s : State) : Host.Outcome State Fault Refusal :=
  runAon (fun env d => d.poke env p (A.HOST_BIND w.val) v) s

/-- HOST_T0_PATH_WRITE (R87). -/
def execHostT0PathWrite (p : Path) (v : Word) (s : State) : Host.Outcome State Fault Refusal :=
  runAon (fun env d => d.poke env p A.HOST_T0_PATH v) s

/-! ### Queues (R89–R98) -/

/-- The address of a word of a tenant's doorbell page. -/
def pageAddr (t off : Nat) : Nat := 0x400000 + t * 0x1000 + off

/-- QUEUE_ENABLE: a write of a queue's CFG with EN set: SQ 0, CQ 1, EQ 2 (R96). -/
def execQueueEnable (p : Path) (t : Fin 512) (q : Fin 3) (v : Word) (s : State) : Host.Outcome State Fault Refusal :=
  runAon (fun env d => d.poke env p (pageAddr t.val (0x18 + q.val * 0x10)) (v ||| 0x80000000)) s

/-- QUEUE_DISABLE: a write of a queue's CFG with EN clear (R96). -/
def execQueueDisable (p : Path) (t : Fin 512) (q : Fin 3) (v : Word) (s : State) : Host.Outcome State Fault Refusal :=
  runAon (fun env d => d.poke env p (pageAddr t.val (0x18 + q.val * 0x10)) (v &&& 0x7FFFFFFF)) s

/-- SQ_TAIL_WRITE (R90). -/
def execSqTailWrite (p : Path) (t : Fin 512) (v : Word) (s : State) : Host.Outcome State Fault Refusal :=
  runAon (fun env d => d.poke env p (pageAddr t.val 0x40) v) s

/-- CQ_HEAD_WRITE (R91). -/
def execCqHeadWrite (p : Path) (t : Fin 512) (v : Word) (s : State) : Host.Outcome State Fault Refusal :=
  runAon (fun env d => d.poke env p (pageAddr t.val 0x44) v) s

/-- EQ_HEAD_WRITE (R97). -/
def execEqHeadWrite (p : Path) (t : Fin 512) (v : Word) (s : State) : Host.Outcome State Fault Refusal :=
  runAon (fun env d => d.poke env p (pageAddr t.val 0x48) v) s

/-- SQ_PORT_POST: the write of word 0x0BC, after the words 0x080 to 0x0B8 (R94). -/
def execSqPortPost (p : Path) (t : Fin 512) (v : Word) (s : State) : Host.Outcome State Fault Refusal :=
  runAon (fun env d => d.poke env p (pageAddr t.val 0xBC) v) s

/-- CQ_PORT_CONSUME: the eight words of a completion are read, the last at 0x0DC (R95). -/
def execCqPortConsume (p : Path) (t : Fin 512) (s : State) : Host.Outcome State Fault Refusal :=
  runAon (fun env d => d.each (List.range 8) (fun d i => d.peek env p (pageAddr t.val (0xC0 + 4 * i)))) s

/-- EQ_PORT_CONSUME: the four words of an event are read, the last at 0x0EC (R95). -/
def execEqPortConsume (p : Path) (t : Fin 512) (s : State) : Host.Outcome State Fault Refusal :=
  runAon (fun env d => d.each (List.range 4) (fun d i => d.peek env p (pageAddr t.val (0xE0 + 4 * i)))) s

/-- USER_DB_WRITE (R140). -/
def execUserDbWrite (p : Path) (t : Fin 512) (v : Word) (s : State) : Host.Outcome State Fault Refusal :=
  runAon (fun env d => d.poke env p (pageAddr t.val 0xF0) v) s

/-- HCH_PTR_WRITE (R109). -/
def execHchPtrWrite (p : Path) (t : Fin 512) (r : Fin 128) (v : Word) (s : State) : Host.Outcome State Fault Refusal :=
  runAon (fun env d => d.poke env p (pageAddr t.val (0x400 + 4 * r.val)) v) s

/-- COMPLETION_POST_DEFERRED (R97). -/
def execCompletionPostDeferred (t : Fin 512) (s : State) : Host.Outcome State Fault Refusal :=
  liftAon (fun d => d.postHeld t.val) s

/-! ### Commands (R99–R103) -/

/-- The sixteen words of a command. -/
def sixteen (ws : List Word) : List Word := (ws ++ List.replicate 16 0).take 16

/-- The scoped unit that a command acts on: a UNITOP's target, or the steward of a RUN or an INLINE (R438). -/
def Dev.cmdTarget (d : Dev) (ws : List Word) : Option Nat :=
  let u := match cOpcode ws with
    | 1 => some (0x0F0 + cSteward ws)
    | 2 => some (0x0F0 + cSteward ws)
    | 3 => some (bits (ws.getD 2 0) 0 12)
    | _ => none
  u.filter (fun u => d.frg.scope.contains u)

/-- The device fetches and starts the next command of a tenant's queue, of the opcode `op` where one is given (R100). A command that
acts on a scoped unit enters through Fragal (R438). -/
def Dev.fetchRow (d : Dev) (op : Option Nat) (t : Fin 512) (ws : List Word) : Dev :=
  let ws := sixteen ws
  let cmd := d.nextCmd t.val ws
  if !d.mayFetch t.val ws || op.any (· != cOpcode cmd) then d
  else
    let p : Path := if d.spiBound t.val then .spi else .pcie
    (d.hostRecord p t.val 1 0 (cmd.flatMap wordBytes) (d.cmdTarget cmd)).fetchCmd t ws

/-- COMMAND_FETCH: for a PCIe-bound tenant the DMA read gave the words `ws` (R94, R100). -/
def execCommandFetch (t : Fin 512) (ws : List Word) (s : State) : Host.Outcome State Fault Refusal :=
  lift (fun d => d.fetchRow none t ws) s

/-- RUN (R102). -/
def execRun (t : Fin 512) (ws : List Word) (s : State) : Host.Outcome State Fault Refusal :=
  lift (fun d => d.fetchRow (some 1) t ws) s

/-- INLINE (R101). -/
def execInline (t : Fin 512) (ws : List Word) (s : State) : Host.Outcome State Fault Refusal :=
  lift (fun d => d.fetchRow (some 2) t ws) s

/-- UNITOP (R103). -/
def execUnitop (t : Fin 512) (ws : List Word) (s : State) : Host.Outcome State Fault Refusal :=
  lift (fun d => d.fetchRow (some 3) t ws) s

/-- FENCE, a command (R100). -/
def execCmdFence (t : Fin 512) (ws : List Word) (s : State) : Host.Outcome State Fault Refusal :=
  lift (fun d => d.fetchRow (some 4) t ws) s

end Sys2Proof.Machine
end

