-- ==== Sys2Proof/Machine/MapRows.lean ====
section
/-! DEFINITION. The commands of the register interface (R9–R12, R49–R73): accesses, boundaries, commits, posted writes, snapshots and the
configuration check. -/
namespace Sys2Proof.Machine

/-- A word with one bit set: the GO of a command register. -/
def withGo (v : Word) : Word := v ||| 1

/-- REGISTER_WRITE: a write on a path, of some bytes at an address of that path (R9, R48–R50). -/
def execRegisterWrite (p : Path) (addr : BitVec 32) (bytes : List Byte) (s : State) : Host.Outcome State Fault Refusal :=
  runAon (fun env d => d.hostWrite env p addr.toNat bytes) s

/-- READ_CLEAR: a read on a path, of `size` bytes at an address of that path (R48, R61, R62). -/
def execReadClear (p : Path) (addr : BitVec 32) (size : Nat) (s : State) : Host.Outcome State Fault Refusal :=
  runAon (fun env d => d.hostRead env p addr.toNat size) s

/-- BIT_ALIAS_ACCESS: a read (`none`) or a write of bit `b` of byte `x` of the map through the bit alias (R63). -/
def execBitAliasAccess (p : Path) (x : BitVec 20) (b : Fin 8) (w : Option Word) (s : State) : Host.Outcome State Fault Refusal :=
  runAon (fun env d =>
    let a := 0x2000000 + x.toNat * 32 + b.val * 4
    match w with
    | some v => d.poke env p a v
    | none => d.peek env p a) s

/-! ### The boundary (R51, R52, R56) -/

/-- A value that has applied to a synthesizer's source sends it back to SYNCING (R313). -/
def Dev.sourceMoved (d old : Dev) (u : Nat) : Dev :=
  match unitKind u with
  | .mclk m => if (d.mclk m).source != (old.mclk m).source then d.inputLost u else d
  | _ => d

/-- The staged values of a unit that are in no commit set apply at its boundary (R52), and the interval of its boundary closes (R112). -/
def Dev.stagedBoundary (d : Dev) (u : Nat) : Dev :=
  if d.boundaryComes u then ((d.applyStaged u).closeInterval u).sourceMoved d u else d

/-- An accepted set of a unit applies whole at its boundary (R56). -/
def Dev.commitBoundary (d : Dev) (sid : SetId) : Dev :=
  if d.accepted.any (fun a => a.1 == sid) && !waitsForInstant sid && d.boundaryComes sid.1 then
    ((d.applySet sid).closeInterval sid.1).sourceMoved d sid.1
  else d

/-- STAGED_WRITE_APPLY (R52). -/
def execStagedWriteApply (u : BitVec 12) (s : State) : Host.Outcome State Fault Refusal :=
  lift (fun d => d.stagedBoundary u.toNat) s

/-- COMMIT_APPLY (R56). -/
def execCommitApply (u : BitVec 12) (set : Fin 128) (s : State) : Host.Outcome State Fault Refusal :=
  lift (fun d => d.commitBoundary (u.toNat, set.val)) s

/-- A register of the map is a commit register (R54). -/
def commitAt (a : Nat) : Bool :=
  match locate a with
  | .reg b off => isCommit b off
  | _ => false

/-- COMMIT_GO: a write of GO to the commit register of a block (R54, R56, R57). -/
def execCommitGo (p : Path) (reg : BitVec 32) (v : Word) (s : State) : Host.Outcome State Fault Refusal :=
  runAon (fun env d => if commitAt reg.toNat then d.poke env p reg.toNat (withGo v) else d) s

/-- GLB_COMMIT (R58). -/
def execGlbCommit (p : Path) (v : Word) (s : State) : Host.Outcome State Fault Refusal :=
  runAon (fun env d => d.poke env p A.GLB_COMMIT (withGo v)) s

/-- POSTED_WRITE_COMPLETE: a slow domain takes its posted writes (R59). -/
def execPostedWriteComplete (dom : SlowDomain) (s : State) : Host.Outcome State Fault Refusal :=
  liftAon (fun d => d.takePosted dom) s

/-! ### Snapshots (R64, R65) -/

/-- GLB_SNAP_GO (R64). -/
def execGlbSnapGo (p : Path) (v : Word) (s : State) : Host.Outcome State Fault Refusal :=
  runAon (fun env d => d.poke env p A.GLB_SNAP (withGo v)) s

/-- SNAPSHOT_COMPLETE (R64, R65). -/
def execSnapshotComplete (s : State) : Host.Outcome State Fault Refusal :=
  liftAon (fun d => d.snapComplete) s

/-! ### The configuration check (R68–R71) -/

/-- The word at an address of the map with the bits outside the configuration set zero; none for a word that holds no bit of it (R68). -/
def Dev.configWord (d : Dev) (mem : List Host.Cell) (a : Nat) : Option Word :=
  match locate a with
  | .reg b off =>
    let m := accMask (fun c => c == .rw || c == .ws || c == .wp) (fieldsAt b off)
    if inConfig b off a && m != 0 then some (d.reg a &&& m) else none
  | .patchActive _ => some (d.reg a)
  | .stwMem s off => if (Loc.stwMem s off).code then some (memWordAt mem a) else none
  | .sengMem e off => if (Loc.sengMem e off).code then some (memWordAt mem a) else none
  | _ => none

/-- The ranges of the map in which words of the set lie, ascending: base and length in words. -/
def configRanges : List (Nat × Nat) :=
  [(0x10000, 0x10000), (0x100000, 0x38000), (0x200000, 0x80000), (0x600000, 0x10000)] ++
    (List.range 4).map (fun s => (0xC00000 + s * 0x100000, 0x10000)) ++
    (List.range 64).map (fun e => (0x1000000 + e * 0x40000, 0x2000))

/-- The CRC-32C of the configuration set: every word that holds a bit of the set (R69; DEDUCED, log 54). -/
def Dev.configCrc (d : Dev) (mem : List Host.Cell) : Word :=
  ~~~ (configRanges.foldl (fun c r => (List.range r.2).foldl (fun c i =>
    match d.configWord mem (r.1 + 4 * i) with
    | some w => (wordBytes w).foldl crcByte c
    | none => c) c) 0xFFFFFFFF)

/-- A valid scan with the result `crc` is compared with the reference (R70). -/
def Dev.compareConfig (d : Dev) (crc : Word) : Dev :=
  if !d.on F.CFG_CTRL_REF_VALID then d
  else if crc = d.reg A.CFG_CRC_REF then d.wr F.CFG_STATUS_MISMATCH 0
  else
    let d := if d.on F.CFG_STATUS_MISMATCH then d else (d.wr F.CFG_STATUS_MISMATCH 1).wr F.CFG_STATUS_MISMATCH_EVT 1
    (d.sat F.CFG_MISMATCH_COUNT_COUNT 1).raise (if d.rd F.CFG_CTRL_ACTION = 2 then 3 else 0) 0x09 0xB 0 crc (d.reg A.CFG_CRC_REF)

/-- A waiting capture takes the result of a valid scan (R71). -/
def Dev.captureConfig (d : Dev) (crc : Word) : Dev :=
  if d.on F.CFG_CRC_CAPTURE_BUSY then
    ((d.setReg A.CFG_CRC_REF crc).wr F.CFG_CTRL_REF_VALID 1).wr F.CFG_CRC_CAPTURE_BUSY 0
  else d

/-- A scan ends with the result `crc` (R69, R70). -/
def Dev.scanEnds (d : Dev) (crc : Word) : Dev :=
  let valid := !d.cfg.dirty
  let d := ({ d with cfg := { d.cfg with dirty := false } }.setReg A.CFG_CRC_NOW crc).wr F.CFG_STATUS_VALID (bit valid)
  if valid then (d.captureConfig crc).compareConfig crc else d

/-- CFG_SCAN (R69–R71). -/
def execCfgScan (s : State) : Host.Outcome State Fault Refusal :=
  run (fun env d => d.scanEnds (d.configCrc (d.memNow env))) s

/-- CFG_CRC_CAPTURE (R71). -/
def execCfgCrcCapture (p : Path) (v : Word) (s : State) : Host.Outcome State Fault Refusal :=
  runAon (fun env d => d.poke env p A.CFG_CRC_CAPTURE (withGo v)) s

/-- CFG_REF_WRITE (R71). -/
def execCfgRefWrite (p : Path) (v : Word) (s : State) : Host.Outcome State Fault Refusal :=
  runAon (fun env d => d.poke env p A.CFG_CRC_REF v) s

/-- SOFT_RESET (R73). -/
def execSoftReset (p : Path) (v : Word) (s : State) : Host.Outcome State Fault Refusal :=
  runAon (fun env d => d.poke env p A.GLB_SOFT_RESET v) s

end Sys2Proof.Machine
end

