-- ==== Sys2Proof/Machine/ReplayRun.lean ====
section
/-! DEFINITION. The run of a replay (R450–R452): what each record of the trace does as it is released. -/
namespace Sys2Proof.Machine

/-- The time in ns of a T64 timestamp. -/
def nsOf64 (t : Nat) : Nat := t / 2 ^ 30 * 1000000000 + t % 2 ^ 30

/-- The replay ends (R451). -/
def Dev.replayDone (d : Dev) : Dev := { d.wr F.FRG_STATUS_STATE Frg.DONE with frg := { d.frg with trace := [] } }

/-- A FRAME record: the frame enters the switch core; octets after the 64th of a shortened one read zero (R439). -/
def Dev.playFrame (d : Dev) (r : List Byte) : Dev :=
  let b := r.drop 16
  let port := leNat (b.take 1)
  let len := leNat ((b.drop 4).take 2)
  let o := if (r.getD 1 0).getLsbD 0 then (b.drop 16).take 64 ++ List.replicate (len - 64) 0 else (b.drop 16).take len
  let tags := if port < 24 then tagsOf (d.tpid port) o else tagsOf (d.tpid (d.west (port - 24))) o
  d.switchFrame (leNat ((b.drop 1).take 1) < 3)
    { octets := o, port, ts := nsOf64 (leNat ((b.drop 8).take 8)) * 65536 + leNat ((b.drop 6).take 2),
      cls := leNat ((b.drop 1).take 1), vid := leNat ((b.drop 2).take 2), pcp := if tags = 0 then 0 else outerPcp o, tags }

/-- A BLOCK record: the input samples of a port group; the start of an output block follows from its tick. -/
def Dev.playBlock (d : Dev) (r : List Byte) : Dev :=
  let b := r.drop 16
  let g := leNat (b.take 1)
  let n := leNat ((b.drop 2).take 2)
  if (b.getD 1 0) ≠ 0 || 16 ≤ g then d
  else
    let is := ((d.frameSamples g 0 []).2.map (·.1)).eraseDups
    let t := nsOf64 (leNat ((b.drop 8).take 8)) * 65536
    let vs := wordsOf (b.drop 16)
    d.takeBlock g (leNat ((b.drop 4).take 4)) ((List.range n).map (fun f =>
      { t, samples := is.zipIdx.map (fun i => (i.1, { v := vs.getD (i.2 * n + f) 0, tag := 0 })) }))

/-- The path of a HOST record. -/
def pathOfCode (c : Nat) : Path := match c with
  | 1 => .spi
  | 2 => .window
  | 3 => .jtag
  | _ => .pcie

/-- A HOST record: a register or doorbell write, or a command, which starts as the tenant's. -/
def Dev.playHost (d : Dev) (env : Env) (r : List Byte) : Dev :=
  let b := r.drop 16
  let t : Fin 512 := Fin.ofNat 512 (leNat ((b.drop 1).take 2))
  let a := leNat ((b.drop 4).take 4)
  if leNat ((b.drop 3).take 1) = 1 then
    if b.length < 72 then (d.giveOrder (.cmd t) (recUnit r) (leNat ((b.drop 8).take 1) % 16)).1
    else d.startCmd t (sixteen (wordsOf (b.drop 8)))
  else (d.writeRequest env (pathOfCode (leNat (b.take 1))) a ((b.drop 8).take 4)).1

/-- A VALUE record: a tick start of the domain its causeway names, or an operating point. -/
def Dev.playValue (d : Dev) (r : List Byte) : Dev :=
  let b := r.drop 16
  match leNat (b.take 1) with
  | 0 =>
    let m := (r.getD 6 0).toNat % 64 - Isl.MCS 0
    if 8 ≤ m then d else d.tickStart m (leNat ((b.drop 16).take 8) * d.tickSize m) 0
  | 2 => { d with frg := { d.frg with opp := leNat ((b.drop 8).take 8) } }
  | _ => d

/-- A SAMPLE record: values and tags of one source over some periods. -/
def Dev.playSample (d : Dev) (r : List Byte) : Dev :=
  let b := r.drop 16
  let i := leNat (b.take 4)
  let n := leNat ((b.drop 6).take 1)
  let vs := wordsOf (b.drop 8)
  d.each (List.range n) (fun d p => d.setSrc i p { v := vs.getD p 0, tag := ((b.drop (8 + 4 * n)).getD p 0).toNat })

/-- An EDGE record: a capture of PPS_IN; what a synthesizer or a port group made of its edges comes in other records. -/
def Dev.playEdge (d : Dev) (r : List Byte) : Dev :=
  let b := r.drop 16
  if leNat (b.take 1) = 0 then d.ppsCapture (nsOf64 (leNat ((b.drop 8).take 8))) else d

/-- What a record does (R441, R450, R452), at its cycle. ORDER entries agree with the order in which records are released here, so that
none is missing (log 46). -/
def Dev.play (d : Dev) (env : Env) (r : List Byte) : Dev :=
  let u := recUnit r
  let t := recType r
  if t = 0 || 14 < t || (u ≠ 0xFFF && !d.frg.scope.contains u) then d.diverge 4 0xFFF (recCycle r) 0 0
  else if t = Rt.CKPT then d.loadCkpt r
  else if t = Rt.FRAME then d.playFrame r
  else if t = Rt.BLOCK then d.playBlock r
  else if t = Rt.HOST then d.playHost env r
  else if t = Rt.EDGE then d.playEdge r
  else if t = Rt.VALUE then d.playValue r
  else if t = Rt.SAMPLE then d.playSample r
  else d

/-- Further chunks that the host has supplied join the trace (R447, R450); false where one of them fails. -/
def Dev.supply (d : Dev) (more : List (List Byte)) : Dev × Bool :=
  let opened := d.openChunks more
  let d : Dev := { d with frg := { d.frg with trace := d.frg.trace ++ (opened.1.map (·.1)).flatten } }
  (d.setReg A.FRG_HRING_DEVPTR (d.reg A.FRG_HRING_DEVPTR + BitVec.ofNat 32 opened.1.length), !opened.2)

/-- The next record of the trace is released, with the chunks that the host ring holds by now; a trace that arrives late stops the scope
and nothing else (R450). A DIGEST waits for the close of its interval. -/
def Dev.releaseRecord (d : Dev) (env : Env) (more : List (List Byte)) : Dev :=
  if d.rd F.FRG_STATUS_STATE ≠ Frg.REPLAYING then d
  else
    let s := if d.on F.FRG_CTRL_SINK then d.supply more else (d, true)
    let d := s.1
    if !s.2 then d.diverge 4 0xFFF 0 0 0
    else match (splitRecords 1 d.frg.trace).1 with
      | [] => if d.frg.trace.length < 16 || 16 ≤ recordLen d.frg.trace then d else d.diverge 4 0xFFF 0 0 0
      | r :: _ =>
        if recType r = Rt.DIGEST then d
        else
          let d : Dev := { d with frg := { d.frg with trace := d.frg.trace.drop r.length } }
          if endsSegment r then d.replayDone
          else
            let d := ({ d with frg := { d.frg with driving := true } }).play env r
            { d with frg := { d.frg with driving := false } }

/-- REPLAY_RECORD_RELEASE: the scope's cycle count has reached the CYCLE of the next record (R450, R452). -/
def execReplayRecordRelease (more : List (List Byte)) (s : State) : Host.Outcome State Fault Refusal :=
  run (fun env d => d.releaseRecord env more) s

end Sys2Proof.Machine
end

