-- ==== Sys2Proof/Machine/SpecialRows.lean ====
section
/-! DEFINITION. The commands that are an access to one register of the map: each takes the path and the word written, with the field its
row names set as the row says. -/
namespace Sys2Proof.Machine

/-! ### Steward entry tables, packet queues, local transmit (R165, R207, R208) -/

/-- ELOAD (R165). -/
def execEload (p : Path) (t : Fin 4) (v : Word) (s : State) : Host.Outcome State Fault Refusal :=
  runAon (fun env d => d.poke env p (A.STW_ELOAD t.val) (withGo v)) s

/-- SPQ_HEAD_WRITE (R207). -/
def execSpqHeadWrite (p : Path) (q : Fin 8) (v : Word) (s : State) : Host.Outcome State Fault Refusal :=
  runAon (fun env d => d.poke env p (A.SPQ_HEAD q.val) v) s

/-- LTX_TAIL_WRITE (R208, R209). -/
def execLtxTailWrite (p : Path) (t : Fin 4) (v : Word) (s : State) : Host.Outcome State Fault Refusal :=
  runAon (fun env d => d.poke env p (A.LTX_TAIL t.val) v) s

/-! ### The forwarding table (R246) -/

/-- FDB_WRITE (R246). -/
def execFdbWrite (p : Path) (v : Word) (s : State) : Host.Outcome State Fault Refusal :=
  runAon (fun env d => d.poke env p A.SWC_FDB_CMD (putBits v 0 3 1)) s

/-- FDB_DELETE (R246). -/
def execFdbDelete (p : Path) (v : Word) (s : State) : Host.Outcome State Fault Refusal :=
  runAon (fun env d => d.poke env p A.SWC_FDB_CMD (putBits v 0 3 2)) s

/-- FDB_LOOKUP (R246). -/
def execFdbLookup (p : Path) (v : Word) (s : State) : Host.Outcome State Fault Refusal :=
  runAon (fun env d => d.poke env p A.SWC_FDB_CMD (putBits v 0 3 3)) s

/-- FDB_READ (R246). -/
def execFdbRead (p : Path) (v : Word) (s : State) : Host.Outcome State Fault Refusal :=
  runAon (fun env d => d.poke env p A.SWC_FDB_CMD (putBits v 0 3 4)) s

/-- FDB_FLUSH (R246). -/
def execFdbFlush (p : Path) (v : Word) (s : State) : Host.Outcome State Fault Refusal :=
  runAon (fun env d => d.poke env p A.SWC_FDB_CMD (putBits v 0 3 5)) s

/-! ### Time and media clocks (R295–R300, R312, R314) -/

/-- TIME_SET (R296). -/
def execTimeSet (p : Path) (v : Word) (s : State) : Host.Outcome State Fault Refusal :=
  runAon (fun env d => d.poke env p A.TIME_CMD (putBits v 0 2 1)) s

/-- TIME_STEP (R296). -/
def execTimeStep (p : Path) (v : Word) (s : State) : Host.Outcome State Fault Refusal :=
  runAon (fun env d => d.poke env p A.TIME_CMD (putBits v 0 2 2)) s

/-- TIME_ADJ_WRITE (R297). -/
def execTimeAdjWrite (p : Path) (v : Word) (s : State) : Host.Outcome State Fault Refusal :=
  runAon (fun env d => d.poke env p A.TIME_ADJ v) s

/-- STC_READ (R295). -/
def execStcRead (p : Path) (s : State) : Host.Outcome State Fault Refusal :=
  runAon (fun env d => d.peek env p A.TIME_STC_NS) s

/-- SERVO_OFS_WRITE (R300). -/
def execServoOfsWrite (p : Path) (v : Word) (s : State) : Host.Outcome State Fault Refusal :=
  runAon (fun env d => d.poke env p A.TIME_SERVO_OFS v) s

/-- PPS_IN_READ (R298). -/
def execPpsInRead (p : Path) (s : State) : Host.Outcome State Fault Refusal :=
  runAon (fun env d => d.peek env p A.TIME_PPS_IN_NS) s

/-- MCS_COUNT_READ (R312). -/
def execMcsCountRead (p : Path) (m : Fin 8) (s : State) : Host.Outcome State Fault Refusal :=
  runAon (fun env d => d.peek env p (A.MCS_COUNT_LO m.val)) s

/-- MCS_CAL_GO (R314). -/
def execMcsCalGo (p : Path) (m : Fin 8) (v : Word) (s : State) : Host.Outcome State Fault Refusal :=
  runAon (fun env d => d.pokeTaken env p (A.MCS_CAL m.val) (putBits v 8 1 1) (.mcs m)) s

/-- APG_FRAME_READ (R328, R330). -/
def execApgFrameRead (p : Path) (g : Fin 16) (s : State) : Host.Outcome State Fault Refusal :=
  runAon (fun env d => d.peek env p (A.APG_FRAME_LO g.val)) s

/-! ### Meters (R375, R376) -/

/-- LOUDNESS_RESTART (R375). -/
def execLoudnessRestart (p : Path) (c : Fin 256) (v : Word) (s : State) : Host.Outcome State Fault Refusal :=
  runAon (fun env d => d.poke env p (A.MTR_LD_CTRL c.val) (withGo v)) s

/-- HISTOGRAM_CLEAR (R376). -/
def execHistogramClear (p : Path) (f : Fin 2048) (v : Word) (s : State) : Host.Outcome State Fault Refusal :=
  runAon (fun env d => d.poke env p (A.MTR_HISTW f.val) (v ||| 0x80000000)) s

/-! ### Power and clocks (R384–R389, R396, R399) -/

/-- PWR_CMD_ACTIVE (R384–R386). -/
def execPwrCmdActive (p : Path) (v : Word) (s : State) : Host.Outcome State Fault Refusal :=
  runAon (fun env d => d.pokeTaken env p A.PWR_CMD (putBits v 0 3 0) .pwr) s

/-- PWR_CMD_QUIET (R384–R386). -/
def execPwrCmdQuiet (p : Path) (v : Word) (s : State) : Host.Outcome State Fault Refusal :=
  runAon (fun env d => d.pokeTaken env p A.PWR_CMD (putBits v 0 3 1) .pwr) s

/-- PWR_CMD_RETAIN (R384–R386). -/
def execPwrCmdRetain (p : Path) (v : Word) (s : State) : Host.Outcome State Fault Refusal :=
  runAon (fun env d => d.pokeTaken env p A.PWR_CMD (putBits v 0 3 2) .pwr) s

/-- PWR_CMD_LISTEN (R384–R386). -/
def execPwrCmdListen (p : Path) (v : Word) (s : State) : Host.Outcome State Fault Refusal :=
  runAon (fun env d => d.pokeTaken env p A.PWR_CMD (putBits v 0 3 3) .pwr) s

/-- PWR_WAKE_ACK (R389). -/
def execPwrWakeAck (p : Path) (v : Word) (s : State) : Host.Outcome State Fault Refusal :=
  runAon (fun env d => d.poke env p A.PWR_WAKE_ACK (withGo v)) s

/-- DOMAIN_POWER_REQUEST (R399). -/
def execDomainPowerRequest (p : Path) (v : Word) (s : State) : Host.Outcome State Fault Refusal :=
  runAon (fun env d => d.pokeTaken env p A.PWR_DOMAIN_REQ v .pwr) s

/-- OPP_REQUEST (R396). -/
def execOppRequest (p : Path) (v : Word) (s : State) : Host.Outcome State Fault Refusal :=
  runAon (fun env d => d.pokeTaken env p A.CLK_OPP v .clk) s

/-! ### Errors (R410, R414) -/

/-- ERR_ACK (R410). -/
def execErrAck (p : Path) (v : Word) (s : State) : Host.Outcome State Fault Refusal :=
  runAon (fun env d => d.poke env p A.ERR_ACK v) s

/-- ERR_RESTART (R414). -/
def execErrRestart (p : Path) (v : Word) (s : State) : Host.Outcome State Fault Refusal :=
  runAon (fun env d => d.poke env p A.ERR_RESTART (v ||| 0x100)) s

/-! ### Security (R424, R426, R430, R431, R433, R436) -/

/-- PEAT_READ (R424). -/
def execPeatRead (p : Path) (v : Word) (s : State) : Host.Outcome State Fault Refusal :=
  runAon (fun env d => d.poke env p A.SEC_PEAT_CMD (putBits v 0 2 1)) s

/-- PEAT_WRITE (R424). -/
def execPeatWrite (p : Path) (v : Word) (s : State) : Host.Outcome State Fault Refusal :=
  runAon (fun env d => d.poke env p A.SEC_PEAT_CMD (putBits v 0 2 2)) s

/-- KEY_LOAD (R426). -/
def execKeyLoad (p : Path) (v : Word) (s : State) : Host.Outcome State Fault Refusal :=
  runAon (fun env d => d.poke env p A.SEC_KEY_CMD (putBits v 8 3 1)) s

/-- KEY_ERASE (R426). -/
def execKeyErase (p : Path) (v : Word) (s : State) : Host.Outcome State Fault Refusal :=
  runAon (fun env d => d.poke env p A.SEC_KEY_CMD (putBits v 8 3 2)) s

/-- KEY_GENERATE (R426). -/
def execKeyGenerate (p : Path) (v : Word) (s : State) : Host.Outcome State Fault Refusal :=
  runAon (fun env d => d.poke env p A.SEC_KEY_CMD (putBits v 8 3 3)) s

/-- SEC_LOCK_WRITE (R436). -/
def execSecLockWrite (p : Path) (v : Word) (s : State) : Host.Outcome State Fault Refusal :=
  runAon (fun env d => d.poke env p A.SEC_LOCK v) s

/-- FUSE_PROGRAM (R430). -/
def execFuseProgram (p : Path) (v : Word) (s : State) : Host.Outcome State Fault Refusal :=
  runAon (fun env d => d.poke env p A.SEC_FUSE_PROG (withGo v)) s

/-- SEC_MIN_SVN_WRITE (R431). -/
def execSecMinSvnWrite (p : Path) (v : Word) (s : State) : Host.Outcome State Fault Refusal :=
  runAon (fun env d => d.poke env p A.SEC_MIN_SVN v) s

/-- DEBUG_OPEN (R433). -/
def execDebugOpen (p : Path) (v : Word) (s : State) : Host.Outcome State Fault Refusal :=
  runAon (fun env d => d.poke env p A.SEC_DBG_OPEN (withGo v)) s

/-! ### Fragal (R444–R453) -/

/-- FRAGAL_START (R437, R444). -/
def execFragalStart (p : Path) (v : Word) (s : State) : Host.Outcome State Fault Refusal :=
  runAon (fun env d => d.poke env p A.FRG_CMD (putBits v 0 2 1)) s

/-- FRAGAL_STOP (R448). -/
def execFragalStop (p : Path) (v : Word) (s : State) : Host.Outcome State Fault Refusal :=
  runAon (fun env d => d.poke env p A.FRG_CMD (putBits v 0 2 2)) s

/-- CHECKPOINT (R446). -/
def execCheckpoint (p : Path) (v : Word) (s : State) : Host.Outcome State Fault Refusal :=
  runAon (fun env d => d.poke env p A.FRG_CMD (putBits v 0 2 3)) s

/-- FRG_HOSTPTR_WRITE (R447). -/
def execFrgHostptrWrite (p : Path) (v : Word) (s : State) : Host.Outcome State Fault Refusal :=
  runAon (fun env d => d.poke env p A.FRG_HRING_HOSTPTR v) s

/-! ### GPIO and PMBus (R486, R489) -/

/-- GPIO_SET (R486). -/
def execGpioSet (p : Path) (v : Word) (s : State) : Host.Outcome State Fault Refusal :=
  runAon (fun env d => d.poke env p A.GPIO_SET v) s

/-- GPIO_CLR (R486). -/
def execGpioClr (p : Path) (v : Word) (s : State) : Host.Outcome State Fault Refusal :=
  runAon (fun env d => d.poke env p A.GPIO_CLR v) s

/-- PMB_SEND_BYTE (R489). -/
def execPmbSendByte (p : Path) (v : Word) (s : State) : Host.Outcome State Fault Refusal :=
  runAon (fun env d => d.pokeTaken env p A.PMB_XFER (putBits v 16 3 0) .pmb) s

/-- PMB_WRITE_BYTE (R489). -/
def execPmbWriteByte (p : Path) (v : Word) (s : State) : Host.Outcome State Fault Refusal :=
  runAon (fun env d => d.pokeTaken env p A.PMB_XFER (putBits v 16 3 1) .pmb) s

/-- PMB_WRITE_WORD (R489). -/
def execPmbWriteWord (p : Path) (v : Word) (s : State) : Host.Outcome State Fault Refusal :=
  runAon (fun env d => d.pokeTaken env p A.PMB_XFER (putBits v 16 3 2) .pmb) s

/-- PMB_READ_BYTE (R489). -/
def execPmbReadByte (p : Path) (v : Word) (s : State) : Host.Outcome State Fault Refusal :=
  runAon (fun env d => d.pokeTaken env p A.PMB_XFER (putBits v 16 3 3) .pmb) s

/-- PMB_READ_WORD (R489). -/
def execPmbReadWord (p : Path) (v : Word) (s : State) : Host.Outcome State Fault Refusal :=
  runAon (fun env d => d.pokeTaken env p A.PMB_XFER (putBits v 16 3 4) .pmb) s

/-- REGACC: the register access that an update of the open TAP's REGACC register with GO asks for, as tenant 0 (R433). The data of a
read stand in DATA, for the next capture (DEDUCED, log 56). -/
def Dev.regacc (d : Dev) (env : Env) : Dev :=
  if !d.mgt.tapGo || !d.pathUp .jtag then d
  else
    let r := d.mgt.tapReg
    let a := r / 2 ^ 32 % 2 ^ 27
    let d : Dev := { d with mgt := { d.mgt with tapGo := false } }
    if r / 2 ^ 62 % 2 = 1 then d.poke env .jtag a (BitVec.ofNat 32 r)
    else match d.pathRead env .jtag a 4 with
      | (d, some bs) => { d with mgt := { d.mgt with tapReg := r / 2 ^ 32 * 2 ^ 32 + (bytesWord bs).toNat } }
      | (d, none) => d.fails .jtag

/-- REGACC (R433). -/
def execRegacc (s : State) : Host.Outcome State Fault Refusal :=
  runAon (fun env d => d.regacc env) s

/-- A write of `FRG_CMD`.START in replay mode, with the chunks that the host ring holds (R447, R451); in another mode, or refused on its
path, the write that it is. -/
def Dev.replayGo (d : Dev) (env : Env) (p : Path) (v : Word) (chunks : List (List Byte)) : Dev :=
  let plain (d : Dev) : Dev := d.poke env p A.FRG_CMD (putBits v 0 2 1)
  if !toMap p || !d.pathUp p || d.rd F.FRG_CTRL_MODE ≠ 2 then plain d
  else match d.route p (d.pathAddr p A.FRG_CMD) with
    | .map b => if (d.requestError p b 4 true).isSome then plain d else (d.noteReserved .frg 8 A.FRG_CMD v).fragCmd env 1 chunks
    | _ => plain d

/-- FRAGAL_REPLAY_START (R451). -/
def execFragalReplayStart (p : Path) (v : Word) (chunks : List (List Byte)) (s : State) : Host.Outcome State Fault Refusal :=
  runAon (fun env d => d.replayGo env p v chunks) s

/-- FRG_OCB_DATA_ACCESS: a read (`none`) or a write (R453). -/
def execFrgOcbDataAccess (p : Path) (w : Option Word) (s : State) : Host.Outcome State Fault Refusal :=
  runAon (fun env d => match w with
    | some v => d.poke env p A.FRG_OCB_DATA v
    | none => d.peek env p A.FRG_OCB_DATA) s

end Sys2Proof.Machine
end

