-- ==== Sys2Proof/Machine/UlfelInt.lean ====
section
/-! DEFINITION. The integer instructions, branches, jumps and LOOP (R119–R125). An INT word's fn[10:5] is the operand
`hi`: bit 0 is IMMSH, bits 5 to 1 the amount of an immediate shift. -/
namespace Sys2Proof.Machine

/-- The word of an INT instruction. -/
def intWord (op : Nat) (d a b : Fin 32) (hi : BitVec 6) : Word := rWord 0x01 d.val a.val b.val (op + hi.toNat * 32)

/-- An INT instruction that is no shift: fn[10:5] must be zero. -/
def Dev.intOp (d : Dev) (x : Fin 96) (op lat : Nat) (dd a b : Fin 32) (hi : BitVec 6) (f : Word → Word → Word) : Dev :=
  d.gOp x.val (intWord op dd a b hi) [a.val, b.val] lat dd.val (hi == 0) (fun c => f (c.gr a.val) (c.gr b.val))

/-- A shift: by gb[4:0], or by the amount in fn[10:6] with b zero. -/
def Dev.shiftOp (d : Dev) (x : Fin 96) (op : Nat) (dd a b : Fin 32) (hi : BitVec 6) (f : Word → Nat → Word) : Dev :=
  d.gOp x.val (intWord op dd a b hi) [a.val, b.val] 1 dd.val (if hi.getLsbD 0 then b.val == 0 else hi == 0)
    (fun c => f (c.gr a.val) (if hi.getLsbD 0 then hi.toNat / 2 else (c.gr b.val).toNat % 32))

/-- The number of leading zeros, 0 to 32. -/
def leadingZeros (w : Word) : Word := if w = 0 then 32 else BitVec.ofNat 32 (31 - w.toNat.log2)

/-- ADD (R119) -/
def execAdd (x : Fin 96) (dd a b : Fin 32) (hi : BitVec 6) (s : State) : Host.Outcome State Fault Refusal :=
  lift (fun d => d.intOp x 0x00 1 dd a b hi (· + ·)) s
/-- SUB (R119) -/
def execSub (x : Fin 96) (dd a b : Fin 32) (hi : BitVec 6) (s : State) : Host.Outcome State Fault Refusal :=
  lift (fun d => d.intOp x 0x01 1 dd a b hi (· - ·)) s
/-- AND -/
def execAnd (x : Fin 96) (dd a b : Fin 32) (hi : BitVec 6) (s : State) : Host.Outcome State Fault Refusal :=
  lift (fun d => d.intOp x 0x02 1 dd a b hi (· &&& ·)) s
/-- OR -/
def execOr (x : Fin 96) (dd a b : Fin 32) (hi : BitVec 6) (s : State) : Host.Outcome State Fault Refusal :=
  lift (fun d => d.intOp x 0x03 1 dd a b hi (· ||| ·)) s
/-- XOR -/
def execXor (x : Fin 96) (dd a b : Fin 32) (hi : BitVec 6) (s : State) : Host.Outcome State Fault Refusal :=
  lift (fun d => d.intOp x 0x04 1 dd a b hi (· ^^^ ·)) s
/-- SHL -/
def execShl (x : Fin 96) (dd a b : Fin 32) (hi : BitVec 6) (s : State) : Host.Outcome State Fault Refusal :=
  lift (fun d => d.shiftOp x 0x05 dd a b hi (fun w n => w <<< n)) s
/-- SHR -/
def execShr (x : Fin 96) (dd a b : Fin 32) (hi : BitVec 6) (s : State) : Host.Outcome State Fault Refusal :=
  lift (fun d => d.shiftOp x 0x06 dd a b hi (fun w n => w >>> n)) s
/-- SAR -/
def execSar (x : Fin 96) (dd a b : Fin 32) (hi : BitVec 6) (s : State) : Host.Outcome State Fault Refusal :=
  lift (fun d => d.shiftOp x 0x07 dd a b hi (fun w n => w.sshiftRight n)) s
/-- MUL -/
def execMul (x : Fin 96) (dd a b : Fin 32) (hi : BitVec 6) (s : State) : Host.Outcome State Fault Refusal :=
  lift (fun d => d.intOp x 0x08 3 dd a b hi (· * ·)) s
/-- MULH: bits 63 to 32 of the signed product. -/
def execMulh (x : Fin 96) (dd a b : Fin 32) (hi : BitVec 6) (s : State) : Host.Outcome State Fault Refusal :=
  lift (fun d => d.intOp x 0x09 3 dd a b hi (fun v w => BitVec.ofInt 32 (v.toInt * w.toInt / 2 ^ 32))) s
/-- MIN, signed. -/
def execMin (x : Fin 96) (dd a b : Fin 32) (hi : BitVec 6) (s : State) : Host.Outcome State Fault Refusal :=
  lift (fun d => d.intOp x 0x0A 1 dd a b hi (fun v w => if v.toInt ≤ w.toInt then v else w)) s
/-- MAX, signed. -/
def execMax (x : Fin 96) (dd a b : Fin 32) (hi : BitVec 6) (s : State) : Host.Outcome State Fault Refusal :=
  lift (fun d => d.intOp x 0x0B 1 dd a b hi (fun v w => if v.toInt ≤ w.toInt then w else v)) s
/-- CLZ: b must be zero. -/
def execClz (x : Fin 96) (dd a b : Fin 32) (hi : BitVec 6) (s : State) : Host.Outcome State Fault Refusal :=
  lift (fun d => d.gOp x.val (intWord 0x0C dd a b hi) [a.val] 1 dd.val (hi == 0 && b.val == 0)
    (fun c => leadingZeros (c.gr a.val))) s

/-- An instruction of ga and a sign-extended immediate. -/
def Dev.immOp (d : Dev) (x : Fin 96) (major : Nat) (dd a : Fin 32) (imm : BitVec 16) (f : Word → Word → Word) : Dev :=
  d.gOp x.val (iWord major dd.val a.val imm.toNat) [a.val] 1 dd.val true (fun c => f (c.gr a.val) (sext16 imm))

/-- ADDI (R121) -/
def execAddi (x : Fin 96) (dd a : Fin 32) (imm : BitVec 16) (s : State) : Host.Outcome State Fault Refusal :=
  lift (fun d => d.immOp x 0x02 dd a imm (· + ·)) s
/-- ANDI -/
def execAndi (x : Fin 96) (dd a : Fin 32) (imm : BitVec 16) (s : State) : Host.Outcome State Fault Refusal :=
  lift (fun d => d.immOp x 0x03 dd a imm (· &&& ·)) s
/-- ORI -/
def execOri (x : Fin 96) (dd a : Fin 32) (imm : BitVec 16) (s : State) : Host.Outcome State Fault Refusal :=
  lift (fun d => d.immOp x 0x04 dd a imm (· ||| ·)) s
/-- XORI -/
def execXori (x : Fin 96) (dd a : Fin 32) (imm : BitVec 16) (s : State) : Host.Outcome State Fault Refusal :=
  lift (fun d => d.immOp x 0x05 dd a imm (· ^^^ ·)) s
/-- LUI: a must be zero. -/
def execLui (x : Fin 96) (dd a : Fin 32) (imm : BitVec 16) (s : State) : Host.Outcome State Fault Refusal :=
  lift (fun d => d.gOp x.val (iWord 0x06 dd.val a.val imm.toNat) [] 1 dd.val (a.val == 0) (fun _ => imm.setWidth 32 <<< 16)) s

/-- BEQ -/
def execBeq (x : Fin 96) (a b : Fin 32) (off : BitVec 16) (s : State) : Host.Outcome State Fault Refusal :=
  lift (fun d => d.branch x.val 0x08 a.val b.val off (fun v w => v == w)) s
/-- BNE -/
def execBne (x : Fin 96) (a b : Fin 32) (off : BitVec 16) (s : State) : Host.Outcome State Fault Refusal :=
  lift (fun d => d.branch x.val 0x09 a.val b.val off (fun v w => v != w)) s
/-- BLT, signed -/
def execBlt (x : Fin 96) (a b : Fin 32) (off : BitVec 16) (s : State) : Host.Outcome State Fault Refusal :=
  lift (fun d => d.branch x.val 0x0A a.val b.val off (fun v w => v.toInt < w.toInt)) s
/-- BGE, signed -/
def execBge (x : Fin 96) (a b : Fin 32) (off : BitVec 16) (s : State) : Host.Outcome State Fault Refusal :=
  lift (fun d => d.branch x.val 0x0B a.val b.val off (fun v w => w.toInt ≤ v.toInt)) s
/-- BLTU, unsigned -/
def execBltu (x : Fin 96) (a b : Fin 32) (off : BitVec 16) (s : State) : Host.Outcome State Fault Refusal :=
  lift (fun d => d.branch x.val 0x0C a.val b.val off (fun v w => v.toNat < w.toNat)) s
/-- BGEU, unsigned -/
def execBgeu (x : Fin 96) (a b : Fin 32) (off : BitVec 16) (s : State) : Host.Outcome State Fault Refusal :=
  lift (fun d => d.branch x.val 0x0D a.val b.val off (fun v w => w.toNat ≤ v.toNat)) s

/-- JAL: g31 = pc + 4 (R124). -/
def execJal (x : Fin 96) (off : BitVec 26) (s : State) : Host.Outcome State Fault Refusal :=
  lift (fun d => d.insn x.val (jWord 0x0E off.toNat) [] (fun c => !c.endsBody) (fun c d =>
    d.jumpOp x.val c [] [(31, 1)] (c.pc + disp26 off) (fun k => k.setG 31 (c.pc + 4)))) s

/-- JR: ALIGN where ga[1:0] is not zero (R124). -/
def execJr (x : Fin 96) (dd a b : Fin 32) (fn : BitVec 11) (s : State) : Host.Outcome State Fault Refusal :=
  lift (fun d => d.insn x.val (rWord 0x0F dd.val a.val b.val fn.toNat) [a.val]
    (fun c => b.val == 0 && fn == 0 && !c.endsBody) (fun c d =>
      let t := c.gr a.val
      if t.toNat % 4 ≠ 0 then d.takeException x.val Exc.ALIGN c.pc t none
      else d.jumpOp x.val c [a.val] (if dd.val = 0 then [] else [(dd.val, 1)]) t (fun k => k.setG dd.val (c.pc + 4)))) s

/-- LOOP (R125): `dd` must be zero, the immediate is the length of the body. -/
def execLoop (x : Fin 96) (dd a : Fin 32) (imm : BitVec 16) (s : State) : Host.Outcome State Fault Refusal :=
  lift (fun d => d.insn x.val (iWord 0x10 dd.val a.val imm.toNat) [a.val]
    (fun c => dd.val == 0 && imm != 0 && c.loops.length < 2 && !c.endsBody) (fun c d =>
      let stop := c.pc + BitVec.ofNat 32 (4 * imm.toNat)
      let n := c.gr a.val
      let c' := c.spend [a.val] 1 []
      if c.limit x.val ≤ c.pc.toNat + 4 * imm.toNat then d.takeException x.val Exc.MEMRANGE c.pc stop none
      else if n = 0 then d.setCtx x.val { c' with pc := stop + 4 }
      else d.setCtx x.val { c' with pc := c.pc + 4, loops := c.loops ++ [{ count := n, start := c.pc + 4, stop }] })) s

end Sys2Proof.Machine
end

