-- ==== Sys2Proof/Machine/UlfelVec.lean ====
section
/-! DEFINITION. The vector instructions (R131–R133). The operand `m` is fn[10:4]: IMM4 in [3:0], PE in [4], PRED in
[6:5]. -/
namespace Sys2Proof.Machine

/-- IMM4. -/
abbrev vImm (m : BitVec 7) : Nat := m.toNat % 16
/-- PE. -/
abbrev vPe (m : BitVec 7) : Bool := m.getLsbD 4
/-- PRED. -/
abbrev vPred (m : BitVec 7) : Nat := m.toNat / 32

/-- The word of a vector instruction. -/
def vecWord (op : Nat) (d a b : Fin 32) (m : BitVec 7) : Word := rWord 0x28 d.val a.val b.val (op + m.toNat * 16)

/-- Lane `i` is not masked (R131). -/
def laneOn (c : Ctx) (m : BitVec 7) (i : Nat) : Bool := !vPe m || c.predLane (vPred m) i

/-- A vector instruction's word is legal: signal engines alone (R117), PRED unused without PE (R122). -/
def vecLegal (x : Fin 96) (m : BitVec 7) : Bool := isSignal x.val && (vPe m || vPred m == 0)

/-- What predication reads besides: the predicate, and the lanes that are kept. -/
def vecSrcs (m : BitVec 7) (kept : Nat) : List Nat := if vPe m then [Rk.tag (vPred m), kept] else []

/-- A vector instruction that writes vd lane by lane: `f` gives a lane's value and its flags, which are sticky for lanes
not masked (R131, R132). -/
def Dev.vecOp (d : Dev) (x : Fin 96) (op lat : Nat) (dd a b : Fin 32) (m : BitVec 7) (legal : Bool) (srcs : List Nat)
    (f : Ctx → Nat → Word × Nat) : Dev :=
  d.ctxOp x.val (vecWord op dd a b m) (srcs ++ vecSrcs m (Rk.v dd.val)) [(Rk.v dd.val, lat)]
    (fun _ => vecLegal x m && legal && dd.val < 16 && vImm m == 0)
    (fun c => lanes.foldl (fun (c' : Ctx) i =>
      if laneOn c m i then
        let r := f c i
        { c'.setLane dd.val i r.1 with vstat := Nat.lor c'.vstat r.2 }
      else c') c)

/-- Of two vector registers. -/
def Dev.vec2 (d : Dev) (x : Fin 96) (op lat : Nat) (dd a b : Fin 32) (m : BitVec 7) (f : Word → Word → Word × Nat) : Dev :=
  d.vecOp x op lat dd a b m (a.val < 16 && b.val < 16) [Rk.v a.val, Rk.v b.val]
    (fun c i => f (c.lane a.val i) (c.lane b.val i))

/-- Of one vector register; b must be zero. -/
def Dev.vec1 (d : Dev) (x : Fin 96) (op lat : Nat) (dd a b : Fin 32) (m : BitVec 7) (f : Word → Word × Nat) : Dev :=
  d.vecOp x op lat dd a b m (a.val < 16 && b.val == 0) [Rk.v a.val] (fun c i => f (c.lane a.val i))

/-- VADD (R131) -/
def execVadd (x : Fin 96) (dd a b : Fin 32) (m : BitVec 7) (s : State) : Host.Outcome State Fault Refusal :=
  lift (fun d => d.vec2 x 0x0 1 dd a b m (fun v w => satQ31 (v.toInt + w.toInt))) s
/-- VSUB -/
def execVsub (x : Fin 96) (dd a b : Fin 32) (m : BitVec 7) (s : State) : Host.Outcome State Fault Refusal :=
  lift (fun d => d.vec2 x 0x1 1 dd a b m (fun v w => satQ31 (v.toInt - w.toInt))) s
/-- VMUL, rounded half up -/
def execVmul (x : Fin 96) (dd a b : Fin 32) (m : BitVec 7) (s : State) : Host.Outcome State Fault Refusal :=
  lift (fun d => d.vec2 x 0x2 3 dd a b m (fun v w => satQ31 (roundHalfUp (v.toInt * w.toInt) 31))) s

/-- VMAC: the product, truncated by 8 bits, is put in the accumulator (START, IMM4 bit 3) or added to it. -/
def execVmac (x : Fin 96) (dd a b : Fin 32) (m : BitVec 7) (s : State) : Host.Outcome State Fault Refusal :=
  lift (fun d => d.ctxOp x.val (vecWord 0x3 dd a b m)
    ([Rk.v a.val, Rk.v b.val, Rk.acc dd.val] ++ (if vPe m then [Rk.tag (vPred m)] else [])) [(Rk.mac dd.val, 3)]
    (fun _ => vecLegal x m && dd.val < 4 && a.val < 16 && b.val < 16 && vImm m % 8 == 0)
    (fun c => lanes.foldl (fun (c' : Ctx) i =>
      if laneOn c m i then
        let q := (c.lane a.val i).toInt * (c.lane b.val i).toInt / 2 ^ 8
        let r := if vImm m = 8 then satAcc q else satAcc ((c.acc dd.val i).toInt + q)
        { c'.setAcc dd.val i r.1 with vstat := Nat.lor c'.vstat r.2 }
      else c') c)) s

/-- VRND: a names an accumulator, IMM4[2:0] is SHIFT, IMM4[3] CLR. -/
def execVrnd (x : Fin 96) (dd a b : Fin 32) (m : BitVec 7) (s : State) : Host.Outcome State Fault Refusal :=
  let clr := 8 ≤ vImm m
  lift (fun d => d.ctxOp x.val (vecWord 0x4 dd a b m)
    ([Rk.mac a.val, Rk.acc a.val] ++ vecSrcs m (Rk.v dd.val))
    ((Rk.v dd.val, 2) :: (if clr then [(Rk.acc a.val, 2)] else []))
    (fun _ => vecLegal x m && dd.val < 16 && a.val < 4 && b.val == 0)
    (fun c => lanes.foldl (fun (c' : Ctx) i =>
      if laneOn c m i then
        let r := satQ31 (roundHalfUp ((c.acc a.val i).toInt * 2 ^ (vImm m % 8)) 23)
        let c' := { c'.setLane dd.val i r.1 with vstat := Nat.lor c'.vstat r.2 }
        if clr then c'.setAcc a.val i 0 else c'
      else c') c)) s

/-- One lane of a ramp after an execution (R133): level and step. The sum of a level and a step that Q8.24 does not hold
the spec does not give: a free value (log 12). -/
def rampStep (n : Nat) (level step target : Word) : Word × Word :=
  let sum := level.toInt + step.toInt
  let l : Word := if -2147483648 ≤ sum && sum ≤ 2147483647 then BitVec.ofInt 32 sum else Config.freeWord n
  if step = 0 then (level, step)
  else if (0 < step.toInt && target.toInt ≤ l.toInt) || (step.toInt < 0 && l.toInt ≤ target.toInt) then (target, 0)
  else (l, step)

/-- VGAIN (R133): the ramp block lies at gb in data memory. -/
def execVgain (x : Fin 96) (dd a b : Fin 32) (m : BitVec 7) (s : State) : Host.Outcome State Fault Refusal :=
  let srcs := [Rk.v a.val, b.val] ++ vecSrcs m (Rk.v dd.val)
  run (fun env d => d.insn x.val (vecWord 0x5 dd a b m) srcs
    (fun _ => vecLegal x m && dd.val < 16 && a.val < 16 && vImm m == 0) (fun c d =>
      let ad := c.gr b.val
      if ad.toNat % 64 ≠ 0 then d.takeException x.val Exc.ALIGN c.pc ad none
      else if !inData x.val ad 64 then d.takeException x.val Exc.MEMRANGE c.pc ad none
      else
        let base := engineBase x.val + ad.toNat
        let mem := d.memNow env
        let d := (d.each lanes (fun d i =>
          if laneOn c m i then
            let level := memWordAt mem (base + 4 * i)
            let l := clampInt (-402653184) 67108864 level.toInt
            let r := gainApply d.free l (c.lane a.val i)
            let step := memWordAt mem (base + 16 + 4 * i)
            let n := rampStep (d.free + 1) level step (memWordAt mem (base + 32 + 4 * i))
            let d := d.updCtx x.val (fun k => { k.setLane dd.val i r.1 with vstat := Nat.lor k.vstat r.2 })
            let d := if step = 0 then d
              else (d.memStore (base + 4 * i) (wordBytes n.1)).memStore (base + 16 + 4 * i) (wordBytes n.2)
            d.draw.draw
          else d))
        d.updCtx x.val (fun k => (k.spend srcs 1 [(Rk.v dd.val, 4)]).advance))) s

/-- VABS -/
def execVabs (x : Fin 96) (dd a b : Fin 32) (m : BitVec 7) (s : State) : Host.Outcome State Fault Refusal :=
  lift (fun d => d.vec1 x 0x6 1 dd a b m (fun v => satQ31 (v.toInt.natAbs : Int))) s
/-- VMAX, signed -/
def execVmax (x : Fin 96) (dd a b : Fin 32) (m : BitVec 7) (s : State) : Host.Outcome State Fault Refusal :=
  lift (fun d => d.vec2 x 0x7 1 dd a b m (fun v w => (if v.toInt ≤ w.toInt then w else v, 0))) s

/-- VSEL: p[PRED] selects, every lane is written; PE must be 1. -/
def execVsel (x : Fin 96) (dd a b : Fin 32) (m : BitVec 7) (s : State) : Host.Outcome State Fault Refusal :=
  lift (fun d => d.ctxOp x.val (vecWord 0x8 dd a b m) [Rk.v a.val, Rk.v b.val, Rk.tag (vPred m)] [(Rk.v dd.val, 1)]
    (fun _ => vecLegal x m && vPe m && dd.val < 16 && a.val < 16 && b.val < 16 && vImm m == 0)
    (fun c => lanes.foldl (fun (c' : Ctx) i =>
      c'.setLane dd.val i (if c.predLane (vPred m) i then c.lane a.val i else c.lane b.val i)) c)) s

/-- VSPLAT: a names a g register; b must be zero. -/
def execVsplat (x : Fin 96) (dd a b : Fin 32) (m : BitVec 7) (s : State) : Host.Outcome State Fault Refusal :=
  lift (fun d => d.vecOp x 0x9 1 dd a b m (b.val == 0) [a.val] (fun c _ => (c.gr a.val, 0))) s
/-- VCVTF -/
def execVcvtf (x : Fin 96) (dd a b : Fin 32) (m : BitVec 7) (s : State) : Host.Outcome State Fault Refusal :=
  lift (fun d => d.vec1 x 0xA 3 dd a b m fpFromQ31) s
/-- VCVTI -/
def execVcvti (x : Fin 96) (dd a b : Fin 32) (m : BitVec 7) (s : State) : Host.Outcome State Fault Refusal :=
  lift (fun d => d.vec1 x 0xB 3 dd a b m fpToQ31) s
/-- VFADD -/
def execVfadd (x : Fin 96) (dd a b : Fin 32) (m : BitVec 7) (s : State) : Host.Outcome State Fault Refusal :=
  lift (fun d => d.vec2 x 0xC 4 dd a b m fpAdd) s
/-- VFMUL -/
def execVfmul (x : Fin 96) (dd a b : Fin 32) (m : BitVec 7) (s : State) : Host.Outcome State Fault Refusal :=
  lift (fun d => d.vec2 x 0xD 4 dd a b m fpMul) s
/-- VFMAC: fused, one rounding -/
def execVfmac (x : Fin 96) (dd a b : Fin 32) (m : BitVec 7) (s : State) : Host.Outcome State Fault Refusal :=
  lift (fun d => d.vecOp x 0xE 4 dd a b m (a.val < 16 && b.val < 16) [Rk.v a.val, Rk.v b.val, Rk.v dd.val]
    (fun c i => fpMac (c.lane dd.val i) (c.lane a.val i) (c.lane b.val i))) s

end Sys2Proof.Machine
end

