-- ==== Sys2Proof/Machine/UnitRows.lean ====
section
/-! DEFINITION. The commands of units and cabinets (R25–R46): orders, state changes, walks, events. -/
namespace Sys2Proof.Machine

/-- An order of code `order` on a unit (R26): a write of its `UNIT_CMD`, or a command of a tenant, which acts in CORE. -/
def Dev.orderRow (d : Dev) (env : Env) (src : OrderSrc) (u order : Nat) : Dev :=
  match src with
  | .reg p => d.poke env p (A.UNIT_CMD u) (BitVec.ofNat 32 order)
  | .cmd t => if d.coreOn && (classOf u).isSome then (d.giveOrder (.cmd t) u order).1 else d

/-- ORDER_ENABLE (R26, R27, R32–R36). -/
def execOrderEnable (src : OrderSrc) (u : BitVec 12) (s : State) : Host.Outcome State Fault Refusal :=
  runAon (fun env d => d.orderRow env src u.toNat Ord.ENABLE) s

/-- ORDER_DISABLE (R26, R27, R29, R30). -/
def execOrderDisable (src : OrderSrc) (u : BitVec 12) (s : State) : Host.Outcome State Fault Refusal :=
  runAon (fun env d => d.orderRow env src u.toNat Ord.DISABLE) s

/-- ORDER_DRAIN (R26, R27, R29). -/
def execOrderDrain (src : OrderSrc) (u : BitVec 12) (s : State) : Host.Outcome State Fault Refusal :=
  runAon (fun env d => d.orderRow env src u.toNat Ord.DRAIN) s

/-- ORDER_RESET (R26, R27, R41). -/
def execOrderReset (src : OrderSrc) (u : BitVec 12) (s : State) : Host.Outcome State Fault Refusal :=
  runAon (fun env d => d.orderRow env src u.toNat Ord.RESET) s

/-- ORDER_NONE: the code 0x0 (R25). -/
def execOrderNone (src : OrderSrc) (u : BitVec 12) (s : State) : Host.Outcome State Fault Refusal :=
  runAon (fun env d => d.orderRow env src u.toNat 0) s

/-- OWNER_WRITE (R43). -/
def execOwnerWrite (p : Path) (u : BitVec 12) (v : Word) (s : State) : Host.Outcome State Fault Refusal :=
  runAon (fun env d => d.poke env p (A.UNIT_OWNER u.toNat) v) s

/-! ### State changes (R27–R31, R46) -/

/-- UNIT_STANDBY_REACHED (R27, R28). -/
def execUnitStandbyReached (u : BitVec 12) (s : State) : Host.Outcome State Fault Refusal :=
  lift (fun d => d.standbyReached u.toNat) s

/-- UNIT_SYNCING_ENTRY (R27, R46). -/
def execUnitSyncingEntry (u : BitVec 12) (s : State) : Host.Outcome State Fault Refusal :=
  lift (fun d => d.syncingEntry u.toNat) s

/-- What a unit that is SYNCING must acquire is there (R46, R181, R235, R264, R286, R299, R318, R340, R351, R355, R365). -/
def Dev.acquires (d : Dev) (u : Nat) : Bool :=
  match unitKind u with
  | .link n => d.on (F.LNK_STATUS_LINK_UP n)
  | .ring k =>
    let r := d.ring k
    d.ustate (0x010 + d.west k) == 3 && d.ustate (0x010 + d.east k) == 3 &&
      r.index.any (fun i => r.table.any (fun t => i < t.slots.length))
  | .mclk m => d.on (F.MCS_STATUS_LOCKED m) || (d.rd (F.MCS_CTRL_SRC m) == 0 && (d.mclk m).ticking)
  | .group g => 2 ≤ (d.group g).good && d.rd (F.RM_STAT_CLASS g) == d.rd (F.APG_CFG_RATE g)
  | .port n =>
    let g := n / 4
    d.ustate (0x040 + g) == 3 && (d.on (F.APG_CFG_BRIDGED g) || d.ticking (d.rd (F.APG_CFG_DOMAIN g)))
  | .bridge b => d.on (F.BRG_STATUS_LOCKED b)
  | .decim k => (d.decim k).leftR == 0 && (d.decim k).leftF == 0 && d.ustate (0x040 + k / 8) == 3
  | .flow f =>
    let x := d.flow f
    let c := (d.mclk (d.flowDomain f)).count
    if d.flowTx f then x.txFrom.isSome && x.next + d.packetPeriods f x.next ≤ c
    else (List.range (d.tickSize (d.flowDomain f))).all (fun p => (SMap.get (fun _ => {}) x.buf (c + p) : Period) != {})
  | .seng e => (d.ctx e).synced && d.ticking (d.rd (F.ENG_CFG_DOMAIN e))
  | .region r => (d.region r).synced && d.ticking (d.rd (F.PR_REGION_CFG_DOMAIN r))
  | _ => d.acquiresNothing u

/-- ACQUISITION_COMPLETE: a SYNCING unit has acquired what its class needs (R27, R46). The rows of the classes in which that happens bring
their units there too. -/
def execAcquisitionComplete (u : BitVec 12) (s : State) : Host.Outcome State Fault Refusal :=
  lift (fun d => if d.acquires u.toNat then d.acquired u.toNat else d) s

/-- A required input, clock or lock of a unit is lost, where the class chapter gives this event (R27, R182, R235, R318, R324, R339, R340,
R356). -/
def Dev.losesInput (d : Dev) (u : Nat) : Dev :=
  if d.ustate u ≠ 3 then d
  else match unitKind u with
  | .link n => d.linkDown n 0
  | .mclk m => (d.toBypass m).inputLost u
  | .group g => d.groupLost g
  | .bridge b => ((d.bridgeEvt b 1).count (Ctr.BRG b 8) 1).inputLost u
  | .ring _ => d.inputLost u
  | .port _ => d.inputLost u
  | .decim _ => d.inputLost u
  | .flow _ => d.inputLost u
  | .seng _ => d.inputLost u
  | .region _ => d.inputLost u
  | .time => d.inputLost u
  | _ => d

/-- INPUT_LOST (R27). -/
def execInputLost (u : BitVec 12) (s : State) : Host.Outcome State Fault Refusal :=
  lift (fun d => d.losesInput u.toNat) s

/-- DRAIN_COMPLETE: the work of a draining unit is done and its boundary has passed (R29). -/
def execDrainComplete (u : BitVec 12) (s : State) : Host.Outcome State Fault Refusal :=
  lift (fun d => if d.drainReady u.toNat then d.drained u.toNat else d) s

/-- DRAIN_TIMEOUT: 100 ms after the drain began (R29). -/
def execDrainTimeout (u : BitVec 12) (s : State) : Host.Outcome State Fault Refusal :=
  lift (fun d => if d.ustate u.toNat = 4 then (d.onDiscard u.toNat).drained u.toNat else d) s

/-- CABINET_WALK_STEP (R38, R39). -/
def execCabinetWalkStep (u : BitVec 12) (s : State) : Host.Outcome State Fault Refusal :=
  lift (fun d => d.walkStep u.toNat) s

/-- EVENT_HOLD_EXPIRE: 10 ms after the last event of its kind, a held one is posted (R45, R92, R111). -/
def execEventHoldExpire (k : HoldKey) (s : State) : Host.Outcome State Fault Refusal :=
  liftAon (fun d => match k with
    | .unit u => d.expireUnit u.toNat
    | .queue t q => d.expireQueue t.val q.val
    | .ring r => d.expireRing r.val) s

end Sys2Proof.Machine
end

