-- ==== Sys2Proof/Machine/Dispatch.lean ====
section
/-! DEFINITION. One arm per command: its meaning, or its refusal by name. -/
namespace Sys2Proof.Machine

def exec (i : Instr) (s : State) : Host.Outcome State Fault Refusal :=
  match i with
  | .registerWrite p addr bytes => Sys2Proof.Machine.execRegisterWrite p addr bytes s
  | .readClear p addr size => Sys2Proof.Machine.execReadClear p addr size s
  | .unitEvtWrite src u v => Sys2Proof.Machine.execUnitEvtWrite src u v s
  | .bitAliasAccess p x b w => Sys2Proof.Machine.execBitAliasAccess p x b w s
  | .stagedWriteApply u => Sys2Proof.Machine.execStagedWriteApply u s
  | .commitGo p reg v => Sys2Proof.Machine.execCommitGo p reg v s
  | .commitApply u set => Sys2Proof.Machine.execCommitApply u set s
  | .glbCommit p v => Sys2Proof.Machine.execGlbCommit p v s
  | .postedWriteComplete dom => Sys2Proof.Machine.execPostedWriteComplete dom s
  | .glbSnapGo p v => Sys2Proof.Machine.execGlbSnapGo p v s
  | .snapshotComplete => Sys2Proof.Machine.execSnapshotComplete s
  | .cfgScan => Sys2Proof.Machine.execCfgScan s
  | .cfgCrcCapture p v => Sys2Proof.Machine.execCfgCrcCapture p v s
  | .cfgRefWrite p v => Sys2Proof.Machine.execCfgRefWrite p v s
  | .softReset p v => Sys2Proof.Machine.execSoftReset p v s
  | .orderEnable src u => Sys2Proof.Machine.execOrderEnable src u s
  | .orderDisable src u => Sys2Proof.Machine.execOrderDisable src u s
  | .orderDrain src u => Sys2Proof.Machine.execOrderDrain src u s
  | .orderReset src u => Sys2Proof.Machine.execOrderReset src u s
  | .orderNone src u => Sys2Proof.Machine.execOrderNone src u s
  | .unitStandbyReached u => Sys2Proof.Machine.execUnitStandbyReached u s
  | .unitSyncingEntry u => Sys2Proof.Machine.execUnitSyncingEntry u s
  | .acquisitionComplete u => Sys2Proof.Machine.execAcquisitionComplete u s
  | .inputLost u => Sys2Proof.Machine.execInputLost u s
  | .drainComplete u => Sys2Proof.Machine.execDrainComplete u s
  | .drainTimeout u => Sys2Proof.Machine.execDrainTimeout u s
  | .cabinetWalkStep u => Sys2Proof.Machine.execCabinetWalkStep u s
  | .ownerWrite p u v => Sys2Proof.Machine.execOwnerWrite p u v s
  | .eventHoldExpire k => Sys2Proof.Machine.execEventHoldExpire k s
  | .functionLevelReset fn => Sys2Proof.Machine.execFunctionLevelReset fn s
  | .vfEnable n => Sys2Proof.Machine.execVfEnable n s
  | .d3hotEntry fn => Sys2Proof.Machine.execD3hotEntry fn s
  | .read addr n => Sys2Proof.Machine.execRead addr n s
  | .qread addr n => Sys2Proof.Machine.execQread addr n s
  | .write addr ws part => Sys2Proof.Machine.execWrite addr ws part s
  | .qwrite addr ws part => Sys2Proof.Machine.execQwrite addr ws part s
  | .status => Sys2Proof.Machine.execStatus s
  | .tenant v => Sys2Proof.Machine.execTenant v s
  | .spiUnknownCommand c => Sys2Proof.Machine.execSpiUnknownCommand c s
  | .hostBindWrite p w v => Sys2Proof.Machine.execHostBindWrite p w v s
  | .hostT0PathWrite p v => Sys2Proof.Machine.execHostT0PathWrite p v s
  | .queueEnable p t q v => Sys2Proof.Machine.execQueueEnable p t q v s
  | .queueDisable p t q v => Sys2Proof.Machine.execQueueDisable p t q v s
  | .sqTailWrite p t v => Sys2Proof.Machine.execSqTailWrite p t v s
  | .cqHeadWrite p t v => Sys2Proof.Machine.execCqHeadWrite p t v s
  | .eqHeadWrite p t v => Sys2Proof.Machine.execEqHeadWrite p t v s
  | .sqPortPost p t v => Sys2Proof.Machine.execSqPortPost p t v s
  | .cqPortConsume p t => Sys2Proof.Machine.execCqPortConsume p t s
  | .eqPortConsume p t => Sys2Proof.Machine.execEqPortConsume p t s
  | .userDbWrite p t v => Sys2Proof.Machine.execUserDbWrite p t v s
  | .commandFetch t ws => Sys2Proof.Machine.execCommandFetch t ws s
  | .run t ws => Sys2Proof.Machine.execRun t ws s
  | .inline t ws => Sys2Proof.Machine.execInline t ws s
  | .unitop t ws => Sys2Proof.Machine.execUnitop t ws s
  | .cmdFence t ws => Sys2Proof.Machine.execCmdFence t ws s
  | .completionPostDeferred t => Sys2Proof.Machine.execCompletionPostDeferred t s
  | .hchPtrWrite p t r v => Sys2Proof.Machine.execHchPtrWrite p t r v s
  | .hchPlaybackRead r block => Sys2Proof.Machine.execHchPlaybackRead r block s
  | .hchRecordWrite r => Sys2Proof.Machine.execHchRecordWrite r s
  | .add x dd a b hi => Sys2Proof.Machine.execAdd x dd a b hi s
  | .sub x dd a b hi => Sys2Proof.Machine.execSub x dd a b hi s
  | .and x dd a b hi => Sys2Proof.Machine.execAnd x dd a b hi s
  | .or x dd a b hi => Sys2Proof.Machine.execOr x dd a b hi s
  | .xor x dd a b hi => Sys2Proof.Machine.execXor x dd a b hi s
  | .shl x dd a b hi => Sys2Proof.Machine.execShl x dd a b hi s
  | .shr x dd a b hi => Sys2Proof.Machine.execShr x dd a b hi s
  | .sar x dd a b hi => Sys2Proof.Machine.execSar x dd a b hi s
  | .mul x dd a b hi => Sys2Proof.Machine.execMul x dd a b hi s
  | .mulh x dd a b hi => Sys2Proof.Machine.execMulh x dd a b hi s
  | .min x dd a b hi => Sys2Proof.Machine.execMin x dd a b hi s
  | .max x dd a b hi => Sys2Proof.Machine.execMax x dd a b hi s
  | .clz x dd a b hi => Sys2Proof.Machine.execClz x dd a b hi s
  | .addi x dd a imm => Sys2Proof.Machine.execAddi x dd a imm s
  | .andi x dd a imm => Sys2Proof.Machine.execAndi x dd a imm s
  | .ori x dd a imm => Sys2Proof.Machine.execOri x dd a imm s
  | .xori x dd a imm => Sys2Proof.Machine.execXori x dd a imm s
  | .lui x dd a imm => Sys2Proof.Machine.execLui x dd a imm s
  | .beq x a b off => Sys2Proof.Machine.execBeq x a b off s
  | .bne x a b off => Sys2Proof.Machine.execBne x a b off s
  | .blt x a b off => Sys2Proof.Machine.execBlt x a b off s
  | .bge x a b off => Sys2Proof.Machine.execBge x a b off s
  | .bltu x a b off => Sys2Proof.Machine.execBltu x a b off s
  | .bgeu x a b off => Sys2Proof.Machine.execBgeu x a b off s
  | .jal x off => Sys2Proof.Machine.execJal x off s
  | .jr x dd a b fn => Sys2Proof.Machine.execJr x dd a b fn s
  | .loop x dd a imm => Sys2Proof.Machine.execLoop x dd a imm s
  | .ldw x dd a imm => Sys2Proof.Machine.execLdw x dd a imm s
  | .ldh x dd a imm => Sys2Proof.Machine.execLdh x dd a imm s
  | .ldhu x dd a imm => Sys2Proof.Machine.execLdhu x dd a imm s
  | .ldb x dd a imm => Sys2Proof.Machine.execLdb x dd a imm s
  | .ldbu x dd a imm => Sys2Proof.Machine.execLdbu x dd a imm s
  | .stw x dd a imm => Sys2Proof.Machine.execStw x dd a imm s
  | .sth x dd a imm => Sys2Proof.Machine.execSth x dd a imm s
  | .stb x dd a imm => Sys2Proof.Machine.execStb x dd a imm s
  | .ldv x dd a imm => Sys2Proof.Machine.execLdv x dd a imm s
  | .stv x dd a imm => Sys2Proof.Machine.execStv x dd a imm s
  | .sld x dd a b fn => Sys2Proof.Machine.execSld x dd a b fn s
  | .sst x dd a b fn => Sys2Proof.Machine.execSst x dd a b fn s
  | .stag x dd a b fn => Sys2Proof.Machine.execStag x dd a b fn s
  | .tagmax x dd a b fn => Sys2Proof.Machine.execTagmax x dd a b fn s
  | .vadd x dd a b m => Sys2Proof.Machine.execVadd x dd a b m s
  | .vsub x dd a b m => Sys2Proof.Machine.execVsub x dd a b m s
  | .vmul x dd a b m => Sys2Proof.Machine.execVmul x dd a b m s
  | .vmac x dd a b m => Sys2Proof.Machine.execVmac x dd a b m s
  | .vrnd x dd a b m => Sys2Proof.Machine.execVrnd x dd a b m s
  | .vgain x dd a b m => Sys2Proof.Machine.execVgain x dd a b m s
  | .vabs x dd a b m => Sys2Proof.Machine.execVabs x dd a b m s
  | .vmax x dd a b m => Sys2Proof.Machine.execVmax x dd a b m s
  | .vsel x dd a b m => Sys2Proof.Machine.execVsel x dd a b m s
  | .vsplat x dd a b m => Sys2Proof.Machine.execVsplat x dd a b m s
  | .vcvtf x dd a b m => Sys2Proof.Machine.execVcvtf x dd a b m s
  | .vcvti x dd a b m => Sys2Proof.Machine.execVcvti x dd a b m s
  | .vfadd x dd a b m => Sys2Proof.Machine.execVfadd x dd a b m s
  | .vfmul x dd a b m => Sys2Proof.Machine.execVfmul x dd a b m s
  | .vfmac x dd a b m => Sys2Proof.Machine.execVfmac x dd a b m s
  | .uget x dd a imm => Sys2Proof.Machine.execUget x dd a imm s
  | .uset x dd a imm => Sys2Proof.Machine.execUset x dd a imm s
  | .ucmd x dd a imm => Sys2Proof.Machine.execUcmd x dd a imm s
  | .uwait x dd a imm => Sys2Proof.Machine.execUwait x dd a imm s
  | .unitOpDone x => Sys2Proof.Machine.execUnitOpDone x s
  | .uwaitTimeout x => Sys2Proof.Machine.execUwaitTimeout x s
  | .qput x dd a b fn => Sys2Proof.Machine.execQput x dd a b fn s
  | .qget x dd a b fn => Sys2Proof.Machine.execQget x dd a b fn s
  | .qcred x dd a b fn => Sys2Proof.Machine.execQcred x dd a b fn s
  | .arm x dd a b fn => Sys2Proof.Machine.execArm x dd a b fn s
  | .waitev x dd a imm => Sys2Proof.Machine.execWaitev x dd a imm s
  | .tickwait x dd a b fn => Sys2Proof.Machine.execTickwait x dd a b fn s
  | .time x dd a b fn => Sys2Proof.Machine.execTime x dd a b fn s
  | .snap x dd a b fn => Sys2Proof.Machine.execSnap x dd a b fn s
  | .nop x dd a b => Sys2Proof.Machine.execNop x dd a b s
  | .fence x dd a b => Sys2Proof.Machine.execFence x dd a b s
  | .halt x dd a b => Sys2Proof.Machine.execHalt x dd a b s
  | .wait x dd a b => Sys2Proof.Machine.execWait x dd a b s
  | .trap x dd a b code => Sys2Proof.Machine.execTrap x dd a b code s
  | .csrr x dd a imm => Sys2Proof.Machine.execCsrr x dd a imm s
  | .csrw x dd a imm => Sys2Proof.Machine.execCsrw x dd a imm s
  | .xret x a => Sys2Proof.Machine.execXret x a s
  | .timerExpire k => Sys2Proof.Machine.execTimerExpire k s
  | .tickBudgetExpire e => Sys2Proof.Machine.execTickBudgetExpire e s
  | .eload p t v => Sys2Proof.Machine.execEload p t v s
  | .eloadComplete t => Sys2Proof.Machine.execEloadComplete t s
  | .triggerFire t n => Sys2Proof.Machine.execTriggerFire t n s
  | .runStart t => Sys2Proof.Machine.execRunStart t s
  | .gclSwitch n => Sys2Proof.Machine.execGclSwitch n s
  | .gateEntryAdvance n => Sys2Proof.Machine.execGateEntryAdvance n s
  | .lcPllTimeout n => Sys2Proof.Machine.execLcPllTimeout n s
  | .linkHoldExpire n => Sys2Proof.Machine.execLinkHoldExpire n s
  | .linkDown n cause => Sys2Proof.Machine.execLinkDown n cause s
  | .rxFrame n o fcsOk sym corr uncorr => Sys2Proof.Machine.execRxFrame n o fcsOk sym corr uncorr s
  | .pauseExpire n c => Sys2Proof.Machine.execPauseExpire n c s
  | .pauseWd n c => Sys2Proof.Machine.execPauseWd n c s
  | .holdoffExpire n c => Sys2Proof.Machine.execHoldoffExpire n c s
  | .txEnqueue n => Sys2Proof.Machine.execTxEnqueue n s
  | .txFrameStart n => Sys2Proof.Machine.execTxFrameStart n s
  | .txFrameDone n => Sys2Proof.Machine.execTxFrameDone n s
  | .preemptVerify n ok => Sys2Proof.Machine.execPreemptVerify n ok s
  | .stcRealign n => Sys2Proof.Machine.execStcRealign n s
  | .spqHeadWrite p q v => Sys2Proof.Machine.execSpqHeadWrite p q v s
  | .ltxTailWrite p t v => Sys2Proof.Machine.execLtxTailWrite p t v s
  | .ltxDescriptorDone t => Sys2Proof.Machine.execLtxDescriptorDone t s
  | .wakePatternHit f => Sys2Proof.Machine.execWakePatternHit f s
  | .tokenEmit k => Sys2Proof.Machine.execTokenEmit k s
  | .rxToken k => Sys2Proof.Machine.execRxToken k s
  | .tokenReturn k => Sys2Proof.Machine.execTokenReturn k s
  | .managerElectionTimeout k => Sys2Proof.Machine.execManagerElectionTimeout k s
  | .ringTokenLoss k => Sys2Proof.Machine.execRingTokenLoss k s
  | .passThrough k => Sys2Proof.Machine.execPassThrough k s
  | .windowStart k => Sys2Proof.Machine.execWindowStart k s
  | .rxBlock k => Sys2Proof.Machine.execRxBlock k s
  | .rxAsync k => Sys2Proof.Machine.execRxAsync k s
  | .echoSend k => Sys2Proof.Machine.execEchoSend k s
  | .rxEcho k => Sys2Proof.Machine.execRxEcho k s
  | .censusStart k => Sys2Proof.Machine.execCensusStart k s
  | .censusPeriodExpire k => Sys2Proof.Machine.execCensusPeriodExpire k s
  | .rxCensus k => Sys2Proof.Machine.execRxCensus k s
  | .censusReturn k => Sys2Proof.Machine.execCensusReturn k s
  | .tableSend k => Sys2Proof.Machine.execTableSend k s
  | .ringWrap k west => Sys2Proof.Machine.execRingWrap k west s
  | .ringUnwrap k => Sys2Proof.Machine.execRingUnwrap k s
  | .switchFrame => Sys2Proof.Machine.execSwitchFrame s
  | .fdbWrite p v => Sys2Proof.Machine.execFdbWrite p v s
  | .fdbDelete p v => Sys2Proof.Machine.execFdbDelete p v s
  | .fdbLookup p v => Sys2Proof.Machine.execFdbLookup p v s
  | .fdbRead p v => Sys2Proof.Machine.execFdbRead p v s
  | .fdbFlush p v => Sys2Proof.Machine.execFdbFlush p v s
  | .fdbOpComplete => Sys2Proof.Machine.execFdbOpComplete s
  | .fdbAgeExpire j => Sys2Proof.Machine.execFdbAgeExpire j s
  | .rxStreamPacket f => Sys2Proof.Machine.execRxStreamPacket f s
  | .flowHoldExpire f => Sys2Proof.Machine.execFlowHoldExpire f s
  | .legDown f leg => Sys2Proof.Machine.execLegDown f leg s
  | .flowPacketRelease f => Sys2Proof.Machine.execFlowPacketRelease f s
  | .tickStart m c e => Sys2Proof.Machine.execTickStart m c e s
  | .auditCheck => Sys2Proof.Machine.execAuditCheck s
  | .timeSet p v => Sys2Proof.Machine.execTimeSet p v s
  | .timeStep p v => Sys2Proof.Machine.execTimeStep p v s
  | .timeCmdApply => Sys2Proof.Machine.execTimeCmdApply s
  | .timeAdjWrite p v => Sys2Proof.Machine.execTimeAdjWrite p v s
  | .stcRead p => Sys2Proof.Machine.execStcRead p s
  | .servoOfsWrite p v => Sys2Proof.Machine.execServoOfsWrite p v s
  | .servoRingSample => Sys2Proof.Machine.execServoRingSample s
  | .servoHoldover => Sys2Proof.Machine.execServoHoldover s
  | .ppsOutEdge => Sys2Proof.Machine.execPpsOutEdge s
  | .ppsOutEnd => Sys2Proof.Machine.execPpsOutEnd s
  | .ppsInEdge fall => Sys2Proof.Machine.execPpsInEdge fall s
  | .ppsInRead p => Sys2Proof.Machine.execPpsInRead p s
  | .mcsCountRead p m => Sys2Proof.Machine.execMcsCountRead p m s
  | .tickSizeChange m => Sys2Proof.Machine.execTickSizeChange m s
  | .mclkPllTimeout m => Sys2Proof.Machine.execMclkPllTimeout m s
  | .mclkLock m => Sys2Proof.Machine.execMclkLock m s
  | .mclkBypass m => Sys2Proof.Machine.execMclkBypass m s
  | .mclkHandback m p => Sys2Proof.Machine.execMclkHandback m p s
  | .mcsCalGo p m v => Sys2Proof.Machine.execMcsCalGo p m v s
  | .mcsCalDone m fmin fmax => Sys2Proof.Machine.execMcsCalDone m fmin fmax s
  | .rateMeterGate j edges span => Sys2Proof.Machine.execRateMeterGate j edges span s
  | .frameSync g bclks ins => Sys2Proof.Machine.execFrameSync g bclks ins s
  | .portBlockTransfer g => Sys2Proof.Machine.execPortBlockTransfer g s
  | .apgFrameRead p g => Sys2Proof.Machine.execApgFrameRead p g s
  | .groupClkLost g => Sys2Proof.Machine.execGroupClkLost g s
  | .decimSettled k => Sys2Proof.Machine.execDecimSettled k s
  | .bridgeLock b ratio phase => Sys2Proof.Machine.execBridgeLock b ratio phase s
  | .regionSwap src r v => Sys2Proof.Machine.execRegionSwap src r v s
  | .swapCaptureDone r => Sys2Proof.Machine.execSwapCaptureDone r s
  | .regionWdataWrite src r v => Sys2Proof.Machine.execRegionWdataWrite src r v s
  | .loudnessRestart p c v => Sys2Proof.Machine.execLoudnessRestart p c v s
  | .histogramClear p f v => Sys2Proof.Machine.execHistogramClear p f v s
  | .pwrCmdActive p v => Sys2Proof.Machine.execPwrCmdActive p v s
  | .pwrCmdQuiet p v => Sys2Proof.Machine.execPwrCmdQuiet p v s
  | .pwrCmdRetain p v => Sys2Proof.Machine.execPwrCmdRetain p v s
  | .pwrCmdListen p v => Sys2Proof.Machine.execPwrCmdListen p v s
  | .entryCommit core sram => Sys2Proof.Machine.execEntryCommit core sram s
  | .wakeIn level => Sys2Proof.Machine.execWakeIn level s
  | .pcieWake => Sys2Proof.Machine.execPcieWake s
  | .wakeTimerExpire => Sys2Proof.Machine.execWakeTimerExpire s
  | .mspiWake => Sys2Proof.Machine.execMspiWake s
  | .retainExit => Sys2Proof.Machine.execRetainExit s
  | .listenExit => Sys2Proof.Machine.execListenExit s
  | .pwrWakeAck p v => Sys2Proof.Machine.execPwrWakeAck p v s
  | .domainPowerRequest p v => Sys2Proof.Machine.execDomainPowerRequest p v s
  | .domainPowerDone j ok => Sys2Proof.Machine.execDomainPowerDone j ok s
  | .oppRequest p v => Sys2Proof.Machine.execOppRequest p v s
  | .oppFreqSwitch => Sys2Proof.Machine.execOppFreqSwitch s
  | .oppVoutTaken e => Sys2Proof.Machine.execOppVoutTaken e s
  | .oppPowerGood e w => Sys2Proof.Machine.execOppPowerGood e w s
  | .oppPowerGoodTimeout => Sys2Proof.Machine.execOppPowerGoodTimeout s
  | .errAck p v => Sys2Proof.Machine.execErrAck p v s
  | .errRestart p v => Sys2Proof.Machine.execErrRestart p v s
  | .errRestartDone => Sys2Proof.Machine.execErrRestartDone s
  | .logDeferredAppend => Sys2Proof.Machine.execLogDeferredAppend s
  | .peatRead p v => Sys2Proof.Machine.execPeatRead p v s
  | .peatWrite p v => Sys2Proof.Machine.execPeatWrite p v s
  | .peatAccessDone => Sys2Proof.Machine.execPeatAccessDone s
  | .keyLoad p v => Sys2Proof.Machine.execKeyLoad p v s
  | .keyErase p v => Sys2Proof.Machine.execKeyErase p v s
  | .keyGenerate p v => Sys2Proof.Machine.execKeyGenerate p v s
  | .keyCmdDone => Sys2Proof.Machine.execKeyCmdDone s
  | .secLockWrite p v => Sys2Proof.Machine.execSecLockWrite p v s
  | .fuseProgram p v => Sys2Proof.Machine.execFuseProgram p v s
  | .secMinSvnWrite p v => Sys2Proof.Machine.execSecMinSvnWrite p v s
  | .debugOpen p v => Sys2Proof.Machine.execDebugOpen p v s
  | .debugEraseDone fail => Sys2Proof.Machine.execDebugEraseDone fail s
  | .regacc => Sys2Proof.Machine.execRegacc s
  | .fragalStart p v => Sys2Proof.Machine.execFragalStart p v s
  | .fragalArmComplete => Sys2Proof.Machine.execFragalArmComplete s
  | .fragalStop p v => Sys2Proof.Machine.execFragalStop p v s
  | .checkpoint p v => Sys2Proof.Machine.execCheckpoint p v s
  | .checkpointPeriodExpire => Sys2Proof.Machine.execCheckpointPeriodExpire s
  | .checkpointDone => Sys2Proof.Machine.execCheckpointDone s
  | .digestIntervalClose => Sys2Proof.Machine.execDigestIntervalClose s
  | .fragalReplayStart p v chunks => Sys2Proof.Machine.execFragalReplayStart p v chunks s
  | .frgHostptrWrite p v => Sys2Proof.Machine.execFrgHostptrWrite p v s
  | .frgOcbDataAccess p w => Sys2Proof.Machine.execFrgOcbDataAccess p w s
  | .traceTailDone => Sys2Proof.Machine.execTraceTailDone s
  | .supplyTrip => Sys2Proof.Machine.execSupplyTrip s
  | .resetNAssert => Sys2Proof.Machine.execResetNAssert s
  | .resetRelease boot hostif => Sys2Proof.Machine.execResetRelease boot hostif s
  | .resetSequenceComplete => Sys2Proof.Machine.execResetSequenceComplete s
  | .perstAssert => Sys2Proof.Machine.execPerstAssert s
  | .perstRelease => Sys2Proof.Machine.execPerstRelease s
  | .bootImageReadDone image => Sys2Proof.Machine.execBootImageReadDone image s
  | .loadTableEntry expired => Sys2Proof.Machine.execLoadTableEntry expired s
  | .bootComplete => Sys2Proof.Machine.execBootComplete s
  | .thermSample t0 t1 t2 t3 => Sys2Proof.Machine.execThermSample t0 t1 t2 t3 s
  | .thermShutdown => Sys2Proof.Machine.execThermShutdown s
  | .thermRecover boot hostif => Sys2Proof.Machine.execThermRecover boot hostif s
  | .gpioEdge j level => Sys2Proof.Machine.execGpioEdge j level s
  | .gpioSet p v => Sys2Proof.Machine.execGpioSet p v s
  | .gpioClr p v => Sys2Proof.Machine.execGpioClr p v s
  | .pmbSendByte p v => Sys2Proof.Machine.execPmbSendByte p v s
  | .pmbWriteByte p v => Sys2Proof.Machine.execPmbWriteByte p v s
  | .pmbWriteWord p v => Sys2Proof.Machine.execPmbWriteWord p v s
  | .pmbReadByte p v => Sys2Proof.Machine.execPmbReadByte p v s
  | .pmbReadWord p v => Sys2Proof.Machine.execPmbReadWord p v s
  | .pmbXferDone e data => Sys2Proof.Machine.execPmbXferDone e data s
  | .pcsLock n an partner => Sys2Proof.Machine.execPcsLock n an partner s
  | .tokenMiss k => Sys2Proof.Machine.execTokenMiss k s
  | .rxTable k => Sys2Proof.Machine.execRxTable k s
  | .vddioSupplyLoss b => Sys2Proof.Machine.execVddioSupplyLoss b s
  | .vddioSupplyReturn b v33 => Sys2Proof.Machine.execVddioSupplyReturn b v33 s
  | .registerWindowDone x => Sys2Proof.Machine.execRegisterWindowDone x s
  | .fuseProgramDone => Sys2Proof.Machine.execFuseProgramDone s
  | .replayRecordRelease more => Sys2Proof.Machine.execReplayRecordRelease more s
  | .tapTransition tms tdi => Sys2Proof.Machine.execTapTransition tms tdi s

end Sys2Proof.Machine
end

