-- ==== Sys2Proof/Machine/Idle.lean ====
section
/-! DEFINITION. A cycle of the TIME island in which no command is carried out (R293): what a step on an empty queue does (log 1). -/
namespace Sys2Proof.Machine

/-- The STC advances by 1 + A × 2⁻³² ns (R293), A being `TIME_ADJ` clamped (R297). -/
def Dev.stcCycle (d : Dev) : Dev :=
  let a : Int := max (-2147483) (min 2147483 (toSigned 32 (d.rd F.TIME_ADJ_ADJ)))
  let fine : Nat := (((d.time.ns * 2 ^ 32 + d.time.frac.toNat + 2 ^ 32 : Nat) : Int) + a).toNat
  let second : Nat := 1000000000 * 2 ^ 32
  let carry := second ≤ fine
  let fine := if carry then fine - second else fine
  { d with time := { d.time with
      sec := if carry then d.time.sec + 1 else d.time.sec, ns := fine / 2 ^ 32, frac := BitVec.ofNat 32 fine } }

/-- The counters of nanoseconds (R212, R327): synthesizers on the bypass clock or locked, links with a class stopped. -/
def Dev.timeCounters (d : Dev) : Dev :=
  let d := d.each (List.range 8) (fun d m =>
    let d := if d.on (F.MCS_STATUS_BYPASS m) then d.count (Ctr.MCS m Mc.BYPASS_NS) 1 else d
    if d.on (F.MCS_STATUS_LOCKED m) then d.count (Ctr.MCS m Mc.LOCKED_NS) 1 else d)
  d.each (d.links.map (·.1)) (fun d n =>
    if (d.link n).pauseMask ≠ 0 || (d.link n).pfcMask ≠ 0 then d.linkCount n Lc.PAUSED_NS 1 else d)

/-- One nanosecond passes: the STC counts while the TIME island is powered and out of reset (R293). -/
def Dev.cycle (d : Dev) : Dev :=
  let d := { d with clk := d.clk + 1 }
  if d.inReset || !d.island 3 then d else d.stcCycle.timeCounters

end Sys2Proof.Machine
end

