-- ==== Sys2Proof/Safety.lean ====
section
/-! DEFINITION. What counts as a safe run, and the terms the statements use: when nothing of a command is left over, what a command may
be given. -/
namespace Sys2Proof.Machine

/-- A step that goes on. -/
def goesOn (s : State) : Prop := ∃ t, step s = .next t

/-- Between commands: the engine memories are in their canonical form, no write to them and no summary is left to be carried out,
and the rising edges of `GLB_EVT_SUMMARY` have been signalled (R76). -/
def State.AtRest (s : State) : Prop :=
  Memory.wf s.mem = true ∧ s.dev.memw = [] ∧ s.dev.nudge = [] ∧ s.dev.host.sumPrev = s.dev.summary

/-- The device is out of reset (R459), and between commands. -/
def State.Up (s : State) : Prop := s.AtRest ∧ s.dev.inReset = false

/-- CORE runs (R47, R382), out of reset, between commands. -/
def State.CoreUp (s : State) : Prop := s.Up ∧ s.dev.coreOn = true

/-- The command answers a next state, of which `P` holds. -/
def Completes (c : Instr) (s : State) (P : State → Prop) : Prop := ∃ t, exec c s = .next t ∧ P t

/-- A context may carry out an instruction that reads these sources: it may issue it now, pc names a word of its program, and on a signal
engine the sources are ready within the budget (R118, R123, R124, R156). -/
def State.Issues (s : State) (x : Nat) (srcs : List Nat) : Prop :=
  s.CoreUp ∧ s.dev.mayIssue x = true ∧ (s.dev.ctx x).atInlineEnd x = false ∧ (s.dev.ctx x).pc.toNat < (s.dev.ctx x).limit x ∧
    (isSignal x = true → (s.dev.ctx x).readyAt srcs < (s.dev.ctx x).budget)

/-- Only the engine context `x` differs. -/
def OnlyCtx (x : Nat) (s t : State) : Prop :=
  t = { s with dev := { s.dev with ctxs := t.dev.ctxs } } ∧ ∀ y, y ≠ x → t.dev.ctx y = s.dev.ctx y

/-- pc has moved on by one word, where no open loop ends here; else as R125 says. -/
def MovesOn (c c' : Ctx) : Prop :=
  c'.pc = c.advance.pc ∧ c'.loops = c.advance.loops ∧ ((∀ l ∈ c.loops, l.stop ≠ c.pc) → c'.pc = c.pc + 4 ∧ c'.loops = c.loops)

/-- The cycles of an instruction that issues in `n` when its sources are ready (R123). -/
def Spends (c c' : Ctx) (srcs : List Nat) (n : Nat) : Prop := c'.cycles = min (c.readyAt srcs + n) 0xFFFFFFFF

/-- Register `dd` gets `v` unless it is g0; pc moves on; every other register and CSR of the context stays, and all else of the
machine. -/
def WritesG (s : State) (x dd : Nat) (srcs : List Nat) (v : Word) (t : State) : Prop :=
  let c := s.dev.ctx x
  let c' := t.dev.ctx x
  OnlyCtx x s t ∧ (∀ n, c'.gr n = if n = dd ∧ n ≠ 0 then v else c.gr n) ∧ MovesOn c c' ∧ Spends c c' srcs 1 ∧
    c' = { c with g := c'.g, pc := c'.pc, loops := c'.loops, cycles := c'.cycles, ready := c'.ready }

/-- Execution goes to `target` in `n` cycles; register `gd` gets pc + 4 unless it is g0 (or none where `gd` is 0); the open loops are those
given; every other register and CSR of the context stays, and all else of the machine. -/
def GoesTo (s : State) (x : Nat) (srcs : List Nat) (n gd : Nat) (target : Word) (loops : List LoopLevel) (t : State) : Prop :=
  let c := s.dev.ctx x
  let c' := t.dev.ctx x
  OnlyCtx x s t ∧ c'.pc = target ∧ (∀ k, c'.gr k = if k = gd ∧ k ≠ 0 then c.pc + 4 else c.gr k) ∧ Spends c c' srcs n ∧
    c'.loops = loops ∧ c' = { c with g := c'.g, pc := c'.pc, loops := c'.loops, cycles := c'.cycles, ready := c'.ready }

/-- The loops that stay open at a taken branch or jump: those from the innermost whose body holds the target outwards (R125). -/
def Ctx.loopsTo (c : Ctx) (target : Word) : List LoopLevel := (loopsAt target c.loops.reverse).reverse

/-- A conditional branch completes (R123, R125): taken in 3 cycles, with the target within instruction memory, or not taken in 1. -/
def Branches (i : Fin 96 → Fin 32 → Fin 32 → BitVec 16 → Instr) (p : Word → Word → Bool) : Prop :=
  ∀ (s : State) (x : Fin 96) (a b : Fin 32) (off : BitVec 16),
    let c := s.dev.ctx x
    let target := c.pc + off.signExtend 32 <<< 2
    s.Issues x [a.val, b.val] → c.endsBody = false →
      (p (c.gr a) (c.gr b) = true → target.toNat < c.limit x →
        Completes (i x a b off) s (GoesTo s x [a, b] 3 0 target (c.loopsTo target))) ∧
      (p (c.gr a) (c.gr b) = false → Completes (i x a b off) s (GoesTo s x [a, b] 1 0 (c.pc + 4) c.loops))

/-- Where an octet of an engine's own address space lies in the engine memories (R150). -/
def engineByte (s : State) (x : Nat) (ad : Word) (i : Nat) : Byte := memByte s.mem (engineBase x + ad.toNat + i)

/-- The context and the engine memories alone differ; of the memories, the octets `bs` stand at engine address `ad`. -/
def StoresAt (s : State) (x : Nat) (ad : Word) (bs : List Byte) (t : State) : Prop :=
  t = { s with mem := t.mem, dev := { s.dev with ctxs := t.dev.ctxs } } ∧ (∀ y, y ≠ x → t.dev.ctx y = s.dev.ctx y) ∧
    ∀ b, memByte t.mem b =
      if engineBase x + ad.toNat ≤ b ∧ b < engineBase x + ad.toNat + bs.length
      then bs.getD (b - (engineBase x + ad.toNat)) 0 else memByte s.mem b

/-- What a store does to its context: pc and the cycles move on. -/
def StoreMovesOn (s : State) (x : Nat) (srcs : List Nat) (t : State) : Prop :=
  let c := s.dev.ctx x
  let c' := t.dev.ctx x
  MovesOn c c' ∧ Spends c c' srcs 1 ∧ c' = { c with pc := c'.pc, loops := c'.loops, cycles := c'.cycles, ready := c'.ready }

/-- Vector register `dd` gets `r i` in every lane that is not masked, the flags of those lanes are set, and stay set (R131, R132);
every other register and CSR of the context stays, and all else of the machine. -/
def WritesV (s : State) (x dd : Nat) (srcs : List Nat) (on : Nat → Bool) (r : Nat → Word × Nat) (t : State) : Prop :=
  let c := s.dev.ctx x
  let c' := t.dev.ctx x
  OnlyCtx x s t ∧
    (∀ k i, i < 4 → c'.lane k i = if k = dd ∧ on i = true then (r i).1 else c.lane k i) ∧
    (∀ b, c'.vstat.testBit b = (c.vstat.testBit b || [0, 1, 2, 3].any (fun i => on i && (r i).2.testBit b))) ∧
    MovesOn c c' ∧ Spends c c' srcs 1 ∧
    c' = { c with v := c'.v, vstat := c'.vstat, pc := c'.pc, loops := c'.loops, cycles := c'.cycles, ready := c'.ready }

/-- A Q1.31 result: the exact value where the format holds it, else the nearer limit with SAT (R120). -/
def Clamped (z : Int) (r : Word × Nat) : Prop :=
  r.1.toInt = max (-2147483648) (min 2147483647 z) ∧ r.2 = if r.1.toInt = z then 0 else Vs.SAT

/-- An accumulator lane's result: the exact value where Q10.54 holds it, else the nearer limit with ASAT (R120). -/
def ClampedAcc (z : Int) (r : Dword × Nat) : Prop :=
  r.1.toInt = max (-9223372036854775808) (min 9223372036854775807 z) ∧ r.2 = if r.1.toInt = z then 0 else Vs.ASAT

/-- The exception `code` has been taken and a handler runs: cause, return address and detail are written, the open loops are in the
hidden copy, pc is the handler's, four cycles are spent; nothing else of the context changes (R147). -/
def EntersHandler (c : Ctx) (code : Nat) (addr info : Word) (c' : Ctx) : Prop :=
  c' = { c with excCause := code, excAddr := addr, excInfo := info, excActive := true, hidden := c.loops, loops := [],
                pc := c.excVec, cycles := min (c.cycles + 4) 0xFFFFFFFF }

/-- A handler exists (R147). -/
def Ctx.hasHandler (c : Ctx) : Prop := c.excVec ≠ 0 ∧ c.excActive = false

/-! ### Accesses to the register map -/

/-- A word that the events of units and tenants change: `UNIT_EVT` of a unit, a tenant's page (R45, R92, R111). -/
def evtWord (a : Nat) : Prop := (0x10000 ≤ a ∧ a < 0x50000 ∧ a % 0x40 = 0x10) ∨ (0x400000 ≤ a ∧ a < 0x600000)

/-- A word that counts writes of non-zero bits to reserved fields (R12, R50). -/
def rsvWord (a : Nat) : Prop := a = A.GLB_RSV_WRITES ∨ (0x10000 ≤ a ∧ a < 0x50000 ∧ a % 0x40 = 0x2C)

/-- The register interface takes a write of the word at map address `a` on the path `p` (R48–R50, R75): the path is up and leads there, the
write is no bus error, and no recording holds it (R441). -/
def State.TakesWrite (s : State) (p : Path) (a : Nat) : Prop :=
  s.Up ∧ toMap p = true ∧ s.dev.pathUp p = true ∧ s.dev.route p (s.dev.pathAddr p a) = .map a ∧
    s.dev.requestError p a 4 true = none ∧ s.dev.rd F.FRG_STATUS_STATE ≠ Frg.RECORDING

/-- The register interface answers a read of the word at map address `a` on the path `p`. -/
def State.TakesRead (s : State) (p : Path) (a : Nat) : Prop :=
  s.Up ∧ toMap p = true ∧ s.dev.pathUp p = true ∧ s.dev.route p (s.dev.pathAddr p a) = .map a ∧ s.dev.requestError p a 4 false = none

/-- Registers alone differ, and of them the words of `P` alone; an edge of `GLB_EVT_SUMMARY` may have been signalled (R76). -/
def OnlyRegs (P : Nat → Prop) (s t : State) : Prop :=
  t = { s with dev := { s.dev with
        regs := t.dev.regs, host := { s.dev.host with pba := t.dev.host.pba, sumPrev := t.dev.host.sumPrev }, out := t.dev.out } } ∧
    ∀ a, ¬ P a → t.dev.reg a = s.dev.reg a

/-- Of the register words those of `P` alone differ, but for what events change; the engine memories, the fuses and the queue stay. -/
def RegFrame (P : Nat → Prop) (s t : State) : Prop :=
  (∀ a, ¬ P a → ¬ evtWord a → t.dev.reg a = s.dev.reg a) ∧ t.mem = s.mem ∧ t.fuses = s.fuses ∧ t.pending = s.pending

/-- The data of a read have left on a path. -/
def Answers (p : Path) (w : Word) (s t : State) : Prop := Output.data p [w] ∈ t.dev.out ∧ s.dev.out <+: t.dev.out

/-- A 64-bit counter has counted `n`; it saturates (R66). -/
def Counted (a n : Nat) (s t : State) : Prop := t.dev.stat64 a = min (s.dev.stat64 a + n) (2 ^ 64 - 1)

/-! ### Units -/

/-- CORE runs, nothing waits for a boundary, no order runs or stands, nobody waits for a unit, and every parent is a cabinet (R37, R51,
R112). -/
def State.Quiet (s : State) : Prop :=
  s.CoreUp ∧ s.dev.staged = [] ∧ s.dev.held = [] ∧ s.dev.accepted = [] ∧ s.dev.stands = [] ∧ s.dev.walks = [] ∧ s.dev.waits = [] ∧
    ∀ v, v < 0x1000 → isCabinet (s.dev.parent v) = true

end Sys2Proof.Machine
end

