-- ==== Sys2Proof/Certificates/Slice0/Obligations.lean ====
section
/-! DEFINITION. The statements for the provers. Each is about the machine in every state that meets its hypotheses; none is about a program. -/

open Sys2Proof Sys2Proof.Machine

/-- A step runs the command in front. -/
def Obligations.StepTakesTheFrontCommand : Prop :=
  ∀ (s : State) (c : Instr) (rest : List Instr), step { s with pending := c :: rest } = exec c { s with pending := rest }

/-- One cycle of the TIME island. -/
def Obligations.IdleStepCountsOneCycle : Prop :=
  ∀ (s : State), s.pending = [] → s.dev.inReset = false → s.dev.island 3 = true → s.dev.time.ns < 1000000000 →
    ∃ t, step s = .next t ∧ t.dev.time.ns < 1000000000 ∧
      (t.dev.stcFine : Int) % (2 ^ 48 * 1000000000 * 2 ^ 32) =
        (s.dev.stcFine + 2 ^ 32 + max (-2147483) (min 2147483 (s.dev.reg A.TIME_ADJ).toInt)) % (2 ^ 48 * 1000000000 * 2 ^ 32) ∧
      t = { s with dev := { s.dev with
        clk := s.dev.clk + 1, stat := t.dev.stat,
        time := { s.dev.time with sec := t.dev.time.sec, ns := t.dev.time.ns, frac := t.dev.time.frac } } }

/-- The machine is at rest between commands. -/
def Obligations.StepKeepsAtRest : Prop := ∀ (s t : State), s.AtRest → step s = .next t → t.AtRest

/-- What reset leaves. -/
def Obligations.ResetStateAsTheSpecGives : Prop :=
  State.reset.CoreUp ∧ State.reset.pending = [] ∧ State.reset.mem = [] ∧ State.reset.dev.stcFine = 0 ∧ State.reset.dev.power = 0 ∧
    (∀ u ∈ [0, 0x010, 0x040, 0x0FC], State.reset.dev.ustate u = 0 ∧ State.reset.dev.rd (F.UNIT_OWNER_OWNER u) = 0 ∧
      State.reset.dev.parent u = 0 ∧ State.reset.dev.rd (F.UNIT_CMD_BUSY u) = 0) ∧
    State.reset.dev.reg A.MGT_RESET_CAUSE = 1 ∧ State.reset.dev.rd F.MGT_BOOT_STATUS_STATE = 3

/-- One-time programmable. -/
def Obligations.FusesAreProgrammedOnce : Prop :=
  ∀ (s t : State), step s = .next t → t.fuses = s.fuses ∨
    (s.fuses.programmed = false ∧ s.dev.sec.fusing = true ∧ (∃ rest, s.pending = .fuseProgramDone :: rest) ∧
      t.fuses = { programmed := true, hash := (List.range 8).map (fun i => s.dev.reg (A.SEC_FUSE_STAGE i)) })

/-- The result of each INT instruction, and its frame. -/
def Obligations.IntInstructionsWriteTheirResult : Prop :=
  ∀ (s : State) (x : Fin 96) (dd a b : Fin 32) (n : BitVec 5),
    let ga := (s.dev.ctx x).gr a
    let gb := (s.dev.ctx x).gr b
    let amount := gb.toNat % 32
    s.Issues x [a.val, b.val] →
      Completes (.add x dd a b 0) s (WritesG s x dd [a, b] (ga + gb)) ∧
      Completes (.sub x dd a b 0) s (WritesG s x dd [a, b] (ga - gb)) ∧
      Completes (.and x dd a b 0) s (WritesG s x dd [a, b] (ga &&& gb)) ∧
      Completes (.or x dd a b 0) s (WritesG s x dd [a, b] (ga ||| gb)) ∧
      Completes (.xor x dd a b 0) s (WritesG s x dd [a, b] (ga ^^^ gb)) ∧
      Completes (.mul x dd a b 0) s (WritesG s x dd [a, b] (ga * gb)) ∧
      Completes (.mulh x dd a b 0) s (WritesG s x dd [a, b] ((ga.signExtend 64 * gb.signExtend 64).extractLsb' 32 32)) ∧
      Completes (.min x dd a b 0) s (WritesG s x dd [a, b] (if gb.slt ga then gb else ga)) ∧
      Completes (.max x dd a b 0) s (WritesG s x dd [a, b] (if ga.slt gb then gb else ga)) ∧
      Completes (.shl x dd a b 0) s (WritesG s x dd [a, b] (ga <<< amount)) ∧
      Completes (.shr x dd a b 0) s (WritesG s x dd [a, b] (ga >>> amount)) ∧
      Completes (.sar x dd a b 0) s (WritesG s x dd [a, b] (ga.sshiftRight amount)) ∧
      (b = 0 → Completes (.shl x dd a b (n ++ 1#1)) s (WritesG s x dd [a, b] (ga <<< n.toNat)) ∧
        Completes (.shr x dd a b (n ++ 1#1)) s (WritesG s x dd [a, b] (ga >>> n.toNat)) ∧
        Completes (.sar x dd a b (n ++ 1#1)) s (WritesG s x dd [a, b] (ga.sshiftRight n.toNat))) ∧
      (s.Issues x [a.val] → b = 0 → Completes (.clz x dd a b 0) s (fun t => ∃ z : Nat, z ≤ 32 ∧
        (∀ i, 32 - z ≤ i → ga.getLsbD i = false) ∧ (z < 32 → ga.getLsbD (31 - z) = true) ∧
        WritesG s x dd [a] (BitVec.ofNat 32 z) t))

/-- The result of each immediate instruction, and its frame. -/
def Obligations.ImmediateInstructionsWriteTheirResult : Prop :=
  ∀ (s : State) (x : Fin 96) (dd a : Fin 32) (imm : BitVec 16),
    let ga := (s.dev.ctx x).gr a
    (s.Issues x [a.val] →
      Completes (.addi x dd a imm) s (WritesG s x dd [a] (ga + imm.signExtend 32)) ∧
      Completes (.andi x dd a imm) s (WritesG s x dd [a] (ga &&& imm.signExtend 32)) ∧
      Completes (.ori x dd a imm) s (WritesG s x dd [a] (ga ||| imm.signExtend 32)) ∧
      Completes (.xori x dd a imm) s (WritesG s x dd [a] (ga ^^^ imm.signExtend 32))) ∧
    (s.Issues x [] → a = 0 → Completes (.lui x dd a imm) s (WritesG s x dd [] (imm ++ 0#16)))

/-- Where the branches and jumps go, and their frame. -/
def Obligations.BranchesAndJumpsGoToTheirTarget : Prop :=
  Branches .beq (fun v w => v == w) ∧ Branches .bne (fun v w => v != w) ∧ Branches .blt (fun v w => v.slt w) ∧
    Branches .bge (fun v w => !v.slt w) ∧ Branches .bltu (fun v w => v.ult w) ∧ Branches .bgeu (fun v w => !v.ult w) ∧
    (∀ (s : State) (x : Fin 96) (off : BitVec 26),
      let c := s.dev.ctx x
      let target := c.pc + off.signExtend 32 <<< 2
      s.Issues x [] → c.endsBody = false → target.toNat < c.limit x →
        Completes (.jal x off) s (GoesTo s x [] 3 31 target (c.loopsTo target))) ∧
    (∀ (s : State) (x : Fin 96) (dd a : Fin 32),
      let c := s.dev.ctx x
      s.Issues x [a.val] → c.endsBody = false → (c.gr a).toNat % 4 = 0 → (c.gr a).toNat < c.limit x →
        Completes (.jr x dd a 0 0) s (GoesTo s x [a] 3 dd (c.gr a) (c.loopsTo (c.gr a))))

/-- LOOP, for a count of zero and for any other. -/
def Obligations.LoopOpensALevel : Prop :=
  ∀ (s : State) (x : Fin 96) (a : Fin 32) (len : BitVec 16),
    let c := s.dev.ctx x
    let stop := c.pc + BitVec.ofNat 32 (4 * len.toNat)
    s.Issues x [a.val] → c.loops.length < 2 → c.endsBody = false → len ≠ 0 → c.pc.toNat + 4 * len.toNat < c.limit x →
      Completes (.loop x 0 a len) s (fun t =>
        let c' := t.dev.ctx x
        OnlyCtx x s t ∧ Spends c c' [a] 1 ∧
        c' = { c with pc := c'.pc, loops := c'.loops, cycles := c'.cycles, ready := c'.ready } ∧
        (c.gr a = 0 → c'.pc = stop + 4 ∧ c'.loops = c.loops) ∧
        (c.gr a ≠ 0 → c'.pc = c.pc + 4 ∧ c'.loops = c.loops ++ [{ count := c.gr a, start := c.pc + 4, stop := stop }]))

/-- What the scalar loads write to gd. -/
def Obligations.LoadsReadDataMemory : Prop :=
  ∀ (s : State) (x : Fin 96) (dd a : Fin 32) (imm : BitVec 16),
    let ad := (s.dev.ctx x).gr a + imm.signExtend 32
    let b := engineByte s x ad
    s.Issues x [a.val] →
      (ad.toNat % 4 = 0 → inData x ad 4 = true → Completes (.ldw x dd a imm) s (WritesG s x dd [a] (b 3 ++ b 2 ++ b 1 ++ b 0))) ∧
      (ad.toNat % 2 = 0 → inData x ad 2 = true →
        Completes (.ldh x dd a imm) s (WritesG s x dd [a] ((b 1 ++ b 0).signExtend 32)) ∧
        Completes (.ldhu x dd a imm) s (WritesG s x dd [a] ((b 1 ++ b 0).setWidth 32))) ∧
      (inData x ad 1 = true →
        Completes (.ldb x dd a imm) s (WritesG s x dd [a] ((b 0).signExtend 32)) ∧
        Completes (.ldbu x dd a imm) s (WritesG s x dd [a] ((b 0).setWidth 32)))

/-- Where the stores store, and their frame. -/
def Obligations.StoresWriteOnlyTheirBytes : Prop :=
  ∀ (s : State) (x : Fin 96) (dd a : Fin 32) (imm : BitVec 16),
    let c := s.dev.ctx x
    let ad := c.gr a + imm.signExtend 32
    let gs := c.gr dd
    (s.Issues x [a.val, dd.val] →
      (ad.toNat % 4 = 0 → inData x ad 4 = true → Completes (.stw x dd a imm) s (fun t =>
        StoresAt s x ad [gs.extractLsb' 0 8, gs.extractLsb' 8 8, gs.extractLsb' 16 8, gs.extractLsb' 24 8] t ∧
        StoreMovesOn s x [a, dd] t)) ∧
      (ad.toNat % 2 = 0 → inData x ad 2 = true → Completes (.sth x dd a imm) s (fun t =>
        StoresAt s x ad [gs.extractLsb' 0 8, gs.extractLsb' 8 8] t ∧ StoreMovesOn s x [a, dd] t)) ∧
      (inData x ad 1 = true → Completes (.stb x dd a imm) s (fun t =>
        StoresAt s x ad [gs.extractLsb' 0 8] t ∧ StoreMovesOn s x [a, dd] t))) ∧
    (s.Issues x [a.val, Rk.v dd.val] → isSignal x = true → dd.val < 16 → ad.toNat % 16 = 0 → inData x ad 16 = true →
      Completes (.stv x dd a imm) s (fun t =>
        StoresAt s x ad ([0, 1, 2, 3].flatMap (fun i => wordBytes (c.lane dd i))) t ∧ StoreMovesOn s x [a, Rk.v dd] t))

/-- The vector load and the sample instructions. -/
def Obligations.SampleInstructionsComplete : Prop :=
  ∀ (s : State) (x : Fin 96) (dd a b : Fin 32) (imm : BitVec 16) (fn : BitVec 11),
    let c := s.dev.ctx x
    let ad := c.gr a + imm.signExtend 32
    let ga := c.gr a
    let ch := ga.toNat % 256
    let period := ga.toNat / 256 % 64
    isSignal x = true →
      (s.Issues x [a.val] → dd.val < 16 → ad.toNat % 16 = 0 → inData x ad 16 = true →
        Completes (.ldv x dd a imm) s (fun t => OnlyCtx x s t ∧ MovesOn c (t.dev.ctx x) ∧
          ∀ k i, i < 4 → (t.dev.ctx x).lane k i =
            if k = dd then engineByte s x ad (4 * i + 3) ++ engineByte s x ad (4 * i + 2) ++ engineByte s x ad (4 * i + 1) ++
              engineByte s x ad (4 * i) else c.lane k i)) ∧
      (s.Issues x [a.val] → dd.val < 16 → b.val < 4 → fn.toNat < 3 → sampleOk c ga = true →
        Completes (.sld x dd a b fn) s (fun t => OnlyCtx x s t ∧ MovesOn c (t.dev.ctx x) ∧
          (∀ i, i < 4 → (t.dev.ctx x).lane dd i = (s.dev.dstAt (0x1A000 + 256 * x + ch + i) period).v ∧
            (t.dev.ctx x).tag b i = (s.dev.dstAt (0x1A000 + 256 * x + ch + i) period).tag % 16 ∧
            (t.dev.ctx x).predLane b i = ((s.dev.dstAt (0x1A000 + 256 * x + ch + i) period).tag != 2)) ∧
          (∀ n, (t.dev.ctx x).gr n =
            if n = a ∧ n ≠ 0 then ga + (if fn = 1 then 4 else if fn = 2 then 256 else 0) else c.gr n))) ∧
      (s.Issues x [a.val, Rk.v dd.val, Rk.tag b.val] → dd.val < 16 → b.val < 4 → fn.toNat < 3 → sampleOk c ga = true →
        Completes (.sst x dd a b fn) s (fun t => OnlyCtx x s t ∧ MovesOn c (t.dev.ctx x) ∧
          (∀ i, i < 4 → c.predLane b i = true → SMap.get (fun _ => {}) (t.dev.ctx x).outNow ((ch + i) * 64 + period) =
            { v := if c.tag b i = 2 then 0 else c.lane dd i, tag := c.tag b i }) ∧
          (∀ n, (t.dev.ctx x).gr n =
            if n = a ∧ n ≠ 0 then ga + (if fn = 1 then 4 else if fn = 2 then 256 else 0) else c.gr n))) ∧
      (s.Issues x [Rk.tag b.val, Rk.tag dd.val] → dd.val < 4 → b.val < 4 → fn.toNat < 5 →
        Completes (.stag x dd 0 b fn) s (fun t => OnlyCtx x s t ∧ MovesOn c (t.dev.ctx x) ∧
          ∀ i, i < 4 → (t.dev.ctx x).tag dd i = (if c.predLane b i then fn.toNat else c.tag dd i) ∧
            (c.predLane b i = true → (t.dev.ctx x).predLane dd i = (fn.toNat != 2))))

/-- comb, and the mixing of tags (R130). -/
def Obligations.TagmaxFoldsInAnyOrder : Prop :=
  (∀ x y z : Nat, x < 5 → y < 5 → z < 5 →
    let rank := fun (k : Nat) => [Tag.VALID, Tag.REPEAT, Tag.SETTLING, Tag.NONAUDIO].idxOf k
    combTag Tag.MUTED y = y ∧ combTag x Tag.MUTED = x ∧
      (x ≠ Tag.MUTED → y ≠ Tag.MUTED → combTag x y = if rank x < rank y then y else x) ∧
      combTag x y = combTag y x ∧ combTag (combTag x y) z = combTag x (combTag y z)) ∧
  (∀ ks ls : List Nat, (∀ k ∈ ks, k < 5) → ks.Perm ls →
    let r := ks.foldl combTag Tag.MUTED
    ls.foldl combTag Tag.MUTED = r ∧ (r = Tag.MUTED ↔ ∀ k ∈ ks, k = Tag.MUTED) ∧ (r ≠ Tag.MUTED → r ∈ ks) ∧
      ∀ k ∈ ks, combTag r k = r) ∧
  (∀ (s : State) (x : Fin 96) (dd a b : Fin 32),
    let c := s.dev.ctx x
    s.Issues x [Rk.tag a.val, Rk.tag b.val] → isSignal x = true → dd.val < 4 → a.val < 4 → b.val < 4 →
      (∀ i, i < 4 → c.tag a i < 5 ∧ c.tag b i < 5) →
      Completes (.tagmax x dd a b 0) s (fun t => OnlyCtx x s t ∧ MovesOn c (t.dev.ctx x) ∧
        ∀ i, i < 4 → (t.dev.ctx x).tag dd i = combTag (c.tag a i) (c.tag b i) ∧
          (t.dev.ctx x).predLane dd i = (combTag (c.tag a i) (c.tag b i) != 2)))

/-- The fixed-point vector instructions. -/
def Obligations.VectorFixedPointWritesLanes : Prop :=
  ∀ (s : State) (x : Fin 96) (dd a b : Fin 32) (m : BitVec 7),
    let c := s.dev.ctx x
    let va := fun i => (c.lane a i).toInt
    let vb := fun i => (c.lane b i).toInt
    let on := laneOn c m
    let two := [Rk.v a.val, Rk.v b.val] ++ vecSrcs m (Rk.v dd.val)
    let one := [Rk.v a.val] ++ vecSrcs m (Rk.v dd.val)
    vecLegal x m = true → vImm m = 0 → dd.val < 16 →
      (s.Issues x two → a.val < 16 → b.val < 16 →
        (∃ r : Nat → Word × Nat, (∀ i, Clamped (va i + vb i) (r i)) ∧ Completes (.vadd x dd a b m) s (WritesV s x dd two on r)) ∧
        (∃ r : Nat → Word × Nat, (∀ i, Clamped (va i - vb i) (r i)) ∧ Completes (.vsub x dd a b m) s (WritesV s x dd two on r)) ∧
        (∃ r : Nat → Word × Nat, (∀ i, Clamped ((va i * vb i + 2 ^ 30) / 2 ^ 31) (r i)) ∧
          Completes (.vmul x dd a b m) s (WritesV s x dd two on r)) ∧
        (∃ r : Nat → Word × Nat, (∀ i, (r i).1.toInt = max (va i) (vb i) ∧ (r i).2 = 0) ∧
          Completes (.vmax x dd a b m) s (WritesV s x dd two on r))) ∧
      (s.Issues x one → a.val < 16 → b = 0 →
        ∃ r : Nat → Word × Nat, (∀ i, Clamped ((va i).natAbs : Int) (r i)) ∧
          Completes (.vabs x dd a b m) s (WritesV s x dd one on r)) ∧
      (s.Issues x ([a.val] ++ vecSrcs m (Rk.v dd.val)) → b = 0 →
        Completes (.vsplat x dd a b m) s (WritesV s x dd ([a.val] ++ vecSrcs m (Rk.v dd.val)) on (fun _ => (c.gr a, 0)))) ∧
      (s.Issues x [Rk.v a.val, Rk.v b.val, Rk.tag (vPred m)] → vPe m = true → a.val < 16 → b.val < 16 →
        Completes (.vsel x dd a b m) s (WritesV s x dd [Rk.v a.val, Rk.v b.val, Rk.tag (vPred m)] (fun _ => true)
          (fun i => (if c.predLane (vPred m) i then c.lane a i else c.lane b i, 0))))

/-- The accumulator instructions. -/
def Obligations.AccumulatorInstructionsComplete : Prop :=
  ∀ (s : State) (x : Fin 96) (dd a b : Fin 32) (m : BitVec 7),
    let c := s.dev.ctx x
    let on := laneOn c m
    vecLegal x m = true →
      (s.Issues x ([Rk.v a.val, Rk.v b.val, Rk.acc dd.val] ++ (if vPe m then [Rk.tag (vPred m)] else [])) →
        dd.val < 4 → a.val < 16 → b.val < 16 → (vImm m = 0 ∨ vImm m = 8) →
        Completes (.vmac x dd a b m) s (fun t => OnlyCtx x s t ∧ MovesOn c (t.dev.ctx x) ∧
          ∃ r : Nat → Dword × Nat,
            (∀ i, ClampedAcc ((if vImm m = 8 then 0 else (c.acc dd i).toInt) + (c.lane a i).toInt * (c.lane b i).toInt / 2 ^ 8) (r i)) ∧
            (∀ k i, i < 4 → (t.dev.ctx x).acc k i = if k = dd ∧ on i = true then (r i).1 else c.acc k i) ∧
            (∀ n, (t.dev.ctx x).vstat.testBit n = (c.vstat.testBit n || [0, 1, 2, 3].any (fun i => on i && (r i).2.testBit n))))) ∧
      (s.Issues x ([Rk.mac a.val, Rk.acc a.val] ++ vecSrcs m (Rk.v dd.val)) → dd.val < 16 → a.val < 4 → b = 0 →
        Completes (.vrnd x dd a b m) s (fun t => OnlyCtx x s t ∧ MovesOn c (t.dev.ctx x) ∧
          ∃ r : Nat → Word × Nat,
            (∀ i, Clamped (((c.acc a i).toInt * 2 ^ (vImm m % 8) + 2 ^ 22) / 2 ^ 23) (r i)) ∧
            (∀ k i, i < 4 → (t.dev.ctx x).lane k i = if k = dd ∧ on i = true then (r i).1 else c.lane k i) ∧
            (∀ k i, i < 4 → (t.dev.ctx x).acc k i = if k = a ∧ on i = true ∧ 8 ≤ vImm m then 0 else c.acc k i) ∧
            (∀ n, (t.dev.ctx x).vstat.testBit n = (c.vstat.testBit n || [0, 1, 2, 3].any (fun i => on i && (r i).2.testBit n)))))

/-- The floating-point vector instructions. -/
def Obligations.VectorFloatingPointWritesLanes : Prop :=
  (∀ (s : State) (x : Fin 96) (dd a b : Fin 32) (m : BitVec 7),
    let c := s.dev.ctx x
    let on := laneOn c m
    let two := [Rk.v a.val, Rk.v b.val] ++ vecSrcs m (Rk.v dd.val)
    let one := [Rk.v a.val] ++ vecSrcs m (Rk.v dd.val)
    let three := [Rk.v a.val, Rk.v b.val, Rk.v dd.val] ++ vecSrcs m (Rk.v dd.val)
    vecLegal x m = true → vImm m = 0 → dd.val < 16 → a.val < 16 →
      (s.Issues x one → b = 0 →
        Completes (.vcvtf x dd a b m) s (WritesV s x dd one on (fun i => fpFromQ31 (c.lane a i))) ∧
        Completes (.vcvti x dd a b m) s (WritesV s x dd one on (fun i => fpToQ31 (c.lane a i)))) ∧
      (s.Issues x two → b.val < 16 →
        Completes (.vfadd x dd a b m) s (WritesV s x dd two on (fun i => fpAdd (c.lane a i) (c.lane b i))) ∧
        Completes (.vfmul x dd a b m) s (WritesV s x dd two on (fun i => fpMul (c.lane a i) (c.lane b i)))) ∧
      (s.Issues x three → b.val < 16 →
        Completes (.vfmac x dd a b m) s (WritesV s x dd three on (fun i => fpMac (c.lane dd i) (c.lane a i) (c.lane b i))))) ∧
  (∀ a b c : Word, ∀ r ∈ [(fpAdd a b).1, (fpMul a b).1, (fpMac a b c).1, (fpFromQ31 a).1],
    (bits r 23 8 = 0 → bits r 0 23 = 0) ∧ (bits r 23 8 = 255 → bits r 0 23 ≠ 0 → r = 0x7FC00000))

/-- The ramp of VGAIN. The gain above -24.0 is a free value within ±0.0005 dB (log 11), of which this says nothing. -/
def Obligations.VgainRampsItsLevels : Prop :=
  ∀ (s : State) (x : Fin 96) (dd a b : Fin 32) (m : BitVec 7),
    let c := s.dev.ctx x
    let base := engineBase x + (c.gr b).toNat
    let level := fun i => memWordAt s.mem (base + 4 * i)
    let step := fun i => memWordAt s.mem (base + 16 + 4 * i)
    let target := fun i => memWordAt s.mem (base + 32 + 4 * i)
    let sum := fun i => (level i).toInt + (step i).toInt
    s.Issues x ([Rk.v a.val, b.val] ++ vecSrcs m (Rk.v dd.val)) → vecLegal x m = true → vImm m = 0 → dd.val < 16 → a.val < 16 →
      (c.gr b).toNat % 64 = 0 → inData x (c.gr b) 64 = true →
      (∀ i, i < 4 → -2147483648 ≤ sum i ∧ sum i ≤ 2147483647) →
      Completes (.vgain x dd a b m) s (fun t =>
        (∀ i, i < 4 → laneOn c m i = true → (level i).toInt ≤ -402653184 → (t.dev.ctx x).lane dd i = 0) ∧
        (∀ k i, i < 4 → (k ≠ dd ∨ laneOn c m i = false) → (t.dev.ctx x).lane k i = c.lane k i) ∧
        (∀ i, i < 4 →
          let reached := (0 < (step i).toInt ∧ (target i).toInt ≤ sum i) ∨ ((step i).toInt < 0 ∧ sum i ≤ (target i).toInt)
          let moves := laneOn c m i = true ∧ step i ≠ 0
          (¬ moves → memWordAt t.mem (base + 4 * i) = level i ∧ memWordAt t.mem (base + 16 + 4 * i) = step i) ∧
          (moves → reached → memWordAt t.mem (base + 4 * i) = target i ∧ memWordAt t.mem (base + 16 + 4 * i) = 0) ∧
          (moves → ¬ reached → (memWordAt t.mem (base + 4 * i)).toInt = sum i ∧ memWordAt t.mem (base + 16 + 4 * i) = step i)) ∧
        (∀ n, (n < base ∨ base + 32 ≤ n) → memByte t.mem n = memByte s.mem n) ∧
        t = { s with mem := t.mem, dev := { s.dev with ctxs := t.dev.ctxs, free := t.dev.free } } ∧
        (∀ y, y ≠ x → t.dev.ctx y = s.dev.ctx y) ∧ MovesOn c (t.dev.ctx x))

/-- Instances of exception entry, one for each cause of R117 to R129. -/
def Obligations.ExceptionsEnterTheHandler : Prop :=
  ∀ (s : State) (x : Fin 96) (dd a b : Fin 32) (imm : BitVec 16) (fn : BitVec 11) (hi : BitVec 6) (m : BitVec 7) (off : BitVec 26),
    let c := s.dev.ctx x
    let ad := c.gr a + imm.signExtend 32
    let enters := fun (code : Nat) (info : Word) (t : State) =>
      EntersHandler c code c.pc info (t.dev.ctx x) ∧ t.mem = s.mem ∧ (∀ n, (t.dev.ctx x).gr n = c.gr n)
    s.CoreUp → s.dev.mayIssue x = true → c.atInlineEnd x = false → c.pc.toNat < c.limit x → c.hasHandler →
      (s.Issues x [a.val] → ad.toNat % 4 ≠ 0 → Completes (.ldw x dd a imm) s (enters Exc.ALIGN ad)) ∧
      (s.Issues x [a.val, dd.val] → ad.toNat % 4 ≠ 0 → Completes (.stw x dd a imm) s (enters Exc.ALIGN ad)) ∧
      (s.Issues x [a.val] → ad.toNat % 4 = 0 → inData x ad 4 = false → s.dev.inWindow x ad = false →
        Completes (.ldw x dd a imm) s (enters Exc.MEMRANGE ad)) ∧
      (s.Issues x [a.val] → c.endsBody = false → (c.gr a).toNat % 4 ≠ 0 →
        Completes (.jr x dd a 0 0) s (enters Exc.ALIGN (c.gr a))) ∧
      (s.Issues x [] → c.endsBody = false → c.limit x ≤ (c.pc + off.signExtend 32 <<< 2).toNat →
        Completes (.jal x off) s (enters Exc.MEMRANGE (c.pc + off.signExtend 32 <<< 2))) ∧
      (s.Issues x [a.val, b.val] → c.endsBody = false → c.gr a = c.gr b → c.limit x ≤ (c.pc + imm.signExtend 32 <<< 2).toNat →
        Completes (.beq x a b imm) s (enters Exc.MEMRANGE (c.pc + imm.signExtend 32 <<< 2))) ∧
      (hi ≠ 0 → Completes (.add x dd a b hi) s (enters Exc.ILLEGAL (rWord 0x01 dd a b (hi.toNat * 32)))) ∧
      (isSignal x = false → Completes (.sld x dd a b fn) s (enters Exc.ILLEGAL (rWord 0x24 dd a b fn.toNat))) ∧
      (isSignal x = false → Completes (.vadd x dd a b m) s (enters Exc.ILLEGAL (rWord 0x28 dd a b (m.toNat * 16)))) ∧
      (isSignal x = true → Completes (.uget x dd a imm) s (enters Exc.ILLEGAL (iWord 0x30 dd a imm.toNat))) ∧
      (s.Issues x [a.val] → isSignal x = true → dd.val < 16 → b.val < 4 → fn.toNat < 3 → sampleOk c (c.gr a) = false →
        Completes (.sld x dd a b fn) s (enters Exc.MEMRANGE (c.gr a)))

/-- The unit instructions, and how they end. -/
def Obligations.UnitInstructionsComplete : Prop :=
  ∀ (s : State) (x : Fin 96) (dd a : Fin 32) (imm : BitVec 16),
    let c := s.dev.ctx x
    let u := (c.gr a).toNat
    let off := imm.toNat % 2 ^ 15
    isSignal x = false →
      (s.Issues x [a.val] → imm.getLsbD 15 = false → off % 4 = 0 →
        let d := s.dev.setCtx x (c.spend [a.val] 1 [])
        ∀ ad, d.unitAddr c.tenant u off = (0, ad) → Completes (.uget x dd a imm) s (fun t =>
          (t.dev.ctx x).wait = .unitDone (some (dd, d.readWord ⟨s.mem, s.fuses⟩ .window ad)) 0x300)) ∧
      (s.Issues x [a.val, dd.val] → off % 4 = 0 →
        let d := s.dev.setCtx x (c.spend [a.val, dd.val] 1 [])
        ∀ ad, d.unitAddr c.tenant u off = (0, ad) → d.postWaits ad = false → d.frg.scope = [] →
          Completes (.uset x dd a imm) s (fun t =>
            let r := d.unitSet ⟨s.mem, s.fuses⟩ (d.ctxTenant x) u off (c.gr dd) (imm.getLsbD 15)
            (t.dev.ctx x).wait = .unitDone none (accessWord r.2))) ∧
      (s.Issues x [a.val] → imm.toNat < 16 → (classOf u).isSome = true → s.dev.frg.scope = [] →
        let d := s.dev.setCtx x (c.spend [a.val] 1 [])
        let r := d.giveOrder (unitSrc (d.ctxTenant x)) u imm.toNat
        Completes (.ucmd x dd a imm) s (fun t =>
          (t.dev.ctx x).wait = .unitDone (some (dd, r.1.orderWord u r.2)) (r.1.orderWord u r.2))) ∧
      (s.Issues x [a.val] → imm.getLsbD 3 = false → imm.toNat % 8 < 6 → (classOf u).isSome = true →
        (c.tenant = 0 ∨ c.tenant = s.dev.rd (F.UNIT_OWNER_OWNER u)) →
        Completes (.uwait x dd a imm) s (fun t => OnlyCtx x s t ∧ (t.dev.ctx x).pc = c.pc ∧ (t.dev.ctx x).g = c.g ∧
          (t.dev.ctx x).wait = if s.dev.ustate u = imm.toNat % 8 ∨ s.dev.ustate u = 5
            then .unitDone (some (dd, s.dev.reg (A.UNIT_STATE u) &&& 0x0FFFFFFF)) 0x300
            else .state dd u (imm.toNat % 8) (imm.toNat / 16))) ∧
      (s.CoreUp → ∀ n r w, c.wait = .unitDone (some (n, w)) r → (bits r 0 8 = 0 ∨ c.excUref = false) →
        Completes (.unitOpDone x) s (fun t => OnlyCtx x s t ∧ MovesOn c (t.dev.ctx x) ∧ (t.dev.ctx x).wait = .none ∧
          (t.dev.ctx x).uresult = r ∧ ∀ k, (t.dev.ctx x).gr k = if k = n ∧ k ≠ 0 then w else c.gr k)) ∧
      (s.CoreUp → ∀ n v st ms, c.wait = .state n v st ms → ms ≠ 0 →
        Completes (.uwaitTimeout x) s (fun t => OnlyCtx x s t ∧ MovesOn c (t.dev.ctx x) ∧ (t.dev.ctx x).wait = .none ∧
          (t.dev.ctx x).uresult = 0x80000300 ∧
          ∀ k, (t.dev.ctx x).gr k =
            if k = n ∧ k ≠ 0 then (s.dev.reg (A.UNIT_STATE v) &&& 0x0FFFFFFF) ||| 0x80000000 else c.gr k))

/-- The ends of a register-window access. -/
def Obligations.RegisterWindowAccessEnds : Prop :=
  ∀ (s : State) (x : Fin 96) (gd ad n : Nat) (signed : Bool) (bs : List Byte),
    let c := s.dev.ctx x
    let env : Env := ⟨s.mem, s.fuses⟩
    s.CoreUp → c.running = true →
      (c.wait = .load gd ad n signed → ∀ d' out, s.dev.readRequest env .window ad n = (d', some out) →
        Completes (.registerWindowDone x) s (fun t =>
          (t.dev.ctx x).wait = .none ∧ (gd ≠ 0 → (t.dev.ctx x).gr gd = loadValue out signed))) ∧
      (c.wait = .load gd ad n signed → ∀ d', s.dev.readRequest env .window ad n = (d', none) → (d'.ctx x) = c → c.hasHandler →
        Completes (.registerWindowDone x) s (fun t =>
          (t.dev.ctx x).excCause = Exc.BUSERR ∧ (t.dev.ctx x).excAddr = c.pc ∧ (t.dev.ctx x).pc = c.excVec ∧
          (t.dev.ctx x).excInfo = BitVec.ofNat 32 (0x80000000 + ad) ∧ ∀ k, (t.dev.ctx x).gr k = c.gr k)) ∧
      (c.wait = .store ad bs → s.dev.postWaits ad = false → s.dev.frg.scope = [] → ∀ d',
        s.dev.writeRequest env .window ad bs = (d', true) → (d'.ctx x) = c →
        Completes (.registerWindowDone x) s (fun t => (t.dev.ctx x).wait = .none ∧ MovesOn c (t.dev.ctx x)))

/-- The queue instructions, on mailboxes. -/
def Obligations.QueueInstructionsComplete : Prop :=
  ∀ (s : State) (x : Fin 96) (dd a b : Fin 32) (fn : BitVec 11),
    let c := s.dev.ctx x
    let id := (c.gr a).toNat
    let put := boxKey id (x - 64)
    let get := boxKey (stewardOf x) (id - 0x20)
    let agree := fun k => (s.dev.box k).wr = (s.dev.box k).wr2 ∧ (s.dev.box k).rd = (s.dev.box k).rd2
    isSignal x = false → fn.toNat < 2 →
      (s.Issues x [a.val, b.val] → id < 4 → agree put → (s.dev.box put).credits ≠ 0 →
        (∀ t, t < 8 → ∀ gd k, (s.dev.ctx (threadCtx id t)).wait ≠ .qget gd k) →
        Completes (.qput x dd a b fn) s (fun t =>
          (t.dev.box put).entries = (s.dev.box put).entries ++ [c.gr b] ∧
          (t.dev.box put).credits = (s.dev.box put).credits - 1 ∧ (dd.val ≠ 0 → (t.dev.ctx x).gr dd = 0))) ∧
      (s.Issues x [a.val, b.val] → id < 4 → agree put → (s.dev.box put).credits = 0 → fn = 0 →
        Completes (.qput x dd a b fn) s (fun t => OnlyCtx x s t ∧ (dd.val ≠ 0 → (t.dev.ctx x).gr dd = Rsn.NO_BUFFER))) ∧
      (s.Issues x [a.val] → b = 0 → 0x20 ≤ id → id < 0x40 → agree get → ∀ w ws, (s.dev.box get).entries = w :: ws →
        Completes (.qget x dd a b fn) s (fun t => dd.val ≠ 0 → (t.dev.ctx x).gr dd = w)) ∧
      (s.Issues x [a.val] → b = 0 → fn = 0 → id < 4 →
        Completes (.qcred x dd a b fn) s (WritesG s x dd [a] (BitVec.ofNat 32 (s.dev.box put).credits)))

/-- The instructions of events and time. -/
def Obligations.EventInstructionsComplete : Prop :=
  ∀ (s : State) (x : Fin 96) (dd a b : Fin 32) (imm : BitVec 16),
    let c := s.dev.ctx x
    (s.Issues x [a.val, b.val] → dd.val < 8 → c.slots.length = 8 → s.dev.bindCheck c.tenant (isSignal x) (c.gr a) (c.gr b) = 0 →
      Completes (.arm x dd a b 0) s (fun t => OnlyCtx x s t ∧ MovesOn c (t.dev.ctx x) ∧
        ((t.dev.ctx x).slots.getD dd {}).src = c.gr a ∧ ((t.dev.ctx x).slots.getD dd {}).param = c.gr b ∧
        ((t.dev.ctx x).slots.getD dd {}).fired = false)) ∧
    (s.Issues x [] →
      Completes (.waitev x dd 0 0) s (WritesG s x dd [] 0) ∧
      (imm ≠ 0 → imm.toNat < 256 →
        let hit := Nat.land c.firedMask imm.toNat
        Completes (.waitev x dd 0 imm) s (fun t => OnlyCtx x s t ∧
          (hit = 0 → (t.dev.ctx x).wait = .event dd imm.toNat ∧ (t.dev.ctx x).pc = c.pc) ∧
          (hit ≠ 0 → (t.dev.ctx x).wait = .none ∧ (dd.val ≠ 0 → (t.dev.ctx x).gr dd = BitVec.ofNat 32 hit) ∧
            MovesOn c (t.dev.ctx x))))) ∧
    (isSignal x = true → s.Issues x [] → Completes (.tickwait x dd 0 0 0) s (fun t =>
      (t.dev.ctx x).wait = .nextTick dd ∧ (t.dev.ctx x).ended = true ∧ (t.dev.ctx x).ovrRun = 0)) ∧
    (isSignal x = false → s.Issues x [a.val] → Completes (.tickwait x dd a 0 0) s (fun t => OnlyCtx x s t ∧
      (if s.dev.ticking ((c.gr a).toNat % 8) then (t.dev.ctx x).wait = .tick dd ((c.gr a).toNat % 8)
       else (t.dev.ctx x).wait = .none ∧ (t.dev.ctx x).uresult = BitVec.ofNat 32 (0x300 + Rsn.NO_CLOCK) ∧
         (dd.val ≠ 0 → (t.dev.ctx x).gr dd = 0xFFFFFFFF)))) ∧
    (s.Issues x [] → dd.val % 2 = 0 → dd.val ≠ 0 → Completes (.time x dd 0 0 0) s (fun t => ∃ k, k ≤ 20 ∧
      (t.dev.ctx x).gr dd = BitVec.ofNat 32 (t64Of (s.dev.stcNs + k) % 2 ^ 32) ∧
      (t.dev.ctx x).gr (dd + 1) = BitVec.ofNat 32 (t64Of (s.dev.stcNs + k) / 2 ^ 32) ∧ MovesOn c (t.dev.ctx x))) ∧
    (s.Issues x [] → Completes (.snap x dd 0 0 0) s (fun t => t.dev.rd F.GLB_SNAP_BUSY = 1 ∧
      (dd.val ≠ 0 → (t.dev.ctx x).gr dd =
        s.dev.reg A.GLB_SNAP_SEQ + (if s.dev.rd F.GLB_SNAP_BUSY = 0 then 1 else 2))))

/-- The system instructions. -/
def Obligations.SystemInstructionsComplete : Prop :=
  ∀ (s : State) (x : Fin 96) (dd a : Fin 32) (code : BitVec 10),
    let c := s.dev.ctx x
    (s.Issues x [] →
      Completes (.nop x 0 0 0) s (fun t => OnlyCtx x s t ∧ StoreMovesOn s x [] t) ∧
      Completes (.fence x 0 0 0) s (fun t => OnlyCtx x s t ∧ StoreMovesOn s x [] t) ∧
      (isSignal x = true → Completes (.halt x 0 0 0) s (fun t =>
        (t.dev.ctx x).running = false ∧ (t.dev.ctx x).ended = true ∧ t.dev.rd (F.ENG_STAT_HALTED x) = 1)) ∧
      (isSignal x = false → Completes (.halt x 0 0 0) s (fun t =>
        (t.dev.ctx x).running = false ∧ (t.dev.ctx x).wait = .none)) ∧
      (c.hasHandler → Completes (.trap x 0 0 0 code) s (fun t =>
        EntersHandler (c.spend [] 1 []) Exc.TRAP (c.pc + 4) (code.setWidth 32) (t.dev.ctx x))) ∧
      (∀ n v, (n, v) ∈ [(0x023, c.excVec), (0x025, c.excScratch), (0x001, BitVec.ofNat 32 c.tenant),
          (0x027, (if c.excActive then 1 else 0 : Word)), (0x022, c.excInfo)] →
        Completes (.csrr x dd 0 n) s (fun t => (∀ k, (t.dev.ctx x).gr k = if k = dd ∧ k ≠ 0 then v else c.gr k) ∧
          MovesOn c (t.dev.ctx x) ∧ t = { s with dev := { s.dev with ctxs := t.dev.ctxs, free := t.dev.free } }))) ∧
    (s.Issues x [a.val] →
      Completes (.csrw x 0 a 0x023) s (fun t => (t.dev.ctx x).excVec = c.gr a &&& 0xFFFFFFFC ∧ MovesOn c (t.dev.ctx x) ∧
        (t.dev.ctx x).g = c.g) ∧
      (c.excActive = true → Completes (.xret x a) s (fun t => OnlyCtx x s t ∧ Spends c (t.dev.ctx x) [a] 3 ∧
        (t.dev.ctx x).pc = c.excAddr ∧ (t.dev.ctx x).loops = c.hidden ∧ (t.dev.ctx x).excActive = false ∧
        (t.dev.ctx x).g = c.g))) ∧
    (s.Issues x [] → c.hasHandler → Completes (.xret x a) s (fun t =>
      EntersHandler c Exc.ILLEGAL c.pc (iWord 0x3F 0 a 0x026) (t.dev.ctx x)))

/-- The steward commands and the timers. -/
def Obligations.StewardCommandsTakeEffect : Prop :=
  (∀ (s : State) (x : Fin 96) (k : Fin 8),
    let sl := (s.dev.ctx x).slots.getD k {}
    s.CoreUp → (s.dev.ctx x).running = true → (s.dev.ctx x).slots.length = 8 → (s.dev.ctx x).wait = .none →
      srcKind sl.src = 3 → (sl.src.getLsbD 27 = true ∨ sl.periods = 0) →
      Completes (.timerExpire (.slot x k)) s (fun t => OnlyCtx x s t ∧
        ((t.dev.ctx x).slots.getD k {}).fired = true ∧ ((t.dev.ctx x).slots.getD k {}).data = BitVec.ofNat 32 (sl.periods + 1))) ∧
  (∀ (s : State) (e : Fin 64), s.CoreUp → s.dev.safe = false → s.dev.power = 0 →
    (s.dev.ctx e).running = true → (s.dev.ctx e).ended = false →
    s.dev.rd (F.ENG_CFG_OVR_LIMIT e) > (s.dev.ctx e).ovrRun + 1 →
    Completes (.tickBudgetExpire e) s (fun t => (t.dev.ctx e).ended = true ∧ (t.dev.ctx e).overran = true ∧
      (t.dev.ctx e).outNow = [] ∧ (t.dev.ctx e).ovrTotal = min ((s.dev.ctx e).ovrTotal + 1) 0xFFFF)) ∧
  (∀ (s : State) (n : Fin 4), s.CoreUp → s.dev.rd (F.STW_ELOAD_BUSY n) = 1 →
    Completes (.eloadComplete n) s (fun t => t.dev.rd (F.STW_ELOAD_BUSY n) = 0)) ∧
  (∀ (s : State) (n : Fin 4) (m : Fin 1024) (w : Word),
    let k := entryKey n m
    let e := s.dev.entry k
    s.CoreUp → s.dev.firings = [(k, w)] → e.valid = true → e.running = false → s.dev.ustate (0x0F0 + n) = 3 →
    srcKind e.slot.src = 3 →
    Completes (.triggerFire n m) s (fun t => t.dev.firings = [] ∧ (t.dev.entry k).running = true ∧
      (t.dev.steward n).startq = (s.dev.steward n).startq ++
        [{ kind := .entry m none, tenant := e.tenant, args := [w, 0, BitVec.ofNat 32 m], pc := e.addr }])) ∧
  (∀ (s : State) (n : Fin 4) (r : StartReq) (rs : List StartReq) (k : Fin 8),
    s.CoreUp → s.dev.ustate (0x0F0 + n) = 3 → s.dev.safe = false → s.dev.power = 0 →
    (s.dev.steward n).startq = r :: rs → s.dev.freeThreadOf n = some k.val →
    Completes (.runStart n) s (fun t => (t.dev.steward n).startq = rs ∧ (t.dev.ctx (threadCtx n k)).running = true ∧
      (t.dev.ctx (threadCtx n k)).tenant = r.tenant ∧ (t.dev.ctx (threadCtx n k)).pc = r.pc ∧
      (∀ y, y ≠ threadCtx n k → t.dev.ctx y = s.dev.ctx y)))

/-- The access codes RW, RO and RCL, and the bus error. -/
def Obligations.RegisterAccessesFollowTheirCodes : Prop :=
  ∀ (s : State) (p : Path),
    (∀ (addr : BitVec 32) (v : Word) (b : Block) (off : Nat), s.TakesWrite p addr.toNat → s.dev.route p addr.toNat = .map addr.toNat →
      locate addr.toNat = .reg b off → b ∈ [.clk, .aud, .therm, .pwr] → ¬ (b = .pwr ∧ off = 0x2C) →
      (∀ f ∈ fieldsAt b off, f.acc = .rw) → reservedWithin b off = 0 →
      Completes (.registerWrite p addr (wordBytes v)) s (fun t => OnlyRegs (fun a => a = addr.toNat ∨ rsvWord a) s t ∧
        t.dev.reg addr.toNat = merge (s.dev.reg addr.toNat) (accMask (· == .rw) (fieldsAt b off)) v)) ∧
    (∀ (addr : BitVec 32) (bs : List Byte) (x : Nat), s.Up → s.dev.pathUp p = true → s.dev.route p addr.toNat = .map x →
      s.dev.rd F.FRG_STATUS_STATE ≠ Frg.RECORDING →
      (locate x).window = true → 0 < bs.length → bs.length ≤ 4 → s.dev.requestError p x bs.length true = none →
      Completes (.registerWrite p addr bs) s (fun t => ∀ b, memByte t.mem b =
        if x ≤ b ∧ b < x + bs.length then bs.getD (b - x) 0 else memByte s.mem b)) ∧
    (∀ (addr : BitVec 32) (bs : List Byte) (x w k : Nat), s.Up → s.dev.pathUp p = true → s.dev.route p addr.toNat = .map x →
      s.dev.requestError p x bs.length true = some (w, k) → k < 5 →
      Completes (.registerWrite p addr bs) s (fun t => t.mem = s.mem ∧ Output.error p ∈ t.dev.out ∧
        t.dev.rd F.GLB_BUSERR_COUNT_COUNT = min (s.dev.rd F.GLB_BUSERR_COUNT_COUNT + 1) 0xFFFFFFFF ∧
        t.dev.rd F.GLB_BUSERR_INFO_VALID = 1 ∧
        (s.dev.rd F.GLB_BUSERR_INFO_VALID = 0 → t.dev.rd F.GLB_BUSERR_INFO_KIND = k ∧ t.dev.rd F.GLB_BUSERR_INFO_WRITE = 1 ∧
          t.dev.rd F.GLB_BUSERR_ADDR_ADDR = w % 2 ^ 27))) ∧
    (∀ (addr : BitVec 32) (n off : Nat), s.TakesRead p addr.toNat → s.dev.route p addr.toNat = .map addr.toNat →
      locate addr.toNat = .reg (.lnk n) off →
      Completes (.readClear p addr 4) s (fun t => RegFrame (· = addr.toNat) s t ∧
        Answers p (s.dev.reg addr.toNat &&& ~~~ accMask (· == .wo) (fieldsAt (.lnk n) off)) s t ∧
        t.dev.reg addr.toNat = s.dev.reg addr.toNat &&& ~~~ accMask (· == .rcl) (fieldsAt (.lnk n) off))) ∧
    (∀ (x : BitVec 20) (b : Fin 8) (bl : Block) (off : Nat),
      let a := x.toNat / 4 * 4
      let k := x.toNat % 4 * 8 + b.val
      locate x.toNat = .reg bl off → bl ∈ [.pwr, .err, .sec, .cfg] → accMask (· == .wo) (fieldsAt bl off) = 0 →
      s.TakesRead p (0x2000000 + x.toNat * 32 + b.val * 4) →
      Completes (.bitAliasAccess p x b none) s (fun t => RegFrame (· = a) s t ∧
        Answers p (BitVec.ofNat 32 (bits (s.dev.reg a) k 1)) s t ∧
        t.dev.reg a = s.dev.reg a &&& ~~~ (fieldMask k 1 &&& accMask (· == .rcl) (fieldsAt bl off)))) ∧
    (∀ (x : BitVec 20) (b : Fin 8) (v : Word) (bl : Block) (off : Nat),
      let a := x.toNat / 4 * 4
      let k := x.toNat % 4 * 8 + b.val
      locate x.toNat = .reg bl off → bl ∈ [.clk, .aud, .therm, .pwr] → ¬ (bl = .pwr ∧ off = 0x2C) → reservedWithin bl off = 0 →
      (∀ f ∈ fieldsAt bl off, f.acc = .rw) → s.TakesWrite p (0x2000000 + x.toNat * 32 + b.val * 4) →
      Completes (.bitAliasAccess p x b (some v)) s (fun t => OnlyRegs (fun y => y = a ∨ rsvWord y) s t ∧
        t.dev.reg a = merge (s.dev.reg a) (fieldMask k 1 &&& accMask (· == .rw) (fieldsAt bl off)) (if v.getLsbD 0 then 0xFFFFFFFF else 0)))

/-- UNIT_EVT written. -/
def Obligations.UnitEvtWriteClearsLeaves : Prop :=
  ∀ (s : State) (src : OrderSrc) (u : BitVec 12) (v : Word),
    (match src with
      | .reg p => s.TakesWrite p (A.UNIT_EVT u.toNat)
      | .cmd t => s.CoreUp ∧ (classOf u.toNat).isSome = true ∧ (t.val = 0 ∨ t.val = s.dev.rd (F.UNIT_OWNER_OWNER u.toNat)) ∧
          (locate (A.UNIT_EVT u.toNat)) = .reg (.unit u.toNat) 0x10) →
    Completes (.unitEvtWrite src u v) s (fun t => RegFrame rsvWord s t ∧
      (∀ k ∈ [1, 2], (t.dev.reg (A.UNIT_EVT u.toNat)).getLsbD k = ((s.dev.reg (A.UNIT_EVT u.toNat)).getLsbD k && !v.getLsbD k)) ∧
      ∀ k, 3 ≤ k → (t.dev.reg (A.UNIT_EVT u.toNat)).getLsbD k = (s.dev.reg (A.UNIT_EVT u.toNat)).getLsbD k)

/-- What waits, and how it applies. -/
def Obligations.WaitingWritesApply : Prop :=
  ∀ (s : State) (w : Staged) (n : Fin 24),
    let u := 0x010 + n.val
    (∀ (p : Path) (reg : BitVec 32) (v : Word) (b : Block) (off k : Nat),
      s.TakesWrite p reg.toNat → locate reg.toNat = .reg b off → isCommit b off = true → s.dev.accepted = [] → s.dev.held = [w] →
      w.setId = some (u, k) → k ≠ 1 → w.mask ≠ 0 → setOfReg reg.toNat (u, k) = true → s.dev.ustate u ≠ 0 →
      s.dev.safe = false → s.dev.cfgRefuses 0 0 = false → ¬ w.addr < 0x50000 →
      (let d := s.dev.noteReserved b off reg.toNat (withGo v)
       ({ d with held := [] } : Dev).setCheck (d.applyOne w) (u, k) [] = (0, 0)) →
      Completes (.commitGo p reg v) s (fun t => t.dev.held = [] ∧ t.dev.accepted = [((u, k), [w])] ∧
        bits (t.dev.reg reg.toNat) 8 8 = 0 ∧ bits (t.dev.reg reg.toNat) 1 1 = 1 ∧
        (w.addr ≠ reg.toNat → t.dev.reg w.addr = s.dev.reg w.addr))) ∧
    (∀ (p : Path) (v : Word) (k : Nat),
      s.TakesWrite p A.GLB_COMMIT → s.dev.accepted = [] →
      (s.dev.held = [] → Completes (.glbCommit p v) s (fun t => t.dev.rd F.GLB_COMMIT_STATUS_REASON = 0 ∧
        t.dev.rd F.GLB_COMMIT_STATUS_UNIT = 0xFFF ∧ OnlyRegs (fun a => a = A.GLB_COMMIT_STATUS ∨ rsvWord a) s t)) ∧
      (s.dev.held = [w] → w.setId = some (u, k) → k ≠ 1 → w.mask ≠ 0 → s.dev.ustate u ≠ 0 → s.dev.safe = false →
        s.dev.cfgRefuses 0 0 = false → ¬ w.addr < 0x50000 →
        (let d := s.dev.noteReserved .glb 0x10 A.GLB_COMMIT (withGo v)
         ({ d with held := [] } : Dev).setCheck (d.applyOne w) (u, k) [] = (0, 0)) →
        Completes (.glbCommit p v) s (fun t => t.dev.held = [] ∧ t.dev.accepted = [((u, k), [w])] ∧
          t.dev.rd F.GLB_COMMIT_STATUS_REASON = 0 ∧ t.dev.rd F.GLB_COMMIT_STATUS_UNIT = 0xFFF))) ∧
    (s.CoreUp → s.dev.staged = [w] → unitOfAddr w.addr = some u →
      Completes (.stagedWriteApply (BitVec.ofNat 12 u)) s (fun t => t.dev.staged = [] ∧ RegFrame (· = w.addr) s t ∧
        t.dev.reg w.addr = merge (s.dev.reg w.addr) w.mask w.val ∧ t.dev.cfg.dirty = true)) ∧
    (∀ (k : Fin 128), s.CoreUp → s.dev.accepted = [((u, k.val), [w])] → k.val ≠ 1 → k.val ≠ 2 → w.addr ≠ A.LNK_COMMIT n →
      Completes (.commitApply (BitVec.ofNat 12 u) k) s (fun t => t.dev.accepted = [] ∧
        RegFrame (fun a => a = w.addr ∨ a = A.LNK_COMMIT n) s t ∧ t.dev.rd ⟨A.LNK_COMMIT n, 1, 1⟩ = 0 ∧
        t.dev.reg w.addr = merge (s.dev.reg w.addr) w.mask w.val)) ∧
    (∀ (q : Fin 6), s.Up → s.dev.posted = [w] → w.slow = some (.serdes q) →
      Completes (.postedWriteComplete (.serdes q)) s (fun t => t.dev.posted = [] ∧ t.dev.postBusy (.serdes q) = false ∧
        ∀ k, k < 31 → (t.dev.reg w.addr).getLsbD k = (merge (s.dev.reg w.addr) w.mask w.val).getLsbD k))

/-- The snapshot. -/
def Obligations.SnapshotsSampleAndSwap : Prop :=
  ∀ (s : State) (p : Path) (v : Word),
    (s.TakesWrite p A.GLB_SNAP →
      (s.dev.rd F.GLB_SNAP_BUSY = 0 → Completes (.glbSnapGo p v) s (fun t => t.dev.rd F.GLB_SNAP_BUSY = 1 ∧
        t.dev.snap.taking = some (s.dev.stat, BitVec.ofNat 64 s.dev.t64) ∧ t.dev.shelf = s.dev.shelf)) ∧
      (s.dev.rd F.GLB_SNAP_BUSY = 1 → s.dev.rd F.GLB_SNAP_PENDING = 0 → Completes (.glbSnapGo p v) s (fun t =>
        t.dev.rd F.GLB_SNAP_PENDING = 1 ∧ OnlyRegs (fun a => a = A.GLB_SNAP ∨ rsvWord a) s t)) ∧
      (s.dev.rd F.GLB_SNAP_BUSY = 1 → s.dev.rd F.GLB_SNAP_PENDING = 1 → Completes (.glbSnapGo p v) s (fun t =>
        t.dev.rd F.GLB_SNAP_COALESCED = min (s.dev.rd F.GLB_SNAP_COALESCED + 1) 0xFFFF ∧
        OnlyRegs (fun a => a = A.GLB_SNAP ∨ rsvWord a) s t))) ∧
    (∀ copy time, s.Up → s.dev.snap.taking = some (copy, time) → Completes .snapshotComplete s (fun t =>
      t.dev.shelf = copy ∧ t.dev.reg A.GLB_SNAP_SEQ = s.dev.reg A.GLB_SNAP_SEQ + 1 ∧
      t.dev.reg A.GLB_SNAP_TIME_LO = time.setWidth 32 ∧ t.dev.reg A.GLB_SNAP_TIME_HI = time.extractLsb' 32 32 ∧
      t.dev.rd F.GLB_SNAP_PENDING = 0 ∧ t.dev.rd F.GLB_SNAP_BUSY = s.dev.rd F.GLB_SNAP_PENDING))

/-- The configuration check. -/
def Obligations.ConfigurationIsChecked : Prop :=
  ∀ (s : State) (p : Path) (v : Word),
    let crc := s.dev.configCrc s.mem
    (s.CoreUp → Completes .cfgScan s (fun t => t.dev.reg A.CFG_CRC_NOW = crc ∧ t.dev.cfg.dirty = false ∧
      t.dev.rd F.CFG_STATUS_VALID = (if s.dev.cfg.dirty then 0 else 1) ∧
      (s.dev.cfg.dirty = false → s.dev.rd F.CFG_CRC_CAPTURE_BUSY = 1 → t.dev.reg A.CFG_CRC_REF = crc ∧
        t.dev.rd F.CFG_CTRL_REF_VALID = 1 ∧ t.dev.rd F.CFG_CRC_CAPTURE_BUSY = 0 ∧ t.dev.rd F.CFG_STATUS_MISMATCH = 0) ∧
      (s.dev.cfg.dirty = false → s.dev.rd F.CFG_CRC_CAPTURE_BUSY = 0 → s.dev.rd F.CFG_CTRL_REF_VALID = 1 →
        s.dev.rd F.CFG_CTRL_ACTION ≠ 2 → s.dev.reg A.CFG_CRC_REF ≠ crc →
        t.dev.rd F.CFG_STATUS_MISMATCH = 1 ∧
        t.dev.rd F.CFG_MISMATCH_COUNT_COUNT = min (s.dev.rd F.CFG_MISMATCH_COUNT_COUNT + 1) 0xFFFFFFFF) ∧
      (s.dev.cfg.dirty = false → s.dev.rd F.CFG_CTRL_REF_VALID = 1 → s.dev.reg A.CFG_CRC_REF = crc →
        t.dev.rd F.CFG_STATUS_MISMATCH = 0))) ∧
    (s.TakesWrite p A.CFG_CRC_CAPTURE → Completes (.cfgCrcCapture p v) s (fun t => t.dev.rd F.CFG_CRC_CAPTURE_BUSY = 1 ∧
      OnlyRegs (fun a => a = A.CFG_CRC_CAPTURE ∨ rsvWord a) s t)) ∧
    (s.TakesWrite p A.CFG_CRC_REF → Completes (.cfgRefWrite p v) s (fun t => t.dev.reg A.CFG_CRC_REF = v ∧
      t.dev.rd F.CFG_CTRL_REF_VALID = 1 ∧ OnlyRegs (fun a => a = A.CFG_CRC_REF ∨ a = A.CFG_CTRL) s t))

/-- Orders. -/
def Obligations.OrdersTakeEffect : Prop :=
  ∀ (s : State) (src : OrderSrc) (u : BitVec 12),
    let n := u.toNat
    let checked := fun order => (Dev.checkN 800 s.dev { tenant := some (orderTenant src), skipBusy := false } [] n order).2.2
    s.Quiet → (classOf n).isSome = true → isCabinet n = false →
    (match src with
      | .reg p => s.TakesWrite p (A.UNIT_CMD n)
      | .cmd _ => True) →
      (checked Ord.ENABLE = (0, 0) → s.dev.ustate n = 0 → Completes (.orderEnable src u) s (fun t =>
        t.dev.ustate n = 0 ∧ t.dev.rd (F.UNIT_CMD_TARGET n) = 2 ∧ t.dev.rd (F.UNIT_CMD_BUSY n) = 1 ∧
        t.dev.rd (F.UNIT_STATE_REASON n) = 0 ∧ (t.dev.unit n).order = Ord.ENABLE)) ∧
      (checked Ord.DISABLE = (0, 0) → s.dev.ustate n = 1 → Completes (.orderDisable src u) s (fun t =>
        t.dev.ustate n = 0 ∧ t.dev.rd (F.UNIT_CMD_TARGET n) = 0 ∧ t.dev.rd (F.UNIT_CMD_BUSY n) = 0 ∧
        t.dev.rd (F.UNIT_STATE_REASON n) = 0)) ∧
      (checked Ord.DRAIN = (0, 0) → s.dev.ustate n = 3 → (∀ f, unitKind n = .flow f → s.dev.ustate (0x200 + f / 8) ≠ 4) →
        Completes (.orderDrain src u) s (fun t =>
          t.dev.ustate n = 4 ∧ t.dev.rd (F.UNIT_CMD_TARGET n) = 1 ∧ t.dev.rd (F.UNIT_CMD_BUSY n) = 1 ∧
          t.dev.rd (F.UNIT_STATE_REASON n) = 0 ∧ (t.dev.unit n).drainAt = s.dev.clk)) ∧
      (checked Ord.RESET = (0, 0) → Completes (.orderReset src u) s (fun t =>
        t.dev.ustate n = 0 ∧ t.dev.rd (F.UNIT_CMD_BUSY n) = 0 ∧ t.dev.rd (F.UNIT_STATE_REASON n) = 0)) ∧
      (∀ r dt, r ≠ 0 → r < 256 → dt < 4096 → checked Ord.ENABLE = (r, dt) → Completes (.orderEnable src u) s (fun t =>
        t.dev.ustate n = s.dev.ustate n ∧ t.dev.rd (F.UNIT_STATE_REASON n) = r ∧ t.dev.rd (F.UNIT_STATE_DETAIL n) = dt ∧
        t.dev.rd (F.UNIT_REFUSALS_REFUSALS n) =
          min (s.dev.rd (F.UNIT_REFUSALS_REFUSALS n) + 1) (2 ^ (F.UNIT_REFUSALS_REFUSALS n).width - 1))) ∧
      Completes (.orderNone src u) s (fun t => t = s)

/-- State changes. -/
def Obligations.UnitsMoveThroughTheirStates : Prop :=
  ∀ (s : State) (u : BitVec 12),
    let n := u.toNat
    let changed := fun (t : State) => t.dev.reg (A.UNIT_TIME_LO n) = loWord s.dev.t64 ∧ t.dev.reg (A.UNIT_TIME_HI n) = hiWord s.dev.t64
    s.Quiet → (classOf n).isSome = true → isCabinet n = false →
      (s.dev.ustate n = 0 → (s.dev.unit n).order = Ord.ENABLE → syncsAtOnce n = false →
        Completes (.unitStandbyReached u) s (fun t => t.dev.ustate n = 1 ∧ t.dev.rd (F.UNIT_CMD_BUSY n) = 0 ∧
          (t.dev.unit n).syncWait = true ∧ changed t)) ∧
      (s.dev.ustate n = 1 → (s.dev.unit n).syncWait = true → s.dev.boundaryComes n = true → s.dev.acquiresNothing n = false →
        Completes (.unitSyncingEntry u) s (fun t => t.dev.ustate n = 2 ∧ (t.dev.unit n).syncWait = false ∧ changed t)) ∧
      (s.dev.ustate n = 2 → s.dev.acquires n = true →
        Completes (.acquisitionComplete u) s (fun t => t.dev.ustate n = 3 ∧ changed t)) ∧
      (s.dev.ustate n = 3 → (∃ k, unitKind n = .port k ∨ unitKind n = .decim k ∨ unitKind n = .seng k ∨ unitKind n = .region k) →
        Completes (.inputLost u) s (fun t => t.dev.ustate n = 2 ∧ changed t)) ∧
      (s.dev.ustate n = 4 → (∃ k, unitKind n = .port k ∨ unitKind n = .region k) →
        let done := fun (t : State) => t.dev.ustate n = (if s.dev.rd (F.UNIT_CMD_TARGET n) = 1 then 1 else 0) ∧
          t.dev.rd (F.UNIT_CMD_BUSY n) = 0 ∧ changed t
        Completes (.drainComplete u) s done ∧ Completes (.drainTimeout u) s done)

/-- Walks, owners, held events. -/
def Obligations.WalksOwnersAndHeldEvents : Prop :=
  (∀ (s : State) (u : BitVec 12) (w : Walk) (m : Nat), s.CoreUp → s.dev.walks = [w] → w.cab = u.toNat → w.awaiting = some m →
    (s.dev.memberReached w.order m = false → Completes (.cabinetWalkStep u) s (fun t => t = s)) ∧
    (s.dev.memberReached w.order m = true → w.todo = [] → isCabinet u.toNat = true → s.dev.waits = [] →
      Completes (.cabinetWalkStep u) s (fun t => t.dev.walks = [] ∧ t.dev.rd (F.UNIT_CMD_BUSY u.toNat) = 0 ∧
        (t.dev.unit u.toNat).order = 0))) ∧
  (∀ (s : State) (p : Path) (u : BitVec 12) (v : Word), s.TakesWrite p (A.UNIT_OWNER u.toNat) → u ≠ 0 →
    locate (A.UNIT_OWNER u.toNat) = .reg (.unit u.toNat) 8 →
    Completes (.ownerWrite p u v) s (fun t => t.dev.rd (F.UNIT_OWNER_OWNER u.toNat) = bits v 0 9 ∧
      ∀ a, a ≠ A.UNIT_OWNER u.toNat → ¬ rsvWord a → t.dev.reg a = s.dev.reg a)) ∧
  (∀ (s : State) (u : BitVec 12) (c : Nat), s.Up → (s.dev.unit u.toNat).heldPost = true → (s.dev.unit u.toNat).lastPost = some c →
    c + 10000000 ≤ s.dev.clk →
    Completes (.eventHoldExpire (.unit u)) s (fun t => (t.dev.unit u.toNat).heldPost = false ∧
      (t.dev.unit u.toNat).lastPost = some s.dev.clk))

/-- The PCIe functions. -/
def Obligations.PcieFunctionsFollowTheirCommands : Prop :=
  ∀ (s : State), s.Up → s.dev.pathUp .pcie = true →
    (∀ (fn : Fin 64), Completes (.functionLevelReset fn) s (fun t => t.mem = s.mem ∧ t.dev.host.d3hot.contains fn.val = false ∧
      (∀ k, k < 4096 → t.dev.msixWord fn k = if k % 4 = 3 then 1 else 0) ∧ (∀ e ∈ t.dev.host.pba, e.1 ≠ fn.val) ∧
      (fn.val = 0 → ∀ e ∈ s.dev.queues, s.dev.spiBound (e.1 / 4) = false → ∀ q, q < 3 →
        t.dev.rd (F.Q_EN (e.1 / 4) q) = 0 ∧ (t.dev.queue (e.1 / 4) q).entries = [] ∧ (t.dev.queue (e.1 / 4) q).held = []))) ∧
    (∀ (n : Fin 64), Completes (.vfEnable n) s (fun t => t.mem = s.mem ∧ t.dev.host.vfEnable = (n.val != 0) ∧
      (n.val = 0 → t.dev.host.vfMaps = []) ∧
      ∀ v, 1 ≤ v → v ≤ n.val → t.dev.vfMap v =
        if s.dev.vfBadAlone v || (List.range n.val).any (fun w => w + 1 != v && s.dev.vfOverlap v (w + 1)) then none
        else some (s.dev.rd (F.HOST_VF_MAP_FIRST v), s.dev.rd (F.HOST_VF_MAP_COUNT v)))) ∧
    (∀ (fn : Fin 64), Completes (.d3hotEntry fn) s (fun t => t.dev.host.d3hot.contains fn.val = true ∧
      t = { s with dev := { s.dev with host := { s.dev.host with d3hot := t.dev.host.d3hot } } }))

/-- The management SPI. -/
def Obligations.SpiFramesFollowTheirCommands : Prop :=
  ∀ (s : State), s.Up → s.dev.pathUp .spi = true →
    (∀ (addr : BitVec 32) (n : Fin 16), s.TakesRead .spi addr.toNat →
      let answer := fun (t : State) => ∃ st ws, Output.spi st ws ∈ t.dev.out ∧ ws.length = n.val + 1 ∧
        ws.headD 0 = s.dev.readWord ⟨s.mem, s.fuses⟩ .spi addr.toNat
      Completes (.read addr n) s answer ∧ Completes (.qread addr n) s answer) ∧
    (∀ (addr : BitVec 32) (v : Word), s.TakesWrite .spi addr.toNat → (locate addr.toNat).window = true →
      let stored := fun (t : State) => ∀ b, memByte t.mem b =
        if addr.toNat ≤ b ∧ b < addr.toNat + 4 then (wordBytes v).getD (b - addr.toNat) 0 else memByte s.mem b
      Completes (.write addr [v] false) s stored ∧ Completes (.qwrite addr [v] false) s stored) ∧
    (∀ (addr : BitVec 32) (ws : List Word) (part : Bool), part = true ∨ 16 < ws.length →
      Completes (.write addr ws part) s (fun t => t.dev.host.spiErr = true) ∧
      Completes (.qwrite addr ws part) s (fun t => t.dev.host.spiErr = true)) ∧
    Completes .status s (fun t => t = { s with dev := { s.dev with
      out := s.dev.out ++ [.spi (s.dev.spiStatus false) []], host := { s.dev.host with spiErr := false } } }) ∧
    (∀ (v : BitVec 16), Completes (.tenant v) s (fun t => t = { s with dev := { s.dev with host :=
      if v.toNat < 512 ∧ (v = 0 ∨ s.dev.spiBound v.toNat = true) then { s.dev.host with session := v.toNat }
      else { s.dev.host with spiErr := true } } })) ∧
    (∀ (c : Byte), spiKnown c = false → Completes (.spiUnknownCommand c) s (fun t =>
      t = { s with dev := { s.dev with host := { s.dev.host with spiErr := true } } }))

/-- Paths of tenants. -/
def Obligations.TenantsAreBoundToPaths : Prop :=
  ∀ (s : State) (p : Path) (v : Word),
    (∀ (w : Fin 16), s.TakesWrite p (A.HOST_BIND w) →
      let moved := (changedBits (s.dev.reg (A.HOST_BIND w)) v).filter (fun i => !(w.val == 0 && i == 0))
      ((∀ i ∈ moved, s.dev.anyQueue (32 * w + i) = false) → s.dev.rd F.HOST_SPI_TENANTS_COUNT ≤ 32 →
        Completes (.hostBindWrite p w v) s (fun t =>
          OnlyRegs (fun a => a = A.HOST_BIND w ∨ a = A.HOST_SPI_TENANTS ∨ rsvWord a) s t ∧
          ∀ i, i < 32 → (w.val ≠ 0 ∨ i ≠ 0) → t.dev.spiBound (32 * w + i) = v.getLsbD i)) ∧
      ((∃ i ∈ moved, s.dev.anyQueue (32 * w + i) = true) →
        Completes (.hostBindWrite p w v) s (fun t => OnlyRegs (fun a => a = A.HOST_STATUS ∨ rsvWord a) s t ∧
          t.dev.rd F.HOST_STATUS_IGNORED = min (s.dev.rd F.HOST_STATUS_IGNORED + 1) 0xFFFF))) ∧
    (s.TakesWrite p A.HOST_T0_PATH →
      (s.dev.anyQueue 0 = false → Completes (.hostT0PathWrite p v) s (fun t => t.dev.rd F.HOST_T0_PATH_PATH = bits v 0 1 ∧
        OnlyRegs (fun a => a = A.HOST_T0_PATH ∨ rsvWord a) s t)) ∧
      (s.dev.anyQueue 0 = true → s.dev.reg A.HOST_T0_PATH ≠ v &&& 1 →
        Completes (.hostT0PathWrite p v) s (fun t => OnlyRegs (fun a => a = A.HOST_STATUS ∨ rsvWord a) s t ∧
          t.dev.rd F.HOST_STATUS_IGNORED = min (s.dev.rd F.HOST_STATUS_IGNORED + 1) 0xFFFF)))

/-- Tenant queues. -/
def Obligations.TenantQueuesEnableAndMove : Prop :=
  ∀ (s : State) (p : Path) (t : Fin 512) (v : Word),
    (∀ (q : Fin 3),
      let depth := if s.dev.spiBound t then (if q.val = 2 then 16 else 8) else 2 ^ bits v 0 4
      s.TakesWrite p (pageAddr t (0x18 + q * 0x10)) →
      (s.dev.rd (F.Q_EN t q) = 0 → (s.dev.queue t q).dropped = 0 →
        (s.dev.spiBound t = true ∨ (4 ≤ bits v 0 4 ∧ bits v 0 4 ≤ 12 ∧ bits (s.dev.reg (A.Q_BASE_LO t q)) 0 12 = 0)) →
        (q.val = 0 → s.dev.rd (F.Q_EN t 1) = 1 ∧ depth ≤ s.dev.qDepth t 1) →
        Completes (.queueEnable p t q v) s (fun u => u.dev.rd (F.Q_EN t q) = 1 ∧ (u.dev.queue t q).entries = [] ∧
          (u.dev.queue t q).wr = 0 ∧ (u.dev.queue t q).rd = 0 ∧ (u.dev.queue t q).credits = depth ∧
          (q.val = 0 → u.dev.rd (F.SQ_CREDIT_CREDIT t) = depth))) ∧
      (s.dev.rd (F.Q_EN t q) = 1 →
        (q.val ≠ 1 ∨ s.dev.rd (F.Q_EN t 0) = 0 → Completes (.queueDisable p t q v) s (fun u => u.dev.rd (F.Q_EN t q) = 0 ∧
          (u.dev.queue t q).entries = [] ∧ (u.dev.queue t q).credits = 0)) ∧
        (q.val = 1 → s.dev.rd (F.Q_EN t 0) = 1 → Completes (.queueDisable p t q v) s (fun u => u.dev.rd (F.Q_EN t 1) = 1 ∧
          u.dev.rd (F.QSTAT_REASON t) = Rsn.STATE)))) ∧
    (let x := s.dev.queue t 0
     let n := (v.setWidth 16 - x.wr).toNat
     s.TakesWrite p (pageAddr t 0x40) → s.dev.rd (F.Q_EN t 0) = 1 → s.dev.spiBound t = false → x.ok = true →
      (n ≤ s.dev.rd (F.SQ_CREDIT_CREDIT t) → Completes (.sqTailWrite p t v) s (fun u =>
        (u.dev.queue t 0).wr = v.setWidth 16 ∧ (u.dev.queue t 0).wr2 = v.setWidth 16 ∧ (u.dev.queue t 0).rd = x.rd ∧
        u.dev.rd (F.SQ_CREDIT_CREDIT t) = s.dev.rd (F.SQ_CREDIT_CREDIT t) - n)) ∧
      (s.dev.rd (F.SQ_CREDIT_CREDIT t) < n → Completes (.sqTailWrite p t v) s (fun u =>
        u.dev.rd (F.QSTAT_SQ_OVERCREDIT t) = 1 ∧ OnlyRegs (fun a => a = A.QSTAT t ∨ rsvWord a) s u))) ∧
    (∀ q, q = 1 ∨ q = 2 →
      let x := s.dev.queue t q
      let n := (v.setWidth 16 - x.rd).toNat
      let moved := fun (u : State) => (u.dev.queue t q).rd = v.setWidth 16 ∧ (u.dev.queue t q).rd2 = x.rd2 + BitVec.ofNat 16 n ∧
        (u.dev.queue t q).wr = x.wr ∧ (u.dev.queue t q).credits = x.credits + n ∧ (u.dev.queue t q).armed = true
      s.TakesWrite p (pageAddr t (0x40 + 4 * q)) → s.dev.rd (F.Q_EN t q) = 1 → s.dev.spiBound t = false → x.ok = true → n ≤ x.fill →
      x.dropped = 0 →
        (q = 1 → Completes (.cqHeadWrite p t v) s moved) ∧ (q = 2 → Completes (.eqHeadWrite p t v) s moved))

/-- Queue ports. -/
def Obligations.QueuePortsAndDoorbells : Prop :=
  ∀ (s : State) (p : Path) (t : Fin 512) (v : Word),
    (s.TakesWrite p (pageAddr t 0xBC) → s.dev.rd (F.Q_EN t 0) = 1 → s.dev.rd (F.SQ_CREDIT_CREDIT t) ≠ 0 → (s.dev.queue t 0).ok = true →
      Completes (.sqPortPost p t v) s (fun u =>
        (u.dev.queue t 0).entries = (s.dev.queue t 0).entries ++ [s.dev.regsAt (A.SQ_PORT t 0) 15 ++ [v]] ∧
        (u.dev.queue t 0).wr = (s.dev.queue t 0).wr + 1 ∧
        u.dev.rd (F.SQ_CREDIT_CREDIT t) = s.dev.rd (F.SQ_CREDIT_CREDIT t) - 1)) ∧
    (∀ q n off, (q, n, off) = (1, 8, 0xC0) ∨ (q, n, off) = (2, 4, 0xE0) →
      let x := s.dev.queue t q
      let c : Instr := if q = 1 then .cqPortConsume p t else .eqPortConsume p t
      (∀ i, i < n → s.TakesRead p (pageAddr t (off + 4 * i))) → x.ok = true → x.dropped = 0 → ∀ e es, x.entries = e :: es →
      Completes c s (fun u => (u.dev.queue t q).entries = es ∧ (u.dev.queue t q).rd = x.rd + 1 ∧
        (u.dev.queue t q).credits = x.credits + 1 ∧ (u.dev.queue t q).last = e ∧
        ∀ i, i < n → Output.data p [e.getD i 0] ∈ u.dev.out)) ∧
    (s.TakesWrite p (pageAddr t 0xF0) → s.dev.coreOn = true → ∀ x k, x ∈ s.dev.ctxs.map (·.1) → k < 8 →
      let c := s.dev.ctx x
      c.running = true → c.tenant = t → c.slots.length = 8 → c.wait = .none → srcKind (c.slots.getD k {}).src = 5 →
      (s.dev.ctxs.map (·.1)).Nodup →
      Completes (.userDbWrite p t v) s (fun u => ((u.dev.ctx x).slots.getD k {}).fired = true ∧
        ((u.dev.ctx x).slots.getD k {}).data = v)) ∧
    (∀ ws rest, s.Up → (s.dev.queue t 1).held = ws :: rest → (s.dev.queue t 1).credits ≠ 0 → (s.dev.queue t 1).stopped = false →
      s.dev.rd (F.Q_EN t 1) = 1 →
      Completes (.completionPostDeferred t) s (fun u => (u.dev.queue t 1).held = rest ∧
        (u.dev.queue t 1).wr = (s.dev.queue t 1).wr + 1 ∧ (u.dev.queue t 1).credits = (s.dev.queue t 1).credits - 1))

/-- Commands of tenants. -/
def Obligations.CommandsAreFetchedAndStarted : Prop :=
  ∀ (s : State) (t : Fin 512) (ws : List Word),
    let cmd := s.dev.nextCmd t (sixteen ws)
    let x := s.dev.queue t 0
    let cq := s.dev.queue t 1
    let taken := fun (u : State) => (u.dev.queue t 0).rd = x.rd + 1 ∧ (u.dev.queue t 0).rd2 = x.rd2 + 1 ∧
      (u.dev.queue t 0).entries = x.entries.drop 1 ∧ u.dev.rd (F.SQ_HEAD_HEAD t) = (x.rd + 1).toNat
    let started := fun (i : Instr) (op : Nat) (P : State → Prop) =>
      cOpcode cmd = op → Completes i s (fun u => taken u ∧ P u) ∧ Completes (.commandFetch t ws) s (fun u => taken u ∧ P u)
    let posted := fun (u : State) => u.dev.cmds = s.dev.cmds ∧ (u.dev.queue t 1).wr = cq.wr + 1
    s.CoreUp → s.dev.rd F.FRG_STATUS_STATE ≠ Frg.RECORDING → s.dev.mayFetch t (sixteen ws) = true → x.ok = true →
      cTenant cmd = t →
      (∀ m e, m = entryKey (cSteward cmd) (cTarget cmd) → e = s.dev.entry m → s.dev.cmdRange cmd = false → cTarget cmd < 1024 →
        cTarget cmd < s.dev.rd (F.STW_ETAB_COUNT_COUNT (cSteward cmd)) → e.valid = true → (t.val = 0 ∨ t.val = e.tenant ∨ e.anyTenant = true) →
        e.running = false →
        started (.run t ws) 1 (fun u => (u.dev.entry m).running = true ∧
          (u.dev.steward (cSteward cmd)).startq = (s.dev.steward (cSteward cmd)).startq ++
            [{ kind := .entry (cTarget cmd) (some (t, cSeq cmd)), tenant := t, args := cArgs cmd, pc := e.addr }])) ∧
      (s.dev.cmdRange cmd = false → started (.inline t ws) 2 (fun u =>
        (u.dev.steward (cSteward cmd)).startq = (s.dev.steward (cSteward cmd)).startq ++
          [{ kind := .inlineRun t (cSeq cmd), tenant := t, args := [BitVec.ofNat 32 (cNargs cmd)] }])) ∧
      (cq.held = [] → cq.credits ≠ 0 → cq.stopped = false → (∀ c ∈ s.dev.cmds, c.tenant ≠ t) →
        (s.dev.cmdRange cmd = false → classOf (bits (cmd.getD 2 0) 0 12) = none → started (.unitop t ws) 3 posted) ∧
        started (.cmdFence t ws) 4 posted)

/-- Host channel rings. -/
def Obligations.HostChannelRingsMove : Prop :=
  (∀ (s : State) (p : Path) (t : Fin 512) (r : Fin 128) (v : Word),
    let x := s.dev.hchRing r
    let n : BitVec 16 := v.setWidth 16
    let fits := if r.val < 64 then (n - x.dev).toNat ≤ s.dev.hchDepth r else (n - x.host).toNat ≤ (x.dev - x.host).toNat
    s.TakesWrite p (pageAddr t (0x400 + 4 * r)) → s.dev.rd (F.UNIT_OWNER_OWNER 0x0FA) = t → s.dev.rd (F.HCH_CFG_EN r) = 1 → x.ok = true →
      (fits → Completes (.hchPtrWrite p t r v) s (fun u => u.dev.hchRing r = { x with host := n, host2 := n } ∧ OnlyRegs rsvWord s
        { u with dev := { u.dev with hch := s.dev.hch } })) ∧
      (¬ fits → Completes (.hchPtrWrite p t r v) s (fun u => OnlyRegs (fun a => a = A.HOST_STATUS ∨ rsvWord a) s u ∧
        u.dev.rd F.HOST_STATUS_IGNORED = min (s.dev.rd F.HOST_STATUS_IGNORED + 1) 0xFFFF))) ∧
  (∀ (s : State) (r : Fin 64) (block : List Byte),
    let x := s.dev.hchRing r
    s.CoreUp → s.dev.hchRuns r = true → x.block = [] → x.ok = true →
      (x.hostAt ≠ x.dev → Completes (.hchPlaybackRead r block) s (fun u =>
        (u.dev.hchRing r).dev = x.dev + 1 ∧ (u.dev.hchRing r).dev2 = x.dev2 + 1 ∧ (u.dev.hchRing r).host = x.host ∧
        (u.dev.hchRing r).block = playbackSamples (s.dev.rd (F.HCH_CFG_CHANS r) * x.tick) (s.dev.on (F.HCH_CFG_TAGS r)) block)) ∧
      (x.hostAt = x.dev → Completes (.hchPlaybackRead r block) s (fun u =>
        (u.dev.hchRing r).dev = x.dev ∧ (u.dev.reg (A.HCH_STAT r)).getLsbD 16 = true))) ∧
  (∀ (s : State) (r : Fin 64) (ss : List Sample) (rest : List (List Sample)),
    let k := 64 + r.val
    let x := s.dev.hchRing k
    s.CoreUp → x.record = ss :: rest → s.dev.rd (F.HCH_CFG_EN k) = 1 → x.ok = true →
      ((x.dev - x.host).toNat < s.dev.hchDepth k → Completes (.hchRecordWrite r) s (fun u =>
        (u.dev.hchRing k).dev = x.dev + 1 ∧ (u.dev.hchRing k).host = x.host ∧ (u.dev.hchRing k).record = rest)) ∧
      (s.dev.hchDepth k ≤ (x.dev - x.host).toNat → Completes (.hchRecordWrite r) s (fun u =>
        (u.dev.hchRing k).dev = x.dev ∧ (u.dev.hchRing k).record = rest ∧ (u.dev.reg (A.HCH_STAT k)).getLsbD 17 = true)))

/-- The states of links. -/
def Obligations.LinksComeUpAndGoDown : Prop :=
  ∀ (s : State) (n : Fin 24),
    let u := 0x010 + n.val
    let evt := fun (t : State) (b : Nat) => (t.dev.reg (A.LNK_EVT n)).getLsbD b = true
    s.CoreUp →
      (∀ (an : Bool) (partner : BitVec 16), s.dev.ustate u = 1 ∨ s.dev.ustate u = 2 ∨ s.dev.ustate u = 3 →
        Completes (.pcsLock n an partner) s (fun t => OnlyRegs (· = A.LNK_STATUS n) s t ∧ t.dev.rd (F.LNK_STATUS_PCS_LOCK n) = 1 ∧
          t.dev.rd (F.LNK_STATUS_REMOTE_FAULT n) = 0 ∧ (s.dev.anApplies n = true → an = true →
            t.dev.rd (F.LNK_STATUS_AN_DONE n) = 1 ∧ t.dev.rd (F.LNK_STATUS_PARTNER n) = partner.toNat))) ∧
      (s.Quiet → s.dev.ustate u = 2 → s.dev.rd (F.LNK_STATUS_PCS_LOCK n) = 1 →
        (s.dev.anApplies n = false ∨ s.dev.rd (F.LNK_STATUS_AN_DONE n) = 1) →
        Completes (.linkHoldExpire n) s (fun t => t.dev.ustate u = 3 ∧ t.dev.rd (F.LNK_STATUS_LINK_UP n) = 1 ∧ evt t 0)) ∧
      (∀ (cause : Fin 3), s.Quiet → s.dev.ustate u = 3 → Completes (.linkDown n cause) s (fun t =>
        t.dev.ustate u = 2 ∧ t.dev.rd (F.LNK_STATUS_LINK_UP n) = 0 ∧ evt t 1 ∧ Counted (Ctr.LNK n Lc.LINK_DOWN) 1 s t ∧
        (t.dev.link n).arriving = [] ∧ (t.dev.link n).queue = [] ∧ (t.dev.link n).sending = none ∧ (t.dev.link n).preempted = none)) ∧
      (s.Quiet → s.dev.ustate u = 0 → (s.dev.unit u).order = Ord.ENABLE → 3 ≤ s.dev.rd (F.LNK_CTRL_SPEED n) →
        Completes (.lcPllTimeout n) s (fun t => t.dev.ustate u = 5 ∧ t.dev.rd (F.UNIT_CMD_BUSY u) = 0 ∧ (t.dev.unit u).order = 0)) ∧
      (s.dev.rd (F.LNK_PREEMPT_VERIFY n) = 1 →
        Completes (.preemptVerify n true) s (fun t => t.dev.rd (F.LNK_PREEMPT_VERIFY n) = 2 ∧ evt t 7) ∧
        ((s.dev.link n).verifies < 2 → Completes (.preemptVerify n false) s (fun t => t.dev.rd (F.LNK_PREEMPT_VERIFY n) = 1 ∧
          (t.dev.link n).verifies = (s.dev.link n).verifies + 1)) ∧
        (2 ≤ (s.dev.link n).verifies → Completes (.preemptVerify n false) s (fun t => t.dev.rd (F.LNK_PREEMPT_VERIFY n) = 3 ∧
          evt t 7))) ∧
      Completes (.stcRealign n) s (fun t => t = { s with dev := s.dev.setLink n { s.dev.link n with shadow := s.dev.stcFine } })

/-- Pauses. -/
def Obligations.PausesEnd : Prop :=
  ∀ (s : State) (n : Fin 24) (c : Fin 8),
    let l := s.dev.link n
    let shown := fun (t : State) => let m := t.dev.link n
      t.dev.rd (F.LNK_PAUSE_STAT_PAUSED n) = Nat.lor m.pauseMask m.pfcMask % 256 ∧
      t.dev.rd (F.LNK_PAUSE_STAT_HELD_OFF n) = Nat.lor m.pauseHeld m.pfcHeld % 256
    let quiet := fun (t : State) => shown t ∧ OnlyRegs (· = A.LNK_PAUSE_STAT n) s { t with dev := { t.dev with links := s.dev.links } }
    s.CoreUp →
      Completes (.pauseExpire n none) s (fun t => quiet t ∧ (t.dev.link n).pauseMask = 0 ∧ (t.dev.link n).pfcMask = l.pfcMask) ∧
      Completes (.pauseExpire n (some c)) s (fun t => quiet t ∧ (t.dev.link n).pauseMask = l.pauseMask ∧
        (t.dev.link n).pfcMask = Nat.land l.pfcMask (255 - 2 ^ c.val)) ∧
      Completes (.holdoffExpire n none) s (fun t => quiet t ∧ (t.dev.link n).pauseHeld = 0 ∧ (t.dev.link n).pfcHeld = l.pfcHeld) ∧
      Completes (.holdoffExpire n (some c)) s (fun t => quiet t ∧ (t.dev.link n).pauseHeld = l.pauseHeld ∧
        (t.dev.link n).pfcHeld = Nat.land l.pfcHeld (255 - 2 ^ c.val)) ∧
      (l.pauseMask / 2 ^ c.val % 2 = 1 → Completes (.pauseWd n c) s (fun t => shown t ∧ (t.dev.link n).pauseMask = 0 ∧
        (t.dev.link n).pauseHeld = l.pauseMask ∧ Counted (Ctr.LNK n Lc.PAUSE_WD_TRIPS) 1 s t ∧ t.mem = s.mem)) ∧
      (l.pauseMask / 2 ^ c.val % 2 = 0 → l.pfcMask / 2 ^ c.val % 2 = 1 → Completes (.pauseWd n c) s (fun t => shown t ∧
        (t.dev.link n).pfcMask = l.pfcMask - 2 ^ c.val ∧ (t.dev.link n).pfcHeld = Nat.lor l.pfcHeld (2 ^ c.val) ∧
        Counted (Ctr.LNK n Lc.PAUSE_WD_TRIPS) 1 s t ∧ t.mem = s.mem))

/-- Frames through a link. -/
def Obligations.FramesPassThroughLinks : Prop :=
  ∀ (s : State) (n : Fin 24),
    let u := 0x010 + n.val
    let l := s.dev.link n
    s.CoreUp →
      (∀ (o : List Byte) (sym corr : Nat),
        let tags := tagsOf (s.dev.tpid n) o
        let vid := if tags = 0 ∨ outerVid o = 0 then s.dev.rd (F.LNK_VLAN_PVID n) else outerVid o
        let cls := s.dev.classOfFrame n tags o
        let audio := s.dev.rd (F.LNK_CLASS_AUDIO n) / 2 ^ cls % 2 = 1
        s.dev.replays u = false → s.dev.boardwalk n = false → s.dev.ustate u = 3 → s.dev.domainOn (4 + n / 4) = true → s.dev.power = 0 →
        64 ≤ o.length + 4 → o.length + 4 ≤ s.dev.rd (F.LNK_MAXLEN_MAXLEN n) + 4 * tags → beAt o 12 2 ≠ 0x8808 →
        Completes (.rxFrame n o false sym corr 0) s (fun t => Counted (Ctr.LNK n Lc.RX_FCS) 1 s t ∧ t.dev.link n = l) ∧
        (s.dev.passesFilter n o = true → s.dev.rd (F.LNK_MACSEC_RX_EN n) = 0 →
          (s.dev.rd (F.LNK_VLAN_VFILTER_EN n) = 0 ∨ s.dev.vlanMember n vid = true) →
          ptpEvent (s.dev.on (F.LNK_PTP_CTRL_L2 n)) (s.dev.on (F.LNK_PTP_CTRL_UDP4 n)) (s.dev.on (F.LNK_PTP_CTRL_UDP6 n)) tags o = none →
          (audio → laneFill l.audio + o.length ≤ 32768) → (¬ audio → laneFill l.other + o.length ≤ 98304) →
          Completes (.rxFrame n o true sym corr 0) s (fun t => Counted (Ctr.LNK n Lc.RX_FRAMES) 1 s t ∧ ∃ f : Frame,
            f.octets = o ∧ f.port = n ∧ f.cls = cls ∧ f.vid = vid ∧ f.tags = tags ∧
            t.dev.link n = if audio then { l with audio := l.audio ++ [f] } else { l with other := l.other ++ [f] }))) ∧
      (∀ (f : TxFrame) (fs : List TxFrame), s.dev.frg.scope = [] → l.arriving = f :: fs →
        Completes (.txEnqueue n) s (fun t => (t.dev.link n).arriving = fs ∧
          (t.dev.link n).queue = if ((s.dev.settleCredit n).gateCheck n f).isNone then l.queue ++ [f] else l.queue)) ∧
      (∀ (f : TxFrame),
        let d := s.dev.settleCredit n
        d.mayTransmit n = true → l.sending = none → l.preempted = none → d.selectTx n (fun _ => true) = some f →
        s.dev.rd (F.LNK_MACSEC_TX_EN n) = 0 →
        Completes (.txFrameStart n) s (fun t => (∃ o, (t.dev.link n).sending = some { f with octets := o, tag := none }) ∧
          (t.dev.link n).queue = l.queue.filter (fun g => g.pkt != f.pkt || g.src != f.src) ∧ t.dev.regs = s.dev.regs)) ∧
      (∀ (f : TxFrame), l.sending = some f → Completes (.txFrameDone n) s (fun t => (t.dev.link n).sending = none ∧
        Output.frame n f.octets ∈ t.dev.out ∧ Counted (Ctr.LNK n Lc.TX_FRAMES) 1 s t))

/-- Gate lists. -/
def Obligations.GateListsRun : Prop :=
  ∀ (s : State) (n : Fin 24), s.CoreUp →
    (s.dev.rd (F.LNK_GCL_STATUS_PENDING n) = 1 →
      (∀ a ∈ s.dev.accepted, ∀ w ∈ a.2, ∀ i, i < 256 → w.addr ≠ A.LNK_GCL n i ∧ w.addr ≠ A.LNK_GCL_OPER n i) →
      Completes (.gclSwitch n) s (fun t => t.dev.rd (F.LNK_GCL_STATUS_PENDING n) = 0 ∧ t.dev.rd (F.LNK_GCL_STATUS_ENTRY n) = 0 ∧
        (t.dev.reg (A.LNK_EVT n)).getLsbD 4 = true ∧ (t.dev.link n).entryAt = (s.dev.link n).gateStart ∧
        ∀ i, i < 256 → t.dev.reg (A.LNK_GCL_OPER n i) = s.dev.reg (A.LNK_GCL n i) ∧
          t.dev.reg (A.LNK_GCL n i) = s.dev.reg (A.LNK_GCL_OPER n i))) ∧
    (s.dev.rd (F.LNK_GCL_CTRL_EN n) = 1 → (s.dev.spans n).length ≤ 256 →
      let i := s.dev.rd (F.LNK_GCL_STATUS_ENTRY n)
      Completes (.gateEntryAdvance n) s (fun t =>
        t.dev.rd (F.LNK_GCL_STATUS_ENTRY n) = (if i + 1 < (s.dev.spans n).length then i + 1 else 0) ∧
        (t.dev.link n).entryAt = (s.dev.link n).entryAt + ((s.dev.spans n).getD i (0, 0)).2 ∧
        ∀ a, a ≠ A.LNK_GCL_STATUS n → t.dev.reg a = s.dev.reg a))

/-- Tokens. -/
def Obligations.TokensGoRound : Prop :=
  ∀ (s : State) (k : Fin 12),
    let r := s.dev.ring k
    let evt := fun (t : State) (b : Nat) => (t.dev.reg (A.RING_EVT k)).getLsbD b = true
    s.CoreUp → s.dev.ringPasses k = true →
      (s.dev.isManager k = true → r.stepDown = false →
        let cyc := s.dev.stcNs / s.dev.ringCycle k % 2 ^ 32
        Completes (.tokenEmit k) s (fun t => (t.dev.ring k).cycle = cyc ∧ (t.dev.ring k).forwarded = some cyc ∧
          (t.dev.ring k).tokenOut = true ∧ (t.dev.ring k).manager = some (s.dev.ringRank k) ∧
          Counted (Ctr.RING k Rc.TOKENS_GEN) 1 s t)) ∧
      (s.dev.isManager k = true → r.stepDown = true →
        Completes (.tokenEmit k) s (fun t => t.dev.rd (F.RING_STATUS_ROLE k) = 1 ∧ (t.dev.ring k).stepDown = false ∧ evt t 3)) ∧
      (∀ f fs, takeFirst (fun f => subtypeOf f.octets == 1 && !s.dev.ownToken k f.octets) r.rx = some (f, fs) →
        let o := f.octets
        let rank := (ringField o 30 1 % 16, ringField o 24 6)
        let foreign := ringField o 2 2 ≠ s.dev.rd (F.RING_CTRL_RING_ID k) ∨ ringField o 30 1 / 16 % 4 ≠ s.dev.rd (F.RING_CTRL_CYCLE k)
        let stale := (∃ m, r.manager = some m ∧ outranks m rank = true) ∨ r.forwarded = some (ringField o 4 4)
        (foreign → Completes (.rxToken k) s (fun t => (t.dev.ring k).rx = fs ∧ Counted (Ctr.RING k Rc.RX_FOREIGN) 1 s t ∧ evt t 7)) ∧
        (¬ foreign → stale → Completes (.rxToken k) s (fun t => t.dev.ring k = { r with rx := fs } ∧ t.dev.regs = s.dev.regs ∧
          Counted (Ctr.RING k Rc.TOKENS_ABSORBED) 1 s t)) ∧
        (¬ foreign → ¬ stale → Completes (.rxToken k) s (fun t => (t.dev.ring k).cycle = ringField o 4 4 ∧
          (t.dev.ring k).forwarded = some (ringField o 4 4) ∧ (t.dev.ring k).manager = some rank ∧
          Counted (Ctr.RING k Rc.TOKENS_FWD) 1 s t))) ∧
      (∀ f fs, takeFirst (fun f => subtypeOf f.octets == 1 && s.dev.ownToken k f.octets) r.rx = some (f, fs) →
        let rtt := (s.dev.stcFine / 2 ^ 16 - r.tokenAt) / 65536
        Completes (.tokenReturn k) s (fun t => (t.dev.ring k).rx = fs ∧ (t.dev.ring k).tokenOut = false ∧
          t.dev.rd (F.RING_STATUS_HOLD k) = holdOf rtt (s.dev.ringCycle k) ∧ t.dev.rd (F.RING_RTT_RTT k) = rtt % 2 ^ 20 ∧
          Counted (Ctr.RING k Rc.TOKENS_STRIPPED) 1 s t)) ∧
      (s.dev.isManager k = false →
        Completes (.tokenMiss k) s (fun t => (t.dev.ring k).silent = true ∧ (t.dev.ring k).cycle = (r.cycle + 1) % 2 ^ 32 ∧ evt t 4 ∧
          Counted (Ctr.RING k Rc.TOKEN_MISSED) 1 s t) ∧
        (s.Quiet → s.dev.ustate (0x030 + k) = 3 → Completes (.ringTokenLoss k) s (fun t => t.dev.ustate (0x030 + k) = 2 ∧
          (t.dev.ring k).manager = none ∧ (t.dev.ring k).forwarded = none)) ∧
        (s.dev.ustate (0x030 + k) ≠ 4 → s.dev.rd (F.RING_CTRL_MGR_PRIO k) ≠ 0 → Completes (.managerElectionTimeout k) s (fun t =>
          t.dev.rd (F.RING_STATUS_ROLE k) = 2 ∧ evt t 3 ∧ (t.dev.ring k).manager = some (s.dev.ringRank k) ∧
          (t.dev.ring k).censusDue = true)))

/-- Frames of a ring. -/
def Obligations.RingFramesGoRound : Prop :=
  ∀ (s : State) (k : Fin 12),
    let r := s.dev.ring k
    let up := fun (n : Nat) => n < 24 ∧ s.dev.ustate (0x010 + n) = 3 ∧ s.dev.rd (F.LNK_MACSEC_TX_EN n) = 0
    s.CoreUp → s.dev.ringPasses k = true →
      (∀ f fs, r.pass = f :: fs → f.west = true → f.fcsOk = true → s.dev.isManager k = false → 1 ≤ subtypeOf f.octets →
        subtypeOf f.octets ≤ 6 → ringField f.octets 1 1 < 16 →
        ¬ (subtypeOf f.octets = 3 ∧ s.dev.inOwnWindow k f.pos = true) → s.dev.rd (F.RING_STATUS_EAST_WRAP k) = 0 → up (s.dev.east k) →
        Completes (.passThrough k) s (fun t => t.dev.ring k = { r with pass := fs } ∧
          Output.frame (s.dev.east k) f.octets ∈ t.dev.out ∧ t.dev.regs = s.dev.regs)) ∧
      (∀ b, s.dev.ringSends k = true → r.blocks = [b] →
        (s.dev.rd (F.RING_ALLOC_ALLOC k) = 0 → Completes (.windowStart k) s (fun t => (t.dev.ring k).blocks = [] ∧
          Counted (Ctr.RING k Rc.ISO_NO_WINDOW) 1 s t)) ∧
        (s.dev.rd (F.RING_ALLOC_ALLOC k) ≠ 0 → s.dev.occupancy k (b.octets.length + 4) ≤ s.dev.rd (F.RING_ALLOC_ALLOC k) →
          s.dev.rd (F.RING_STATUS_EAST_WRAP k) = 0 → up (s.dev.east k) →
          Completes (.windowStart k) s (fun t => (t.dev.ring k).blocks = [] ∧ Output.frame (s.dev.east k) b.octets ∈ t.dev.out ∧
            Counted (Ctr.RING k Rc.TX_BLOCKS) 1 s t))) ∧
      (∀ f fs, s.dev.ustate (0x030 + k) = 3 →
        (takeFirst (fun f => subtypeOf f.octets == 3) r.rx = some (f, fs) → s.dev.inOwnWindow k f.pos = false →
          Completes (.rxBlock k) s (fun t => (t.dev.ring k).rx = fs ∧ Counted (Ctr.RING k Rc.RX_BLOCKS) 1 s t)) ∧
        (takeFirst (fun f => subtypeOf f.octets == 4) r.rx = some (f, fs) → s.dev.isManager k = false →
          (let me := s.dev.rd (F.RING_STATUS_POSITION k)
           let src := ringField f.octets 4 1 % 64
           if s.dev.inPass2 k f.pos then me < src else src < me) →
          Completes (.rxAsync k) s (fun t => (t.dev.ring k).rx = fs ∧ Counted (Ctr.RING k Rc.ASYNC_RX) 1 s t))) ∧
      (up (s.dev.west k) → Completes (.echoSend k) s (fun t => (t.dev.ring k).echoSent.1 = r.cycle ∧
        ∃ o, subtypeOf o = 2 ∧ Output.frame (s.dev.west k) o ∈ t.dev.out)) ∧
      (∀ f fs, takeFirst (fun f => subtypeOf f.octets == 2) r.rx = some (f, fs) →
        Completes (.rxEcho k) s (fun t => t.dev.ring k = { r with rx := fs, echoRx := (ringField f.octets 4 4 % 65536, f.ts) } ∧
          t.dev.regs = s.dev.regs ∧ t.mem = s.mem ∧ ∀ j, j ≠ k.val → t.dev.ring j = s.dev.ring j))

/-- Census, tables, folds. -/
def Obligations.RingsTakeCensusAndWrap : Prop :=
  ∀ (s : State) (k : Fin 12),
    let r := s.dev.ring k
    let evt := fun (t : State) (b : Nat) => (t.dev.reg (A.RING_EVT k)).getLsbD b = true
    let begun := fun (t : State) => (t.dev.ring k).censusOut = some (r.epoch, r.cycle) ∧ (t.dev.ring k).censusDue = false ∧
      (t.dev.ring k).epoch = (r.epoch + 1) % 65536 ∧ Counted (Ctr.RING k Rc.CENSUS_STARTED) 1 s t
    s.CoreUp → s.dev.ringPasses k = true →
      (s.dev.isManager k = true →
        (r.censusDue = true → Completes (.censusStart k) s begun) ∧
        (s.dev.rd (F.RING_CENSUS_PERIOD k) ≠ 0 → r.censusOut = none → Completes (.censusPeriodExpire k) s begun) ∧
        (∀ f fs epoch at_, takeFirst (fun f => subtypeOf f.octets == 5 && s.dev.isManager k && beAt f.octets 6 6 == s.dev.ringName k)
            r.rx = some (f, fs) → r.censusOut = some (epoch, at_) →
          let es := parseCensus f.octets
          ringField f.octets 4 2 = epoch → r.changeSeen = false → (es.map (·.name)).Nodup →
          r.cycle ≤ at_ + s.dev.rd (F.RING_STATUS_HOLD k) + 1 →
          Completes (.censusReturn k) s (fun t => (t.dev.ring k).censusOut = none ∧ (t.dev.ring k).lastCensus = some es ∧
            (t.dev.ring k).rx = fs ∧ t.dev.regs = s.dev.regs)) ∧
        (∀ es, r.tableDue = true → r.lastCensus = some es → Completes (.tableSend k) s (fun t =>
          (t.dev.ring k).tableOut = some (s.dev.tableOf k es) ∧ (t.dev.ring k).tableDue = false ∧ (t.dev.ring k).census = es))) ∧
      (s.dev.isManager k = false → ∀ f fs,
        (takeFirst (fun f => subtypeOf f.octets == 5) r.rx = some (f, fs) → ringField f.octets 6 1 < 64 →
          Completes (.rxCensus k) s (fun t => t.dev.ring k = { r with rx := fs, index := some (ringField f.octets 6 1) })) ∧
        (takeFirst (fun f => subtypeOf f.octets == 6) r.rx = some (f, fs) →
          Completes (.rxTable k) s (fun t => t.dev.ring k = { r with rx := fs, stored := some (parseTable f.octets) }))) ∧
      (∀ (west : Bool),
        let f := if west then F.RING_STATUS_WEST_WRAP k else F.RING_STATUS_EAST_WRAP k
        s.dev.rd f = 0 → Completes (.ringWrap k west) s (fun t => t.dev.rd f = 1 ∧ evt t 0 ∧ (t.dev.ring k).changeFor = 2 ∧
          Counted (Ctr.RING k Rc.WRAPS) 1 s t)) ∧
      (s.dev.rd (F.RING_STATUS_WEST_WRAP k) = 1 ∨ s.dev.rd (F.RING_STATUS_EAST_WRAP k) = 1 → r.unwrapAt = some (r.cycle % 256) →
        Completes (.ringUnwrap k) s (fun t => t.dev.rd (F.RING_STATUS_WEST_WRAP k) = 0 ∧ t.dev.rd (F.RING_STATUS_EAST_WRAP k) = 0 ∧
          evt t 1 ∧ Counted (Ctr.RING k Rc.UNWRAPS) 1 s t))

/-- The forwarding table. -/
def Obligations.ForwardingTableOperates : Prop :=
  (∀ (s : State) (p : Path) (v : Word),
    let d := s.dev
    let k := d.fdbKey
    let ports := d.rd F.SWC_FDB_DATA_LO_PORTS + d.rd F.SWC_FDB_DATA_HI_PORTS * 2 ^ 32
    let done := fun (P : Nat → Prop) (t : State) => t.dev.rd F.SWC_FDB_CMD_REASON = 0 ∧ t.dev.rd F.SWC_FDB_CMD_BUSY = 1 ∧
      RegFrame (fun a => a = A.SWC_FDB_CMD ∨ rsvWord a ∨ P a) s t
    let data := fun a => a = A.SWC_FDB_DATA_LO ∨ a = A.SWC_FDB_DATA_HI
    let shows := fun (t : State) (e : FdbEntry) => t.dev.rd F.SWC_FDB_DATA_LO_PORTS = e.ports % 2 ^ 32 ∧
      t.dev.rd F.SWC_FDB_DATA_HI_PORTS = e.ports / 2 ^ 32 % 2 ^ F.SWC_FDB_DATA_HI_PORTS.width ∧
      t.dev.rd F.SWC_FDB_DATA_HI_STATIC = (if e.static then 1 else 0) ∧ t.dev.rd F.SWC_FDB_DATA_HI_VALID = 1
    s.TakesWrite p A.SWC_FDB_CMD → d.rd F.SWC_FDB_CMD_BUSY = 0 →
      (∀ i, isGroup k.2 = true ∨ (portsOf ports).length = 1 → (d.fdbFind k.1 k.2).or (d.fdbFree k.1 k.2) = some i →
        Completes (.fdbWrite p v) s (fun t => done (fun _ => False) t ∧ t.dev.rd F.SWC_FDB_CMD_INDEX = i % 4096 ∧
          t.dev.fdbAt i = { valid := true, da := k.2, vid := k.1, ports, static := d.on F.SWC_FDB_DATA_HI_STATIC, at_ := d.clk } ∧
          ∀ j, j ≠ i → t.dev.fdbAt j = d.fdbAt j)) ∧
      Completes (.fdbDelete p v) s (fun t => done (fun _ => False) t ∧
        ∀ j, t.dev.fdbAt j = if d.fdbFind k.1 k.2 = some j then {} else d.fdbAt j) ∧
      (∀ i, d.fdbFind k.1 k.2 = some i → Completes (.fdbLookup p v) s (fun t => done data t ∧ shows t (d.fdbAt i) ∧
        t.dev.rd F.SWC_FDB_CMD_INDEX = i % 4096 ∧ t.dev.swc = d.swc)) ∧
      (d.fdbFind k.1 k.2 = none → Completes (.fdbLookup p v) s (fun t => done data t ∧ t.dev.rd F.SWC_FDB_DATA_HI_VALID = 0 ∧
        t.dev.swc = d.swc)) ∧
      (let e := d.fdbAt (bits v 16 12)
       Completes (.fdbRead p v) s (fun t => done (fun a => data a ∨ a = A.SWC_FDB_KEY_LO ∨ a = A.SWC_FDB_KEY_HI) t ∧
        t.dev.swc = d.swc ∧ (e.valid = true → shows t e ∧ t.dev.rd F.SWC_FDB_KEY_LO_DA_LO = e.da % 2 ^ 32 ∧
          t.dev.rd F.SWC_FDB_KEY_HI_DA_HI = e.da / 2 ^ 32 % 2 ^ 16 ∧ t.dev.rd F.SWC_FDB_KEY_HI_VID = e.vid % 2 ^ 12) ∧
        (e.valid = false → t.dev.rd F.SWC_FDB_DATA_HI_VALID = 0))) ∧
      Completes (.fdbFlush p v) s (fun t => done (fun _ => False) t ∧ t.dev.swc.fdb = d.swc.fdb.filter (fun e => e.2.static))) ∧
  (∀ (s : State) (i : Fin 4096), s.CoreUp →
    Completes .fdbOpComplete s (fun t => t.dev.rd F.SWC_FDB_CMD_BUSY = 0 ∧ OnlyRegs (· = A.SWC_FDB_CMD) s t) ∧
    ((s.dev.fdbAt i).valid = true → (s.dev.fdbAt i).static = false → s.dev.rd F.SWC_CTRL_AGE ≠ 0 →
      Completes (.fdbAgeExpire i) s (fun t => t = { s with dev := s.dev.setFdb i {} })))

/-- Frames through the core, and local frames. -/
def Obligations.SwitchMovesFrames : Prop :=
  (∀ (s : State) (audio : Bool) (q : Nat) (x : Frame) (xs : List Frame),
    s.CoreUp → s.dev.safe = false → s.dev.power = 0 → s.dev.rd F.ERR_STATUS_STOPPED / 4 % 2 = 0 →
    s.dev.rd F.FRG_STATUS_STATE ≠ Frg.RECORDING →
    (audio = false → s.dev.nextPort true = none) → s.dev.nextPort audio = some q → s.dev.lane audio q = x :: xs →
    x.port < 36 →
    let p := x.port
    let ports := s.dev.lookup x.vid (daOf x.octets) p
    Completes .switchFrame s (fun t => t.dev.lane audio q = xs ∧ (if audio then t.dev.swc.lastAudio else t.dev.swc.lastOther) = q ∧
      Counted (Ctr.PORT p Pc.IN_FRAMES) 1 s t ∧
      (ports = [] → s.dev.flowMatch x = none → s.dev.ruleOf x = none → Counted (Ctr.PORT p Pc.IN_NO_ROUTE) 1 s t) ∧
      (∀ k n, ports = [k] → s.dev.flowMatch x = none → s.dev.ruleOf x = none → n = cellsOf (x.octets.length + 4) →
        s.dev.quotaAdmits x.cls n = true → k < 24 → q ≠ k →
        (∀ id, s.dev.egressCheck k (s.dev.forwarded k x id n) (x.octets.length + 4) = .queue) →
        Counted (Ctr.PORT k Pc.FWD_FRAMES) 1 s t ∧
        (t.dev.link k).arriving = (s.dev.link k).arriving ++ [s.dev.forwarded k x s.dev.swc.nextId n]))) ∧
  (∀ (s : State) (p : Path) (q : Fin 8) (v : Word),
    let r := s.dev.spq q
    let h : BitVec 16 := v.setWidth 16
    s.TakesWrite p (A.SPQ_HEAD q) → r.ok = true →
      (s.dev.rd (F.SPQ_CFG_EN q) = 1 → (h - r.rd).toNat ≤ r.fill →
        Completes (.spqHeadWrite p q v) s (fun t => t.dev.spq q = { r with rd := h, rd2 := h } ∧
          t.dev.rd (F.SPQ_FILL_FILL q) = (r.wr - h).toNat)) ∧
      (s.dev.rd (F.SPQ_CFG_EN q) = 0 ∨ r.fill < (h - r.rd).toNat →
        Completes (.spqHeadWrite p q v) s (fun t => t.dev.spq q = r ∧
          t.dev.rd F.SWC_IGNORED_COUNT = min (s.dev.rd F.SWC_IGNORED_COUNT + 1) 0xFFFF))) ∧
  (∀ (s : State) (p : Path) (k : Fin 4) (v : Word),
    let r := s.dev.ltx k
    let h : BitVec 16 := v.setWidth 16
    let depth := 2 ^ min 8 (max 2 (s.dev.rd (F.LTX_CFG_DEPTH_LOG2 k)))
    s.TakesWrite p (A.LTX_TAIL k) → r.ok = true → s.dev.rd (F.LTX_CFG_EN k) = 1 → r.fill + (h - r.wr).toNat ≤ depth →
      Completes (.ltxTailWrite p k v) s (fun t => t.dev.ltx k = { r with wr := h, wr2 := h } ∧
        t.dev.swc.descs.length = s.dev.swc.descs.length + (h - r.wr).toNat)) ∧
  (∀ (s : State) (k : Fin 4) (x : LtxDesc),
    let r := s.dev.ltx k
    let a := 0xC00000 + k * 0x100000 + s.dev.rd (F.LTX_CFG_BASE k) * 32 +
      x.index % 2 ^ min 8 (max 2 (s.dev.rd (F.LTX_CFG_DEPTH_LOG2 k))) * 32 + 16
    let bs := [loWord x.time, hiWord x.time, BitVec.ofNat 32 (x.reason + x.segments % 65536 * 2 ^ 8 + 2 ^ 31)].flatMap wordBytes
    s.CoreUp → r.ok = true → s.dev.swc.descs.find? (fun x => x.ring = k.val && x.index = r.rd.toNat && x.left = 0) = some x →
      Completes (.ltxDescriptorDone k) s (fun t => t.dev.ltx k = { r with rd := r.rd + 1, rd2 := r.rd2 + 1 } ∧
        t.dev.rd (F.LTX_HEAD_HEAD k) = (r.rd + 1).toNat ∧ RegFrame (· = A.LTX_HEAD k) { s with mem := t.mem } t ∧
        ∀ b, memByte t.mem b = if a ≤ b ∧ b < a + 12 then bs.getD (b - a) 0 else memByte s.mem b))

/-- Packets of flows. -/
def Obligations.StreamPacketsAreTakenAndReleased : Prop :=
  ∀ (s : State) (f : Fin 2048),
    let d := s.dev
    let u := 0x400 + f.val
    let x := d.flow f
    let m := d.flowDomain f
    let edge := (d.mclk m).count + d.tickSize m
    let takes := d.flowTx f = false ∧ d.active u = true ∧ (d.mclk m).ticking = true
    s.CoreUp →
      (∀ p rest, x.rxq = p :: rest →
        let ends := fun (P : State → Prop) => Completes (.rxStreamPacket f) s (fun t => (t.dev.flow f).rxq = rest ∧ P t)
        (¬ takes → ends (Counted (Ctr.SLOT f Sc.PKT_DROPPED) 1 s)) ∧
        (takes → d.parsePacket f p = none → ends (Counted (Ctr.SLOT f Sc.PKT_BAD) 1 s)) ∧
        (∀ y, takes → d.parsePacket f p = some y →
          let ms := y.samples.zipIdx.map (fun e =>
            (d.periodAt m (d.mediaTime f p y e.2 + d.rd (F.FLOW_LATENCY_LATENCY f) * 65536), e.1))
          let early := ms.any (fun e => ((d.mclk m).count : Int) + 2 ^ d.rd (F.FLOW_BUF_BUF_LOG2 f) - d.tickSize m ≤ e.1)
          (early = true → ends (Counted (Ctr.SLOT f Sc.PKT_EARLY) 1 s)) ∧
          (early = false → ends (fun t => (t.dev.flow f).packetAt = some d.clk ∧ t.dev.rd (F.FLOW_LAST_TS_TS f) = y.ts % 2 ^ 32 ∧
            t.dev.rd (if p.leg = 0 then F.FLOW_STATUS_LEG_A_UP f else F.FLOW_STATUS_LEG_B_UP f) = 1 ∧
            Counted (Ctr.FLOW f (if p.leg = 0 then Fc.PKTS_A else Fc.PKTS_B)) 1 s t ∧
            ∀ n ss, ms = [(n, ss)] → edge ≤ n.toNat → SMap.get (fun _ => ({} : Period)) x.buf n.toNat = {} →
              SMap.get (fun _ => ({} : Period)) (t.dev.flow f).buf n.toNat = { first := d.rd (F.FLOW_FIRST_FIRST f), samples := ss })))) ∧
      (s.Quiet → d.flowTx f = false → d.ustate u = 3 → d.rd (F.FLOW_BUF_HOLD f) ≤ x.run →
        Completes (.flowHoldExpire f) s (fun t => t.dev.ustate u = 2 ∧ (t.dev.flow f).run = 0)) ∧
      (∀ (leg : Bool),
        let up := if leg then F.FLOW_STATUS_LEG_B_UP f else F.FLOW_STATUS_LEG_A_UP f
        d.rd up = 1 → Completes (.legDown f leg) s (fun t => t.dev.rd up = 0 ∧
          RegFrame (fun a => a = A.FLOW_STATUS f ∨ a = A.FLOW_EVT f) s t)) ∧
      (let n := x.next
       let k := d.packetPeriods f n
       d.flowTx f = true → x.txFrom.isSome = true → d.ustate u = 3 → n + k ≤ (d.mclk m).count →
        Completes (.flowPacketRelease f) s (fun t => (t.dev.flow f).next = n + k ∧
          (t.dev.flow f).seq = some (x.seq.getD (if d.flowFmt f = 2 then 0 else d.rd (F.FLOW_SSRC_SSRC f) % 65536) + 1) ∧
          t.dev.rd (F.FLOW_LAST_TS_TS f) = d.packetTs f n % 2 ^ 32))

/-- Ticks, regions, meters. -/
def Obligations.TicksRegionsAndMeters : Prop :=
  (∀ (s : State) (m : Fin 8) (c : Nat) (e : Int), s.CoreUp → s.dev.replays (0x0A0 + m) = false → s.dev.ticking m = true →
    s.dev.domainOn (10 + m) = true → s.dev.safe = false → (∀ x ∈ s.dev.domainEngines m, s.dev.ustate (0x0B0 + x) ≠ 3) →
    SMap.wf (fun _ => ({} : Sample)) s.dev.moving = true →
    let n := s.dev.nextCount m c
    Completes (.tickStart m c e) s (fun t => (t.dev.mclk m).ticking = true ∧ (t.dev.mclk m).count = n ∧
      t.dev.rd (F.MCS_COUNT_LO_COUNT m) = n % 2 ^ 32 ∧ Counted (Ctr.MCS m Mc.TICKS) 1 s t ∧
      ∀ i p, p < 64 → s.dev.movedBy m i = true → t.dev.dstAt i p = SMap.get (fun _ => {}) s.dev.moving (i * 64 + p))) ∧
  (∀ (s : State) (src : OrderSrc) (r : Fin 64) (v : Word),
    let d := s.dev
    let u := 0xC00 + r.val
    let took := fun (off a : Nat) => match src with
      | .reg p => s.TakesWrite p a
      | .cmd t => s.CoreUp ∧ d.unitAddr t.val u off = (0, a)
    let idle := d.rd (F.PR_REGION_SWAP_CAPTURE r) = 0 ∧ d.rd (F.PR_REGION_SWAP_PENDING r) = 0
    (took 0x108 (A.PR_REGION_SWAP r) → d.safe = false → d.ustate u < 4 → d.cfgRefuses (orderTenant src) 0 = false →
      d.rd (F.PR_REGION_SWAP_CHAINED r) = 0 →
      (idle → Completes (.regionSwap src r v) s (fun t => t.dev.rd (F.PR_REGION_SWAP_CAPTURE r) = 1 ∧
        (t.dev.region r).copy = d.shadowCopy r ∧ t.dev.rd (F.UNIT_STATE_REASON u) = 0)) ∧
      (¬ idle → v.getLsbD 1 = true → Completes (.regionSwap src r v) s (fun t => t.dev.rd (F.PR_REGION_SWAP_CHAINED r) = 1 ∧
        t.dev.rd (F.UNIT_STATE_REASON u) = 0))) ∧
    (took 0x114 (A.PR_REGION_WDATA r) → d.rd (F.PR_REGION_WPTR_PTR r) < d.regionCount r →
      let w := patchShadow (d.regionBase r + d.rd (F.PR_REGION_WPTR_PTR r))
      Completes (.regionWdataWrite src r v) s (fun t => t.dev.reg w = putBits v 25 6 0 ∧
        t.dev.rd (F.PR_REGION_WPTR_PTR r) = (d.rd (F.PR_REGION_WPTR_PTR r) + 1) % 2 ^ (F.PR_REGION_WPTR_PTR r).width ∧
        RegFrame (fun a => a = w ∨ a = A.PR_REGION_WPTR r ∨ rsvWord a) s t))) ∧
  (∀ (s : State) (r : Fin 64),
    let d := s.dev
    let copy := (d.region r).copy
    let good := copy.zipIdx.all (fun e => entryOk (d.regionBase r + e.2) e.1)
    s.CoreUp → d.rd (F.PR_REGION_SWAP_CAPTURE r) = 1 → d.rd (F.PR_REGION_SWAP_CHAINED r) = 0 →
      (good = true → 2 ≤ d.ustate (0xC00 + r) → Completes (.swapCaptureDone r) s (fun t =>
        t.dev.rd (F.PR_REGION_SWAP_CAPTURE r) = 0 ∧ t.dev.rd (F.PR_REGION_SWAP_PENDING r) = 1 ∧
        t.dev.rd (F.PR_REGION_SWAP_REASON r) = 0 ∧ OnlyRegs (· = A.PR_REGION_SWAP r) s t)) ∧
      (good = true → d.ustate (0xC00 + r) ≤ 1 → Completes (.swapCaptureDone r) s (fun t =>
        t.dev.rd (F.PR_REGION_SWAP_CAPTURE r) = 0 ∧ t.dev.rd (F.PR_REGION_SWAP_PENDING r) = 0 ∧ (t.dev.region r).copy = [] ∧
        ∀ i, i < copy.length → t.dev.reg (patchActive (d.regionBase r + i)) = copy.getD i 0)) ∧
      (good = false → Completes (.swapCaptureDone r) s (fun t => t.dev.rd (F.PR_REGION_SWAP_CAPTURE r) = 0 ∧
        t.dev.rd (F.PR_REGION_SWAP_REASON r) = Rsn.RANGE ∧ (t.dev.region r).copy = []))) ∧
  (∀ (s : State) (p : Path) (c : Fin 256) (v : Word), s.TakesWrite p (A.MTR_LD_CTRL c) → s.dev.rd (F.MTR_LD_CFG_EN c) = 1 →
    Completes (.loudnessRestart p c v) s (fun t => t.dev.stat64 (Ctr.LOUD c + 24) = s.dev.t64 % 2 ^ 64 ∧
      OnlyRegs rsvWord { s with dev := { s.dev with stat := t.dev.stat } } t)) ∧
  (∀ (s : State) (p : Path) (f : Fin 2048) (v : Word), s.TakesWrite p (A.MTR_HISTW f) →
    Completes (.histogramClear p f v) s (fun t => ∀ i, i < 32 → t.dev.stat64 (Ctr.HIST f + 8 * i) = 0))

/-- The time unit. -/
def Obligations.TimeIsSetSteeredAndCaptured : Prop :=
  ∀ (s : State) (p : Path) (v : Word),
    let d := s.dev
    let set : Int := ((d.rd F.TIME_SET_SEC_HI_SEC * 2 ^ 32 + d.rd F.TIME_SET_SEC_LO_SEC) * 1000000000 + d.rd F.TIME_SET_NS_NS : Nat)
    let step := toSigned 64 (d.rd F.TIME_STEP_HI_STEP * 2 ^ 32 + d.rd F.TIME_STEP_LO_STEP)
    let sampled := fun (o : Int) (t : State) =>
      let integ := clampInt (-adjLimit) adjLimit (toSigned 32 (d.rd F.TIME_SERVO_INTEG_INTEG) + o * d.rd F.TIME_SERVO_GAIN_KI / 256)
      Counted (Ctr.TIME Tc.SERVO_SAMPLES) 1 s t ∧ t.dev.rd F.TIME_STATUS_HOLDOVER = 0 ∧
        t.dev.rd F.TIME_SERVO_INTEG_INTEG = ofSigned 32 integ % 2 ^ 32 ∧
        t.dev.rd F.TIME_ADJ_ADJ =
          ofSigned 32 (clampInt (-adjLimit) adjLimit (-(integ + o * d.rd F.TIME_SERVO_GAIN_KP / 256))) % 2 ^ 32
    (s.TakesWrite p A.TIME_CMD → d.time.command = none →
      Completes (.timeSet p v) s (fun t => t.dev.time = { d.time with command := some (1, set, false) } ∧ t.dev.rd F.TIME_CMD_BUSY = 1) ∧
      Completes (.timeStep p v) s (fun t => t.dev.time = { d.time with command := some (2, step, false) } ∧
        t.dev.rd F.TIME_CMD_BUSY = 1)) ∧
    (∀ op x auto, s.Up → d.time.command = some (op, x, auto) →
      let new : Int := if op = 1 then x * 2 ^ 32 else (d.stcFine : Int) + x * 2 ^ 32
      let good := ¬ (op = 1 ∧ 999999999 < d.rd F.TIME_SET_NS_NS) ∧ 0 ≤ new ∧ new < 2 ^ 48 * 1000000000 * 2 ^ 32
      let done := fun (P : State → Prop) => Completes .timeCmdApply s (fun t => t.dev.time.command = none ∧
        t.dev.rd F.TIME_CMD_BUSY = 0 ∧ P t)
      (good → done (fun t => (t.dev.stcFine : Int) = new ∧ t.dev.rd F.TIME_CMD_REASON = 0 ∧ Counted (Ctr.TIME Tc.STEPS) 1 s t ∧
        ∀ n, n < 24 → ((t.dev.link n).shadow : Int) = new)) ∧
      (¬ good → done (fun t => t.dev.stcFine = d.stcFine ∧ t.dev.rd F.TIME_CMD_REASON = Rsn.RANGE))) ∧
    (s.TakesWrite p A.TIME_ADJ →
      (d.servoRuns = false → Completes (.timeAdjWrite p v) s (fun t => OnlyRegs (· = A.TIME_ADJ) s t ∧ t.dev.reg A.TIME_ADJ = v)) ∧
      (d.servoRuns = true → Completes (.timeAdjWrite p v) s (fun t => OnlyRegs (· = A.TIME_IGNORED) s t ∧
        t.dev.rd F.TIME_IGNORED_COUNT = min (d.rd F.TIME_IGNORED_COUNT + 1) 0xFFFF))) ∧
    (s.TakesRead p A.TIME_STC_NS → Completes (.stcRead p) s (fun t => Answers p (BitVec.ofNat 32 d.time.ns) s t ∧
      t.dev.stcLatched p = (d.time.sec, d.time.frac.extractLsb' 16 16) ∧ t.dev.regs = d.regs)) ∧
    (s.TakesRead p A.TIME_PPS_IN_NS → Completes (.ppsInRead p) s (fun t => Answers p (d.reg A.TIME_PPS_IN_NS) s t ∧
      t.dev.rd F.TIME_PPS_IN_SEC_LO_SEC = d.time.pps.1 % 2 ^ 32 ∧ t.dev.rd F.TIME_PPS_IN_SEC_HI_SEC = d.time.pps.1 / 2 ^ 32 % 2 ^ 16 ∧
      t.dev.rd F.TIME_PPS_IN_SEC_HI_SEQ = d.time.pps.2.2 % 2 ^ 16)) ∧
    (d.servoRuns = true → d.rd F.TIME_SERVO_STEP_EN = 0 →
      (s.TakesWrite p A.TIME_SERVO_OFS → d.rd F.TIME_SERVO_SOURCE = 0 → Completes (.servoOfsWrite p v) s (sampled v.toInt)) ∧
      (let k := d.rd F.TIME_SERVO_RING
       s.CoreUp → d.rd F.TIME_SERVO_SOURCE = 2 → k < 12 → d.ustate (0x030 + k) = 3 → d.isManager k = false → (d.ring k).offsets ≠ [] →
        Completes .servoRingSample s (sampled ((d.ring k).offsets.foldl (· + ·) 0 / (d.ring k).offsets.length)))) ∧
    (s.Up → d.servoRuns = true → d.rd F.TIME_STATUS_HOLDOVER = 0 → Completes .servoHoldover s (fun t =>
      t.dev.rd F.TIME_STATUS_HOLDOVER = 1 ∧ t.dev.rd F.TIME_STATUS_LOCKED = 0 ∧ Counted (Ctr.TIME Tc.HOLDOVERS) 1 s t)) ∧
    (s.Up → d.active 0x0FC = true → d.rd F.TIME_PPS_OUT_EN = 1 → Completes .ppsOutEdge s (fun t => t.dev.time.ppsOut = true ∧
      Output.pin Pin.PPS_OUT true ∈ t.dev.out ∧ t.dev.regs = d.regs)) ∧
    (s.Up → d.time.ppsOut = true → Completes .ppsOutEnd s (fun t => t.dev.time.ppsOut = false ∧
      Output.pin Pin.PPS_OUT false ∈ t.dev.out ∧ t.dev.regs = d.regs)) ∧
    (∀ (fall : Bool), s.Up → d.active 0x0FC = true → d.replays 0x0FC = false → d.rd F.TIME_PPS_IN_EN = 1 →
      d.rd F.TIME_PPS_IN_FALL = (if fall then 1 else 0) →
      ((∃ c, d.time.ppsAt = some c ∧ d.clk < c + 500000000) →
        Completes (.ppsInEdge fall) s (fun t => t.dev.time = d.time ∧ Counted (Ctr.TIME Tc.PPS_IN_REJECTED) 1 s t)) ∧
      ((∀ c, d.time.ppsAt = some c → c + 500000000 ≤ d.clk) →
        let at_ := (((d.stcNs : Int) - toSigned 32 (d.rd F.TIME_PPS_IN_DELAY_DELAY)) % (2 ^ 48 * 1000000000)).toNat
        Completes (.ppsInEdge fall) s (fun t => t.dev.rd F.TIME_PPS_IN_NS_NS = at_ % 1000000000 ∧ t.dev.time.ppsAt = some d.clk ∧
          t.dev.time.pps = (at_ / 1000000000, at_ % 1000000000, (d.time.pps.2.2 + 1) % 65536) ∧
          Counted (Ctr.TIME Tc.PPS_IN_EDGES) 1 s t)))

/-- Media clocks and rate meters. -/
def Obligations.MediaClocksLockAndCalibrate : Prop :=
  (∀ (s : State) (m : Fin 8),
    let d := s.dev
    let u := 0x0A0 + m.val
    let x := d.mclk m
    s.CoreUp →
      (∀ log, x.tickNew = some log → x.ticking = true → (x.count + 2 ^ x.running) % 2 ^ log = 0 →
        Completes (.tickSizeChange m) s (fun t => (t.dev.mclk m).tickLog = log ∧ (t.dev.mclk m).tickNew = none ∧
          (t.dev.mclk m).running = x.running)) ∧
      (s.Quiet → d.ustate u = 0 → (d.unit u).order = Ord.ENABLE → Completes (.mclkPllTimeout m) s (fun t =>
        t.dev.ustate u = 5 ∧ t.dev.rd (F.UNIT_CMD_BUSY u) = 0 ∧ (t.dev.unit u).order = 0)) ∧
      (d.active u = true → d.rd (F.MCS_CTRL_SRC m) ≠ 0 →
        (d.rd (F.MCS_STATUS_BYPASS m) = 0 → d.rd (F.MCS_STATUS_LOCKED m) = 0 → x.goodSince.isSome = true → d.refNow m = true →
          Completes (.mclkLock m) s (fun t => t.dev.rd (F.MCS_STATUS_LOCKED m) = 1 ∧ (s.Quiet → t.dev.ustate u = 3))) ∧
        (let lost := x.refSince.isSome = true ∧ d.refNow m = false
         d.rd (F.MCS_STATUS_BYPASS m) = 0 → lost ∨ 2 ≤ x.badTicks → Completes (.mclkBypass m) s (fun t =>
          t.dev.rd (F.MCS_STATUS_BYPASS m) = 1 ∧ t.dev.rd (F.MCS_STATUS_LOCKED m) = 0 ∧ t.dev.rd (F.MCS_STATUS_TRIM m) = 0 ∧
          (lost → Counted (Ctr.MCS m Mc.REF_LOSSES) 1 s t) ∧ (2 ≤ x.badTicks → Counted (Ctr.MCS m Mc.UNLOCKS) 1 s t))) ∧
        (∀ (p : Int),
          let limit := d.rd (F.MCS_ANCHOR_LIMIT m)
          let k : Int := divRound (p * d.domainHz m) (65536 * 1000000000 * d.tickSize m) * d.tickSize m
          d.rd (F.MCS_STATUS_BYPASS m) = 1 → d.safe = false → x.refSince.isSome = true → d.refNow m = true →
            (limit = 0 ∨ p.natAbs ≤ limit * 1000 * 65536 → Completes (.mclkHandback m p) s (fun t =>
              t.dev.rd (F.MCS_STATUS_BYPASS m) = 0 ∧ t.dev.mclk m = { x with slew := p, badTicks := 0, goodSince := none })) ∧
            (limit ≠ 0 → limit * 1000 * 65536 < p.natAbs → k ≠ 0 → Completes (.mclkHandback m p) s (fun t =>
              t.dev.rd (F.MCS_STATUS_BYPASS m) = 0 ∧ (t.dev.mclk m).count = ofSigned 64 ((x.count : Int) - k) ∧
              Counted (Ctr.MCS m Mc.ANCHORS) 1 s t)))) ∧
      (∀ (lo hi : BitVec 22), d.rd (F.MCS_CAL_CAL_BUSY m) = 1 → Completes (.mcsCalDone m lo hi) s (fun t =>
        t.dev.rd (F.MCS_CAL_FMIN_FMIN m) = lo.toNat ∧ t.dev.rd (F.MCS_CAL_FMAX_FMAX m) = hi.toNat ∧
        t.dev.rd (F.MCS_CAL_CAL_BUSY m) = 0 ∧ t.dev.rd (F.MCS_CAL_CAL_REASON m) = 0 ∧
        RegFrame (fun a => a = A.MCS_CAL m ∨ a = A.MCS_CAL_FMIN m ∨ a = A.MCS_CAL_FMAX m ∨ a = A.MCS_EVT m) s t))) ∧
  (∀ (s : State) (p : Path) (m : Fin 8) (g : Fin 16) (v : Word),
    let x := s.dev.mclk m
    let t1 := t64Of (x.tickAt / 65536)
    let t2 := t64Of ((s.dev.group g).blockAt / 65536)
    (s.TakesWrite p (A.MCS_CAL m) → s.dev.posted = [] → s.dev.ustate (0x0A0 + m) = 0 → s.dev.rd (F.MCS_CAL_CAL_BUSY m) = 0 →
      Completes (.mcsCalGo p m v) s (fun t => t.dev.rd (F.MCS_CAL_CAL_BUSY m) = 1 ∧ t.dev.rd (F.MCS_CAL_BAND m) = bits v 0 6 ∧
        t.dev.posted = [])) ∧
    (s.TakesRead p (A.MCS_COUNT_LO m) → Completes (.mcsCountRead p m) s (fun t => Answers p (s.dev.reg (A.MCS_COUNT_LO m)) s t ∧
      t.dev.reg (A.MCS_COUNT_HI m) = hiWord x.count ∧ t.dev.reg (A.MCS_TICK_TIME_LO m) = loWord t1 ∧
      t.dev.reg (A.MCS_TICK_TIME_HI m) = hiWord t1)) ∧
    (s.TakesRead p (A.APG_FRAME_LO g) → Completes (.apgFrameRead p g) s (fun t => Answers p (s.dev.reg (A.APG_FRAME_LO g)) s t ∧
      t.dev.reg (A.APG_FRAME_TIME_LO g) = loWord t2 ∧ t.dev.reg (A.APG_FRAME_TIME_HI g) = hiWord t2))) ∧
  (∀ (s : State) (i : Fin 24) (edges span : Nat), s.CoreUp →
    let d := s.dev
    let freq := min (2 ^ 32 - 1) ((edges - 1) * 16 * 1000000000 * 65536 / span)
    let cls := rateClass freq (if i.val < 16 then 1 else max 1 (d.rd (F.RM_CFG_DIV i))) (d.rd (F.RM_CFG_TOL i))
    let old := SMap.get (fun _ => (7, 0)) d.meters i
    (2 ≤ edges → span ≠ 0 → Completes (.rateMeterGate i edges span) s (fun t => t.dev.rd (F.RM_FREQ_FREQ i) = freq ∧
      (old.1 = cls → 1 ≤ old.2 → d.rd (F.RM_STAT_CLASS i) ≠ cls →
        t.dev.rd (F.RM_STAT_CLASS i) = cls ∧ t.dev.rd (F.RM_STAT_PRESENT i) = 1))) ∧
    (edges < 2 → Completes (.rateMeterGate i edges span) s (fun t => t.dev.rd (F.RM_STAT_CLASS i) = 7)))

/-- Port groups, decimators, bridges. -/
def Obligations.PortGroupsFrameAndTransfer : Prop :=
  ∀ (s : State) (g : Fin 16),
    let d := s.dev
    let u := 0x040 + g.val
    let x := d.group g
    s.CoreUp →
      (∀ (bclks : Nat) (ins : List (Nat × Word)), d.active u = true ∨ d.ustate u = 4 → d.replays u = false →
        Completes (.frameSync g bclks ins) s (fun t => (t.dev.group g).frameAt.isSome = true ∧
          (x.frameAt = none → (t.dev.group g).frames = x.frames + 1) ∧
          (x.frameAt ≠ none → t.dev.rd (F.APG_STATUS_BCLKS g) = bclks % 2 ^ (F.APG_STATUS_BCLKS g).width ∧
            Counted (Ctr.GROUP g Gc.FRAMES) 1 s t) ∧
          (d.groupOutputs g ≠ [] → ∃ ss, Output.slots g ss ∈ t.dev.out))) ∧
      (∀ count fs rest, x.ready = (count, fs) :: rest → Completes (.portBlockTransfer g) s (fun t => (t.dev.group g).ready = rest ∧
        t.dev.rd (F.APG_FRAME_LO_COUNT g) = count % 2 ^ 32 ∧ (t.dev.group g).blockAt = (fs.head?.map (·.t)).getD 0)) ∧
      (s.Quiet →
        (d.ustate u = 3 → Completes (.groupClkLost g) s (fun t => t.dev.ustate u = 2 ∧ Counted (Ctr.GROUP g Gc.CLK_LOSTS) 1 s t)) ∧
        (∀ (k : Fin 128), k.val / 8 = g.val → d.ustate (0x100 + k) = 2 → d.ustate u = 3 → (d.decim k).leftR = 0 → (d.decim k).leftF = 0 →
          Completes (.decimSettled k) s (fun t => t.dev.ustate (0x100 + k) = 3 ∧ (t.dev.decim k).done = false)) ∧
        (∀ (ratio : Word) (phase : Int), d.ustate (0x090 + g) = 2 → d.ustate u = 3 → d.ticking (d.rd (F.APG_CFG_DOMAIN g)) = true →
          let kept := fun (t : State) => t.dev.reg (A.BRG_RATIO g) = ratio ∧
            t.dev.rd (F.BRG_PHASE_PHASE g) = ofSigned 32 phase % 2 ^ (F.BRG_PHASE_PHASE g).width
          (2 ^ 26 ≤ ratio.toNat → ratio.toNat ≤ 2 ^ 30 → phase.natAbs ≤ 100 → Completes (.bridgeLock g ratio phase) s (fun t =>
            kept t ∧ t.dev.rd (F.BRG_STATUS_LOCKED g) = 1 ∧ t.dev.ustate (0x090 + g) = 3 ∧ Counted (Ctr.BRG g 0) 1 s t)) ∧
          (ratio.toNat < 2 ^ 26 ∨ 2 ^ 30 < ratio.toNat → Completes (.bridgeLock g ratio phase) s (fun t =>
            kept t ∧ t.dev.ustate (0x090 + g) = 2 ∧ Counted (Ctr.BRG g 0x10) 1 s t))))

/-- Power states. -/
def Obligations.PowerStatesAreEnteredAndLeft : Prop :=
  ∀ (s : State) (p : Path) (v : Word),
    let d := s.dev
    let env : Env := { mem := s.mem, fuses := s.fuses }
    let passes := fun (k : Nat) => (((d.poke env p A.PWR_CMD (putBits v 0 3 k)).postComplete .pwr).powerCheck k).1 = 0
    let accepted := fun (t : State) => t.dev.rd F.PWR_STATUS_REASON = 0 ∧ t.dev.rd F.PWR_STATUS_UNIT = 0xFFF
    let woke := fun (cause : Nat) (t : State) => t.dev.rd F.PWR_WAKE_CAUSE_CAUSE = cause ∧ Counted (Ctr.PWR Pw.WAKES) 1 s t ∧
      (d.power = 1 → t.dev.power = 0) ∧ (d.power ≠ 1 → t.dev.pwr.waking = true ∧ t.dev.rd F.PWR_STATUS_TRANSIT = 1)
    let sleeps := (d.power = 1 ∧ d.pwr.toward = 0) ∨ (2 ≤ d.power ∧ d.pwr.toward ≠ 0 ∧ d.pwr.waking = false)
    let entering := fun (k : Nat) (t : State) => accepted t ∧ t.dev.pwr.toward = k ∧ t.dev.pwr.waking = false ∧
      t.dev.rd F.PWR_STATUS_TRANSIT = 1 ∧ t.dev.rd F.PWR_DOMAIN_STATE_ON = 0 ∧ t.dev.pwr.domains = d.rd F.PWR_DOMAIN_STATE_ON
    (s.TakesWrite p A.PWR_CMD → d.posted = [] →
      (passes 0 → d.power = 0 → Completes (.pwrCmdActive p v) s (fun t => accepted t ∧ t.dev.power = 0)) ∧
      (passes 0 → sleeps → Completes (.pwrCmdActive p v) s (fun t => accepted t ∧ woke 32 t)) ∧
      (passes 1 → d.power = 0 → Completes (.pwrCmdQuiet p v) s (fun t => accepted t ∧ t.dev.power = 1 ∧
        Counted (Ctr.PWR Pw.QUIET) 1 s t)) ∧
      (passes 2 → d.power ≤ 1 → Completes (.pwrCmdRetain p v) s (entering 2)) ∧
      (passes 3 → d.power ≤ 1 → Completes (.pwrCmdListen p v) s (entering 3))) ∧
    (∀ (core sram : PmbEnd), s.Up → d.power < 2 →
      (pmbFails core = none → pmbFails sram = none → d.pwr.toward = 2 ∨ d.pwr.toward = 3 →
        Completes (.entryCommit core sram) s (fun t => t.dev.power = d.pwr.toward ∧
          t.dev.rd F.PWR_DOMAIN_STATE_ISLANDS = (if d.pwr.toward = 3 then 32 else 46) ∧
          Counted (Ctr.PWR (if d.pwr.toward = 3 then Pw.LISTEN else Pw.RETAIN)) 1 s t ∧
          (∀ k b, k < 4 → 0xC00000 + k * 0x100000 ≤ b → b < 0xD00000 + k * 0x100000 →
            memByte t.mem b = if d.retained (32 + k) then memByte s.mem b else 0) ∧
          ∀ k b, k < 4 → 0x1000000 + k * 0x400000 ≤ b → b < 0x1400000 + k * 0x400000 →
            memByte t.mem b = if d.retained (36 + k) then memByte s.mem b else 0)) ∧
      (pmbFails core ≠ none ∨ pmbFails sram ≠ none → d.pwr.toward ≠ 0 → Completes (.entryCommit core sram) s (fun t =>
        t.dev.power = 0 ∧ t.dev.pwr.toward = 0 ∧ t.dev.rd F.PWR_STATUS_REASON = Rsn.INTERNAL))) ∧
    (s.Up → sleeps →
      (d.rd F.PWR_WAKE_EN_WAKE_IN = 1 → d.rd F.PWR_WAKE_EN_IN_LEVEL = 1 ∨ d.rd F.MGT_PIN_LEVEL_WAKE_IN = 0 →
        Completes (.wakeIn true) s (fun t => woke 1 t ∧ t.dev.rd F.MGT_PIN_LEVEL_WAKE_IN = 1)) ∧
      (d.rd F.PWR_WAKE_EN_PCIE = 1 → d.power ≠ 3 → Completes .pcieWake s (woke 2)) ∧
      (d.rd F.PWR_WAKE_EN_TIMER = 1 → d.rd F.PWR_WAKE_TIMER_MS ≠ 0 → Completes .wakeTimerExpire s (woke 4)) ∧
      (d.rd F.PWR_WAKE_EN_MSPI = 1 → Completes .mspiWake s (woke 8)) ∧
      (d.pwr.toward = 3 → d.power = 3 →
        (d.rd F.PWR_WAKE_LNK_LINKUP = 1 → Completes (.wakePatternHit none) s (fun t => woke 16 t ∧
          t.dev.rd F.PWR_WAKE_HIT_HIT = Nat.lor (d.rd F.PWR_WAKE_HIT_HIT) 32)) ∧
        (∀ o, d.rd F.PWR_WAKE_LNK_MAGIC = 1 → magicIn d.pwr.magic o = true → Completes (.wakePatternHit (some o)) s (woke 16)))) ∧
    (s.Up → d.pwr.waking = true →
      (d.power = 2 → d.retained 40 = true → Completes .retainExit s (fun t => t.dev.power = 0 ∧ t.dev.rd F.PWR_STATUS_TRANSIT = 0 ∧
        t.dev.pwr.toward = 0 ∧ t.dev.rd F.PWR_DOMAIN_STATE_ISLANDS = 0x3F ∧ t.dev.coreOn = true)) ∧
      (let booted := fun (t : State) => t.dev.pwr.toward = 0 ∧ t.dev.inReset = false ∧ t.dev.pwr.wakeOut = d.pwr.wakeOut ∧
          (t.dev.reg A.MGT_RESET_CAUSE).getLsbD Cause.LISTEN = true ∧ t.dev.rd F.PWR_DOMAIN_STATE_ISLANDS = 0x3F ∧
          ∀ b, 0xC00000 ≤ b → b < 0x2000000 → memByte t.mem b = 0
       s.fuses.hash.length = 8 → (d.power = 2 → d.retained 40 = false → Completes .retainExit s booted) ∧
        (d.power = 3 → Completes .listenExit s booted))) ∧
    (s.TakesWrite p A.PWR_WAKE_ACK → d.pwr.wakeOut = true → Completes (.pwrWakeAck p v) s (fun t => t.dev.pwr.wakeOut = false ∧
      Output.pin Pin.WAKE_OUT_N true ∈ t.dev.out)) ∧
    (∀ (x : Fin 96) (dd : Fin 32), s.Issues x [] → isSignal x = false →
      ((d.ctx x).tenant ≠ 0 → Completes (.wait x dd 0 0) s (WritesG s x dd [] (BitVec.ofNat 32 Rsn.NOT_OWNER))) ∧
      ((d.ctx x).tenant = 0 → d.rd F.PWR_MODE_REQ = 1 → d.power = 0 → (d.powerCheck 1).1 = 0 →
        Completes (.wait x dd 0 0) s (fun t => accepted t ∧ t.dev.power = 1 ∧ (t.dev.ctx x).wait = .power dd)))

/-- Domain power and the operating point. -/
def Obligations.DomainsAndOperatingPointsChange : Prop :=
  ∀ (s : State) (p : Path) (v : Word),
    let d := s.dev
    let env : Env := { mem := s.mem, fuses := s.fuses }
    let on := d.rd F.PWR_DOMAIN_STATE_ON
    let k := bits v 0 2
    let cur := d.rd F.CLK_OPP_STATUS_CUR
    let done := fun (t : State) => t.dev.rd F.CLK_OPP_STATUS_CUR = d.pwr.newOpp % 4 ∧ t.dev.rd F.CLK_OPP_STATUS_CHANGING = 0 ∧
      t.dev.pwr.change = 0 ∧ Counted (Ctr.PWR Pw.OPP_CHANGES) 1 s t
    let ended := fun (t : State) => t.dev.rd F.CLK_OPP_STATUS_CUR = cur ∧ t.dev.rd F.CLK_OPP_STATUS_CHANGING = 0 ∧
      t.dev.pwr.change = 0 ∧ t.dev.pwr.freq = d.pwr.freq ∧ t.dev.rd F.CLK_OPP_STATUS_REASON = Rsn.INTERNAL
    (s.TakesWrite p A.PWR_DOMAIN_REQ → d.posted = [] → d.rd F.PWR_STATUS_TRANSIT = 0 →
      Completes (.domainPowerRequest p v) s (fun t => t.dev.rd F.PWR_DOMAIN_STATE_ON = on ∧
        (∀ i, i < 18 → v.getLsbD i = true → on / 2 ^ i % 2 = 0 → t.dev.pwr.rising / 2 ^ i % 2 = 1 ∧ t.dev.pwr.falling / 2 ^ i % 2 = 0) ∧
        (∀ i, i < 18 → v.getLsbD i = false → on / 2 ^ i % 2 = 1 → (∀ u ∈ domainUnits i, d.ustate u = 0) →
          t.dev.pwr.falling / 2 ^ i % 2 = 1 ∧ t.dev.pwr.rising / 2 ^ i % 2 = 0) ∧
        ((∀ i, i < 18 → v.getLsbD i = false → on / 2 ^ i % 2 = 1 → ∀ u ∈ domainUnits i, d.ustate u = 0) →
          t.dev.rd F.PWR_DOMAIN_REASON_REASON = 0 ∧ t.dev.rd F.PWR_DOMAIN_REASON_UNIT = 0xFFF))) ∧
    (∀ (i : Fin 18) (ok : Bool), s.CoreUp →
      let b := 2 ^ i.val
      (d.pwr.rising / b % 2 = 1 →
        (ok = true ∨ i.val < 4 ∨ 10 ≤ i.val → Completes (.domainPowerDone i ok) s (fun t =>
          t.dev.rd F.PWR_DOMAIN_STATE_ON = Nat.lor on b ∧ t.dev.pwr.rising = d.pwr.rising - b ∧ t.mem = s.mem)) ∧
        (ok = false → 4 ≤ i.val → i.val < 10 → Completes (.domainPowerDone i ok) s (fun t =>
          t.dev.rd F.PWR_DOMAIN_STATE_ON = on ∧ t.dev.rd F.PWR_DOMAIN_REASON_REASON = Rsn.NO_CLOCK ∧
          t.dev.rd F.PWR_DOMAIN_REASON_UNIT = 0xFFF))) ∧
      (d.pwr.rising / b % 2 = 0 → d.pwr.falling / b % 2 = 1 → Completes (.domainPowerDone i ok) s (fun t =>
        t.dev.rd F.PWR_DOMAIN_STATE_ON = on - on / b % 2 * b ∧ t.dev.pwr.falling = d.pwr.falling - b ∧
        ∀ a, memByte t.mem a = if i.val < 4 ∧ ((0x1000000 + i.val * 0x400000 ≤ a ∧ a < 0x1400000 + i.val * 0x400000) ∨
          (0xC00000 + i.val * 0x100000 ≤ a ∧ a < 0xD00000 + i.val * 0x100000)) then 0 else memByte s.mem a))) ∧
    (s.TakesWrite p A.CLK_OPP → d.posted = [] → d.safe = false → d.rd F.CLK_OPP_STATUS_CHANGING = 0 → d.rd F.PWR_STATUS_TRANSIT = 0 →
      (k = cur → Completes (.oppRequest p v) s (fun t => t.dev.rd F.CLK_OPP_STATUS_REASON = 0 ∧
        t.dev.rd F.CLK_OPP_STATUS_CHANGING = 0 ∧ t.dev.pwr = d.pwr)) ∧
      (k ≠ cur → d.power < 2 → d.rd F.CLK_PMB_CORE_ADDR ≠ 0 → d.rd F.CLK_PMB_SRAM_ADDR ≠ 0 → d.rd (F.CLK_VOUT_OPP_CODE cur) ≠ 0 →
        d.rd (F.CLK_VOUT_OPP_CODE k) ≠ 0 → d.rd F.CLK_VOUT_SRAM_RUN_CODE ≠ 0 →
        ((d.poke env p A.CLK_OPP v).postComplete .clk).oppResource k = 0 → Completes (.oppRequest p v) s (fun t =>
          t.dev.rd F.CLK_OPP_STATUS_REASON = 0 ∧ t.dev.rd F.CLK_OPP_STATUS_CHANGING = 1 ∧ t.dev.rd F.CLK_OPP_STATUS_CUR = cur ∧
          t.dev.pwr.newOpp = k ∧ t.dev.pwr.change = if cur < k then 1 else 3))) ∧
    (s.CoreUp →
      (d.pwr.change = 1 → Completes .oppFreqSwitch s (fun t => t.dev.pwr.freq = d.pwr.newOpp ∧ t.dev.pwr.change = 2)) ∧
      (d.pwr.change = 5 → Completes .oppFreqSwitch s (fun t => done t ∧ t.dev.pwr.freq = d.pwr.newOpp)) ∧
      (d.pwr.change = 6 → Completes .oppFreqSwitch s (fun t => t.dev.pwr.freq = cur ∧ t.dev.pwr.change = 0 ∧
        t.dev.rd F.CLK_OPP_STATUS_CHANGING = 0 ∧ t.dev.rd F.CLK_OPP_STATUS_CUR = cur)) ∧
      (∀ (e : PmbEnd), pmbFails e = none →
        (d.pwr.change = 2 → Completes (.oppVoutTaken e) s done) ∧
        (d.pwr.change = 3 → Completes (.oppVoutTaken e) s (fun t => t.dev.pwr.change = 4 ∧ t.dev.rd F.CLK_OPP_STATUS_CUR = cur)) ∧
        (∀ (w : BitVec 16), d.pwr.change = 4 → e ≠ .pec → Completes (.oppPowerGood e w) s (fun t =>
          t.dev.pwr.change = (if w.getLsbD 11 then 4 else 5) ∧ t.dev.pwr.freq = d.pwr.freq))) ∧
      (∀ (e : PmbEnd), pmbFails e ≠ none →
        (d.pwr.change = 2 → Completes (.oppVoutTaken e) s (fun t => t.dev.pwr.change = 6 ∧
          t.dev.rd F.CLK_OPP_STATUS_REASON = Rsn.INTERNAL ∧ t.dev.rd F.CLK_OPP_STATUS_CUR = cur)) ∧
        (d.pwr.change = 3 → Completes (.oppVoutTaken e) s ended) ∧
        (∀ (w : BitVec 16), d.pwr.change = 4 → Completes (.oppPowerGood e w) s ended)) ∧
      (d.pwr.change = 4 → Completes .oppPowerGoodTimeout s ended))

/-- Errors, security, and the access of the open test access port. -/
def Obligations.ErrorsAndSecurityAct : Prop :=
  ∀ (s : State) (p : Path) (v : Word),
    let d := s.dev
    (s.TakesWrite p A.ERR_ACK →
      (d.rd F.ERR_FIRST_HDR_VALID = 1 → d.rd F.ERR_FIRST_HDR_SEQ = bits v 0 16 → Completes (.errAck p v) s (fun t =>
        ∀ i, i < 8 → t.dev.reg (A.ERR_FIRST_HDR + 4 * i) = d.reg (A.ERR_NEXT_HDR + 4 * i) ∧ t.dev.reg (A.ERR_NEXT_HDR + 4 * i) = 0)) ∧
      (d.rd F.ERR_FIRST_HDR_VALID = 0 ∨ d.rd F.ERR_FIRST_HDR_SEQ ≠ bits v 0 16 → Completes (.errAck p v) s (fun t =>
        t.dev.rd F.ERR_STATUS_ACK_BAD = min (d.rd F.ERR_STATUS_ACK_BAD + 1) (2 ^ F.ERR_STATUS_ACK_BAD.width - 1) ∧
        OnlyRegs (fun a => a = A.ERR_STATUS ∨ rsvWord a) s t))) ∧
    (s.TakesWrite p A.ERR_RESTART → bits v 0 4 < 12 → d.safe = false → d.rd F.ERR_RESTART_BUSY = 0 →
      d.rd F.ERR_STATUS_STOPPED / 2 ^ bits v 0 4 % 2 = 1 → Completes (.errRestart p v) s (fun t =>
        t.dev.rd F.ERR_RESTART_BUSY = 1 ∧ t.dev.err.restarting = some (bits v 0 4))) ∧
    (∀ k, s.CoreUp → d.err.restarting = some k → k < 12 → Completes .errRestartDone s (fun t =>
      t.dev.err.restarting = none ∧ t.dev.rd F.ERR_RESTART_BUSY = 0 ∧ t.dev.rd F.ERR_RESTART_REASON = 0 ∧
      t.dev.rd F.ERR_STATUS_STOPPED / 2 ^ k % 2 = 0 ∧ Counted Ctr.RESTARTS 1 s t)) ∧
    (∀ e es, s.CoreUp → d.err.deferred = e :: es → d.logAllows = true → Completes .logDeferredAppend s (fun t =>
      t.dev.err.deferred = es ∧ t.dev.err.lastAppend = some d.clk ∧ Counted Ctr.LOG_APPENDED 1 s t)) ∧
    (s.CoreUp → Completes .auditCheck s (fun t => Counted Ctr.CHECKS 1 s t ∧ ∀ i, i < 6 →
      match d.auditChecks.find? (fun c => c.inv == i && c.want != c.got) with
      | none => t.dev.rd F.AUD_STATUS_PASS / 2 ^ i % 2 = 1 ∧ Counted (Ctr.VIOL i) 0 s t
      | some _ => t.dev.rd F.AUD_STATUS_PASS / 2 ^ i % 2 = 0 ∧ Counted (Ctr.VIOL i) 1 s t ∧ (t.dev.reg A.AUD_EVT).getLsbD i = true)) ∧
    (s.TakesWrite p A.SEC_PEAT_CMD → d.rd F.SEC_PEAT_CMD_BUSY = 0 →
      (d.peatLocked (d.rd F.SEC_PEAT_ADDR_ADDR * 8) false = false → Completes (.peatRead p v) s (fun t =>
        t.dev.rd F.SEC_PEAT_CMD_BUSY = 1 ∧ t.dev.sec.peatOp = some false ∧ t.dev.sec.peatAt = d.rd F.SEC_PEAT_ADDR_ADDR)) ∧
      (d.peatLocked (d.rd F.SEC_PEAT_ADDR_ADDR * 8) true = false → Completes (.peatWrite p v) s (fun t =>
        t.dev.rd F.SEC_PEAT_CMD_BUSY = 1 ∧ t.dev.sec.peatOp = some true ∧ t.dev.sec.peatAt = d.rd F.SEC_PEAT_ADDR_ADDR))) ∧
    (∀ w, s.CoreUp → d.sec.peatOp = some w →
      let i := d.sec.peatAt
      Completes .peatAccessDone s (fun t => t.dev.rd F.SEC_PEAT_CMD_BUSY = 0 ∧ t.dev.rd F.SEC_PEAT_CMD_REASON = 0 ∧
        t.dev.sec.peatOp = none ∧
        (w = true → t.dev.peatWord i = d.reg A.SEC_PEAT_DATA_HI ++ d.reg A.SEC_PEAT_DATA_LO) ∧
        (w = false → 8 * i < Peat.SYSTEM → t.dev.reg A.SEC_PEAT_DATA_HI ++ t.dev.reg A.SEC_PEAT_DATA_LO = d.peatWord i))) ∧
    (let slot := bits v 0 8
     let type := bits v 12 4
     let begun := fun (op : Nat) (t : State) => t.dev.rd F.SEC_KEY_CMD_BUSY = 1 ∧ t.dev.sec.keyOp = some (slot, op, type)
     s.TakesWrite p A.SEC_KEY_CMD → d.rd F.SEC_LOCK_LOCKS % 2 = 0 → d.rd F.SEC_KEY_CMD_BUSY = 0 → d.sec.erasing = false →
      d.sec.eraseFailed = false →
      (keyFits slot type = true → Completes (.keyLoad p v) s (begun 1)) ∧ Completes (.keyErase p v) s (begun 2) ∧
      (slot = 0 → (SMap.get (fun _ => {}) d.keys 0 : KeySlot).kind = 0 → Completes (.keyGenerate p v) s (begun 3))) ∧
    (∀ slot op type, s.CoreUp → d.sec.keyOp = some (slot, op, type) → Completes .keyCmdDone s (fun t =>
      let k : KeySlot := SMap.get (fun _ => {}) t.dev.keys slot
      t.dev.rd F.SEC_KEY_CMD_BUSY = 0 ∧ t.dev.rd F.SEC_KEY_CMD_REASON = 0 ∧ t.dev.sec.keyOp = none ∧
      (∀ i, i < 8 → t.dev.reg (A.SEC_KEY_DATA i) = 0) ∧
      (op = 1 → k = { kind := type, words := d.regsAt (A.SEC_KEY_DATA 0) (if type = 1 then 4 else 8) }) ∧ (op = 2 → k = {}) ∧
      (op = 3 → k.kind = 3 ∧ k.words.length = 8 ∧ ∀ i, i < 16 → t.dev.reg (A.SEC_ID_PUB 0 + 4 * i) = Config.publicKey k.words i))) ∧
    (s.TakesWrite p A.SEC_LOCK → Completes (.secLockWrite p v) s (fun t =>
      t.dev.rd F.SEC_LOCK_LOCKS = Nat.lor (d.rd F.SEC_LOCK_LOCKS) (bits v 0 4) ∧ OnlyRegs (fun a => a = A.SEC_LOCK ∨ rsvWord a) s t)) ∧
    (s.TakesWrite p A.SEC_FUSE_PROG → bits v 16 16 = 0x9616 → s.fuses.programmed = false →
      Completes (.fuseProgram p v) s (fun t => t.dev.sec.fusing = true ∧ t.fuses = s.fuses)) ∧
    (s.CoreUp → d.sec.fusing = true → s.fuses.programmed = false → Completes .fuseProgramDone s (fun t => t.dev.sec.fusing = false ∧
      t.fuses = { programmed := true, hash := d.regsAt (A.SEC_FUSE_STAGE 0) 8 } ∧
      ∀ i, i < 8 → t.dev.reg (A.SEC_FUSE_HASH i) = d.reg (A.SEC_FUSE_STAGE i))) ∧
    (s.TakesWrite p A.SEC_MIN_SVN →
      (d.sec.minSvn ≤ bits v 0 16 → Completes (.secMinSvnWrite p v) s (fun t => t.dev.rd F.SEC_MIN_SVN_MIN = bits v 0 16 ∧
        t.dev.sec.minSvn = bits v 0 16)) ∧
      (bits v 0 16 < d.sec.minSvn → Completes (.secMinSvnWrite p v) s (fun t => t.dev.rd F.SEC_MIN_SVN_MIN = d.rd F.SEC_MIN_SVN_MIN ∧
        t.dev.rd F.SEC_IGNORED_COUNT = min (d.rd F.SEC_IGNORED_COUNT + 1) (2 ^ F.SEC_IGNORED_COUNT.width - 1)))) ∧
    (s.TakesWrite p A.SEC_DBG_OPEN → bits v 16 16 = 0xDB61 → d.rd F.SEC_LOCK_LOCKS / 2 % 2 = 0 → Completes (.debugOpen p v) s (fun t =>
      t.dev.sec.erasing = true ∧ (d.sec.erasing = false → t.dev.sec.pendingErase = true))) ∧
    (s.CoreUp → d.sec.erasing = true →
      Completes (.debugEraseDone none) s (fun t => t.dev.keys = [] ∧ t.dev.sec.erasing = false ∧ t.dev.sec.debugFlag = true ∧
        t.dev.rd F.SEC_STATUS_ERASED = 1 ∧ t.dev.rd F.SEC_STATUS_DBG_OPENED = 1 ∧ t.dev.rd F.SEC_STATUS_TAP_OPEN = 1) ∧
      ∀ f, Completes (.debugEraseDone (some f)) s (fun t => t.dev.keys = [] ∧ t.dev.sec.erasing = false ∧
        t.dev.sec.eraseFailed = true ∧ t.dev.rd F.SEC_STATUS_ERASE_FAIL = 1 ∧ t.dev.rd F.SEC_STATUS_TAP_OPEN = d.rd F.SEC_STATUS_TAP_OPEN)) ∧
    (let a := d.mgt.tapReg / 2 ^ 32 % 2 ^ 27
     d.mgt.tapGo = true →
      (∀ (b : Block) (off : Nat), d.mgt.tapReg / 2 ^ 62 % 2 = 1 → s.TakesWrite .jtag a → locate a = .reg b off →
        b ∈ [.clk, .aud, .therm, .pwr] → ¬ (b = .pwr ∧ off = 0x2C) → (∀ f ∈ fieldsAt b off, f.acc = .rw) → reservedWithin b off = 0 →
        Completes .regacc s (fun t => t.dev.mgt.tapGo = false ∧
          t.dev.reg a = merge (d.reg a) (accMask (· == .rw) (fieldsAt b off)) (BitVec.ofNat 32 d.mgt.tapReg))) ∧
      (∀ (n off : Nat), d.mgt.tapReg / 2 ^ 62 % 2 = 0 → s.TakesRead .jtag a → locate a = .reg (.lnk n) off →
        Completes .regacc s (fun t => t.dev.mgt.tapGo = false ∧ t.dev.mgt.tapReg =
          d.mgt.tapReg / 2 ^ 32 * 2 ^ 32 + (d.reg a &&& ~~~ accMask (· == .wo) (fieldsAt (.lnk n) off)).toNat)))

/-- The test access port of IEEE 1149.1 (R432). -/
def Obligations.TapOffersIdcodeAndBypass : Prop :=
  (State.reset.dev.rd F.SEC_STATUS_TAP_OPEN = 0 ∧ State.reset.dev.mgt.tapIr = 0x01 ∧
    State.reset.dev.mgt.tapState = .testLogicReset) ∧
  ∀ (s : State) (tms tdi : Bool),
    let m := s.dev.mgt
    let closed := s.dev.rd F.SEC_STATUS_TAP_OPEN = 0
    let len := if m.tapIr = 0x01 then 32 else 1
    let shifted := fun (n : Nat) => m.tapShift / 2 + (if tdi then 2 ^ (n - 1) else 0)
    s.Up → s.dev.island 2 = true → Completes (.tapTransition tms tdi) s (fun t =>
      let m' := t.dev.mgt
      m'.tapState = m.tapState.next tms ∧ (s.dev.rd F.FRG_STATUS_STATE ≠ Frg.RECORDING → t.dev.regs = s.dev.regs) ∧
      (m.tapState = .shiftDr ∨ m.tapState = .shiftIr → Output.tdo (m.tapShift % 2) ∈ t.dev.out) ∧
      (m.tapState = .shiftIr → m'.tapShift = shifted 8) ∧
      (closed → m.tapState = .captureDr → m'.tapShift = if m.tapIr = 0x01 then 0x1961609D else 0) ∧
      (closed → m.tapState = .shiftDr → m'.tapShift = shifted len) ∧
      (closed → m'.tapReg = m.tapReg ∧ m'.tapGo = m.tapGo) ∧
      (m.tapState.next tms = .testLogicReset → m'.tapIr = 0x01) ∧
      (m.tapState.next tms = .updateIr → m'.tapIr = m.tapShift % 256) ∧
      (m.tapState.next tms ≠ .testLogicReset → m.tapState.next tms ≠ .updateIr → m'.tapIr = m.tapIr) ∧
      (m.tapState.next tms = .updateDr → s.dev.regaccOn = true → m'.tapReg = m.tapShift ∧
        m'.tapGo = (m.tapShift / 2 ^ 63 % 2 == 1)))

/-- Recording and replay. -/
def Obligations.FragalRecordsAndReplays : Prop :=
  ∀ (s : State) (p : Path) (v : Word),
    let d := s.dev
    let state := d.rd F.FRG_STATUS_STATE
    let m := d.rd F.FRG_CTRL_DOMAIN
    let wide := d.rd F.FRG_CTRL_SINK = 1 ∨ d.rd F.FRG_CTRL_WRAP = 1
    let takes := fun (a : Nat) => s.Up ∧ toMap p = true ∧ d.pathUp p = true ∧ d.route p (d.pathAddr p a) = .map a ∧
      d.requestError p a 4 true = none
    let begun := fun (t : State) => t.dev.rd F.FRG_STATUS_STATE = Frg.RECORDING ∧ t.dev.rd F.FRG_CMD_BUSY = 1 ∧
      t.dev.frg.segment = d.clk ∧ t.dev.frg.ckptDue = false
    let event := fun (t : State) (b : Nat) => (t.dev.reg A.FRG_EVT).getLsbD b = true
    (takes A.FRG_CMD →
      (state ≠ Frg.RECORDING → d.rd F.FRG_CTRL_MODE = 1 → (d.noteReserved .frg 8 A.FRG_CMD (putBits v 0 2 1)).recordCheck = 0 →
        Completes (.fragalStart p v) s (fun t => t.dev.rd F.FRG_STATUS_STATE = Frg.ARMING ∧ t.dev.rd F.FRG_CMD_REASON = 0 ∧
          t.dev.rd F.FRG_OCB_FILL_CHUNKS = 0 ∧ t.dev.frg.body = [] ∧
          ((∀ e ∈ d.scopeEntries, isCabinet e = false) →
            t.dev.frg.scope = (List.range 0x1000).filter d.scopeEntries.contains))) ∧
      (state = Frg.ARMING ∨ state = Frg.RECORDING → Completes (.fragalStop p v) s (fun t =>
        t.dev.rd F.FRG_STATUS_STATE = Frg.STOPPED ∧ t.dev.rd F.FRG_STATUS_END_CAUSE = 1 ∧ t.dev.rd F.FRG_CMD_BUSY = 0 ∧
        t.dev.rd F.FRG_CMD_REASON = 0 ∧ event t 1)) ∧
      (state = Frg.RECORDING →
        (d.rd F.FRG_CMD_BUSY = 0 → wide → Completes (.checkpoint p v) s (fun t => begun t ∧ t.dev.rd F.FRG_CMD_REASON = 0)) ∧
        (d.rd F.FRG_CMD_BUSY = 1 → Completes (.checkpoint p v) s (fun t => t.dev.rd F.FRG_CMD_REASON = Rsn.BUSY ∧
          t.dev.frg = d.frg)))) ∧
    (s.CoreUp →
      (state = Frg.ARMING → d.ticking m = true → wide → Completes .fragalArmComplete s (fun t => begun t ∧ event t 0 ∧
        t.dev.frg.start = (d.mclk m).count)) ∧
      (state = Frg.RECORDING → d.rd F.FRG_CKPT_PERIOD ≠ 0 →
        (d.rd F.FRG_CMD_BUSY = 1 → Completes .checkpointPeriodExpire s (fun t => Counted (Ctr.FRG 6) 1 s t ∧ t.dev.frg = d.frg)) ∧
        (d.rd F.FRG_CMD_BUSY = 0 → wide → Completes .checkpointPeriodExpire s begun)) ∧
      (state = Frg.RECORDING → d.rd F.FRG_CMD_BUSY = 1 →
        (d.frg.ckptDue = false → Completes .checkpointDone s (fun t => t.dev.rd F.FRG_CMD_BUSY = 0 ∧ t.dev.frg.ckpt = [] ∧
          Counted (Ctr.FRG 5) 1 s t ∧ event t 3)) ∧
        (d.frg.ckptDue = true → wide → Completes .checkpointDone s (fun t => begun t ∧ Counted (Ctr.FRG 5) 1 s t))) ∧
      (state = Frg.RECORDING → Completes .digestIntervalClose s (fun t => t.dev.frg.orders = [] ∧
        t.dev.frg.start = (d.mclk m).count)) ∧
      (state = Frg.REPLAYING → d.frg.trace.head? = some 11 →
        let n := 8 * leNat ((d.frg.trace.drop 2).take 2)
        let body := (d.frg.trace.take n).drop 16
        let differs := fun (u : Nat × Nat) => bytesWord ((body.drop (16 + 8 * u.2 + 4)).take 4) ≠ d.digest u.2 u.1
        ((∀ u ∈ d.frg.scope.zipIdx, ¬ differs u) → Completes .digestIntervalClose s (fun t =>
          t.dev.rd F.FRG_STATUS_STATE = Frg.REPLAYING ∧ t.dev.frg.start = (d.mclk m).count ∧ t.dev.frg.trace = d.frg.trace.drop n)) ∧
        ((∃ u ∈ d.frg.scope.zipIdx, differs u) → Completes .digestIntervalClose s (fun t =>
          t.dev.rd F.FRG_STATUS_STATE = Frg.DIVERGED ∧ t.dev.rd F.FRG_DIV_INFO_KIND = 1 ∧ Counted (Ctr.FRG 8) 1 s t))) ∧
      (∀ x, d.frg.tail = some x → Completes .traceTailDone s (fun t => t.dev.frg.tail = none ∧ Counted (Ctr.FRG 7) 1 s t ∧ event t 5)) ∧
      (state = Frg.REPLAYING → d.rd F.FRG_CTRL_SINK = 0 →
        (d.frg.trace.length < 16 → Completes (.replayRecordRelease []) s (fun t => t.dev.regs = d.regs ∧ t.dev.frg = d.frg)) ∧
        ∀ r, (splitRecords 1 d.frg.trace).1 = [r] →
          (endsSegment r = true → Completes (.replayRecordRelease []) s (fun t =>
            t.dev.rd F.FRG_STATUS_STATE = Frg.DONE ∧ t.dev.frg.trace = [])) ∧
          (recType r = Rt.VALUE → recUnit r = 0xFFF ∨ recUnit r ∈ d.frg.scope → leNat ((r.drop 16).take 1) = 2 →
            Completes (.replayRecordRelease []) s (fun t => t.dev.frg.opp = leNat ((r.drop 24).take 8) ∧
              t.dev.frg.trace = d.frg.trace.drop r.length ∧ t.dev.rd F.FRG_STATUS_STATE = Frg.REPLAYING)) ∧
          (recType r = 0 ∨ 14 < recType r → Completes (.replayRecordRelease []) s (fun t =>
            t.dev.rd F.FRG_STATUS_STATE = Frg.DIVERGED ∧ t.dev.rd F.FRG_DIV_INFO_KIND = 4)))) ∧
    (∀ (chunks : List (List Byte)) (r : List Byte),
      let e := d.noteReserved .frg 8 A.FRG_CMD v
      let opened := e.openChunks (if d.rd F.FRG_CTRL_SINK = 1 then chunks else e.ocbChunks)
      let trace := fromFirst opened.1
      let h := e.readHeader r
      s.TakesWrite p A.FRG_CMD → d.rd F.FRG_CTRL_MODE = 2 → state ≠ Frg.ARMING → state ≠ Frg.REPLAYING → d.safe = false →
      e.scopeCheck = 0 → (splitRecords trace.length trace).1.head? = some r → recType r = Rt.HEADER → h.verifies = true →
      h.id = (d.reg A.GLB_ID).toNat →
      e.regs.all (fun x => !(0x10040 ≤ x.1 && x.1 < 0x50000 && x.1 % 0x40 == 4 && bits x.2 0 3 != 0) ||
        h.scope.contains ((x.1 - 0x10000) / 0x40) || isCabinet ((x.1 - 0x10000) / 0x40)) = true →
      Completes (.fragalReplayStart p v chunks) s (fun t => t.dev.frg.scope = h.scope ∧ t.dev.frg.opp = h.opp ∧ event t 0 ∧
        t.dev.rd F.FRG_STATUS_STATE = if opened.2 then Frg.DIVERGED else Frg.REPLAYING)) ∧
    (s.TakesWrite p A.FRG_HRING_HOSTPTR → Completes (.frgHostptrWrite p v) s (fun t => t.dev.frg = { d.frg with host := v })) ∧
    (let i := d.rd F.FRG_OCB_ADDR_ADDR
     let moved := fun (t : State) => t.dev.rd F.FRG_OCB_ADDR_ADDR = (i + 1) % 2 ^ 20
     (takes A.FRG_OCB_DATA →
       (state ≠ Frg.RECORDING → Completes (.frgOcbDataAccess p (some v)) s (fun t => moved t ∧
         SMap.get (fun _ => 0) t.dev.frg.ocb i = v)) ∧
       (state = Frg.RECORDING → Completes (.frgOcbDataAccess p (some v)) s (fun t => moved t ∧ t.dev.frg = d.frg ∧
         t.dev.rd F.FRG_IGNORED_COUNT = min (d.rd F.FRG_IGNORED_COUNT + 1) 0xFFFF))) ∧
     (s.TakesRead p A.FRG_OCB_DATA → Completes (.frgOcbDataAccess p none) s (fun t => moved t ∧
       Answers p (SMap.get (fun _ => 0) d.frg.ocb i) s t ∧ t.dev.frg = d.frg)))

/-- Resets and boot. -/
def Obligations.ResetsAndBoot : Prop :=
  ∀ (s : State) (p : Path) (v : Word),
    let d := s.dev
    let cleared := fun (k : ResetKind) (cause : Nat) (t : State) => t.dev.inReset = true ∧ t.fuses = s.fuses ∧
      (t.dev.reg A.MGT_RESET_CAUSE).getLsbD cause = true ∧ Output.pin Pin.PWR_GOOD false ∈ t.dev.out ∧ t.dev.keys = d.keys ∧
      (∀ b, 0xC00000 ≤ b → b < 0x2000000 → memByte t.mem b = 0) ∧
      ∀ a, keptWord k a = false → a ≠ A.PWR_DOMAIN_STATE → t.dev.reg a = resetWord a
    (s.TakesWrite p A.GLB_SOFT_RESET → v.getLsbD 0 = true → bits v 16 16 = 0x9616 → Completes (.softReset p v) s (fun t => cleared .soft Cause.SOFT t ∧
      t.dev.rst.phase = 2 ∧ t.dev.peat = d.peat ∧
      ∀ a, 0xA00C ≤ a → a < 0xB000 → t.dev.reg a = d.reg a)) ∧
    (s.AtRest → d.sec.peatOp ≠ some true →
      Completes .supplyTrip s (fun t => cleared .board Cause.SUPPLY t ∧ t.dev.rst.phase = 1 ∧ t.dev.rst.board = true ∧ t.dev.peat = d.peat) ∧
      Completes .resetNAssert s (fun t => cleared .board Cause.RESET_N t ∧ t.dev.rst.phase = 1 ∧ t.dev.rst.board = true ∧ t.dev.peat = d.peat) ∧
      (d.inReset = false → d.mgt.tripped = true → Completes .thermShutdown s (fun t => cleared .board Cause.THERM t ∧ t.dev.rst.phase = 1 ∧
        t.dev.rst.therm = true ∧ t.dev.peat = d.peat))) ∧
    (∀ (boot : Fin 4) (hostif : Bool), s.AtRest → d.rst.phase = 1 →
      let begins := fun (t : State) => t.dev.rst.phase = 2 ∧ t.dev.rst.boot = boot.val ∧ t.dev.rst.hostif = hostif ∧
        t.dev.rst.board = false ∧ t.dev.rst.therm = false
      (d.rst.board = true → d.rst.therm = false → Completes (.resetRelease boot hostif) s begins) ∧
      (d.rst.board = true → d.rst.therm = true → Completes (.resetRelease boot hostif) s (fun t => t.dev.rst = { d.rst with board := false })) ∧
      (d.rst.therm = true → d.rst.board = false → Completes (.thermRecover boot hostif) s begins) ∧
      (d.rst.therm = true → d.rst.board = true → Completes (.thermRecover boot hostif) s (fun t =>
        t.dev.rst = { d.rst with therm := false }))) ∧
    (s.AtRest → d.rst.phase = 2 → s.fuses.hash.length = 8 → Completes .resetSequenceComplete s (fun t => t.dev.inReset = false ∧
      Output.pin Pin.PWR_GOOD true ∈ t.dev.out ∧ t.dev.rd F.MGT_BOOT_STATUS_BOOT = d.rst.boot % 4 ∧
      t.dev.rd F.MGT_BOOT_STATUS_STATE = (if d.rst.boot % 2 = 1 then 1 else 3) ∧
      t.dev.rd F.HOST_T0_PATH_PATH = (if d.rst.hostif then 1 else 0) ∧ t.dev.rd F.SEC_MIN_SVN_MIN = d.sec.minSvn % 2 ^ 16 ∧
      (∀ i, i < 8 → t.dev.reg (A.SEC_FUSE_HASH i) = s.fuses.hash.getD i 0) ∧ (d.sec.pendingErase = true → t.dev.keys = []))) ∧
    (s.AtRest →
      (d.rst.hostif = true → d.inReset = false → Completes .perstAssert s (fun t => t.dev.inReset = false ∧ t.dev.rst.perst = true ∧
        t.dev.pathUp .pcie = false ∧ t.dev.rd F.MGT_PIN_LEVEL_PERST = 0 ∧ t.dev.host.vfEnable = false ∧ t.dev.host.numVfs = 0 ∧
        t.mem = s.mem)) ∧
      (d.rst.hostif = false → d.inReset = false → Completes .perstAssert s (fun t => cleared .soft Cause.PERST t ∧ t.dev.rst.phase = 1 ∧
        t.dev.rst.perst = true ∧ t.dev.rd F.MGT_PIN_LEVEL_PERST = 0)) ∧
      Completes .perstRelease s (fun t => t.dev.rst.perst = false ∧ t.dev.rd F.MGT_PIN_LEVEL_PERST = 1 ∧
        t.dev.rst.phase = if d.rst.phase = 1 ∧ d.rst.board = false ∧ d.rst.therm = false ∧ d.rst.hostif = false then 2 else d.rst.phase)) ∧
    (s.Up → d.rd F.MGT_BOOT_STATUS_STATE = 1 →
      let failed := fun (t : State) => t.dev.rd F.MGT_BOOT_STATUS_STATE = 4 ∧ t.dev.rd F.MGT_BOOT_STATUS_FALLBACK = 1 ∧
        t.dev.boot.running = false
      let n := d.rd F.MGT_BOOT_STATUS_ENTRIES
      (∀ (image : List Byte), d.boot.running = false →
        let o := octets 256 (d.bootImage image)
        let body := octets (min (imageLength o) d.imageLimit) ((d.bootImage image).drop 256)
        (d.imageCheck s.fuses o body d.imageLimit = 0 → Completes (.bootImageReadDone image) s (fun t =>
          t.dev.boot.running = true ∧ t.dev.boot.body = body ∧ t.dev.rd F.SEC_STATUS_BOOT_OK = 1 ∧
          t.dev.rd F.MGT_BOOT_STATUS_STATE = 1)) ∧
        (d.imageCheck s.fuses o body d.imageLimit ≠ 0 → Completes (.bootImageReadDone image) s failed)) ∧
      (∀ (expired : Bool), d.boot.running = true →
        (d.tableEntry = none → Completes (.loadTableEntry expired) s failed) ∧
        (∀ ws, d.tableEntry = some ws → n < 4095 →
          (bits (ws.getD 0 0) 0 8 = 5 → (ws.getD 2 0).toNat ≤ 1000000 → Completes (.loadTableEntry expired) s (fun t =>
            t.dev.rd F.MGT_BOOT_STATUS_ENTRIES = n + 1 ∧ t.mem = s.mem)) ∧
          (let a := (ws.getD 1 0).toNat
           let src := (ws.getD 3 0).toNat
           bits (ws.getD 0 0) 0 8 = 1 → ws.getD 2 0 = 4 → src + 4 ≤ d.boot.body.length → (locate a).window = true →
            d.requestError .boot a 4 true = none → Completes (.loadTableEntry expired) s (fun t =>
              t.dev.rd F.MGT_BOOT_STATUS_ENTRIES = n + 1 ∧ ∀ b, memByte t.mem b =
                if a ≤ b ∧ b < a + 4 then d.boot.body.getD (src + (b - a)) 0 else memByte s.mem b)) ∧
          (bits (ws.getD 0 0) 0 8 = 0 → d.coreOn = true →
            let r := (((d.wr F.MGT_BOOT_STATUS_ENTRIES (n + 1)).wr (F.STW_RESUME_VEC 0) (d.boot.resume.toNat / 4)).dirty).giveOrder
              (.reg .boot) 0x0F0 Ord.ENABLE
            (r.2.1 = 0 → Completes .bootComplete s (fun t => t.dev.rd F.MGT_BOOT_STATUS_STATE = 2 ∧ t.dev.boot.running = false)) ∧
            (r.2.1 ≠ 0 → Completes .bootComplete s failed))))) ∧
    (∀ (t0 t1 t2 t3 : BitVec 16), s.Up → Completes (.thermSample t0 t1 t2 t3) s (fun t =>
      t.dev.rd (F.THERM_TEMP_TEMP 0) = t0.toNat ∧ t.dev.rd (F.THERM_TEMP_TEMP 1) = t1.toNat ∧
      t.dev.rd (F.THERM_TEMP_TEMP 2) = t2.toNat ∧ t.dev.rd (F.THERM_TEMP_TEMP 3) = t3.toNat ∧
      ∃ x, x ∈ [t0, t1, t2, t3] ∧ t.dev.rd F.THERM_MAX_TEMP = x.toNat ∧ (∀ y ∈ [t0, t1, t2, t3], y.toInt ≤ x.toInt) ∧
        (d.thermLimit < x.toInt → d.mgt.warned = false → (t.dev.reg A.THERM_EVT).getLsbD 0 = true ∧ t.dev.mgt.warned = true) ∧
        (2240 ≤ x.toInt → t.dev.mgt.tripped = true ∧
          (d.mgt.tripped = false → d.sec.erasing = false → t.dev.rd F.ERR_STATUS_SAFE = 1))))

/-- Pins and the management buses. -/
def Obligations.PinsAndManagementBusesAct : Prop :=
  ∀ (s : State) (p : Path) (v : Word),
    let d := s.dev
    (∀ (i : Fin 16) (level : Bool), s.Up → d.island 2 = true → (d.reg A.GPIO_IN).getLsbD i ≠ level →
      Completes (.gpioEdge i level) s (fun t => (∀ k, (t.dev.reg A.GPIO_IN).getLsbD k =
          if k = i.val then level else (d.reg A.GPIO_IN).getLsbD k) ∧
        (bits (d.reg A.GPIO_EDGE) (2 * i.val) 2 = 0 → t.dev.reg A.GPIO_EVT = d.reg A.GPIO_EVT) ∧
        (bits (d.reg A.GPIO_EDGE) (2 * i.val) 2 = 3 → d.coreOn = false → (t.dev.reg A.GPIO_EVT).getLsbD i = true))) ∧
    (s.TakesWrite p A.GPIO_SET → Completes (.gpioSet p v) s (fun t => OnlyRegs (fun a => a = A.GPIO_OUT ∨ rsvWord a) s t ∧
      ∀ k, k < 16 → (t.dev.reg A.GPIO_OUT).getLsbD k = ((d.reg A.GPIO_OUT).getLsbD k || v.getLsbD k))) ∧
    (s.TakesWrite p A.GPIO_CLR → Completes (.gpioClr p v) s (fun t => OnlyRegs (fun a => a = A.GPIO_OUT ∨ rsvWord a) s t ∧
      ∀ k, k < 16 → (t.dev.reg A.GPIO_OUT).getLsbD k = ((d.reg A.GPIO_OUT).getLsbD k && !v.getLsbD k))) ∧
    (let addr := bits v 0 7
     let own := addr = d.rd F.CLK_PMB_CORE_ADDR ∨ addr = d.rd F.CLK_PMB_SRAM_ADDR
     let begun := fun (kind : Nat) (t : State) => t.dev.mgt.xfer = some (addr, bits v 8 8, kind) ∧ t.dev.postBusy .pmb = true ∧
       t.dev.rd F.PMB_XFER_BUSY = 1
     let refused := fun (t : State) => t.dev.mgt.xfer = none ∧ t.dev.rd F.PMB_STATUS_REASON = Rsn.STATE ∧ t.dev.postBusy .pmb = false
     s.TakesWrite p A.PMB_XFER → d.posted = [] → d.mgt.xfer = none →
      (¬ own → Completes (.pmbSendByte p v) s (begun 0) ∧ Completes (.pmbWriteByte p v) s (begun 1) ∧
        Completes (.pmbWriteWord p v) s (begun 2)) ∧
      (own → Completes (.pmbSendByte p v) s refused ∧ Completes (.pmbWriteByte p v) s refused ∧
        Completes (.pmbWriteWord p v) s refused) ∧
      Completes (.pmbReadByte p v) s (begun 3) ∧ Completes (.pmbReadWord p v) s (begun 4)) ∧
    (∀ addr code kind (data : BitVec 16), s.Up → d.mgt.xfer = some (addr, code, kind) → d.posted = [] →
      d.rd F.CLK_OPP_STATUS_CHANGING = 0 → d.rd F.PWR_STATUS_TRANSIT = 0 → d.island 2 = true →
      let ends := fun (t : State) => t.dev.mgt.xfer = none ∧ Output.pmbus addr code (d.pmbData kind) ∈ t.dev.out ∧
        t.dev.rd F.PMB_STATUS_REASON = 0 ∧ t.dev.postBusy .pmb = false ∧ t.dev.rd F.PMB_XFER_BUSY = 0
      Completes (.pmbXferDone .done data) s (fun t => ends t ∧ t.dev.rd F.PMB_DATA_DATA =
        if kind = 3 then data.toNat % 256 else if kind = 4 then data.toNat else d.rd F.PMB_DATA_DATA) ∧
      Completes (.pmbXferDone .nack data) s (fun t => ends t ∧ t.dev.rd F.PMB_STATUS_NACK = 1) ∧
      Completes (.pmbXferDone .stretch data) s (fun t => ends t ∧ t.dev.rd F.PMB_STATUS_TIMEOUT = 1) ∧
      (3 ≤ kind → d.rd F.PMB_CTRL_PEC = 1 → Completes (.pmbXferDone .pec data) s (fun t => ends t ∧
        t.dev.rd F.PMB_STATUS_PEC_ERR = 1))) ∧
    (∀ (b : Fin 8), s.AtRest →
      let bitOf := fun (t : State) (f : Fld) => t.dev.rd f / 2 ^ b.val % 2
      Completes (.vddioSupplyLoss b) s (fun t => bitOf t F.PWR_DOMAIN_STATE_VDDIO = 0 ∧ bitOf t F.MGT_VDDIO_LEVEL_MEASURED = 0 ∧
        bitOf t F.MGT_VDDIO_LEVEL_V33 = 0 ∧
        (s.Quiet → ∀ g, g = 2 * b.val ∨ g = 2 * b.val + 1 → d.ustate (0x040 + g) = 3 →
          t.dev.ustate (0x040 + g) = 2 ∧ Counted (Ctr.GROUP g Gc.CLK_LOSTS) 1 s t)) ∧
      ∀ v33, Completes (.vddioSupplyReturn b v33) s (fun t => bitOf t F.PWR_DOMAIN_STATE_VDDIO = 1 ∧
        bitOf t F.MGT_VDDIO_LEVEL_MEASURED = 1 ∧ (bitOf t F.MGT_VDDIO_LEVEL_V33 = 1 ↔ v33 = true))) ∧
    (∀ (k : Fin 4), s.TakesWrite p (A.STW_ELOAD k) →
      (d.rd (F.STW_ELOAD_BUSY k) = 0 → Completes (.eload p k v) s (fun t => t.dev.rd (F.STW_ELOAD_BUSY k) = 1 ∧
        OnlyRegs (fun a => a = A.STW_ELOAD k ∨ rsvWord a) s t)) ∧
      (d.rd (F.STW_ELOAD_BUSY k) = 1 → Completes (.eload p k v) s (fun t => t.dev.rd (F.STW_ELOAD_REASON k) = Rsn.BUSY ∧
        OnlyRegs (fun a => a = A.STW_ELOAD k ∨ rsvWord a) s t)))
end

