-- ==== Sys2Proof/Laws/SMap.lean ====
section
/-! SUPPORT. Sparse maps: what a key holds after a write, and that a write keeps the canonical form. -/
namespace Sys2Proof.Machine

variable {α : Type} {d : Nat → α} {m : SMap α} {j k : Nat} {v : α}

theorem SMap.get_erase_self (d : Nat → α) (m : SMap α) (k : Nat) : SMap.get d (SMap.erase k m) k = d k := by
  induction m with
  | nil => rfl
  | cons e m ih =>
    obtain ⟨j, w⟩ := e
    by_cases h : j = k <;> simp [SMap.erase, SMap.get, h, ih]

theorem SMap.get_erase_of_ne (d : Nat → α) (m : SMap α) (h : j ≠ k) : SMap.get d (SMap.erase k m) j = SMap.get d m j := by
  induction m with
  | nil => rfl
  | cons e m ih =>
    obtain ⟨i, w⟩ := e
    by_cases hi : i = k
    · have : k ≠ j := fun e => h e.symm
      simp [SMap.erase, SMap.get, hi, ih, this]
    · simp [SMap.erase, SMap.get, hi, ih]

theorem SMap.get_insert_of_ne (d : Nat → α) (m : SMap α) (v : α) (h : j ≠ k) :
    SMap.get d (SMap.insert k v m) j = SMap.get d m j := by
  have h' : k ≠ j := fun e => h e.symm
  induction m with
  | nil => simp [SMap.insert, SMap.get, h']
  | cons e m ih =>
    obtain ⟨i, w⟩ := e
    by_cases hi : k < i <;> simp [SMap.insert, SMap.get, hi, ih, h']

theorem SMap.get_insert_erase (d : Nat → α) (m : SMap α) (k : Nat) (v : α) :
    SMap.get d (SMap.insert k v (SMap.erase k m)) k = v := by
  induction m with
  | nil => simp [SMap.erase, SMap.insert, SMap.get]
  | cons e m ih =>
    obtain ⟨i, w⟩ := e
    by_cases hi : i = k
    · simp [SMap.erase, hi, ih]
    · by_cases hk : k < i <;> simp [SMap.erase, SMap.insert, SMap.get, hi, hk, ih]

/-- A key that was written holds what was written. -/
@[simp] theorem SMap.get_put_self [DecidableEq α] (d : Nat → α) (m : SMap α) (k : Nat) (v : α) :
    SMap.get d (SMap.put d k v m) k = v := by
  unfold SMap.put
  split
  · rename_i h; rw [SMap.get_erase_self, h]
  · exact SMap.get_insert_erase d m k v

/-- Every other key holds what it held. -/
theorem SMap.get_put_of_ne [DecidableEq α] (d : Nat → α) (m : SMap α) (v : α) (h : j ≠ k) :
    SMap.get d (SMap.put d k v m) j = SMap.get d m j := by
  unfold SMap.put
  split
  · exact SMap.get_erase_of_ne d m h
  · rw [SMap.get_insert_of_ne d _ v h, SMap.get_erase_of_ne d m h]

theorem SMap.get_put [DecidableEq α] (d : Nat → α) (m : SMap α) (k j : Nat) (v : α) :
    SMap.get d (SMap.put d k v m) j = if j = k then v else SMap.get d m j := by
  split
  · rename_i h; rw [h, SMap.get_put_self]
  · rename_i h; exact SMap.get_put_of_ne d m v h

theorem SMap.mem_erase (e : Nat × α) (m : SMap α) (k : Nat) : e ∈ SMap.erase k m ↔ e ∈ m ∧ e.1 ≠ k := by
  induction m with
  | nil => simp [SMap.erase]
  | cons x m ih =>
    obtain ⟨i, w⟩ := x
    by_cases hi : i = k
    · simp only [SMap.erase, hi, if_true, ih, List.mem_cons]
      constructor
      · rintro ⟨h, h'⟩; exact ⟨.inr h, h'⟩
      · rintro ⟨h | h, h'⟩
        · exact absurd (by rw [h]) h'
        · exact ⟨h, h'⟩
    · simp only [SMap.erase, hi, if_false, ih, List.mem_cons]
      constructor
      · rintro (h | ⟨h, h'⟩)
        · exact ⟨.inl h, by rw [h]; exact hi⟩
        · exact ⟨.inr h, h'⟩
      · rintro ⟨h | h, h'⟩
        · exact .inl h
        · exact .inr ⟨h, h'⟩

theorem SMap.mem_insert (e : Nat × α) (m : SMap α) (k : Nat) (v : α) : e ∈ SMap.insert k v m ↔ e = (k, v) ∨ e ∈ m := by
  induction m with
  | nil => simp [SMap.insert]
  | cons x m ih =>
    obtain ⟨i, w⟩ := x
    by_cases hk : k < i
    · simp [SMap.insert, hk]
    · simp only [SMap.insert, hk, if_false, List.mem_cons, ih]
      constructor
      · rintro (h | h | h)
        · exact .inr (.inl h)
        · exact .inl h
        · exact .inr (.inr h)
      · rintro (h | h | h)
        · exact .inr (.inl h)
        · exact .inl h
        · exact .inr (.inr h)

variable [DecidableEq α]

theorem SMap.wf_cons (d : Nat → α) (m : SMap α) (k : Nat) (v : α) :
    SMap.wf d ((k, v) :: m) = true ↔ v ≠ d k ∧ (∀ e ∈ m, k < e.1) ∧ SMap.wf d m = true := by
  simp [SMap.wf, and_assoc]

theorem SMap.wf_erase (k : Nat) (h : SMap.wf d m = true) : SMap.wf d (SMap.erase k m) = true := by
  induction m with
  | nil => rfl
  | cons x m ih =>
    obtain ⟨i, w⟩ := x
    obtain ⟨h1, h2, h3⟩ := (SMap.wf_cons d m i w).1 h
    by_cases hi : i = k
    · simpa [SMap.erase, hi] using ih h3
    · simp only [SMap.erase, hi, if_false]
      exact (SMap.wf_cons d _ i w).2 ⟨h1, fun e he => h2 e ((SMap.mem_erase e m k).1 he).1, ih h3⟩

theorem SMap.wf_insert (hv : v ≠ d k) (hk : ∀ e ∈ m, e.1 ≠ k) (h : SMap.wf d m = true) :
    SMap.wf d (SMap.insert k v m) = true := by
  induction m with
  | nil => simp [SMap.insert, SMap.wf, hv]
  | cons x m ih =>
    obtain ⟨i, w⟩ := x
    obtain ⟨h1, h2, h3⟩ := (SMap.wf_cons d m i w).1 h
    have hik : i ≠ k := hk (i, w) (by simp)
    by_cases hlt : k < i
    · simp only [SMap.insert, hlt, if_true]
      refine (SMap.wf_cons d _ k v).2 ⟨hv, ?_, h⟩
      intro e he
      rcases List.mem_cons.1 he with h' | h'
      · rw [h']; exact hlt
      · exact Nat.lt_trans hlt (h2 e h')
    · simp only [SMap.insert, hlt, if_false]
      refine (SMap.wf_cons d _ i w).2 ⟨h1, ?_, ih (fun e he => hk e (List.mem_cons_of_mem _ he)) h3⟩
      intro e he
      rcases (SMap.mem_insert e m k v).1 he with h' | h'
      · rw [h']; exact Nat.lt_of_le_of_ne (Nat.le_of_not_lt hlt) hik
      · exact h2 e h'

/-- A write keeps the canonical form. -/
theorem SMap.wf_put (k : Nat) (v : α) (h : SMap.wf d m = true) : SMap.wf d (SMap.put d k v m) = true := by
  unfold SMap.put
  split
  · exact SMap.wf_erase k h
  · rename_i hv
    exact SMap.wf_insert hv (fun e he => ((SMap.mem_erase e m k).1 he).2) (SMap.wf_erase k h)

/-- Leaving out entries keeps the canonical form. -/
theorem SMap.wf_filter (p : Nat × α → Bool) (h : SMap.wf d m = true) : SMap.wf d (m.filter p) = true := by
  induction m with
  | nil => rfl
  | cons x m ih =>
    obtain ⟨i, w⟩ := x
    obtain ⟨h1, h2, h3⟩ := (SMap.wf_cons d m i w).1 h
    by_cases hp : p (i, w) = true
    · rw [List.filter_cons_of_pos hp]
      exact (SMap.wf_cons d _ i w).2 ⟨h1, fun e he => h2 e (List.mem_filter.1 he).1, ih h3⟩
    · rw [List.filter_cons_of_neg hp]; exact ih h3

/-- Writing what a key holds changes nothing, in the canonical form. -/
theorem SMap.put_get_self (h : SMap.wf d m = true) (k : Nat) : SMap.put d k (SMap.get d m k) m = m := by
  induction m with
  | nil => simp [SMap.put, SMap.get, SMap.erase]
  | cons x m ih =>
    obtain ⟨i, w⟩ := x
    obtain ⟨h1, h2, h3⟩ := (SMap.wf_cons d m i w).1 h
    have none : ∀ (m : SMap α), (∀ e ∈ m, e.1 ≠ k) → SMap.erase k m = m ∧ SMap.get d m k = d k := by
      intro m hm
      induction m with
      | nil => exact ⟨rfl, rfl⟩
      | cons y m ihm =>
        obtain ⟨j, u⟩ := y
        have hj : j ≠ k := hm (j, u) (by simp)
        have := ihm (fun e he => hm e (List.mem_cons_of_mem _ he))
        exact ⟨by simp [SMap.erase, hj, this.1], by simp [SMap.get, hj, this.2]⟩
    by_cases hi : i = k
    · subst hi
      have hm := none m (fun e he => Nat.ne_of_gt (h2 e he))
      have hins : SMap.insert i w m = (i, w) :: m := by
        cases m with
        | nil => rfl
        | cons y m =>
          obtain ⟨j, u⟩ := y
          have : i < j := h2 (j, u) (by simp)
          simp [SMap.insert, this]
      simp [SMap.put, SMap.get, SMap.erase, h1, hm.1, hins]
    · have := ih h3
      unfold SMap.put at this ⊢
      simp only [SMap.get, hi, if_false, SMap.erase]
      split
      · rename_i hd
        rw [if_pos hd] at this
        rw [this]
      · rename_i hd
        rw [if_neg hd] at this
        by_cases hlt : k < i
        · exfalso
          exact hd (none m (fun e he => Nat.ne_of_gt (Nat.lt_trans hlt (h2 e he)))).2
        · simp [SMap.insert, hlt, this]

end Sys2Proof.Machine
end

