-- ==== Sys2Proof/Laws/Ops.lean ====
section
/-! SUPPORT. The named operations: fields of words, registers and their fields, the engine memories. -/
namespace Sys2Proof.Machine

/-! ### Fields of words -/

theorem bits_lt (w : Word) (lo n : Nat) : bits w lo n < 2 ^ n := Nat.mod_lt _ (Nat.two_pow_pos n)

/-- Bits of a word by their places. -/
theorem testBit_bits (w : Word) (lo n i : Nat) : (bits w lo n).testBit i = (decide (i < n) && w.getLsbD (lo + i)) := by
  rw [bits, Nat.testBit_mod_two_pow, Nat.testBit_div_two_pow, BitVec.getLsbD, Nat.add_comm]

theorem putBits_toNat (w : Word) (lo n v : Nat) (h : lo + n ≤ 32) :
    (putBits w lo n v).toNat = w.toNat - bits w lo n * 2 ^ lo + v % 2 ^ n * 2 ^ lo := by
  have hw := w.isLt
  have h1 : bits w lo n * 2 ^ lo ≤ w.toNat := by
    refine Nat.le_trans (Nat.mul_le_mul_right _ (Nat.mod_le _ _)) (Nat.div_mul_le_self _ _)
  have hd : w.toNat = w.toNat / 2 ^ (lo + n) * 2 ^ (lo + n) + bits w lo n * 2 ^ lo + w.toNat % 2 ^ lo := by
    have e1 := Nat.div_add_mod w.toNat (2 ^ lo)
    have e2 := Nat.div_add_mod (w.toNat / 2 ^ lo) (2 ^ n)
    rw [Nat.div_div_eq_div_mul, ← Nat.pow_add] at e2
    rw [bits]
    calc w.toNat = 2 ^ lo * (w.toNat / 2 ^ lo) + w.toNat % 2 ^ lo := e1.symm
      _ = 2 ^ lo * (2 ^ n * (w.toNat / 2 ^ (lo + n)) + w.toNat / 2 ^ lo % 2 ^ n) + w.toNat % 2 ^ lo := by rw [e2]
      _ = _ := by rw [Nat.pow_add]; ring
  have hlt : w.toNat / 2 ^ (lo + n) * 2 ^ (lo + n) + v % 2 ^ n * 2 ^ lo + w.toNat % 2 ^ lo < 2 ^ 32 := by
    have hv : v % 2 ^ n * 2 ^ lo + w.toNat % 2 ^ lo < 2 ^ (lo + n) := by
      have a : v % 2 ^ n + 1 ≤ 2 ^ n := Nat.mod_lt _ (Nat.two_pow_pos n)
      have b : w.toNat % 2 ^ lo < 2 ^ lo := Nat.mod_lt _ (Nat.two_pow_pos lo)
      calc v % 2 ^ n * 2 ^ lo + w.toNat % 2 ^ lo < v % 2 ^ n * 2 ^ lo + 2 ^ lo := by omega
        _ = (v % 2 ^ n + 1) * 2 ^ lo := by ring
        _ ≤ 2 ^ n * 2 ^ lo := Nat.mul_le_mul_right _ a
        _ = 2 ^ (lo + n) := by rw [Nat.pow_add]; ring
    have hq : w.toNat / 2 ^ (lo + n) + 1 ≤ 2 ^ (32 - (lo + n)) := by
      apply (Nat.div_lt_iff_lt_mul (Nat.two_pow_pos _)).2
      rw [← Nat.pow_add]; have : 32 - (lo + n) + (lo + n) = 32 := by omega
      rw [this]; exact hw
    calc _ < w.toNat / 2 ^ (lo + n) * 2 ^ (lo + n) + 2 ^ (lo + n) := by omega
      _ = (w.toNat / 2 ^ (lo + n) + 1) * 2 ^ (lo + n) := by ring
      _ ≤ 2 ^ (32 - (lo + n)) * 2 ^ (lo + n) := Nat.mul_le_mul_right _ hq
      _ = 2 ^ 32 := by rw [← Nat.pow_add]; congr 1; omega
  rw [putBits, BitVec.toNat_ofNat, Nat.mod_eq_of_lt]
  omega

/-- Bits of a word after a field has been put into it. -/
theorem getLsbD_putBits (w : Word) (lo n v i : Nat) (h : lo + n ≤ 32) :
    (putBits w lo n v).getLsbD i = if lo ≤ i ∧ i < lo + n then v.testBit (i - lo) else w.getLsbD i := by
  have hd : (putBits w lo n v).toNat =
      2 ^ lo * (2 ^ n * (w.toNat / 2 ^ (lo + n)) + v % 2 ^ n) + w.toNat % 2 ^ lo := by
    rw [putBits_toNat w lo n v h]
    have e1 := Nat.div_add_mod w.toNat (2 ^ lo)
    have e2 := Nat.div_add_mod (w.toNat / 2 ^ lo) (2 ^ n)
    rw [Nat.div_div_eq_div_mul, ← Nat.pow_add] at e2
    have e3 : w.toNat = 2 ^ lo * (2 ^ n * (w.toNat / 2 ^ (lo + n))) + bits w lo n * 2 ^ lo + w.toNat % 2 ^ lo := by
      calc w.toNat = 2 ^ lo * (w.toNat / 2 ^ lo) + w.toNat % 2 ^ lo := e1.symm
        _ = 2 ^ lo * (2 ^ n * (w.toNat / 2 ^ (lo + n)) + w.toNat / 2 ^ lo % 2 ^ n) + w.toNat % 2 ^ lo := by rw [e2]
        _ = _ := by rw [bits]; ring
    have : 2 ^ lo * (2 ^ n * (w.toNat / 2 ^ (lo + n)) + v % 2 ^ n) =
        2 ^ lo * (2 ^ n * (w.toNat / 2 ^ (lo + n))) + v % 2 ^ n * 2 ^ lo := by ring
    omega
  rw [BitVec.getLsbD, hd, BitVec.getLsbD]
  have hm : w.toNat % 2 ^ lo < 2 ^ lo := Nat.mod_lt _ (Nat.two_pow_pos lo)
  have hv : v % 2 ^ n < 2 ^ n := Nat.mod_lt _ (Nat.two_pow_pos n)
  rw [Nat.testBit_two_pow_mul_add _ hm]
  by_cases h1 : i < lo
  · have : ¬ (lo ≤ i ∧ i < lo + n) := by omega
    simp [h1, this, Nat.testBit_mod_two_pow]
  · rw [if_neg h1, Nat.testBit_two_pow_mul_add _ hv]
    by_cases h2 : i - lo < n
    · have : lo ≤ i ∧ i < lo + n := by omega
      simp [h2, this, Nat.testBit_mod_two_pow]
    · have : ¬ (lo ≤ i ∧ i < lo + n) := by omega
      rw [if_neg h2, if_neg this, Nat.testBit_div_two_pow]
      congr 1; omega

/-- The field that was put reads as put. -/
theorem bits_putBits_self (w : Word) (lo n v : Nat) (h : lo + n ≤ 32) : bits (putBits w lo n v) lo n = v % 2 ^ n := by
  apply Nat.eq_of_testBit_eq
  intro i
  rw [testBit_bits, getLsbD_putBits w lo n v _ h, Nat.testBit_mod_two_pow]
  by_cases hi : i < n
  · have : lo ≤ lo + i ∧ lo + i < lo + n := by omega
    simp [hi, this]
  · simp [hi]

/-- A field beside the one that was put reads as before. -/
theorem bits_putBits_of_disjoint (w : Word) (lo n v lo' n' : Nat) (h : lo + n ≤ 32) (hd : lo' + n' ≤ lo ∨ lo + n ≤ lo') :
    bits (putBits w lo n v) lo' n' = bits w lo' n' := by
  apply Nat.eq_of_testBit_eq
  intro i
  rw [testBit_bits, testBit_bits, getLsbD_putBits w lo n v _ h]
  by_cases hi : i < n'
  · have : ¬ (lo ≤ lo' + i ∧ lo' + i < lo + n) := by omega
    simp [this]
  · simp [hi]

/-! ### Registers -/

theorem Dev.reg_setReg (d : Dev) (a b : Nat) (w : Word) : (d.setReg a w).reg b = if b = a then w else d.reg b :=
  SMap.get_put resetWord d.regs a b w

@[simp] theorem Dev.reg_setReg_self (d : Dev) (a : Nat) (w : Word) : (d.setReg a w).reg a = w := by
  simp [Dev.reg_setReg]

theorem Dev.reg_setReg_of_ne (d : Dev) {a b : Nat} (w : Word) (h : b ≠ a) : (d.setReg a w).reg b = d.reg b := by
  simp [Dev.reg_setReg, h]

/-- A field that was written reads as written. -/
theorem Dev.rd_wr_self (d : Dev) (f : Fld) (v : Nat) (h : f.lo + f.width ≤ 32) : (d.wr f v).rd f = v % 2 ^ f.width := by
  simp [Dev.rd, Dev.wr, bits_putBits_self _ _ _ _ h]

/-- A field of another word reads as before. -/
theorem Dev.rd_wr_of_ne (d : Dev) {f g : Fld} (v : Nat) (h : g.addr ≠ f.addr) : (d.wr f v).rd g = d.rd g := by
  simp [Dev.rd, Dev.wr, Dev.reg_setReg_of_ne _ _ h]

/-- A field beside the one written reads as before. -/
theorem Dev.rd_wr_of_disjoint (d : Dev) {f g : Fld} (v : Nat) (h : f.lo + f.width ≤ 32)
    (hd : g.lo + g.width ≤ f.lo ∨ f.lo + f.width ≤ g.lo) : (d.wr f v).rd g = d.rd g := by
  by_cases ha : g.addr = f.addr
  · simp [Dev.rd, Dev.wr, ha, bits_putBits_of_disjoint _ _ _ _ _ _ h hd]
  · exact Dev.rd_wr_of_ne d v ha

theorem Dev.rd_setReg_of_ne (d : Dev) {a : Nat} {f : Fld} (w : Word) (h : f.addr ≠ a) : (d.setReg a w).rd f = d.rd f := by
  simp [Dev.rd, Dev.reg_setReg_of_ne _ _ h]

theorem Dev.rd_setReg_self (d : Dev) (f : Fld) (w : Word) : (d.setReg f.addr w).rd f = bits w f.lo f.width := by
  simp [Dev.rd]

theorem Dev.stat64_setStat (d : Dev) (a b v : Nat) : (d.setStat a v).stat64 b = if b = a then v % 2 ^ 64 else d.stat64 b := by
  unfold Dev.stat64 Dev.setStat
  rw [SMap.get_put]
  split <;> simp

/-! ### The engine memories (R150, R463) -/

theorem memByte_memPut (m : List Host.Cell) (a b : Nat) (v : Byte) :
    memByte (memPut m a v) b = if b = a then v else memByte m b := SMap.get_put _ m a b v

/-- A write keeps the canonical form. -/
theorem Memory.wf_memPut {m : List Host.Cell} (a : Nat) (v : Byte) (h : Memory.wf m = true) : Memory.wf (memPut m a v) = true :=
  SMap.wf_put a v h

theorem Memory.wf_apply {m : List Host.Cell} (o : MemOp) (h : Memory.wf m = true) : Memory.wf (o.apply m) = true := by
  cases o with
  | byte a b => exact Memory.wf_memPut a b h
  | clear lo hi => exact SMap.wf_filter _ h

/-- The writes of a command keep the canonical form. -/
theorem Memory.wf_applyMem (ops : List MemOp) {m : List Host.Cell} (h : Memory.wf m = true) :
    Memory.wf (applyMem ops m) = true := by
  induction ops generalizing m with
  | nil => exact h
  | cons o ops ih => exact ih (Memory.wf_apply o h)

@[simp] theorem applyMem_nil (m : List Host.Cell) : applyMem [] m = m := rfl
theorem applyMem_append (a b : List MemOp) (m : List Host.Cell) : applyMem (a ++ b) m = applyMem b (applyMem a m) := by
  simp [applyMem]

/-- A byte after consecutive octets have been written: one of them, or what it was. -/
theorem memByte_applyMem_bytes (bs : List Byte) (a b : Nat) (m : List Host.Cell) :
    memByte (applyMem (bs.zipIdx.map (fun e => MemOp.byte (a + e.2) e.1)) m) b =
      if a ≤ b ∧ b < a + bs.length then bs.getD (b - a) 0 else memByte m b := by
  suffices H : ∀ k, memByte (applyMem ((bs.zipIdx k).map (fun e => MemOp.byte (a + e.2) e.1)) m) b =
      if a + k ≤ b ∧ b < a + k + bs.length then bs.getD (b - (a + k)) 0 else memByte m b from H 0
  induction bs generalizing m with
  | nil => intro k; simp
  | cons x xs ih =>
    intro k
    simp only [List.zipIdx_cons, List.map_cons]
    rw [show applyMem (MemOp.byte (a + k) x :: (xs.zipIdx (k + 1)).map (fun e => MemOp.byte (a + e.2) e.1)) m =
      applyMem ((xs.zipIdx (k + 1)).map (fun e => MemOp.byte (a + e.2) e.1)) (memPut m (a + k) x) from rfl, ih]
    rw [memByte_memPut]
    simp only [List.length_cons]
    by_cases h1 : a + (k + 1) ≤ b ∧ b < a + (k + 1) + xs.length
    · have h2 : a + k ≤ b ∧ b < a + k + (xs.length + 1) := by omega
      rw [if_pos h1, if_pos h2]
      have : b - (a + k) = (b - (a + (k + 1))) + 1 := by omega
      rw [this]; rfl
    · rw [if_neg h1]
      by_cases h3 : b = a + k
      · have h2 : a + k ≤ b ∧ b < a + k + (xs.length + 1) := by omega
        rw [if_pos h3, if_pos h2, h3]; simp
      · have h2 : ¬ (a + k ≤ b ∧ b < a + k + (xs.length + 1)) := by omega
        rw [if_neg h3, if_neg h2]

end Sys2Proof.Machine
end

