-- ==== Sys2Proof/Laws/Run.lean ====
section
/-! SUPPORT. What carrying out a command does beside the command's own effect: the rising edges of `GLB_EVT_SUMMARY` are
signalled, the writes to the engine memories take place; the queue and the fuses stay. -/
namespace Sys2Proof.Machine

/-! ### Signals and the device summary (R72, R76) -/

/-- A signal changes the pending bits and what has left the device, nothing else. -/
theorem Dev.signal_cases (d : Dev) (fn v : Nat) :
    ∃ pba out, d.signal fn v = { d with host := { d.host with pba := pba }, out := out } := by
  unfold Dev.signal
  repeat' split
  · exact ⟨d.host.pba, d.out, rfl⟩
  · exact ⟨d.host.pba, d.out, rfl⟩
  · exact ⟨_, d.out, rfl⟩
  · exact ⟨d.host.pba, _, rfl⟩

/-- The summary is a function of the registers. -/
theorem Dev.summary_congr {d e : Dev} (h : d.regs = e.regs) : d.summary = e.summary := by
  have hr : ∀ f, d.rd f = e.rd f := fun f => by simp [Dev.rd, Dev.reg, h]
  have ho : ∀ f, d.on f = e.on f := fun f => by simp [Dev.on, hr]
  have hu : d.unitsSum = e.unitsSum := by simp only [Dev.unitsSum, h, ho, hr]
  simp only [Dev.summary, hu, ho]

theorem each_host_cases {α : Type} (f : Dev → α → Dev)
    (hf : ∀ d x, ∃ pba out, f d x = { d with host := { d.host with pba := pba }, out := out }) (xs : List α) (d : Dev) :
    ∃ pba out, d.each xs f = { d with host := { d.host with pba := pba }, out := out } := by
  induction xs generalizing d with
  | nil => exact ⟨d.host.pba, d.out, rfl⟩
  | cons x xs ih =>
    obtain ⟨p, o, h⟩ := hf d x
    obtain ⟨p', o', h'⟩ := ih (f d x)
    refine ⟨p', o', ?_⟩
    show (f d x).each xs f = _
    rw [h', h]

/-- Settling records the summary and signals; it changes nothing else. -/
theorem Dev.settle_cases (d : Dev) :
    ∃ pba out, d.settle = { d with host := { d.host with pba := pba, sumPrev := d.summary }, out := out } := by
  unfold Dev.settle
  obtain ⟨p, o, h⟩ := each_host_cases
    (fun (d' : Dev) (b : Nat × Nat) => if d.summary / 2 ^ b.1 % 2 = 1 && d'.host.sumPrev / 2 ^ b.1 % 2 = 0
      then d'.signal 0 b.2 else d')
    (fun d' x => by
      dsimp only
      split
      · exact Dev.signal_cases d' 0 x.2
      · exact ⟨d'.host.pba, d'.out, rfl⟩) summaryVectors d
  refine ⟨p, o, ?_⟩
  dsimp only
  rw [h]

/-- With no rising edge, settling changes nothing. -/
theorem Dev.settle_of_same {d : Dev} (h : d.host.sumPrev = d.summary) : d.settle = d := by
  have hf : ∀ (xs : List (Nat × Nat)), d.each xs (fun (d' : Dev) (b : Nat × Nat) =>
      if d.summary / 2 ^ b.1 % 2 = 1 && d'.host.sumPrev / 2 ^ b.1 % 2 = 0 then d'.signal 0 b.2 else d') = d := by
    intro xs
    induction xs with
    | nil => rfl
    | cons x xs ih =>
      show (if d.summary / 2 ^ x.1 % 2 = 1 && d.host.sumPrev / 2 ^ x.1 % 2 = 0 then d.signal 0 x.2 else d).each xs _ = d
      have : ¬ (d.summary / 2 ^ x.1 % 2 = 1 && d.host.sumPrev / 2 ^ x.1 % 2 = 0) = true := by
        rw [h]; simp
      rw [if_neg this]; exact ih
  unfold Dev.settle
  dsimp only
  rw [hf, ← h]

@[simp] theorem Dev.settle_regs (d : Dev) : d.settle.regs = d.regs := by obtain ⟨p, o, h⟩ := d.settle_cases; rw [h]
@[simp] theorem Dev.settle_stat (d : Dev) : d.settle.stat = d.stat := by obtain ⟨p, o, h⟩ := d.settle_cases; rw [h]
@[simp] theorem Dev.settle_shelf (d : Dev) : d.settle.shelf = d.shelf := by obtain ⟨p, o, h⟩ := d.settle_cases; rw [h]
@[simp] theorem Dev.settle_snap (d : Dev) : d.settle.snap = d.snap := by obtain ⟨p, o, h⟩ := d.settle_cases; rw [h]
@[simp] theorem Dev.settle_cfg (d : Dev) : d.settle.cfg = d.cfg := by obtain ⟨p, o, h⟩ := d.settle_cases; rw [h]
@[simp] theorem Dev.settle_staged (d : Dev) : d.settle.staged = d.staged := by obtain ⟨p, o, h⟩ := d.settle_cases; rw [h]
@[simp] theorem Dev.settle_held (d : Dev) : d.settle.held = d.held := by obtain ⟨p, o, h⟩ := d.settle_cases; rw [h]
@[simp] theorem Dev.settle_accepted (d : Dev) : d.settle.accepted = d.accepted := by obtain ⟨p, o, h⟩ := d.settle_cases; rw [h]
@[simp] theorem Dev.settle_posted (d : Dev) : d.settle.posted = d.posted := by obtain ⟨p, o, h⟩ := d.settle_cases; rw [h]
@[simp] theorem Dev.settle_stands (d : Dev) : d.settle.stands = d.stands := by obtain ⟨p, o, h⟩ := d.settle_cases; rw [h]
@[simp] theorem Dev.settle_units (d : Dev) : d.settle.units = d.units := by obtain ⟨p, o, h⟩ := d.settle_cases; rw [h]
@[simp] theorem Dev.settle_walks (d : Dev) : d.settle.walks = d.walks := by obtain ⟨p, o, h⟩ := d.settle_cases; rw [h]
@[simp] theorem Dev.settle_waits (d : Dev) : d.settle.waits = d.waits := by obtain ⟨p, o, h⟩ := d.settle_cases; rw [h]
@[simp] theorem Dev.settle_queues (d : Dev) : d.settle.queues = d.queues := by obtain ⟨p, o, h⟩ := d.settle_cases; rw [h]
@[simp] theorem Dev.settle_cmds (d : Dev) : d.settle.cmds = d.cmds := by obtain ⟨p, o, h⟩ := d.settle_cases; rw [h]
@[simp] theorem Dev.settle_hch (d : Dev) : d.settle.hch = d.hch := by obtain ⟨p, o, h⟩ := d.settle_cases; rw [h]
@[simp] theorem Dev.settle_err (d : Dev) : d.settle.err = d.err := by obtain ⟨p, o, h⟩ := d.settle_cases; rw [h]
@[simp] theorem Dev.settle_time (d : Dev) : d.settle.time = d.time := by obtain ⟨p, o, h⟩ := d.settle_cases; rw [h]
@[simp] theorem Dev.settle_clk (d : Dev) : d.settle.clk = d.clk := by obtain ⟨p, o, h⟩ := d.settle_cases; rw [h]
@[simp] theorem Dev.settle_free (d : Dev) : d.settle.free = d.free := by obtain ⟨p, o, h⟩ := d.settle_cases; rw [h]
@[simp] theorem Dev.settle_hostMem (d : Dev) : d.settle.hostMem = d.hostMem := by obtain ⟨p, o, h⟩ := d.settle_cases; rw [h]
@[simp] theorem Dev.settle_peat (d : Dev) : d.settle.peat = d.peat := by obtain ⟨p, o, h⟩ := d.settle_cases; rw [h]
@[simp] theorem Dev.settle_memw (d : Dev) : d.settle.memw = d.memw := by obtain ⟨p, o, h⟩ := d.settle_cases; rw [h]
@[simp] theorem Dev.settle_ctxs (d : Dev) : d.settle.ctxs = d.ctxs := by obtain ⟨p, o, h⟩ := d.settle_cases; rw [h]
@[simp] theorem Dev.settle_entries (d : Dev) : d.settle.entries = d.entries := by obtain ⟨p, o, h⟩ := d.settle_cases; rw [h]
@[simp] theorem Dev.settle_boxes (d : Dev) : d.settle.boxes = d.boxes := by obtain ⟨p, o, h⟩ := d.settle_cases; rw [h]
@[simp] theorem Dev.settle_stewards (d : Dev) : d.settle.stewards = d.stewards := by obtain ⟨p, o, h⟩ := d.settle_cases; rw [h]
@[simp] theorem Dev.settle_firings (d : Dev) : d.settle.firings = d.firings := by obtain ⟨p, o, h⟩ := d.settle_cases; rw [h]
@[simp] theorem Dev.settle_src (d : Dev) : d.settle.src = d.src := by obtain ⟨p, o, h⟩ := d.settle_cases; rw [h]
@[simp] theorem Dev.settle_dst (d : Dev) : d.settle.dst = d.dst := by obtain ⟨p, o, h⟩ := d.settle_cases; rw [h]
@[simp] theorem Dev.settle_links (d : Dev) : d.settle.links = d.links := by obtain ⟨p, o, h⟩ := d.settle_cases; rw [h]
@[simp] theorem Dev.settle_swc (d : Dev) : d.settle.swc = d.swc := by obtain ⟨p, o, h⟩ := d.settle_cases; rw [h]
@[simp] theorem Dev.settle_evLimit (d : Dev) : d.settle.evLimit = d.evLimit := by obtain ⟨p, o, h⟩ := d.settle_cases; rw [h]
@[simp] theorem Dev.settle_keys (d : Dev) : d.settle.keys = d.keys := by obtain ⟨p, o, h⟩ := d.settle_cases; rw [h]
@[simp] theorem Dev.settle_rings (d : Dev) : d.settle.rings = d.rings := by obtain ⟨p, o, h⟩ := d.settle_cases; rw [h]
@[simp] theorem Dev.settle_flows (d : Dev) : d.settle.flows = d.flows := by obtain ⟨p, o, h⟩ := d.settle_cases; rw [h]
@[simp] theorem Dev.settle_mcs (d : Dev) : d.settle.mcs = d.mcs := by obtain ⟨p, o, h⟩ := d.settle_cases; rw [h]
@[simp] theorem Dev.settle_meters (d : Dev) : d.settle.meters = d.meters := by obtain ⟨p, o, h⟩ := d.settle_cases; rw [h]
@[simp] theorem Dev.settle_moving (d : Dev) : d.settle.moving = d.moving := by obtain ⟨p, o, h⟩ := d.settle_cases; rw [h]
@[simp] theorem Dev.settle_groups (d : Dev) : d.settle.groups = d.groups := by obtain ⟨p, o, h⟩ := d.settle_cases; rw [h]
@[simp] theorem Dev.settle_decims (d : Dev) : d.settle.decims = d.decims := by obtain ⟨p, o, h⟩ := d.settle_cases; rw [h]
@[simp] theorem Dev.settle_bridges (d : Dev) : d.settle.bridges = d.bridges := by obtain ⟨p, o, h⟩ := d.settle_cases; rw [h]
@[simp] theorem Dev.settle_regions (d : Dev) : d.settle.regions = d.regions := by obtain ⟨p, o, h⟩ := d.settle_cases; rw [h]
@[simp] theorem Dev.settle_levels (d : Dev) : d.settle.levels = d.levels := by obtain ⟨p, o, h⟩ := d.settle_cases; rw [h]
@[simp] theorem Dev.settle_cells (d : Dev) : d.settle.cells = d.cells := by obtain ⟨p, o, h⟩ := d.settle_cases; rw [h]
@[simp] theorem Dev.settle_nudge (d : Dev) : d.settle.nudge = d.nudge := by obtain ⟨p, o, h⟩ := d.settle_cases; rw [h]
@[simp] theorem Dev.settle_pwr (d : Dev) : d.settle.pwr = d.pwr := by obtain ⟨p, o, h⟩ := d.settle_cases; rw [h]
@[simp] theorem Dev.settle_rst (d : Dev) : d.settle.rst = d.rst := by obtain ⟨p, o, h⟩ := d.settle_cases; rw [h]
@[simp] theorem Dev.settle_boot (d : Dev) : d.settle.boot = d.boot := by obtain ⟨p, o, h⟩ := d.settle_cases; rw [h]
@[simp] theorem Dev.settle_sec (d : Dev) : d.settle.sec = d.sec := by obtain ⟨p, o, h⟩ := d.settle_cases; rw [h]
@[simp] theorem Dev.settle_frg (d : Dev) : d.settle.frg = d.frg := by obtain ⟨p, o, h⟩ := d.settle_cases; rw [h]
@[simp] theorem Dev.settle_mgt (d : Dev) : d.settle.mgt = d.mgt := by obtain ⟨p, o, h⟩ := d.settle_cases; rw [h]
theorem Dev.settle_reg (d : Dev) (a : Nat) : d.settle.reg a = d.reg a := by simp [Dev.reg]
@[simp] theorem Dev.settle_rd (d : Dev) (f : Fld) : d.settle.rd f = d.rd f := by simp [Dev.rd, Dev.reg]
@[simp] theorem Dev.settle_on (d : Dev) (f : Fld) : d.settle.on f = d.on f := by simp [Dev.on]
@[simp] theorem Dev.settle_sumPrev (d : Dev) : d.settle.host.sumPrev = d.summary := by
  obtain ⟨p, o, h⟩ := d.settle_cases; rw [h]
@[simp] theorem Dev.settle_summary (d : Dev) : d.settle.summary = d.summary := Dev.summary_congr (by simp)

/-! ### Carrying out a command -/

theorem Dev.touchAll_of_nil {d : Dev} (h : d.nudge = []) : d.touchAll = d := by
  have : ({ d with nudge := [] } : Dev) = d := by rw [← h]
  simp [Dev.touchAll, h, Dev.each, this]

/-- A command whose effect leaves no summary to be brought up to date. -/
theorem carry_plain {f : Env → Dev → Dev} {s : State} (h : (f { mem := s.mem, fuses := s.fuses } s.dev).nudge = []) :
    carry f s = .next { s with
      mem := applyMem (f { mem := s.mem, fuses := s.fuses } s.dev).memw s.mem,
      dev := { (f { mem := s.mem, fuses := s.fuses } s.dev).settle with memw := [] } } := by
  simp only [carry, Dev.touchAll_of_nil h, Dev.settle_memw]

/-- Carrying out a command goes on; the queue and the fuses stay, the engine memories stay in their canonical form. -/
theorem carry_next (f : Env → Dev → Dev) (s : State) : ∃ t, carry f s = .next t ∧ t.pending = s.pending ∧ t.fuses = s.fuses ∧
    (Memory.wf s.mem = true → Memory.wf t.mem = true) ∧ t.dev.memw = [] ∧ t.dev.host.sumPrev = t.dev.summary := by
  refine ⟨_, rfl, rfl, rfl, fun h => Memory.wf_applyMem _ h, rfl, ?_⟩
  show (Dev.settle _).host.sumPrev = _
  rw [Dev.settle_sumPrev]
  exact (Dev.summary_congr (Dev.settle_regs _)).symm

theorem run_of_up {f : Env → Dev → Dev} {s : State} (h : s.dev.inReset = false) (hc : s.dev.coreOn = true) : run f s = carry f s := by
  simp [run, h, hc]

theorem runAon_of_up {f : Env → Dev → Dev} {s : State} (h : s.dev.inReset = false) : runAon f s = carry f s := by
  simp [runAon, h]

/-- In reset a command does nothing (R459). -/
theorem run_of_reset {f : Env → Dev → Dev} {s : State} (h : s.dev.inReset = true) : run f s = .next s := by simp [run, h]
theorem runAon_of_reset {f : Env → Dev → Dev} {s : State} (h : s.dev.inReset = true) : runAon f s = .next s := by simp [runAon, h]
/-- With CORE off a command that acts in it does nothing (R382). -/
theorem run_of_core_off {f : Env → Dev → Dev} {s : State} (h : s.dev.coreOn = false) : run f s = .next s := by simp [run, h]

end Sys2Proof.Machine
end

