-- ==== Sys2Proof/Laws/Events.lean ====
section
/-! SUPPORT. What bringing the summary of a unit up to date changes (R45): the event words of units, the registers of tenants'
queues, and the state that events go through; nothing else. -/
namespace Sys2Proof.Machine

/-- The second device differs from the first only in what events change, and among the registers in the words of `W`. -/
structure EvFrame (W : Nat → Prop) (d e : Dev) : Prop where
  eq : e = { d with regs := e.regs, units := e.units, host := { d.host with pba := e.host.pba }, queues := e.queues,
                    ctxs := e.ctxs, firings := e.firings, hostMem := e.hostMem, out := e.out }
  reg : ∀ a, ¬ W a → e.reg a = d.reg a

variable {W : Nat → Prop}

theorem EvFrame.refl (d : Dev) : EvFrame W d d := ⟨rfl, fun _ _ => rfl⟩

theorem EvFrame.trans {a b c : Dev} (h : EvFrame W a b) (k : EvFrame W b c) : EvFrame W a c := by
  refine ⟨?_, fun x hx => (k.reg x hx).trans (h.reg x hx)⟩
  have h1 := k.eq
  rw [h.eq] at h1
  exact h1

theorem EvFrame.when {d e : Dev} (h : EvFrame W d e) (c : Bool) {f : Dev → Dev} (hf : ∀ x, EvFrame W x (f x)) :
    EvFrame W d (e.when c f) := by
  unfold Dev.when; split
  · exact h.trans (hf e)
  · exact h

theorem EvFrame.each {α : Type} (xs : List α) {f : Dev → α → Dev} (hf : ∀ x a, EvFrame W x (f x a)) (d : Dev) :
    EvFrame W d (d.each xs f) := by
  induction xs generalizing d with
  | nil => exact .refl d
  | cons x xs ih => exact (hf d x).trans (ih (f d x))

theorem EvFrame.setReg (d : Dev) {a : Nat} (w : Word) (h : W a) : EvFrame W d (d.setReg a w) :=
  ⟨rfl, fun _ hb => Dev.reg_setReg_of_ne d w (fun e => hb (e ▸ h))⟩

theorem EvFrame.wr (d : Dev) {f : Fld} (v : Nat) (h : W f.addr) : EvFrame W d (d.wr f v) := EvFrame.setReg d _ h
theorem EvFrame.setQueue (d : Dev) (t q : Nat) (x : Queue) : EvFrame W d (d.setQueue t q x) := ⟨rfl, fun _ _ => rfl⟩
theorem EvFrame.setUnit (d : Dev) (u : Nat) (x : UnitRt) : EvFrame W d (d.setUnit u x) := ⟨rfl, fun _ _ => rfl⟩
theorem EvFrame.setCtx (d : Dev) (x : Nat) (c : Ctx) : EvFrame W d (d.setCtx x c) := ⟨rfl, fun _ _ => rfl⟩

theorem EvFrame.signal (d : Dev) (fn v : Nat) : EvFrame W d (d.signal fn v) := by
  obtain ⟨p, o, h⟩ := d.signal_cases fn v
  rw [h]; exact ⟨rfl, fun _ _ => rfl⟩

theorem EvFrame.signalTenant (d : Dev) (t : Nat) : EvFrame W d (d.signalTenant t) := by
  unfold Dev.signalTenant; split <;> exact .signal d _ _

theorem EvFrame.hostBytes (bs : List Byte) (d : Dev) (a : Nat) : EvFrame W d (d.hostBytes a bs) := by
  induction bs generalizing d a with
  | nil => exact .refl d
  | cons b bs ih =>
    have h : EvFrame W d (d.hostByte a b) := ⟨rfl, fun _ _ => rfl⟩
    exact h.trans (ih (d.hostByte a b) (a + 1))

theorem EvFrame.hostWords (d : Dev) (a : Nat) (ws : List Word) : EvFrame W d (d.hostWords a ws) := .hostBytes _ d a

theorem EvFrame.pushEntry (d : Dev) (t q : Nat) (ws : List Word) : EvFrame W d (d.pushEntry t q ws) := by
  unfold Dev.pushEntry
  dsimp only
  refine EvFrame.when (EvFrame.trans ?_ (EvFrame.setQueue _ _ _ _)) _ (fun x => .signalTenant x t)
  split
  · exact .refl d
  · exact .hostWords d _ _

theorem EvFrame.postRaw (d : Dev) (t u kind : Nat) (detail : Word) : EvFrame W d (d.postRaw t u kind detail) := by
  unfold Dev.postRaw
  dsimp only
  split
  · exact .setQueue d _ _ _
  · exact .pushEntry d _ _ _

/-- The words of `W` take in every word that an event can change but the first unit's own. -/
def EvWords (W : Nat → Prop) : Prop := ∀ a, evtWord a → W a

theorem evtWord_tenant {t : Nat} (h : t < 512) {k : Nat} (hk : k < 0x1000) : evtWord (Base.TNT t + k) := by
  right; simp only [Base.TNT]; omega

theorem EvFrame.crossing (hW : EvWords W) (d : Dev) {t : Nat} (q : Nat) (ht : t < 512) {f : Dev → Dev} (hf : ∀ x, EvFrame W x (f x)) :
    EvFrame W d (d.crossing t q f) := by
  unfold Dev.crossing
  dsimp only
  have h := EvFrame.wr d (f := F.QSTAT_THR t) (Nat.lor (d.rd (F.QSTAT_THR t)) (2 ^ q))
    (hW _ (evtWord_tenant ht (k := 0x60) (by decide)))
  repeat' split
  all_goals first
    | exact (h.trans (.setQueue _ _ _ _)).trans (hf _)
    | exact h.trans (.setQueue _ _ _ _)

/-- An event posted to a tenant changes what events change. -/
theorem EvFrame.postEvent (hW : EvWords W) (d : Dev) {t : Nat} (u kind : Nat) (detail : Word) (ht : t < 512) :
    EvFrame W d (d.postEvent t u kind detail) := by
  unfold Dev.postEvent
  exact (EvFrame.postRaw d t u kind detail).when _ (fun x => .crossing hW x 2 ht (fun y => .postRaw y _ _ _ _))

theorem EvFrame.updCtx (d : Dev) (x : Nat) (f : Ctx → Ctx) : EvFrame W d (d.updCtx x f) := .setCtx d x _

theorem EvFrame.fireSource (d : Dev) (hit : Word → Bool) (co : Nat → Bool) (eo : Nat → EntryRt → Bool) (w : Word) :
    EvFrame W d (d.fireSource hit co eo w) := by
  unfold Dev.fireSource
  dsimp only
  refine EvFrame.trans (EvFrame.each _ (fun x a => ?_) d) ⟨rfl, fun _ _ => rfl⟩
  split
  · exact EvFrame.each _ (fun y k => .updCtx y _ _) x
  · exact .refl x

theorem evtWord_unit {u : Nat} (h : u < 0x1000) : evtWord (A.UNIT_EVT u) := by
  left; simp only [A.UNIT_EVT, Base.UNIT]; omega

theorem Dev.owner_lt (d : Dev) (u : Nat) : d.rd (F.UNIT_OWNER_OWNER u) < 512 := bits_lt _ _ _
theorem Dev.parent_lt (d : Dev) (u : Nat) : d.parent u < 0x1000 := bits_lt _ _ _

theorem EvFrame.notify (hW : EvWords W) (d : Dev) (u : Nat) : EvFrame W d (d.notify u) := by
  unfold Dev.notify Dev.postUnit
  dsimp only
  repeat' split
  all_goals first
    | exact (EvFrame.setUnit d u _).trans (.postEvent hW _ _ _ _ (Dev.owner_lt _ _))
    | exact .setUnit d u _

theorem EvFrame.touchN (hW : EvWords W) (n : Nat) (d : Dev) {u : Nat} (hu : W (A.UNIT_EVT u)) : EvFrame W d (Dev.touchN n d u) := by
  induction n generalizing d u with
  | zero => exact .refl d
  | succ n ih =>
    have key : ∀ X, EvFrame W d X → EvFrame W d (if u = 0 then X else Dev.touchN n X (X.parent u)) := by
      intro X hX
      split
      · exact hX
      · exact hX.trans (ih X (hW _ (evtWord_unit (Dev.parent_lt X u))))
    unfold Dev.touchN
    dsimp only
    split
    · exact .refl d
    · refine key _ ?_
      have h1 := EvFrame.wr d (f := F.UNIT_EVT_SUM u) (if d.sumNow u = true then 1 else 0) hu
      generalize d.wr (F.UNIT_EVT_SUM u) (if d.sumNow u = true then 1 else 0) = e at h1 ⊢
      split
      · exact h1.trans (EvFrame.when (.fireSource e _ _ _ _) _ (fun y => .notify hW y u))
      · exact h1

/-- Bringing a unit's summary up to date changes what events change. -/
theorem EvFrame.touch (hW : EvWords W) (d : Dev) {u : Nat} (hu : W (A.UNIT_EVT u)) : EvFrame W d (d.touch u) := .touchN hW 800 d hu

/-- As `EvFrame.touch`, for a unit of the device. -/
theorem Dev.touch_frame (d : Dev) {u : Nat} (hu : u < 0x1000) : EvFrame evtWord d (d.touch u) :=
  .touch (fun _ h => h) d (evtWord_unit hu)

/-- Whatever words it changes. -/
theorem Dev.touch_eq (d : Dev) (u : Nat) : EvFrame (fun _ => True) d (d.touch u) := .touch (fun _ _ => trivial) d trivial

/-- What a command left to be brought up to date is brought up to date, for units of the device. -/
theorem Dev.touchAll_frame (d : Dev) (h : ∀ u ∈ d.nudge, u < 0x1000) : EvFrame evtWord { d with nudge := [] } d.touchAll := by
  unfold Dev.touchAll
  generalize d.nudge = us at h
  generalize ({ d with nudge := [] } : Dev) = e
  induction us generalizing e with
  | nil => exact .refl e
  | cons u us ih =>
    exact (Dev.touch_frame e (h u (by simp))).trans (ih (fun v hv => h v (by simp [hv])) (e.touch u))

@[simp] theorem Dev.touchAll_nudge (d : Dev) : d.touchAll.nudge = [] := by
  have h := (EvFrame.each (W := fun _ => True) d.nudge (fun x a => x.touch_eq a) { d with nudge := [] }).eq
  unfold Dev.touchAll
  rw [h]

/-- What a command leaves: its effect on the device, but for what events and the end of the command change. -/
structure Carried (s : State) (d : Dev) (t : State) : Prop where
  pending : t.pending = s.pending
  fuses : t.fuses = s.fuses
  mem : t.mem = applyMem d.memw s.mem
  dev : t.dev = { d with
    regs := t.dev.regs, units := t.dev.units, host := { d.host with pba := t.dev.host.pba, sumPrev := t.dev.host.sumPrev },
    queues := t.dev.queues, ctxs := t.dev.ctxs, firings := t.dev.firings, hostMem := t.dev.hostMem, out := t.dev.out,
    memw := [], nudge := [] }
  reg : ∀ a, ¬ evtWord a → t.dev.reg a = d.reg a

/-- A command is carried out: its effect, and what events change. -/
theorem carry_carried (f : Env → Dev → Dev) (s : State)
    (h : ∀ u ∈ (f { mem := s.mem, fuses := s.fuses } s.dev).nudge, u < 0x1000) :
    ∃ t, carry f s = .next t ∧ Carried s (f { mem := s.mem, fuses := s.fuses } s.dev) t := by
  refine ⟨_, rfl, ?_⟩
  generalize f { mem := s.mem, fuses := s.fuses } s.dev = d at h ⊢
  have k := Dev.touchAll_frame d h
  obtain ⟨p, o, hs⟩ := d.touchAll.settle_cases
  refine ⟨rfl, rfl, ?_, ?_, ?_⟩
  · show applyMem d.touchAll.settle.memw s.mem = _
    rw [Dev.settle_memw, k.eq]
  · show ({ d.touchAll.settle with memw := [] } : Dev) = _
    rw [hs, k.eq]
  · intro a ha
    show d.touchAll.settle.reg a = _
    rw [Dev.settle_reg, k.reg a ha]; rfl

/-- What a command leaves where its effect leaves no summary to be brought up to date: its effect itself, but for the signals of
`GLB_EVT_SUMMARY`. -/
theorem carry_exact {f : Env → Dev → Dev} {s : State} (h : (f { mem := s.mem, fuses := s.fuses } s.dev).nudge = [])
    (hm : (f { mem := s.mem, fuses := s.fuses } s.dev).memw = [])
    (hs : (f { mem := s.mem, fuses := s.fuses } s.dev).host.sumPrev = (f { mem := s.mem, fuses := s.fuses } s.dev).summary) :
    carry f s = .next { s with dev := f { mem := s.mem, fuses := s.fuses } s.dev } := by
  rw [carry_plain h, hm, Dev.settle_of_same hs, applyMem_nil]
  generalize f { mem := s.mem, fuses := s.fuses } s.dev = d at *
  rw [← hm]

end Sys2Proof.Machine
end

