-- ==== Sys2Proof/Laws/Exec.lean ====
section
/-! SUPPORT. What every command does, whatever it is: it goes on, keeps the queue's rest and the canonical form of the engine
memories, and leaves nothing to be carried out. -/
namespace Sys2Proof.Machine

/-- The outcome of a command that keeps the queue and the fuses. -/
def Tidy (o : Host.Outcome State Fault Refusal) (s : State) : Prop :=
  ∃ t, o = .next t ∧ t.pending = s.pending ∧ t.fuses = s.fuses ∧ (Memory.wf s.mem = true → Memory.wf t.mem = true) ∧
    (t = s ∨ (t.dev.memw = [] ∧ t.dev.host.sumPrev = t.dev.summary))

theorem tidy_carry (f : Env → Dev → Dev) (s : State) : Tidy (carry f s) s := by
  obtain ⟨t, h1, h2, h3, h4, h5, h6⟩ := carry_next f s
  exact ⟨t, h1, h2, h3, h4, .inr ⟨h5, h6⟩⟩

theorem tidy_same (s : State) : Tidy (.next s) s := ⟨s, rfl, rfl, rfl, id, .inl rfl⟩

theorem tidy_run (f : Env → Dev → Dev) (s : State) : Tidy (run f s) s := by
  unfold run; split
  · exact tidy_same s
  · exact tidy_carry f s

theorem tidy_runAon (f : Env → Dev → Dev) (s : State) : Tidy (runAon f s) s := by
  unfold runAon; split
  · exact tidy_same s
  · exact tidy_carry f s

theorem tidy_lift (f : Dev → Dev) (s : State) : Tidy (lift f s) s := tidy_run _ s
theorem tidy_liftAon (f : Dev → Dev) (s : State) : Tidy (liftAon f s) s := tidy_runAon _ s
theorem tidy_liftAny (f : Dev → Dev) (s : State) : Tidy (liftAny f s) s := tidy_carry _ s

theorem tidy_execRegisterWrite (p : Path) (addr : BitVec 32) (bytes : List Byte) (s : State) : Tidy (execRegisterWrite p addr bytes s) s := tidy_runAon _ s
theorem tidy_execReadClear (p : Path) (addr : BitVec 32) (size : Nat) (s : State) : Tidy (execReadClear p addr size s) s := tidy_runAon _ s
theorem tidy_execUnitEvtWrite (src : OrderSrc) (u : BitVec 12) (v : Word) (s : State) : Tidy (execUnitEvtWrite src u v s) s := tidy_runAon _ s
theorem tidy_execBitAliasAccess (p : Path) (x : BitVec 20) (b : Fin 8) (w : Option Word) (s : State) : Tidy (execBitAliasAccess p x b w s) s := tidy_runAon _ s
theorem tidy_execStagedWriteApply (u : BitVec 12) (s : State) : Tidy (execStagedWriteApply u s) s := tidy_lift _ s
theorem tidy_execCommitGo (p : Path) (reg : BitVec 32) (v : Word) (s : State) : Tidy (execCommitGo p reg v s) s := tidy_runAon _ s
theorem tidy_execCommitApply (u : BitVec 12) (set : Fin 128) (s : State) : Tidy (execCommitApply u set s) s := tidy_lift _ s
theorem tidy_execGlbCommit (p : Path) (v : Word) (s : State) : Tidy (execGlbCommit p v s) s := tidy_runAon _ s
theorem tidy_execPostedWriteComplete (dom : SlowDomain) (s : State) : Tidy (execPostedWriteComplete dom s) s := tidy_liftAon _ s
theorem tidy_execGlbSnapGo (p : Path) (v : Word) (s : State) : Tidy (execGlbSnapGo p v s) s := tidy_runAon _ s
theorem tidy_execSnapshotComplete (s : State) : Tidy (execSnapshotComplete s) s := tidy_liftAon _ s
theorem tidy_execCfgScan (s : State) : Tidy (execCfgScan s) s := tidy_run _ s
theorem tidy_execCfgCrcCapture (p : Path) (v : Word) (s : State) : Tidy (execCfgCrcCapture p v s) s := tidy_runAon _ s
theorem tidy_execCfgRefWrite (p : Path) (v : Word) (s : State) : Tidy (execCfgRefWrite p v s) s := tidy_runAon _ s
theorem tidy_execSoftReset (p : Path) (v : Word) (s : State) : Tidy (execSoftReset p v s) s := tidy_runAon _ s
theorem tidy_execOrderEnable (src : OrderSrc) (u : BitVec 12) (s : State) : Tidy (execOrderEnable src u s) s := tidy_runAon _ s
theorem tidy_execOrderDisable (src : OrderSrc) (u : BitVec 12) (s : State) : Tidy (execOrderDisable src u s) s := tidy_runAon _ s
theorem tidy_execOrderDrain (src : OrderSrc) (u : BitVec 12) (s : State) : Tidy (execOrderDrain src u s) s := tidy_runAon _ s
theorem tidy_execOrderReset (src : OrderSrc) (u : BitVec 12) (s : State) : Tidy (execOrderReset src u s) s := tidy_runAon _ s
theorem tidy_execOrderNone (src : OrderSrc) (u : BitVec 12) (s : State) : Tidy (execOrderNone src u s) s := tidy_runAon _ s
theorem tidy_execUnitStandbyReached (u : BitVec 12) (s : State) : Tidy (execUnitStandbyReached u s) s := tidy_lift _ s
theorem tidy_execUnitSyncingEntry (u : BitVec 12) (s : State) : Tidy (execUnitSyncingEntry u s) s := tidy_lift _ s
theorem tidy_execAcquisitionComplete (u : BitVec 12) (s : State) : Tidy (execAcquisitionComplete u s) s := tidy_lift _ s
theorem tidy_execInputLost (u : BitVec 12) (s : State) : Tidy (execInputLost u s) s := tidy_lift _ s
theorem tidy_execDrainComplete (u : BitVec 12) (s : State) : Tidy (execDrainComplete u s) s := tidy_lift _ s
theorem tidy_execDrainTimeout (u : BitVec 12) (s : State) : Tidy (execDrainTimeout u s) s := tidy_lift _ s
theorem tidy_execCabinetWalkStep (u : BitVec 12) (s : State) : Tidy (execCabinetWalkStep u s) s := tidy_lift _ s
theorem tidy_execOwnerWrite (p : Path) (u : BitVec 12) (v : Word) (s : State) : Tidy (execOwnerWrite p u v s) s := tidy_runAon _ s
theorem tidy_execEventHoldExpire (k : HoldKey) (s : State) : Tidy (execEventHoldExpire k s) s := tidy_liftAon _ s
theorem tidy_execFunctionLevelReset (fn : Fin 64) (s : State) : Tidy (execFunctionLevelReset fn s) s := tidy_liftAon _ s
theorem tidy_execVfEnable (n : Fin 64) (s : State) : Tidy (execVfEnable n s) s := tidy_liftAon _ s
theorem tidy_execD3hotEntry (fn : Fin 64) (s : State) : Tidy (execD3hotEntry fn s) s := tidy_liftAon _ s
theorem tidy_execRead (addr : BitVec 32) (n : Fin 16) (s : State) : Tidy (execRead addr n s) s := tidy_runAon _ s
theorem tidy_execQread (addr : BitVec 32) (n : Fin 16) (s : State) : Tidy (execQread addr n s) s := tidy_runAon _ s
theorem tidy_execWrite (addr : BitVec 32) (ws : List Word) (part : Bool) (s : State) : Tidy (execWrite addr ws part s) s := tidy_runAon _ s
theorem tidy_execQwrite (addr : BitVec 32) (ws : List Word) (part : Bool) (s : State) : Tidy (execQwrite addr ws part s) s := tidy_runAon _ s
theorem tidy_execStatus (s : State) : Tidy (execStatus s) s := tidy_liftAon _ s
theorem tidy_execTenant (v : BitVec 16) (s : State) : Tidy (execTenant v s) s := tidy_liftAon _ s
theorem tidy_execSpiUnknownCommand (c : Byte) (s : State) : Tidy (execSpiUnknownCommand c s) s := tidy_liftAon _ s
theorem tidy_execHostBindWrite (p : Path) (w : Fin 16) (v : Word) (s : State) : Tidy (execHostBindWrite p w v s) s := tidy_runAon _ s
theorem tidy_execHostT0PathWrite (p : Path) (v : Word) (s : State) : Tidy (execHostT0PathWrite p v s) s := tidy_runAon _ s
theorem tidy_execQueueEnable (p : Path) (t : Fin 512) (q : Fin 3) (v : Word) (s : State) : Tidy (execQueueEnable p t q v s) s := tidy_runAon _ s
theorem tidy_execQueueDisable (p : Path) (t : Fin 512) (q : Fin 3) (v : Word) (s : State) : Tidy (execQueueDisable p t q v s) s := tidy_runAon _ s
theorem tidy_execSqTailWrite (p : Path) (t : Fin 512) (v : Word) (s : State) : Tidy (execSqTailWrite p t v s) s := tidy_runAon _ s
theorem tidy_execCqHeadWrite (p : Path) (t : Fin 512) (v : Word) (s : State) : Tidy (execCqHeadWrite p t v s) s := tidy_runAon _ s
theorem tidy_execEqHeadWrite (p : Path) (t : Fin 512) (v : Word) (s : State) : Tidy (execEqHeadWrite p t v s) s := tidy_runAon _ s
theorem tidy_execSqPortPost (p : Path) (t : Fin 512) (v : Word) (s : State) : Tidy (execSqPortPost p t v s) s := tidy_runAon _ s
theorem tidy_execCqPortConsume (p : Path) (t : Fin 512) (s : State) : Tidy (execCqPortConsume p t s) s := tidy_runAon _ s
theorem tidy_execEqPortConsume (p : Path) (t : Fin 512) (s : State) : Tidy (execEqPortConsume p t s) s := tidy_runAon _ s
theorem tidy_execUserDbWrite (p : Path) (t : Fin 512) (v : Word) (s : State) : Tidy (execUserDbWrite p t v s) s := tidy_runAon _ s
theorem tidy_execCommandFetch (t : Fin 512) (ws : List Word) (s : State) : Tidy (execCommandFetch t ws s) s := tidy_lift _ s
theorem tidy_execRun (t : Fin 512) (ws : List Word) (s : State) : Tidy (execRun t ws s) s := tidy_lift _ s
theorem tidy_execInline (t : Fin 512) (ws : List Word) (s : State) : Tidy (execInline t ws s) s := tidy_lift _ s
theorem tidy_execUnitop (t : Fin 512) (ws : List Word) (s : State) : Tidy (execUnitop t ws s) s := tidy_lift _ s
theorem tidy_execCmdFence (t : Fin 512) (ws : List Word) (s : State) : Tidy (execCmdFence t ws s) s := tidy_lift _ s
theorem tidy_execCompletionPostDeferred (t : Fin 512) (s : State) : Tidy (execCompletionPostDeferred t s) s := tidy_liftAon _ s
theorem tidy_execHchPtrWrite (p : Path) (t : Fin 512) (r : Fin 128) (v : Word) (s : State) : Tidy (execHchPtrWrite p t r v s) s := tidy_runAon _ s
theorem tidy_execHchPlaybackRead (r : Fin 64) (block : List Byte) (s : State) : Tidy (execHchPlaybackRead r block s) s := tidy_lift _ s
theorem tidy_execHchRecordWrite (r : Fin 64) (s : State) : Tidy (execHchRecordWrite r s) s := tidy_lift _ s
theorem tidy_execAdd (x : Fin 96) (dd a b : Fin 32) (hi : BitVec 6) (s : State) : Tidy (execAdd x dd a b hi s) s := tidy_lift _ s
theorem tidy_execSub (x : Fin 96) (dd a b : Fin 32) (hi : BitVec 6) (s : State) : Tidy (execSub x dd a b hi s) s := tidy_lift _ s
theorem tidy_execAnd (x : Fin 96) (dd a b : Fin 32) (hi : BitVec 6) (s : State) : Tidy (execAnd x dd a b hi s) s := tidy_lift _ s
theorem tidy_execOr (x : Fin 96) (dd a b : Fin 32) (hi : BitVec 6) (s : State) : Tidy (execOr x dd a b hi s) s := tidy_lift _ s
theorem tidy_execXor (x : Fin 96) (dd a b : Fin 32) (hi : BitVec 6) (s : State) : Tidy (execXor x dd a b hi s) s := tidy_lift _ s
theorem tidy_execShl (x : Fin 96) (dd a b : Fin 32) (hi : BitVec 6) (s : State) : Tidy (execShl x dd a b hi s) s := tidy_lift _ s
theorem tidy_execShr (x : Fin 96) (dd a b : Fin 32) (hi : BitVec 6) (s : State) : Tidy (execShr x dd a b hi s) s := tidy_lift _ s
theorem tidy_execSar (x : Fin 96) (dd a b : Fin 32) (hi : BitVec 6) (s : State) : Tidy (execSar x dd a b hi s) s := tidy_lift _ s
theorem tidy_execMul (x : Fin 96) (dd a b : Fin 32) (hi : BitVec 6) (s : State) : Tidy (execMul x dd a b hi s) s := tidy_lift _ s
theorem tidy_execMulh (x : Fin 96) (dd a b : Fin 32) (hi : BitVec 6) (s : State) : Tidy (execMulh x dd a b hi s) s := tidy_lift _ s
theorem tidy_execMin (x : Fin 96) (dd a b : Fin 32) (hi : BitVec 6) (s : State) : Tidy (execMin x dd a b hi s) s := tidy_lift _ s
theorem tidy_execMax (x : Fin 96) (dd a b : Fin 32) (hi : BitVec 6) (s : State) : Tidy (execMax x dd a b hi s) s := tidy_lift _ s
theorem tidy_execClz (x : Fin 96) (dd a b : Fin 32) (hi : BitVec 6) (s : State) : Tidy (execClz x dd a b hi s) s := tidy_lift _ s
theorem tidy_execAddi (x : Fin 96) (dd a : Fin 32) (imm : BitVec 16) (s : State) : Tidy (execAddi x dd a imm s) s := tidy_lift _ s
theorem tidy_execAndi (x : Fin 96) (dd a : Fin 32) (imm : BitVec 16) (s : State) : Tidy (execAndi x dd a imm s) s := tidy_lift _ s
theorem tidy_execOri (x : Fin 96) (dd a : Fin 32) (imm : BitVec 16) (s : State) : Tidy (execOri x dd a imm s) s := tidy_lift _ s
theorem tidy_execXori (x : Fin 96) (dd a : Fin 32) (imm : BitVec 16) (s : State) : Tidy (execXori x dd a imm s) s := tidy_lift _ s
theorem tidy_execLui (x : Fin 96) (dd a : Fin 32) (imm : BitVec 16) (s : State) : Tidy (execLui x dd a imm s) s := tidy_lift _ s
theorem tidy_execBeq (x : Fin 96) (a b : Fin 32) (off : BitVec 16) (s : State) : Tidy (execBeq x a b off s) s := tidy_lift _ s
theorem tidy_execBne (x : Fin 96) (a b : Fin 32) (off : BitVec 16) (s : State) : Tidy (execBne x a b off s) s := tidy_lift _ s
theorem tidy_execBlt (x : Fin 96) (a b : Fin 32) (off : BitVec 16) (s : State) : Tidy (execBlt x a b off s) s := tidy_lift _ s
theorem tidy_execBge (x : Fin 96) (a b : Fin 32) (off : BitVec 16) (s : State) : Tidy (execBge x a b off s) s := tidy_lift _ s
theorem tidy_execBltu (x : Fin 96) (a b : Fin 32) (off : BitVec 16) (s : State) : Tidy (execBltu x a b off s) s := tidy_lift _ s
theorem tidy_execBgeu (x : Fin 96) (a b : Fin 32) (off : BitVec 16) (s : State) : Tidy (execBgeu x a b off s) s := tidy_lift _ s
theorem tidy_execJal (x : Fin 96) (off : BitVec 26) (s : State) : Tidy (execJal x off s) s := tidy_lift _ s
theorem tidy_execJr (x : Fin 96) (dd a b : Fin 32) (fn : BitVec 11) (s : State) : Tidy (execJr x dd a b fn s) s := tidy_lift _ s
theorem tidy_execLoop (x : Fin 96) (dd a : Fin 32) (imm : BitVec 16) (s : State) : Tidy (execLoop x dd a imm s) s := tidy_lift _ s
theorem tidy_execLdw (x : Fin 96) (dd a : Fin 32) (imm : BitVec 16) (s : State) : Tidy (execLdw x dd a imm s) s := tidy_run _ s
theorem tidy_execLdh (x : Fin 96) (dd a : Fin 32) (imm : BitVec 16) (s : State) : Tidy (execLdh x dd a imm s) s := tidy_run _ s
theorem tidy_execLdhu (x : Fin 96) (dd a : Fin 32) (imm : BitVec 16) (s : State) : Tidy (execLdhu x dd a imm s) s := tidy_run _ s
theorem tidy_execLdb (x : Fin 96) (dd a : Fin 32) (imm : BitVec 16) (s : State) : Tidy (execLdb x dd a imm s) s := tidy_run _ s
theorem tidy_execLdbu (x : Fin 96) (dd a : Fin 32) (imm : BitVec 16) (s : State) : Tidy (execLdbu x dd a imm s) s := tidy_run _ s
theorem tidy_execStw (x : Fin 96) (dd a : Fin 32) (imm : BitVec 16) (s : State) : Tidy (execStw x dd a imm s) s := tidy_lift _ s
theorem tidy_execSth (x : Fin 96) (dd a : Fin 32) (imm : BitVec 16) (s : State) : Tidy (execSth x dd a imm s) s := tidy_lift _ s
theorem tidy_execStb (x : Fin 96) (dd a : Fin 32) (imm : BitVec 16) (s : State) : Tidy (execStb x dd a imm s) s := tidy_lift _ s
theorem tidy_execLdv (x : Fin 96) (dd a : Fin 32) (imm : BitVec 16) (s : State) : Tidy (execLdv x dd a imm s) s := tidy_run _ s
theorem tidy_execStv (x : Fin 96) (dd a : Fin 32) (imm : BitVec 16) (s : State) : Tidy (execStv x dd a imm s) s := tidy_lift _ s
theorem tidy_execSld (x : Fin 96) (dd a b : Fin 32) (fn : BitVec 11) (s : State) : Tidy (execSld x dd a b fn s) s := tidy_lift _ s
theorem tidy_execSst (x : Fin 96) (dd a b : Fin 32) (fn : BitVec 11) (s : State) : Tidy (execSst x dd a b fn s) s := tidy_lift _ s
theorem tidy_execStag (x : Fin 96) (dd a b : Fin 32) (fn : BitVec 11) (s : State) : Tidy (execStag x dd a b fn s) s := tidy_lift _ s
theorem tidy_execTagmax (x : Fin 96) (dd a b : Fin 32) (fn : BitVec 11) (s : State) : Tidy (execTagmax x dd a b fn s) s := tidy_lift _ s
theorem tidy_execVadd (x : Fin 96) (dd a b : Fin 32) (m : BitVec 7) (s : State) : Tidy (execVadd x dd a b m s) s := tidy_lift _ s
theorem tidy_execVsub (x : Fin 96) (dd a b : Fin 32) (m : BitVec 7) (s : State) : Tidy (execVsub x dd a b m s) s := tidy_lift _ s
theorem tidy_execVmul (x : Fin 96) (dd a b : Fin 32) (m : BitVec 7) (s : State) : Tidy (execVmul x dd a b m s) s := tidy_lift _ s
theorem tidy_execVmac (x : Fin 96) (dd a b : Fin 32) (m : BitVec 7) (s : State) : Tidy (execVmac x dd a b m s) s := tidy_lift _ s
theorem tidy_execVrnd (x : Fin 96) (dd a b : Fin 32) (m : BitVec 7) (s : State) : Tidy (execVrnd x dd a b m s) s := tidy_lift _ s
theorem tidy_execVgain (x : Fin 96) (dd a b : Fin 32) (m : BitVec 7) (s : State) : Tidy (execVgain x dd a b m s) s := tidy_run _ s
theorem tidy_execVabs (x : Fin 96) (dd a b : Fin 32) (m : BitVec 7) (s : State) : Tidy (execVabs x dd a b m s) s := tidy_lift _ s
theorem tidy_execVmax (x : Fin 96) (dd a b : Fin 32) (m : BitVec 7) (s : State) : Tidy (execVmax x dd a b m s) s := tidy_lift _ s
theorem tidy_execVsel (x : Fin 96) (dd a b : Fin 32) (m : BitVec 7) (s : State) : Tidy (execVsel x dd a b m s) s := tidy_lift _ s
theorem tidy_execVsplat (x : Fin 96) (dd a b : Fin 32) (m : BitVec 7) (s : State) : Tidy (execVsplat x dd a b m s) s := tidy_lift _ s
theorem tidy_execVcvtf (x : Fin 96) (dd a b : Fin 32) (m : BitVec 7) (s : State) : Tidy (execVcvtf x dd a b m s) s := tidy_lift _ s
theorem tidy_execVcvti (x : Fin 96) (dd a b : Fin 32) (m : BitVec 7) (s : State) : Tidy (execVcvti x dd a b m s) s := tidy_lift _ s
theorem tidy_execVfadd (x : Fin 96) (dd a b : Fin 32) (m : BitVec 7) (s : State) : Tidy (execVfadd x dd a b m s) s := tidy_lift _ s
theorem tidy_execVfmul (x : Fin 96) (dd a b : Fin 32) (m : BitVec 7) (s : State) : Tidy (execVfmul x dd a b m s) s := tidy_lift _ s
theorem tidy_execVfmac (x : Fin 96) (dd a b : Fin 32) (m : BitVec 7) (s : State) : Tidy (execVfmac x dd a b m s) s := tidy_lift _ s
theorem tidy_execUget (x : Fin 96) (dd a : Fin 32) (imm : BitVec 16) (s : State) : Tidy (execUget x dd a imm s) s := tidy_run _ s
theorem tidy_execUset (x : Fin 96) (dd a : Fin 32) (imm : BitVec 16) (s : State) : Tidy (execUset x dd a imm s) s := tidy_run _ s
theorem tidy_execUcmd (x : Fin 96) (dd a : Fin 32) (imm : BitVec 16) (s : State) : Tidy (execUcmd x dd a imm s) s := tidy_run _ s
theorem tidy_execUwait (x : Fin 96) (dd a : Fin 32) (imm : BitVec 16) (s : State) : Tidy (execUwait x dd a imm s) s := tidy_run _ s
theorem tidy_execUnitOpDone (x : Fin 96) (s : State) : Tidy (execUnitOpDone x s) s := tidy_run _ s
theorem tidy_execUwaitTimeout (x : Fin 96) (s : State) : Tidy (execUwaitTimeout x s) s := tidy_lift _ s
theorem tidy_execQput (x : Fin 96) (dd a b : Fin 32) (fn : BitVec 11) (s : State) : Tidy (execQput x dd a b fn s) s := tidy_lift _ s
theorem tidy_execQget (x : Fin 96) (dd a b : Fin 32) (fn : BitVec 11) (s : State) : Tidy (execQget x dd a b fn s) s := tidy_lift _ s
theorem tidy_execQcred (x : Fin 96) (dd a b : Fin 32) (fn : BitVec 11) (s : State) : Tidy (execQcred x dd a b fn s) s := tidy_lift _ s
theorem tidy_execArm (x : Fin 96) (dd a b : Fin 32) (fn : BitVec 11) (s : State) : Tidy (execArm x dd a b fn s) s := tidy_lift _ s
theorem tidy_execWaitev (x : Fin 96) (dd a : Fin 32) (imm : BitVec 16) (s : State) : Tidy (execWaitev x dd a imm s) s := tidy_lift _ s
theorem tidy_execTickwait (x : Fin 96) (dd a b : Fin 32) (fn : BitVec 11) (s : State) : Tidy (execTickwait x dd a b fn s) s := tidy_lift _ s
theorem tidy_execTime (x : Fin 96) (dd a b : Fin 32) (fn : BitVec 11) (s : State) : Tidy (execTime x dd a b fn s) s := tidy_lift _ s
theorem tidy_execSnap (x : Fin 96) (dd a b : Fin 32) (fn : BitVec 11) (s : State) : Tidy (execSnap x dd a b fn s) s := tidy_lift _ s
theorem tidy_execNop (x : Fin 96) (dd a b : Fin 32) (s : State) : Tidy (execNop x dd a b s) s := tidy_lift _ s
theorem tidy_execFence (x : Fin 96) (dd a b : Fin 32) (s : State) : Tidy (execFence x dd a b s) s := tidy_lift _ s
theorem tidy_execHalt (x : Fin 96) (dd a b : Fin 32) (s : State) : Tidy (execHalt x dd a b s) s := tidy_lift _ s
theorem tidy_execWait (x : Fin 96) (dd a b : Fin 32) (s : State) : Tidy (execWait x dd a b s) s := tidy_lift _ s
theorem tidy_execTrap (x : Fin 96) (dd a b : Fin 32) (code : BitVec 10) (s : State) : Tidy (execTrap x dd a b code s) s := tidy_lift _ s
theorem tidy_execCsrr (x : Fin 96) (dd a : Fin 32) (imm : BitVec 16) (s : State) : Tidy (execCsrr x dd a imm s) s := tidy_lift _ s
theorem tidy_execCsrw (x : Fin 96) (dd a : Fin 32) (imm : BitVec 16) (s : State) : Tidy (execCsrw x dd a imm s) s := tidy_lift _ s
theorem tidy_execXret (x : Fin 96) (a : Fin 32) (s : State) : Tidy (execXret x a s) s := tidy_lift _ s
theorem tidy_execTimerExpire (k : TimerRef) (s : State) : Tidy (execTimerExpire k s) s := tidy_lift _ s
theorem tidy_execTickBudgetExpire (e : Fin 64) (s : State) : Tidy (execTickBudgetExpire e s) s := tidy_lift _ s
theorem tidy_execEload (p : Path) (t : Fin 4) (v : Word) (s : State) : Tidy (execEload p t v s) s := tidy_runAon _ s
theorem tidy_execEloadComplete (t : Fin 4) (s : State) : Tidy (execEloadComplete t s) s := tidy_run _ s
theorem tidy_execTriggerFire (t : Fin 4) (n : Fin 1024) (s : State) : Tidy (execTriggerFire t n s) s := tidy_lift _ s
theorem tidy_execRunStart (t : Fin 4) (s : State) : Tidy (execRunStart t s) s := tidy_lift _ s
theorem tidy_execGclSwitch (n : Fin 24) (s : State) : Tidy (execGclSwitch n s) s := tidy_lift _ s
theorem tidy_execGateEntryAdvance (n : Fin 24) (s : State) : Tidy (execGateEntryAdvance n s) s := tidy_lift _ s
theorem tidy_execLcPllTimeout (n : Fin 24) (s : State) : Tidy (execLcPllTimeout n s) s := tidy_lift _ s
theorem tidy_execLinkHoldExpire (n : Fin 24) (s : State) : Tidy (execLinkHoldExpire n s) s := tidy_lift _ s
theorem tidy_execLinkDown (n : Fin 24) (cause : Fin 3) (s : State) : Tidy (execLinkDown n cause s) s := tidy_lift _ s
theorem tidy_execRxFrame (n : Fin 24) (o : List Byte) (fcsOk : Bool) (sym corr uncorr : Nat) (s : State) : Tidy (execRxFrame n o fcsOk sym corr uncorr s) s := tidy_lift _ s
theorem tidy_execPauseExpire (n : Fin 24) (c : Option (Fin 8)) (s : State) : Tidy (execPauseExpire n c s) s := tidy_lift _ s
theorem tidy_execPauseWd (n : Fin 24) (c : Fin 8) (s : State) : Tidy (execPauseWd n c s) s := tidy_lift _ s
theorem tidy_execHoldoffExpire (n : Fin 24) (c : Option (Fin 8)) (s : State) : Tidy (execHoldoffExpire n c s) s := tidy_lift _ s
theorem tidy_execTxEnqueue (n : Fin 24) (s : State) : Tidy (execTxEnqueue n s) s := tidy_lift _ s
theorem tidy_execTxFrameStart (n : Fin 24) (s : State) : Tidy (execTxFrameStart n s) s := tidy_lift _ s
theorem tidy_execTxFrameDone (n : Fin 24) (s : State) : Tidy (execTxFrameDone n s) s := tidy_lift _ s
theorem tidy_execPreemptVerify (n : Fin 24) (ok : Bool) (s : State) : Tidy (execPreemptVerify n ok s) s := tidy_lift _ s
theorem tidy_execStcRealign (n : Fin 24) (s : State) : Tidy (execStcRealign n s) s := tidy_lift _ s
theorem tidy_execSpqHeadWrite (p : Path) (q : Fin 8) (v : Word) (s : State) : Tidy (execSpqHeadWrite p q v s) s := tidy_runAon _ s
theorem tidy_execLtxTailWrite (p : Path) (t : Fin 4) (v : Word) (s : State) : Tidy (execLtxTailWrite p t v s) s := tidy_runAon _ s
theorem tidy_execLtxDescriptorDone (t : Fin 4) (s : State) : Tidy (execLtxDescriptorDone t s) s := tidy_lift _ s
theorem tidy_execWakePatternHit (f : Option (List Byte)) (s : State) : Tidy (execWakePatternHit f s) s := tidy_liftAon _ s
theorem tidy_execTokenEmit (k : Fin 12) (s : State) : Tidy (execTokenEmit k s) s := tidy_lift _ s
theorem tidy_execRxToken (k : Fin 12) (s : State) : Tidy (execRxToken k s) s := tidy_lift _ s
theorem tidy_execTokenReturn (k : Fin 12) (s : State) : Tidy (execTokenReturn k s) s := tidy_lift _ s
theorem tidy_execManagerElectionTimeout (k : Fin 12) (s : State) : Tidy (execManagerElectionTimeout k s) s := tidy_lift _ s
theorem tidy_execRingTokenLoss (k : Fin 12) (s : State) : Tidy (execRingTokenLoss k s) s := tidy_lift _ s
theorem tidy_execPassThrough (k : Fin 12) (s : State) : Tidy (execPassThrough k s) s := tidy_lift _ s
theorem tidy_execWindowStart (k : Fin 12) (s : State) : Tidy (execWindowStart k s) s := tidy_lift _ s
theorem tidy_execRxBlock (k : Fin 12) (s : State) : Tidy (execRxBlock k s) s := tidy_lift _ s
theorem tidy_execRxAsync (k : Fin 12) (s : State) : Tidy (execRxAsync k s) s := tidy_lift _ s
theorem tidy_execEchoSend (k : Fin 12) (s : State) : Tidy (execEchoSend k s) s := tidy_lift _ s
theorem tidy_execRxEcho (k : Fin 12) (s : State) : Tidy (execRxEcho k s) s := tidy_lift _ s
theorem tidy_execCensusStart (k : Fin 12) (s : State) : Tidy (execCensusStart k s) s := tidy_lift _ s
theorem tidy_execCensusPeriodExpire (k : Fin 12) (s : State) : Tidy (execCensusPeriodExpire k s) s := tidy_lift _ s
theorem tidy_execRxCensus (k : Fin 12) (s : State) : Tidy (execRxCensus k s) s := tidy_lift _ s
theorem tidy_execCensusReturn (k : Fin 12) (s : State) : Tidy (execCensusReturn k s) s := tidy_lift _ s
theorem tidy_execTableSend (k : Fin 12) (s : State) : Tidy (execTableSend k s) s := tidy_lift _ s
theorem tidy_execRingWrap (k : Fin 12) (west : Bool) (s : State) : Tidy (execRingWrap k west s) s := tidy_lift _ s
theorem tidy_execRingUnwrap (k : Fin 12) (s : State) : Tidy (execRingUnwrap k s) s := tidy_lift _ s
theorem tidy_execSwitchFrame (s : State) : Tidy (execSwitchFrame s) s := tidy_lift _ s
theorem tidy_execFdbWrite (p : Path) (v : Word) (s : State) : Tidy (execFdbWrite p v s) s := tidy_runAon _ s
theorem tidy_execFdbDelete (p : Path) (v : Word) (s : State) : Tidy (execFdbDelete p v s) s := tidy_runAon _ s
theorem tidy_execFdbLookup (p : Path) (v : Word) (s : State) : Tidy (execFdbLookup p v s) s := tidy_runAon _ s
theorem tidy_execFdbRead (p : Path) (v : Word) (s : State) : Tidy (execFdbRead p v s) s := tidy_runAon _ s
theorem tidy_execFdbFlush (p : Path) (v : Word) (s : State) : Tidy (execFdbFlush p v s) s := tidy_runAon _ s
theorem tidy_execFdbOpComplete (s : State) : Tidy (execFdbOpComplete s) s := tidy_lift _ s
theorem tidy_execFdbAgeExpire (i : Fin 4096) (s : State) : Tidy (execFdbAgeExpire j s) s := tidy_lift _ s
theorem tidy_execRxStreamPacket (f : Fin 2048) (s : State) : Tidy (execRxStreamPacket f s) s := tidy_lift _ s
theorem tidy_execFlowHoldExpire (f : Fin 2048) (s : State) : Tidy (execFlowHoldExpire f s) s := tidy_lift _ s
theorem tidy_execLegDown (f : Fin 2048) (leg : Bool) (s : State) : Tidy (execLegDown f leg s) s := tidy_lift _ s
theorem tidy_execFlowPacketRelease (f : Fin 2048) (s : State) : Tidy (execFlowPacketRelease f s) s := tidy_lift _ s
theorem tidy_execTickStart (m : Fin 8) (c : Nat) (e : Int) (s : State) : Tidy (execTickStart m c e s) s := tidy_lift _ s
theorem tidy_execAuditCheck (s : State) : Tidy (execAuditCheck s) s := tidy_lift _ s
theorem tidy_execTimeSet (p : Path) (v : Word) (s : State) : Tidy (execTimeSet p v s) s := tidy_runAon _ s
theorem tidy_execTimeStep (p : Path) (v : Word) (s : State) : Tidy (execTimeStep p v s) s := tidy_runAon _ s
theorem tidy_execTimeCmdApply (s : State) : Tidy (execTimeCmdApply s) s := tidy_liftAon _ s
theorem tidy_execTimeAdjWrite (p : Path) (v : Word) (s : State) : Tidy (execTimeAdjWrite p v s) s := tidy_runAon _ s
theorem tidy_execStcRead (p : Path) (s : State) : Tidy (execStcRead p s) s := tidy_runAon _ s
theorem tidy_execServoOfsWrite (p : Path) (v : Word) (s : State) : Tidy (execServoOfsWrite p v s) s := tidy_runAon _ s
theorem tidy_execServoRingSample (s : State) : Tidy (execServoRingSample s) s := tidy_lift _ s
theorem tidy_execServoHoldover (s : State) : Tidy (execServoHoldover s) s := tidy_liftAon _ s
theorem tidy_execPpsOutEdge (s : State) : Tidy (execPpsOutEdge s) s := tidy_liftAon _ s
theorem tidy_execPpsOutEnd (s : State) : Tidy (execPpsOutEnd s) s := tidy_liftAon _ s
theorem tidy_execPpsInEdge (fall : Bool) (s : State) : Tidy (execPpsInEdge fall s) s := tidy_liftAon _ s
theorem tidy_execPpsInRead (p : Path) (s : State) : Tidy (execPpsInRead p s) s := tidy_runAon _ s
theorem tidy_execMcsCountRead (p : Path) (m : Fin 8) (s : State) : Tidy (execMcsCountRead p m s) s := tidy_runAon _ s
theorem tidy_execTickSizeChange (m : Fin 8) (s : State) : Tidy (execTickSizeChange m s) s := tidy_lift _ s
theorem tidy_execMclkPllTimeout (m : Fin 8) (s : State) : Tidy (execMclkPllTimeout m s) s := tidy_lift _ s
theorem tidy_execMclkLock (m : Fin 8) (s : State) : Tidy (execMclkLock m s) s := tidy_lift _ s
theorem tidy_execMclkBypass (m : Fin 8) (s : State) : Tidy (execMclkBypass m s) s := tidy_lift _ s
theorem tidy_execMclkHandback (m : Fin 8) (p : Int) (s : State) : Tidy (execMclkHandback m p s) s := tidy_lift _ s
theorem tidy_execMcsCalGo (p : Path) (m : Fin 8) (v : Word) (s : State) : Tidy (execMcsCalGo p m v s) s := tidy_runAon _ s
theorem tidy_execMcsCalDone (m : Fin 8) (fmin fmax : BitVec 22) (s : State) : Tidy (execMcsCalDone m fmin fmax s) s := tidy_lift _ s
theorem tidy_execRateMeterGate (i : Fin 24) (edges span : Nat) (s : State) : Tidy (execRateMeterGate j edges span s) s := tidy_lift _ s
theorem tidy_execFrameSync (g : Fin 16) (bclks : Nat) (ins : List (Nat × Word)) (s : State) : Tidy (execFrameSync g bclks ins s) s := tidy_lift _ s
theorem tidy_execPortBlockTransfer (g : Fin 16) (s : State) : Tidy (execPortBlockTransfer g s) s := tidy_lift _ s
theorem tidy_execApgFrameRead (p : Path) (g : Fin 16) (s : State) : Tidy (execApgFrameRead p g s) s := tidy_runAon _ s
theorem tidy_execGroupClkLost (g : Fin 16) (s : State) : Tidy (execGroupClkLost g s) s := tidy_lift _ s
theorem tidy_execDecimSettled (k : Fin 128) (s : State) : Tidy (execDecimSettled k s) s := tidy_lift _ s
theorem tidy_execBridgeLock (b : Fin 16) (ratio : Word) (phase : Int) (s : State) : Tidy (execBridgeLock b ratio phase s) s := tidy_lift _ s
theorem tidy_execRegionSwap (src : OrderSrc) (r : Fin 64) (v : Word) (s : State) : Tidy (execRegionSwap src r v s) s := tidy_runAon _ s
theorem tidy_execSwapCaptureDone (r : Fin 64) (s : State) : Tidy (execSwapCaptureDone r s) s := tidy_lift _ s
theorem tidy_execRegionWdataWrite (src : OrderSrc) (r : Fin 64) (v : Word) (s : State) : Tidy (execRegionWdataWrite src r v s) s := tidy_runAon _ s
theorem tidy_execLoudnessRestart (p : Path) (c : Fin 256) (v : Word) (s : State) : Tidy (execLoudnessRestart p c v s) s := tidy_runAon _ s
theorem tidy_execHistogramClear (p : Path) (f : Fin 2048) (v : Word) (s : State) : Tidy (execHistogramClear p f v s) s := tidy_runAon _ s
theorem tidy_execPwrCmdActive (p : Path) (v : Word) (s : State) : Tidy (execPwrCmdActive p v s) s := tidy_runAon _ s
theorem tidy_execPwrCmdQuiet (p : Path) (v : Word) (s : State) : Tidy (execPwrCmdQuiet p v s) s := tidy_runAon _ s
theorem tidy_execPwrCmdRetain (p : Path) (v : Word) (s : State) : Tidy (execPwrCmdRetain p v s) s := tidy_runAon _ s
theorem tidy_execPwrCmdListen (p : Path) (v : Word) (s : State) : Tidy (execPwrCmdListen p v s) s := tidy_runAon _ s
theorem tidy_execEntryCommit (core sram : PmbEnd) (s : State) : Tidy (execEntryCommit core sram s) s := tidy_liftAon _ s
theorem tidy_execWakeIn (level : Bool) (s : State) : Tidy (execWakeIn level s) s := tidy_liftAon _ s
theorem tidy_execPcieWake (s : State) : Tidy (execPcieWake s) s := tidy_liftAon _ s
theorem tidy_execWakeTimerExpire (s : State) : Tidy (execWakeTimerExpire s) s := tidy_liftAon _ s
theorem tidy_execMspiWake (s : State) : Tidy (execMspiWake s) s := tidy_liftAon _ s
theorem tidy_execRetainExit (s : State) : Tidy (execRetainExit s) s := tidy_runAon _ s
theorem tidy_execListenExit (s : State) : Tidy (execListenExit s) s := tidy_runAon _ s
theorem tidy_execPwrWakeAck (p : Path) (v : Word) (s : State) : Tidy (execPwrWakeAck p v s) s := tidy_runAon _ s
theorem tidy_execDomainPowerRequest (p : Path) (v : Word) (s : State) : Tidy (execDomainPowerRequest p v s) s := tidy_runAon _ s
theorem tidy_execDomainPowerDone (i : Fin 18) (ok : Bool) (s : State) : Tidy (execDomainPowerDone j ok s) s := tidy_lift _ s
theorem tidy_execOppRequest (p : Path) (v : Word) (s : State) : Tidy (execOppRequest p v s) s := tidy_runAon _ s
theorem tidy_execOppFreqSwitch (s : State) : Tidy (execOppFreqSwitch s) s := tidy_lift _ s
theorem tidy_execOppVoutTaken (e : PmbEnd) (s : State) : Tidy (execOppVoutTaken e s) s := tidy_lift _ s
theorem tidy_execOppPowerGood (e : PmbEnd) (w : BitVec 16) (s : State) : Tidy (execOppPowerGood e w s) s := tidy_lift _ s
theorem tidy_execOppPowerGoodTimeout (s : State) : Tidy (execOppPowerGoodTimeout s) s := tidy_lift _ s
theorem tidy_execErrAck (p : Path) (v : Word) (s : State) : Tidy (execErrAck p v s) s := tidy_runAon _ s
theorem tidy_execErrRestart (p : Path) (v : Word) (s : State) : Tidy (execErrRestart p v s) s := tidy_runAon _ s
theorem tidy_execErrRestartDone (s : State) : Tidy (execErrRestartDone s) s := tidy_lift _ s
theorem tidy_execLogDeferredAppend (s : State) : Tidy (execLogDeferredAppend s) s := tidy_lift _ s
theorem tidy_execPeatRead (p : Path) (v : Word) (s : State) : Tidy (execPeatRead p v s) s := tidy_runAon _ s
theorem tidy_execPeatWrite (p : Path) (v : Word) (s : State) : Tidy (execPeatWrite p v s) s := tidy_runAon _ s
theorem tidy_execPeatAccessDone (s : State) : Tidy (execPeatAccessDone s) s := tidy_lift _ s
theorem tidy_execKeyLoad (p : Path) (v : Word) (s : State) : Tidy (execKeyLoad p v s) s := tidy_runAon _ s
theorem tidy_execKeyErase (p : Path) (v : Word) (s : State) : Tidy (execKeyErase p v s) s := tidy_runAon _ s
theorem tidy_execKeyGenerate (p : Path) (v : Word) (s : State) : Tidy (execKeyGenerate p v s) s := tidy_runAon _ s
theorem tidy_execKeyCmdDone (s : State) : Tidy (execKeyCmdDone s) s := tidy_lift _ s
theorem tidy_execSecLockWrite (p : Path) (v : Word) (s : State) : Tidy (execSecLockWrite p v s) s := tidy_runAon _ s
theorem tidy_execFuseProgram (p : Path) (v : Word) (s : State) : Tidy (execFuseProgram p v s) s := tidy_runAon _ s
theorem tidy_execSecMinSvnWrite (p : Path) (v : Word) (s : State) : Tidy (execSecMinSvnWrite p v s) s := tidy_runAon _ s
theorem tidy_execDebugOpen (p : Path) (v : Word) (s : State) : Tidy (execDebugOpen p v s) s := tidy_runAon _ s
theorem tidy_execDebugEraseDone (fail : Option (Fin 256 × Fin 16)) (s : State) : Tidy (execDebugEraseDone fail s) s := tidy_lift _ s
theorem tidy_execRegacc (s : State) : Tidy (execRegacc s) s := tidy_runAon _ s
theorem tidy_execFragalStart (p : Path) (v : Word) (s : State) : Tidy (execFragalStart p v s) s := tidy_runAon _ s
theorem tidy_execFragalArmComplete (s : State) : Tidy (execFragalArmComplete s) s := tidy_run _ s
theorem tidy_execFragalStop (p : Path) (v : Word) (s : State) : Tidy (execFragalStop p v s) s := tidy_runAon _ s
theorem tidy_execCheckpoint (p : Path) (v : Word) (s : State) : Tidy (execCheckpoint p v s) s := tidy_runAon _ s
theorem tidy_execCheckpointPeriodExpire (s : State) : Tidy (execCheckpointPeriodExpire s) s := tidy_run _ s
theorem tidy_execCheckpointDone (s : State) : Tidy (execCheckpointDone s) s := tidy_run _ s
theorem tidy_execDigestIntervalClose (s : State) : Tidy (execDigestIntervalClose s) s := tidy_lift _ s
theorem tidy_execFragalReplayStart (p : Path) (v : Word) (chunks : List (List Byte)) (s : State) : Tidy (execFragalReplayStart p v chunks s) s := tidy_runAon _ s
theorem tidy_execFrgHostptrWrite (p : Path) (v : Word) (s : State) : Tidy (execFrgHostptrWrite p v s) s := tidy_runAon _ s
theorem tidy_execFrgOcbDataAccess (p : Path) (w : Option Word) (s : State) : Tidy (execFrgOcbDataAccess p w s) s := tidy_runAon _ s
theorem tidy_execTraceTailDone (s : State) : Tidy (execTraceTailDone s) s := tidy_lift _ s
theorem tidy_execSupplyTrip (s : State) : Tidy (execSupplyTrip s) s := tidy_liftAny _ s
theorem tidy_execResetNAssert (s : State) : Tidy (execResetNAssert s) s := tidy_liftAny _ s
theorem tidy_execResetRelease (boot : Fin 4) (hostif : Bool) (s : State) : Tidy (execResetRelease boot hostif s) s := tidy_liftAny _ s
theorem tidy_execResetSequenceComplete (s : State) : Tidy (execResetSequenceComplete s) s := tidy_carry _ s
theorem tidy_execPerstAssert (s : State) : Tidy (execPerstAssert s) s := tidy_liftAny _ s
theorem tidy_execPerstRelease (s : State) : Tidy (execPerstRelease s) s := tidy_liftAny _ s
theorem tidy_execBootImageReadDone (image : List Byte) (s : State) : Tidy (execBootImageReadDone image s) s := tidy_runAon _ s
theorem tidy_execLoadTableEntry (expired : Bool) (s : State) : Tidy (execLoadTableEntry expired s) s := tidy_runAon _ s
theorem tidy_execBootComplete (s : State) : Tidy (execBootComplete s) s := tidy_lift _ s
theorem tidy_execThermSample (t0 t1 t2 t3 : BitVec 16) (s : State) : Tidy (execThermSample t0 t1 t2 t3 s) s := tidy_liftAon _ s
theorem tidy_execThermShutdown (s : State) : Tidy (execThermShutdown s) s := tidy_liftAon _ s
theorem tidy_execThermRecover (boot : Fin 4) (hostif : Bool) (s : State) : Tidy (execThermRecover boot hostif s) s := tidy_liftAny _ s
theorem tidy_execGpioEdge (i : Fin 16) (level : Bool) (s : State) : Tidy (execGpioEdge j level s) s := tidy_liftAon _ s
theorem tidy_execGpioSet (p : Path) (v : Word) (s : State) : Tidy (execGpioSet p v s) s := tidy_runAon _ s
theorem tidy_execGpioClr (p : Path) (v : Word) (s : State) : Tidy (execGpioClr p v s) s := tidy_runAon _ s
theorem tidy_execPmbSendByte (p : Path) (v : Word) (s : State) : Tidy (execPmbSendByte p v s) s := tidy_runAon _ s
theorem tidy_execPmbWriteByte (p : Path) (v : Word) (s : State) : Tidy (execPmbWriteByte p v s) s := tidy_runAon _ s
theorem tidy_execPmbWriteWord (p : Path) (v : Word) (s : State) : Tidy (execPmbWriteWord p v s) s := tidy_runAon _ s
theorem tidy_execPmbReadByte (p : Path) (v : Word) (s : State) : Tidy (execPmbReadByte p v s) s := tidy_runAon _ s
theorem tidy_execPmbReadWord (p : Path) (v : Word) (s : State) : Tidy (execPmbReadWord p v s) s := tidy_runAon _ s
theorem tidy_execPmbXferDone (e : PmbEnd) (data : BitVec 16) (s : State) : Tidy (execPmbXferDone e data s) s := tidy_liftAon _ s
theorem tidy_execPcsLock (n : Fin 24) (an : Bool) (partner : BitVec 16) (s : State) : Tidy (execPcsLock n an partner s) s := tidy_lift _ s
theorem tidy_execTokenMiss (k : Fin 12) (s : State) : Tidy (execTokenMiss k s) s := tidy_lift _ s
theorem tidy_execRxTable (k : Fin 12) (s : State) : Tidy (execRxTable k s) s := tidy_lift _ s
theorem tidy_execVddioSupplyLoss (b : Fin 8) (s : State) : Tidy (execVddioSupplyLoss b s) s := tidy_liftAny _ s
theorem tidy_execVddioSupplyReturn (b : Fin 8) (v33 : Bool) (s : State) : Tidy (execVddioSupplyReturn b v33 s) s := tidy_liftAny _ s
theorem tidy_execRegisterWindowDone (x : Fin 96) (s : State) : Tidy (execRegisterWindowDone x s) s := tidy_run _ s
theorem tidy_execReplayRecordRelease (more : List (List Byte)) (s : State) : Tidy (execReplayRecordRelease more s) s := tidy_run _ s
theorem tidy_execTapTransition (tms tdi : Bool) (s : State) : Tidy (execTapTransition tms tdi s) s := tidy_liftAon _ s

/-- Every command but the programming of the fuses. -/
theorem exec_tidy (i : Instr) (s : State) (h : i ≠ .fuseProgramDone) : Tidy (exec i s) s :=
  match i with
  | .registerWrite p addr bytes => tidy_execRegisterWrite p addr bytes s
  | .readClear p addr size => tidy_execReadClear p addr size s
  | .unitEvtWrite src u v => tidy_execUnitEvtWrite src u v s
  | .bitAliasAccess p x b w => tidy_execBitAliasAccess p x b w s
  | .stagedWriteApply u => tidy_execStagedWriteApply u s
  | .commitGo p reg v => tidy_execCommitGo p reg v s
  | .commitApply u set => tidy_execCommitApply u set s
  | .glbCommit p v => tidy_execGlbCommit p v s
  | .postedWriteComplete dom => tidy_execPostedWriteComplete dom s
  | .glbSnapGo p v => tidy_execGlbSnapGo p v s
  | .snapshotComplete => tidy_execSnapshotComplete s
  | .cfgScan => tidy_execCfgScan s
  | .cfgCrcCapture p v => tidy_execCfgCrcCapture p v s
  | .cfgRefWrite p v => tidy_execCfgRefWrite p v s
  | .softReset p v => tidy_execSoftReset p v s
  | .orderEnable src u => tidy_execOrderEnable src u s
  | .orderDisable src u => tidy_execOrderDisable src u s
  | .orderDrain src u => tidy_execOrderDrain src u s
  | .orderReset src u => tidy_execOrderReset src u s
  | .orderNone src u => tidy_execOrderNone src u s
  | .unitStandbyReached u => tidy_execUnitStandbyReached u s
  | .unitSyncingEntry u => tidy_execUnitSyncingEntry u s
  | .acquisitionComplete u => tidy_execAcquisitionComplete u s
  | .inputLost u => tidy_execInputLost u s
  | .drainComplete u => tidy_execDrainComplete u s
  | .drainTimeout u => tidy_execDrainTimeout u s
  | .cabinetWalkStep u => tidy_execCabinetWalkStep u s
  | .ownerWrite p u v => tidy_execOwnerWrite p u v s
  | .eventHoldExpire k => tidy_execEventHoldExpire k s
  | .functionLevelReset fn => tidy_execFunctionLevelReset fn s
  | .vfEnable n => tidy_execVfEnable n s
  | .d3hotEntry fn => tidy_execD3hotEntry fn s
  | .read addr n => tidy_execRead addr n s
  | .qread addr n => tidy_execQread addr n s
  | .write addr ws part => tidy_execWrite addr ws part s
  | .qwrite addr ws part => tidy_execQwrite addr ws part s
  | .status => tidy_execStatus s
  | .tenant v => tidy_execTenant v s
  | .spiUnknownCommand c => tidy_execSpiUnknownCommand c s
  | .hostBindWrite p w v => tidy_execHostBindWrite p w v s
  | .hostT0PathWrite p v => tidy_execHostT0PathWrite p v s
  | .queueEnable p t q v => tidy_execQueueEnable p t q v s
  | .queueDisable p t q v => tidy_execQueueDisable p t q v s
  | .sqTailWrite p t v => tidy_execSqTailWrite p t v s
  | .cqHeadWrite p t v => tidy_execCqHeadWrite p t v s
  | .eqHeadWrite p t v => tidy_execEqHeadWrite p t v s
  | .sqPortPost p t v => tidy_execSqPortPost p t v s
  | .cqPortConsume p t => tidy_execCqPortConsume p t s
  | .eqPortConsume p t => tidy_execEqPortConsume p t s
  | .userDbWrite p t v => tidy_execUserDbWrite p t v s
  | .commandFetch t ws => tidy_execCommandFetch t ws s
  | .run t ws => tidy_execRun t ws s
  | .inline t ws => tidy_execInline t ws s
  | .unitop t ws => tidy_execUnitop t ws s
  | .cmdFence t ws => tidy_execCmdFence t ws s
  | .completionPostDeferred t => tidy_execCompletionPostDeferred t s
  | .hchPtrWrite p t r v => tidy_execHchPtrWrite p t r v s
  | .hchPlaybackRead r block => tidy_execHchPlaybackRead r block s
  | .hchRecordWrite r => tidy_execHchRecordWrite r s
  | .add x dd a b hi => tidy_execAdd x dd a b hi s
  | .sub x dd a b hi => tidy_execSub x dd a b hi s
  | .and x dd a b hi => tidy_execAnd x dd a b hi s
  | .or x dd a b hi => tidy_execOr x dd a b hi s
  | .xor x dd a b hi => tidy_execXor x dd a b hi s
  | .shl x dd a b hi => tidy_execShl x dd a b hi s
  | .shr x dd a b hi => tidy_execShr x dd a b hi s
  | .sar x dd a b hi => tidy_execSar x dd a b hi s
  | .mul x dd a b hi => tidy_execMul x dd a b hi s
  | .mulh x dd a b hi => tidy_execMulh x dd a b hi s
  | .min x dd a b hi => tidy_execMin x dd a b hi s
  | .max x dd a b hi => tidy_execMax x dd a b hi s
  | .clz x dd a b hi => tidy_execClz x dd a b hi s
  | .addi x dd a imm => tidy_execAddi x dd a imm s
  | .andi x dd a imm => tidy_execAndi x dd a imm s
  | .ori x dd a imm => tidy_execOri x dd a imm s
  | .xori x dd a imm => tidy_execXori x dd a imm s
  | .lui x dd a imm => tidy_execLui x dd a imm s
  | .beq x a b off => tidy_execBeq x a b off s
  | .bne x a b off => tidy_execBne x a b off s
  | .blt x a b off => tidy_execBlt x a b off s
  | .bge x a b off => tidy_execBge x a b off s
  | .bltu x a b off => tidy_execBltu x a b off s
  | .bgeu x a b off => tidy_execBgeu x a b off s
  | .jal x off => tidy_execJal x off s
  | .jr x dd a b fn => tidy_execJr x dd a b fn s
  | .loop x dd a imm => tidy_execLoop x dd a imm s
  | .ldw x dd a imm => tidy_execLdw x dd a imm s
  | .ldh x dd a imm => tidy_execLdh x dd a imm s
  | .ldhu x dd a imm => tidy_execLdhu x dd a imm s
  | .ldb x dd a imm => tidy_execLdb x dd a imm s
  | .ldbu x dd a imm => tidy_execLdbu x dd a imm s
  | .stw x dd a imm => tidy_execStw x dd a imm s
  | .sth x dd a imm => tidy_execSth x dd a imm s
  | .stb x dd a imm => tidy_execStb x dd a imm s
  | .ldv x dd a imm => tidy_execLdv x dd a imm s
  | .stv x dd a imm => tidy_execStv x dd a imm s
  | .sld x dd a b fn => tidy_execSld x dd a b fn s
  | .sst x dd a b fn => tidy_execSst x dd a b fn s
  | .stag x dd a b fn => tidy_execStag x dd a b fn s
  | .tagmax x dd a b fn => tidy_execTagmax x dd a b fn s
  | .vadd x dd a b m => tidy_execVadd x dd a b m s
  | .vsub x dd a b m => tidy_execVsub x dd a b m s
  | .vmul x dd a b m => tidy_execVmul x dd a b m s
  | .vmac x dd a b m => tidy_execVmac x dd a b m s
  | .vrnd x dd a b m => tidy_execVrnd x dd a b m s
  | .vgain x dd a b m => tidy_execVgain x dd a b m s
  | .vabs x dd a b m => tidy_execVabs x dd a b m s
  | .vmax x dd a b m => tidy_execVmax x dd a b m s
  | .vsel x dd a b m => tidy_execVsel x dd a b m s
  | .vsplat x dd a b m => tidy_execVsplat x dd a b m s
  | .vcvtf x dd a b m => tidy_execVcvtf x dd a b m s
  | .vcvti x dd a b m => tidy_execVcvti x dd a b m s
  | .vfadd x dd a b m => tidy_execVfadd x dd a b m s
  | .vfmul x dd a b m => tidy_execVfmul x dd a b m s
  | .vfmac x dd a b m => tidy_execVfmac x dd a b m s
  | .uget x dd a imm => tidy_execUget x dd a imm s
  | .uset x dd a imm => tidy_execUset x dd a imm s
  | .ucmd x dd a imm => tidy_execUcmd x dd a imm s
  | .uwait x dd a imm => tidy_execUwait x dd a imm s
  | .unitOpDone x => tidy_execUnitOpDone x s
  | .uwaitTimeout x => tidy_execUwaitTimeout x s
  | .qput x dd a b fn => tidy_execQput x dd a b fn s
  | .qget x dd a b fn => tidy_execQget x dd a b fn s
  | .qcred x dd a b fn => tidy_execQcred x dd a b fn s
  | .arm x dd a b fn => tidy_execArm x dd a b fn s
  | .waitev x dd a imm => tidy_execWaitev x dd a imm s
  | .tickwait x dd a b fn => tidy_execTickwait x dd a b fn s
  | .time x dd a b fn => tidy_execTime x dd a b fn s
  | .snap x dd a b fn => tidy_execSnap x dd a b fn s
  | .nop x dd a b => tidy_execNop x dd a b s
  | .fence x dd a b => tidy_execFence x dd a b s
  | .halt x dd a b => tidy_execHalt x dd a b s
  | .wait x dd a b => tidy_execWait x dd a b s
  | .trap x dd a b code => tidy_execTrap x dd a b code s
  | .csrr x dd a imm => tidy_execCsrr x dd a imm s
  | .csrw x dd a imm => tidy_execCsrw x dd a imm s
  | .xret x a => tidy_execXret x a s
  | .timerExpire k => tidy_execTimerExpire k s
  | .tickBudgetExpire e => tidy_execTickBudgetExpire e s
  | .eload p t v => tidy_execEload p t v s
  | .eloadComplete t => tidy_execEloadComplete t s
  | .triggerFire t n => tidy_execTriggerFire t n s
  | .runStart t => tidy_execRunStart t s
  | .gclSwitch n => tidy_execGclSwitch n s
  | .gateEntryAdvance n => tidy_execGateEntryAdvance n s
  | .lcPllTimeout n => tidy_execLcPllTimeout n s
  | .linkHoldExpire n => tidy_execLinkHoldExpire n s
  | .linkDown n cause => tidy_execLinkDown n cause s
  | .rxFrame n o fcsOk sym corr uncorr => tidy_execRxFrame n o fcsOk sym corr uncorr s
  | .pauseExpire n c => tidy_execPauseExpire n c s
  | .pauseWd n c => tidy_execPauseWd n c s
  | .holdoffExpire n c => tidy_execHoldoffExpire n c s
  | .txEnqueue n => tidy_execTxEnqueue n s
  | .txFrameStart n => tidy_execTxFrameStart n s
  | .txFrameDone n => tidy_execTxFrameDone n s
  | .preemptVerify n ok => tidy_execPreemptVerify n ok s
  | .stcRealign n => tidy_execStcRealign n s
  | .spqHeadWrite p q v => tidy_execSpqHeadWrite p q v s
  | .ltxTailWrite p t v => tidy_execLtxTailWrite p t v s
  | .ltxDescriptorDone t => tidy_execLtxDescriptorDone t s
  | .wakePatternHit f => tidy_execWakePatternHit f s
  | .tokenEmit k => tidy_execTokenEmit k s
  | .rxToken k => tidy_execRxToken k s
  | .tokenReturn k => tidy_execTokenReturn k s
  | .managerElectionTimeout k => tidy_execManagerElectionTimeout k s
  | .ringTokenLoss k => tidy_execRingTokenLoss k s
  | .passThrough k => tidy_execPassThrough k s
  | .windowStart k => tidy_execWindowStart k s
  | .rxBlock k => tidy_execRxBlock k s
  | .rxAsync k => tidy_execRxAsync k s
  | .echoSend k => tidy_execEchoSend k s
  | .rxEcho k => tidy_execRxEcho k s
  | .censusStart k => tidy_execCensusStart k s
  | .censusPeriodExpire k => tidy_execCensusPeriodExpire k s
  | .rxCensus k => tidy_execRxCensus k s
  | .censusReturn k => tidy_execCensusReturn k s
  | .tableSend k => tidy_execTableSend k s
  | .ringWrap k west => tidy_execRingWrap k west s
  | .ringUnwrap k => tidy_execRingUnwrap k s
  | .switchFrame => tidy_execSwitchFrame s
  | .fdbWrite p v => tidy_execFdbWrite p v s
  | .fdbDelete p v => tidy_execFdbDelete p v s
  | .fdbLookup p v => tidy_execFdbLookup p v s
  | .fdbRead p v => tidy_execFdbRead p v s
  | .fdbFlush p v => tidy_execFdbFlush p v s
  | .fdbOpComplete => tidy_execFdbOpComplete s
  | .fdbAgeExpire j => tidy_execFdbAgeExpire j s
  | .rxStreamPacket f => tidy_execRxStreamPacket f s
  | .flowHoldExpire f => tidy_execFlowHoldExpire f s
  | .legDown f leg => tidy_execLegDown f leg s
  | .flowPacketRelease f => tidy_execFlowPacketRelease f s
  | .tickStart m c e => tidy_execTickStart m c e s
  | .auditCheck => tidy_execAuditCheck s
  | .timeSet p v => tidy_execTimeSet p v s
  | .timeStep p v => tidy_execTimeStep p v s
  | .timeCmdApply => tidy_execTimeCmdApply s
  | .timeAdjWrite p v => tidy_execTimeAdjWrite p v s
  | .stcRead p => tidy_execStcRead p s
  | .servoOfsWrite p v => tidy_execServoOfsWrite p v s
  | .servoRingSample => tidy_execServoRingSample s
  | .servoHoldover => tidy_execServoHoldover s
  | .ppsOutEdge => tidy_execPpsOutEdge s
  | .ppsOutEnd => tidy_execPpsOutEnd s
  | .ppsInEdge fall => tidy_execPpsInEdge fall s
  | .ppsInRead p => tidy_execPpsInRead p s
  | .mcsCountRead p m => tidy_execMcsCountRead p m s
  | .tickSizeChange m => tidy_execTickSizeChange m s
  | .mclkPllTimeout m => tidy_execMclkPllTimeout m s
  | .mclkLock m => tidy_execMclkLock m s
  | .mclkBypass m => tidy_execMclkBypass m s
  | .mclkHandback m p => tidy_execMclkHandback m p s
  | .mcsCalGo p m v => tidy_execMcsCalGo p m v s
  | .mcsCalDone m fmin fmax => tidy_execMcsCalDone m fmin fmax s
  | .rateMeterGate j edges span => tidy_execRateMeterGate j edges span s
  | .frameSync g bclks ins => tidy_execFrameSync g bclks ins s
  | .portBlockTransfer g => tidy_execPortBlockTransfer g s
  | .apgFrameRead p g => tidy_execApgFrameRead p g s
  | .groupClkLost g => tidy_execGroupClkLost g s
  | .decimSettled k => tidy_execDecimSettled k s
  | .bridgeLock b ratio phase => tidy_execBridgeLock b ratio phase s
  | .regionSwap src r v => tidy_execRegionSwap src r v s
  | .swapCaptureDone r => tidy_execSwapCaptureDone r s
  | .regionWdataWrite src r v => tidy_execRegionWdataWrite src r v s
  | .loudnessRestart p c v => tidy_execLoudnessRestart p c v s
  | .histogramClear p f v => tidy_execHistogramClear p f v s
  | .pwrCmdActive p v => tidy_execPwrCmdActive p v s
  | .pwrCmdQuiet p v => tidy_execPwrCmdQuiet p v s
  | .pwrCmdRetain p v => tidy_execPwrCmdRetain p v s
  | .pwrCmdListen p v => tidy_execPwrCmdListen p v s
  | .entryCommit core sram => tidy_execEntryCommit core sram s
  | .wakeIn level => tidy_execWakeIn level s
  | .pcieWake => tidy_execPcieWake s
  | .wakeTimerExpire => tidy_execWakeTimerExpire s
  | .mspiWake => tidy_execMspiWake s
  | .retainExit => tidy_execRetainExit s
  | .listenExit => tidy_execListenExit s
  | .pwrWakeAck p v => tidy_execPwrWakeAck p v s
  | .domainPowerRequest p v => tidy_execDomainPowerRequest p v s
  | .domainPowerDone j ok => tidy_execDomainPowerDone j ok s
  | .oppRequest p v => tidy_execOppRequest p v s
  | .oppFreqSwitch => tidy_execOppFreqSwitch s
  | .oppVoutTaken e => tidy_execOppVoutTaken e s
  | .oppPowerGood e w => tidy_execOppPowerGood e w s
  | .oppPowerGoodTimeout => tidy_execOppPowerGoodTimeout s
  | .errAck p v => tidy_execErrAck p v s
  | .errRestart p v => tidy_execErrRestart p v s
  | .errRestartDone => tidy_execErrRestartDone s
  | .logDeferredAppend => tidy_execLogDeferredAppend s
  | .peatRead p v => tidy_execPeatRead p v s
  | .peatWrite p v => tidy_execPeatWrite p v s
  | .peatAccessDone => tidy_execPeatAccessDone s
  | .keyLoad p v => tidy_execKeyLoad p v s
  | .keyErase p v => tidy_execKeyErase p v s
  | .keyGenerate p v => tidy_execKeyGenerate p v s
  | .keyCmdDone => tidy_execKeyCmdDone s
  | .secLockWrite p v => tidy_execSecLockWrite p v s
  | .fuseProgram p v => tidy_execFuseProgram p v s
  | .secMinSvnWrite p v => tidy_execSecMinSvnWrite p v s
  | .debugOpen p v => tidy_execDebugOpen p v s
  | .debugEraseDone fail => tidy_execDebugEraseDone fail s
  | .regacc => tidy_execRegacc s
  | .fragalStart p v => tidy_execFragalStart p v s
  | .fragalArmComplete => tidy_execFragalArmComplete s
  | .fragalStop p v => tidy_execFragalStop p v s
  | .checkpoint p v => tidy_execCheckpoint p v s
  | .checkpointPeriodExpire => tidy_execCheckpointPeriodExpire s
  | .checkpointDone => tidy_execCheckpointDone s
  | .digestIntervalClose => tidy_execDigestIntervalClose s
  | .fragalReplayStart p v chunks => tidy_execFragalReplayStart p v chunks s
  | .frgHostptrWrite p v => tidy_execFrgHostptrWrite p v s
  | .frgOcbDataAccess p w => tidy_execFrgOcbDataAccess p w s
  | .traceTailDone => tidy_execTraceTailDone s
  | .supplyTrip => tidy_execSupplyTrip s
  | .resetNAssert => tidy_execResetNAssert s
  | .resetRelease boot hostif => tidy_execResetRelease boot hostif s
  | .resetSequenceComplete => tidy_execResetSequenceComplete s
  | .perstAssert => tidy_execPerstAssert s
  | .perstRelease => tidy_execPerstRelease s
  | .bootImageReadDone image => tidy_execBootImageReadDone image s
  | .loadTableEntry expired => tidy_execLoadTableEntry expired s
  | .bootComplete => tidy_execBootComplete s
  | .thermSample t0 t1 t2 t3 => tidy_execThermSample t0 t1 t2 t3 s
  | .thermShutdown => tidy_execThermShutdown s
  | .thermRecover boot hostif => tidy_execThermRecover boot hostif s
  | .gpioEdge j level => tidy_execGpioEdge j level s
  | .gpioSet p v => tidy_execGpioSet p v s
  | .gpioClr p v => tidy_execGpioClr p v s
  | .pmbSendByte p v => tidy_execPmbSendByte p v s
  | .pmbWriteByte p v => tidy_execPmbWriteByte p v s
  | .pmbWriteWord p v => tidy_execPmbWriteWord p v s
  | .pmbReadByte p v => tidy_execPmbReadByte p v s
  | .pmbReadWord p v => tidy_execPmbReadWord p v s
  | .pmbXferDone e data => tidy_execPmbXferDone e data s
  | .pcsLock n an partner => tidy_execPcsLock n an partner s
  | .tokenMiss k => tidy_execTokenMiss k s
  | .rxTable k => tidy_execRxTable k s
  | .vddioSupplyLoss b => tidy_execVddioSupplyLoss b s
  | .vddioSupplyReturn b v33 => tidy_execVddioSupplyReturn b v33 s
  | .registerWindowDone x => tidy_execRegisterWindowDone x s
  | .fuseProgramDone => absurd rfl h
  | .replayRecordRelease more => tidy_execReplayRecordRelease more s
  | .tapTransition tms tdi => tidy_execTapTransition tms tdi s

end Sys2Proof.Machine
end

