-- ==== Sys2Proof/Laws/State.lean ====
section
/-! SUPPORT. One lemma per update of the device and per field that it leaves, so that no later proof unfolds a record update. -/
namespace Sys2Proof.Machine

@[simp] theorem Dev.setReg_stat (d : Dev) (a : Nat) (w : Word) : (d.setReg a w).stat = d.stat := rfl
@[simp] theorem Dev.setReg_shelf (d : Dev) (a : Nat) (w : Word) : (d.setReg a w).shelf = d.shelf := rfl
@[simp] theorem Dev.setReg_snap (d : Dev) (a : Nat) (w : Word) : (d.setReg a w).snap = d.snap := rfl
@[simp] theorem Dev.setReg_cfg (d : Dev) (a : Nat) (w : Word) : (d.setReg a w).cfg = d.cfg := rfl
@[simp] theorem Dev.setReg_staged (d : Dev) (a : Nat) (w : Word) : (d.setReg a w).staged = d.staged := rfl
@[simp] theorem Dev.setReg_held (d : Dev) (a : Nat) (w : Word) : (d.setReg a w).held = d.held := rfl
@[simp] theorem Dev.setReg_accepted (d : Dev) (a : Nat) (w : Word) : (d.setReg a w).accepted = d.accepted := rfl
@[simp] theorem Dev.setReg_posted (d : Dev) (a : Nat) (w : Word) : (d.setReg a w).posted = d.posted := rfl
@[simp] theorem Dev.setReg_stands (d : Dev) (a : Nat) (w : Word) : (d.setReg a w).stands = d.stands := rfl
@[simp] theorem Dev.setReg_units (d : Dev) (a : Nat) (w : Word) : (d.setReg a w).units = d.units := rfl
@[simp] theorem Dev.setReg_walks (d : Dev) (a : Nat) (w : Word) : (d.setReg a w).walks = d.walks := rfl
@[simp] theorem Dev.setReg_waits (d : Dev) (a : Nat) (w : Word) : (d.setReg a w).waits = d.waits := rfl
@[simp] theorem Dev.setReg_host (d : Dev) (a : Nat) (w : Word) : (d.setReg a w).host = d.host := rfl
@[simp] theorem Dev.setReg_queues (d : Dev) (a : Nat) (w : Word) : (d.setReg a w).queues = d.queues := rfl
@[simp] theorem Dev.setReg_cmds (d : Dev) (a : Nat) (w : Word) : (d.setReg a w).cmds = d.cmds := rfl
@[simp] theorem Dev.setReg_hch (d : Dev) (a : Nat) (w : Word) : (d.setReg a w).hch = d.hch := rfl
@[simp] theorem Dev.setReg_err (d : Dev) (a : Nat) (w : Word) : (d.setReg a w).err = d.err := rfl
@[simp] theorem Dev.setReg_time (d : Dev) (a : Nat) (w : Word) : (d.setReg a w).time = d.time := rfl
@[simp] theorem Dev.setReg_clk (d : Dev) (a : Nat) (w : Word) : (d.setReg a w).clk = d.clk := rfl
@[simp] theorem Dev.setReg_free (d : Dev) (a : Nat) (w : Word) : (d.setReg a w).free = d.free := rfl
@[simp] theorem Dev.setReg_out (d : Dev) (a : Nat) (w : Word) : (d.setReg a w).out = d.out := rfl
@[simp] theorem Dev.setReg_hostMem (d : Dev) (a : Nat) (w : Word) : (d.setReg a w).hostMem = d.hostMem := rfl
@[simp] theorem Dev.setReg_peat (d : Dev) (a : Nat) (w : Word) : (d.setReg a w).peat = d.peat := rfl
@[simp] theorem Dev.setReg_memw (d : Dev) (a : Nat) (w : Word) : (d.setReg a w).memw = d.memw := rfl
@[simp] theorem Dev.setReg_ctxs (d : Dev) (a : Nat) (w : Word) : (d.setReg a w).ctxs = d.ctxs := rfl
@[simp] theorem Dev.setReg_entries (d : Dev) (a : Nat) (w : Word) : (d.setReg a w).entries = d.entries := rfl
@[simp] theorem Dev.setReg_boxes (d : Dev) (a : Nat) (w : Word) : (d.setReg a w).boxes = d.boxes := rfl
@[simp] theorem Dev.setReg_stewards (d : Dev) (a : Nat) (w : Word) : (d.setReg a w).stewards = d.stewards := rfl
@[simp] theorem Dev.setReg_firings (d : Dev) (a : Nat) (w : Word) : (d.setReg a w).firings = d.firings := rfl
@[simp] theorem Dev.setReg_src (d : Dev) (a : Nat) (w : Word) : (d.setReg a w).src = d.src := rfl
@[simp] theorem Dev.setReg_dst (d : Dev) (a : Nat) (w : Word) : (d.setReg a w).dst = d.dst := rfl
@[simp] theorem Dev.setReg_links (d : Dev) (a : Nat) (w : Word) : (d.setReg a w).links = d.links := rfl
@[simp] theorem Dev.setReg_swc (d : Dev) (a : Nat) (w : Word) : (d.setReg a w).swc = d.swc := rfl
@[simp] theorem Dev.setReg_evLimit (d : Dev) (a : Nat) (w : Word) : (d.setReg a w).evLimit = d.evLimit := rfl
@[simp] theorem Dev.setReg_keys (d : Dev) (a : Nat) (w : Word) : (d.setReg a w).keys = d.keys := rfl
@[simp] theorem Dev.setReg_rings (d : Dev) (a : Nat) (w : Word) : (d.setReg a w).rings = d.rings := rfl
@[simp] theorem Dev.setReg_flows (d : Dev) (a : Nat) (w : Word) : (d.setReg a w).flows = d.flows := rfl
@[simp] theorem Dev.setReg_mcs (d : Dev) (a : Nat) (w : Word) : (d.setReg a w).mcs = d.mcs := rfl
@[simp] theorem Dev.setReg_meters (d : Dev) (a : Nat) (w : Word) : (d.setReg a w).meters = d.meters := rfl
@[simp] theorem Dev.setReg_moving (d : Dev) (a : Nat) (w : Word) : (d.setReg a w).moving = d.moving := rfl
@[simp] theorem Dev.setReg_groups (d : Dev) (a : Nat) (w : Word) : (d.setReg a w).groups = d.groups := rfl
@[simp] theorem Dev.setReg_decims (d : Dev) (a : Nat) (w : Word) : (d.setReg a w).decims = d.decims := rfl
@[simp] theorem Dev.setReg_bridges (d : Dev) (a : Nat) (w : Word) : (d.setReg a w).bridges = d.bridges := rfl
@[simp] theorem Dev.setReg_regions (d : Dev) (a : Nat) (w : Word) : (d.setReg a w).regions = d.regions := rfl
@[simp] theorem Dev.setReg_levels (d : Dev) (a : Nat) (w : Word) : (d.setReg a w).levels = d.levels := rfl
@[simp] theorem Dev.setReg_cells (d : Dev) (a : Nat) (w : Word) : (d.setReg a w).cells = d.cells := rfl
@[simp] theorem Dev.setReg_nudge (d : Dev) (a : Nat) (w : Word) : (d.setReg a w).nudge = d.nudge := rfl
@[simp] theorem Dev.setReg_pwr (d : Dev) (a : Nat) (w : Word) : (d.setReg a w).pwr = d.pwr := rfl
@[simp] theorem Dev.setReg_rst (d : Dev) (a : Nat) (w : Word) : (d.setReg a w).rst = d.rst := rfl
@[simp] theorem Dev.setReg_boot (d : Dev) (a : Nat) (w : Word) : (d.setReg a w).boot = d.boot := rfl
@[simp] theorem Dev.setReg_sec (d : Dev) (a : Nat) (w : Word) : (d.setReg a w).sec = d.sec := rfl
@[simp] theorem Dev.setReg_frg (d : Dev) (a : Nat) (w : Word) : (d.setReg a w).frg = d.frg := rfl
@[simp] theorem Dev.setReg_mgt (d : Dev) (a : Nat) (w : Word) : (d.setReg a w).mgt = d.mgt := rfl

@[simp] theorem Dev.wr_stat (d : Dev) (f : Fld) (v : Nat) : (d.wr f v).stat = d.stat := rfl
@[simp] theorem Dev.wr_shelf (d : Dev) (f : Fld) (v : Nat) : (d.wr f v).shelf = d.shelf := rfl
@[simp] theorem Dev.wr_snap (d : Dev) (f : Fld) (v : Nat) : (d.wr f v).snap = d.snap := rfl
@[simp] theorem Dev.wr_cfg (d : Dev) (f : Fld) (v : Nat) : (d.wr f v).cfg = d.cfg := rfl
@[simp] theorem Dev.wr_staged (d : Dev) (f : Fld) (v : Nat) : (d.wr f v).staged = d.staged := rfl
@[simp] theorem Dev.wr_held (d : Dev) (f : Fld) (v : Nat) : (d.wr f v).held = d.held := rfl
@[simp] theorem Dev.wr_accepted (d : Dev) (f : Fld) (v : Nat) : (d.wr f v).accepted = d.accepted := rfl
@[simp] theorem Dev.wr_posted (d : Dev) (f : Fld) (v : Nat) : (d.wr f v).posted = d.posted := rfl
@[simp] theorem Dev.wr_stands (d : Dev) (f : Fld) (v : Nat) : (d.wr f v).stands = d.stands := rfl
@[simp] theorem Dev.wr_units (d : Dev) (f : Fld) (v : Nat) : (d.wr f v).units = d.units := rfl
@[simp] theorem Dev.wr_walks (d : Dev) (f : Fld) (v : Nat) : (d.wr f v).walks = d.walks := rfl
@[simp] theorem Dev.wr_waits (d : Dev) (f : Fld) (v : Nat) : (d.wr f v).waits = d.waits := rfl
@[simp] theorem Dev.wr_host (d : Dev) (f : Fld) (v : Nat) : (d.wr f v).host = d.host := rfl
@[simp] theorem Dev.wr_queues (d : Dev) (f : Fld) (v : Nat) : (d.wr f v).queues = d.queues := rfl
@[simp] theorem Dev.wr_cmds (d : Dev) (f : Fld) (v : Nat) : (d.wr f v).cmds = d.cmds := rfl
@[simp] theorem Dev.wr_hch (d : Dev) (f : Fld) (v : Nat) : (d.wr f v).hch = d.hch := rfl
@[simp] theorem Dev.wr_err (d : Dev) (f : Fld) (v : Nat) : (d.wr f v).err = d.err := rfl
@[simp] theorem Dev.wr_time (d : Dev) (f : Fld) (v : Nat) : (d.wr f v).time = d.time := rfl
@[simp] theorem Dev.wr_clk (d : Dev) (f : Fld) (v : Nat) : (d.wr f v).clk = d.clk := rfl
@[simp] theorem Dev.wr_free (d : Dev) (f : Fld) (v : Nat) : (d.wr f v).free = d.free := rfl
@[simp] theorem Dev.wr_out (d : Dev) (f : Fld) (v : Nat) : (d.wr f v).out = d.out := rfl
@[simp] theorem Dev.wr_hostMem (d : Dev) (f : Fld) (v : Nat) : (d.wr f v).hostMem = d.hostMem := rfl
@[simp] theorem Dev.wr_peat (d : Dev) (f : Fld) (v : Nat) : (d.wr f v).peat = d.peat := rfl
@[simp] theorem Dev.wr_memw (d : Dev) (f : Fld) (v : Nat) : (d.wr f v).memw = d.memw := rfl
@[simp] theorem Dev.wr_ctxs (d : Dev) (f : Fld) (v : Nat) : (d.wr f v).ctxs = d.ctxs := rfl
@[simp] theorem Dev.wr_entries (d : Dev) (f : Fld) (v : Nat) : (d.wr f v).entries = d.entries := rfl
@[simp] theorem Dev.wr_boxes (d : Dev) (f : Fld) (v : Nat) : (d.wr f v).boxes = d.boxes := rfl
@[simp] theorem Dev.wr_stewards (d : Dev) (f : Fld) (v : Nat) : (d.wr f v).stewards = d.stewards := rfl
@[simp] theorem Dev.wr_firings (d : Dev) (f : Fld) (v : Nat) : (d.wr f v).firings = d.firings := rfl
@[simp] theorem Dev.wr_src (d : Dev) (f : Fld) (v : Nat) : (d.wr f v).src = d.src := rfl
@[simp] theorem Dev.wr_dst (d : Dev) (f : Fld) (v : Nat) : (d.wr f v).dst = d.dst := rfl
@[simp] theorem Dev.wr_links (d : Dev) (f : Fld) (v : Nat) : (d.wr f v).links = d.links := rfl
@[simp] theorem Dev.wr_swc (d : Dev) (f : Fld) (v : Nat) : (d.wr f v).swc = d.swc := rfl
@[simp] theorem Dev.wr_evLimit (d : Dev) (f : Fld) (v : Nat) : (d.wr f v).evLimit = d.evLimit := rfl
@[simp] theorem Dev.wr_keys (d : Dev) (f : Fld) (v : Nat) : (d.wr f v).keys = d.keys := rfl
@[simp] theorem Dev.wr_rings (d : Dev) (f : Fld) (v : Nat) : (d.wr f v).rings = d.rings := rfl
@[simp] theorem Dev.wr_flows (d : Dev) (f : Fld) (v : Nat) : (d.wr f v).flows = d.flows := rfl
@[simp] theorem Dev.wr_mcs (d : Dev) (f : Fld) (v : Nat) : (d.wr f v).mcs = d.mcs := rfl
@[simp] theorem Dev.wr_meters (d : Dev) (f : Fld) (v : Nat) : (d.wr f v).meters = d.meters := rfl
@[simp] theorem Dev.wr_moving (d : Dev) (f : Fld) (v : Nat) : (d.wr f v).moving = d.moving := rfl
@[simp] theorem Dev.wr_groups (d : Dev) (f : Fld) (v : Nat) : (d.wr f v).groups = d.groups := rfl
@[simp] theorem Dev.wr_decims (d : Dev) (f : Fld) (v : Nat) : (d.wr f v).decims = d.decims := rfl
@[simp] theorem Dev.wr_bridges (d : Dev) (f : Fld) (v : Nat) : (d.wr f v).bridges = d.bridges := rfl
@[simp] theorem Dev.wr_regions (d : Dev) (f : Fld) (v : Nat) : (d.wr f v).regions = d.regions := rfl
@[simp] theorem Dev.wr_levels (d : Dev) (f : Fld) (v : Nat) : (d.wr f v).levels = d.levels := rfl
@[simp] theorem Dev.wr_cells (d : Dev) (f : Fld) (v : Nat) : (d.wr f v).cells = d.cells := rfl
@[simp] theorem Dev.wr_nudge (d : Dev) (f : Fld) (v : Nat) : (d.wr f v).nudge = d.nudge := rfl
@[simp] theorem Dev.wr_pwr (d : Dev) (f : Fld) (v : Nat) : (d.wr f v).pwr = d.pwr := rfl
@[simp] theorem Dev.wr_rst (d : Dev) (f : Fld) (v : Nat) : (d.wr f v).rst = d.rst := rfl
@[simp] theorem Dev.wr_boot (d : Dev) (f : Fld) (v : Nat) : (d.wr f v).boot = d.boot := rfl
@[simp] theorem Dev.wr_sec (d : Dev) (f : Fld) (v : Nat) : (d.wr f v).sec = d.sec := rfl
@[simp] theorem Dev.wr_frg (d : Dev) (f : Fld) (v : Nat) : (d.wr f v).frg = d.frg := rfl
@[simp] theorem Dev.wr_mgt (d : Dev) (f : Fld) (v : Nat) : (d.wr f v).mgt = d.mgt := rfl

@[simp] theorem Dev.setStat_regs (d : Dev) (a v : Nat) : (d.setStat a v).regs = d.regs := rfl
@[simp] theorem Dev.setStat_shelf (d : Dev) (a v : Nat) : (d.setStat a v).shelf = d.shelf := rfl
@[simp] theorem Dev.setStat_snap (d : Dev) (a v : Nat) : (d.setStat a v).snap = d.snap := rfl
@[simp] theorem Dev.setStat_cfg (d : Dev) (a v : Nat) : (d.setStat a v).cfg = d.cfg := rfl
@[simp] theorem Dev.setStat_staged (d : Dev) (a v : Nat) : (d.setStat a v).staged = d.staged := rfl
@[simp] theorem Dev.setStat_held (d : Dev) (a v : Nat) : (d.setStat a v).held = d.held := rfl
@[simp] theorem Dev.setStat_accepted (d : Dev) (a v : Nat) : (d.setStat a v).accepted = d.accepted := rfl
@[simp] theorem Dev.setStat_posted (d : Dev) (a v : Nat) : (d.setStat a v).posted = d.posted := rfl
@[simp] theorem Dev.setStat_stands (d : Dev) (a v : Nat) : (d.setStat a v).stands = d.stands := rfl
@[simp] theorem Dev.setStat_units (d : Dev) (a v : Nat) : (d.setStat a v).units = d.units := rfl
@[simp] theorem Dev.setStat_walks (d : Dev) (a v : Nat) : (d.setStat a v).walks = d.walks := rfl
@[simp] theorem Dev.setStat_waits (d : Dev) (a v : Nat) : (d.setStat a v).waits = d.waits := rfl
@[simp] theorem Dev.setStat_host (d : Dev) (a v : Nat) : (d.setStat a v).host = d.host := rfl
@[simp] theorem Dev.setStat_queues (d : Dev) (a v : Nat) : (d.setStat a v).queues = d.queues := rfl
@[simp] theorem Dev.setStat_cmds (d : Dev) (a v : Nat) : (d.setStat a v).cmds = d.cmds := rfl
@[simp] theorem Dev.setStat_hch (d : Dev) (a v : Nat) : (d.setStat a v).hch = d.hch := rfl
@[simp] theorem Dev.setStat_err (d : Dev) (a v : Nat) : (d.setStat a v).err = d.err := rfl
@[simp] theorem Dev.setStat_time (d : Dev) (a v : Nat) : (d.setStat a v).time = d.time := rfl
@[simp] theorem Dev.setStat_clk (d : Dev) (a v : Nat) : (d.setStat a v).clk = d.clk := rfl
@[simp] theorem Dev.setStat_free (d : Dev) (a v : Nat) : (d.setStat a v).free = d.free := rfl
@[simp] theorem Dev.setStat_out (d : Dev) (a v : Nat) : (d.setStat a v).out = d.out := rfl
@[simp] theorem Dev.setStat_hostMem (d : Dev) (a v : Nat) : (d.setStat a v).hostMem = d.hostMem := rfl
@[simp] theorem Dev.setStat_peat (d : Dev) (a v : Nat) : (d.setStat a v).peat = d.peat := rfl
@[simp] theorem Dev.setStat_memw (d : Dev) (a v : Nat) : (d.setStat a v).memw = d.memw := rfl
@[simp] theorem Dev.setStat_ctxs (d : Dev) (a v : Nat) : (d.setStat a v).ctxs = d.ctxs := rfl
@[simp] theorem Dev.setStat_entries (d : Dev) (a v : Nat) : (d.setStat a v).entries = d.entries := rfl
@[simp] theorem Dev.setStat_boxes (d : Dev) (a v : Nat) : (d.setStat a v).boxes = d.boxes := rfl
@[simp] theorem Dev.setStat_stewards (d : Dev) (a v : Nat) : (d.setStat a v).stewards = d.stewards := rfl
@[simp] theorem Dev.setStat_firings (d : Dev) (a v : Nat) : (d.setStat a v).firings = d.firings := rfl
@[simp] theorem Dev.setStat_src (d : Dev) (a v : Nat) : (d.setStat a v).src = d.src := rfl
@[simp] theorem Dev.setStat_dst (d : Dev) (a v : Nat) : (d.setStat a v).dst = d.dst := rfl
@[simp] theorem Dev.setStat_links (d : Dev) (a v : Nat) : (d.setStat a v).links = d.links := rfl
@[simp] theorem Dev.setStat_swc (d : Dev) (a v : Nat) : (d.setStat a v).swc = d.swc := rfl
@[simp] theorem Dev.setStat_evLimit (d : Dev) (a v : Nat) : (d.setStat a v).evLimit = d.evLimit := rfl
@[simp] theorem Dev.setStat_keys (d : Dev) (a v : Nat) : (d.setStat a v).keys = d.keys := rfl
@[simp] theorem Dev.setStat_rings (d : Dev) (a v : Nat) : (d.setStat a v).rings = d.rings := rfl
@[simp] theorem Dev.setStat_flows (d : Dev) (a v : Nat) : (d.setStat a v).flows = d.flows := rfl
@[simp] theorem Dev.setStat_mcs (d : Dev) (a v : Nat) : (d.setStat a v).mcs = d.mcs := rfl
@[simp] theorem Dev.setStat_meters (d : Dev) (a v : Nat) : (d.setStat a v).meters = d.meters := rfl
@[simp] theorem Dev.setStat_moving (d : Dev) (a v : Nat) : (d.setStat a v).moving = d.moving := rfl
@[simp] theorem Dev.setStat_groups (d : Dev) (a v : Nat) : (d.setStat a v).groups = d.groups := rfl
@[simp] theorem Dev.setStat_decims (d : Dev) (a v : Nat) : (d.setStat a v).decims = d.decims := rfl
@[simp] theorem Dev.setStat_bridges (d : Dev) (a v : Nat) : (d.setStat a v).bridges = d.bridges := rfl
@[simp] theorem Dev.setStat_regions (d : Dev) (a v : Nat) : (d.setStat a v).regions = d.regions := rfl
@[simp] theorem Dev.setStat_levels (d : Dev) (a v : Nat) : (d.setStat a v).levels = d.levels := rfl
@[simp] theorem Dev.setStat_cells (d : Dev) (a v : Nat) : (d.setStat a v).cells = d.cells := rfl
@[simp] theorem Dev.setStat_nudge (d : Dev) (a v : Nat) : (d.setStat a v).nudge = d.nudge := rfl
@[simp] theorem Dev.setStat_pwr (d : Dev) (a v : Nat) : (d.setStat a v).pwr = d.pwr := rfl
@[simp] theorem Dev.setStat_rst (d : Dev) (a v : Nat) : (d.setStat a v).rst = d.rst := rfl
@[simp] theorem Dev.setStat_boot (d : Dev) (a v : Nat) : (d.setStat a v).boot = d.boot := rfl
@[simp] theorem Dev.setStat_sec (d : Dev) (a v : Nat) : (d.setStat a v).sec = d.sec := rfl
@[simp] theorem Dev.setStat_frg (d : Dev) (a v : Nat) : (d.setStat a v).frg = d.frg := rfl
@[simp] theorem Dev.setStat_mgt (d : Dev) (a v : Nat) : (d.setStat a v).mgt = d.mgt := rfl

@[simp] theorem Dev.emit_regs (d : Dev) (o : Output) : (d.emit o).regs = d.regs := rfl
@[simp] theorem Dev.emit_stat (d : Dev) (o : Output) : (d.emit o).stat = d.stat := rfl
@[simp] theorem Dev.emit_shelf (d : Dev) (o : Output) : (d.emit o).shelf = d.shelf := rfl
@[simp] theorem Dev.emit_snap (d : Dev) (o : Output) : (d.emit o).snap = d.snap := rfl
@[simp] theorem Dev.emit_cfg (d : Dev) (o : Output) : (d.emit o).cfg = d.cfg := rfl
@[simp] theorem Dev.emit_staged (d : Dev) (o : Output) : (d.emit o).staged = d.staged := rfl
@[simp] theorem Dev.emit_held (d : Dev) (o : Output) : (d.emit o).held = d.held := rfl
@[simp] theorem Dev.emit_accepted (d : Dev) (o : Output) : (d.emit o).accepted = d.accepted := rfl
@[simp] theorem Dev.emit_posted (d : Dev) (o : Output) : (d.emit o).posted = d.posted := rfl
@[simp] theorem Dev.emit_stands (d : Dev) (o : Output) : (d.emit o).stands = d.stands := rfl
@[simp] theorem Dev.emit_units (d : Dev) (o : Output) : (d.emit o).units = d.units := rfl
@[simp] theorem Dev.emit_walks (d : Dev) (o : Output) : (d.emit o).walks = d.walks := rfl
@[simp] theorem Dev.emit_waits (d : Dev) (o : Output) : (d.emit o).waits = d.waits := rfl
@[simp] theorem Dev.emit_host (d : Dev) (o : Output) : (d.emit o).host = d.host := rfl
@[simp] theorem Dev.emit_queues (d : Dev) (o : Output) : (d.emit o).queues = d.queues := rfl
@[simp] theorem Dev.emit_cmds (d : Dev) (o : Output) : (d.emit o).cmds = d.cmds := rfl
@[simp] theorem Dev.emit_hch (d : Dev) (o : Output) : (d.emit o).hch = d.hch := rfl
@[simp] theorem Dev.emit_err (d : Dev) (o : Output) : (d.emit o).err = d.err := rfl
@[simp] theorem Dev.emit_time (d : Dev) (o : Output) : (d.emit o).time = d.time := rfl
@[simp] theorem Dev.emit_clk (d : Dev) (o : Output) : (d.emit o).clk = d.clk := rfl
@[simp] theorem Dev.emit_free (d : Dev) (o : Output) : (d.emit o).free = d.free := rfl
@[simp] theorem Dev.emit_hostMem (d : Dev) (o : Output) : (d.emit o).hostMem = d.hostMem := rfl
@[simp] theorem Dev.emit_peat (d : Dev) (o : Output) : (d.emit o).peat = d.peat := rfl
@[simp] theorem Dev.emit_memw (d : Dev) (o : Output) : (d.emit o).memw = d.memw := rfl
@[simp] theorem Dev.emit_ctxs (d : Dev) (o : Output) : (d.emit o).ctxs = d.ctxs := rfl
@[simp] theorem Dev.emit_entries (d : Dev) (o : Output) : (d.emit o).entries = d.entries := rfl
@[simp] theorem Dev.emit_boxes (d : Dev) (o : Output) : (d.emit o).boxes = d.boxes := rfl
@[simp] theorem Dev.emit_stewards (d : Dev) (o : Output) : (d.emit o).stewards = d.stewards := rfl
@[simp] theorem Dev.emit_firings (d : Dev) (o : Output) : (d.emit o).firings = d.firings := rfl
@[simp] theorem Dev.emit_src (d : Dev) (o : Output) : (d.emit o).src = d.src := rfl
@[simp] theorem Dev.emit_dst (d : Dev) (o : Output) : (d.emit o).dst = d.dst := rfl
@[simp] theorem Dev.emit_links (d : Dev) (o : Output) : (d.emit o).links = d.links := rfl
@[simp] theorem Dev.emit_swc (d : Dev) (o : Output) : (d.emit o).swc = d.swc := rfl
@[simp] theorem Dev.emit_evLimit (d : Dev) (o : Output) : (d.emit o).evLimit = d.evLimit := rfl
@[simp] theorem Dev.emit_keys (d : Dev) (o : Output) : (d.emit o).keys = d.keys := rfl
@[simp] theorem Dev.emit_rings (d : Dev) (o : Output) : (d.emit o).rings = d.rings := rfl
@[simp] theorem Dev.emit_flows (d : Dev) (o : Output) : (d.emit o).flows = d.flows := rfl
@[simp] theorem Dev.emit_mcs (d : Dev) (o : Output) : (d.emit o).mcs = d.mcs := rfl
@[simp] theorem Dev.emit_meters (d : Dev) (o : Output) : (d.emit o).meters = d.meters := rfl
@[simp] theorem Dev.emit_moving (d : Dev) (o : Output) : (d.emit o).moving = d.moving := rfl
@[simp] theorem Dev.emit_groups (d : Dev) (o : Output) : (d.emit o).groups = d.groups := rfl
@[simp] theorem Dev.emit_decims (d : Dev) (o : Output) : (d.emit o).decims = d.decims := rfl
@[simp] theorem Dev.emit_bridges (d : Dev) (o : Output) : (d.emit o).bridges = d.bridges := rfl
@[simp] theorem Dev.emit_regions (d : Dev) (o : Output) : (d.emit o).regions = d.regions := rfl
@[simp] theorem Dev.emit_levels (d : Dev) (o : Output) : (d.emit o).levels = d.levels := rfl
@[simp] theorem Dev.emit_cells (d : Dev) (o : Output) : (d.emit o).cells = d.cells := rfl
@[simp] theorem Dev.emit_nudge (d : Dev) (o : Output) : (d.emit o).nudge = d.nudge := rfl
@[simp] theorem Dev.emit_pwr (d : Dev) (o : Output) : (d.emit o).pwr = d.pwr := rfl
@[simp] theorem Dev.emit_rst (d : Dev) (o : Output) : (d.emit o).rst = d.rst := rfl
@[simp] theorem Dev.emit_boot (d : Dev) (o : Output) : (d.emit o).boot = d.boot := rfl
@[simp] theorem Dev.emit_sec (d : Dev) (o : Output) : (d.emit o).sec = d.sec := rfl
@[simp] theorem Dev.emit_frg (d : Dev) (o : Output) : (d.emit o).frg = d.frg := rfl
@[simp] theorem Dev.emit_mgt (d : Dev) (o : Output) : (d.emit o).mgt = d.mgt := rfl

@[simp] theorem Dev.memStore_regs (d : Dev) (a : Nat) (bs : List Byte) : (d.memStore a bs).regs = d.regs := rfl
@[simp] theorem Dev.memStore_stat (d : Dev) (a : Nat) (bs : List Byte) : (d.memStore a bs).stat = d.stat := rfl
@[simp] theorem Dev.memStore_shelf (d : Dev) (a : Nat) (bs : List Byte) : (d.memStore a bs).shelf = d.shelf := rfl
@[simp] theorem Dev.memStore_snap (d : Dev) (a : Nat) (bs : List Byte) : (d.memStore a bs).snap = d.snap := rfl
@[simp] theorem Dev.memStore_cfg (d : Dev) (a : Nat) (bs : List Byte) : (d.memStore a bs).cfg = d.cfg := rfl
@[simp] theorem Dev.memStore_staged (d : Dev) (a : Nat) (bs : List Byte) : (d.memStore a bs).staged = d.staged := rfl
@[simp] theorem Dev.memStore_held (d : Dev) (a : Nat) (bs : List Byte) : (d.memStore a bs).held = d.held := rfl
@[simp] theorem Dev.memStore_accepted (d : Dev) (a : Nat) (bs : List Byte) : (d.memStore a bs).accepted = d.accepted := rfl
@[simp] theorem Dev.memStore_posted (d : Dev) (a : Nat) (bs : List Byte) : (d.memStore a bs).posted = d.posted := rfl
@[simp] theorem Dev.memStore_stands (d : Dev) (a : Nat) (bs : List Byte) : (d.memStore a bs).stands = d.stands := rfl
@[simp] theorem Dev.memStore_units (d : Dev) (a : Nat) (bs : List Byte) : (d.memStore a bs).units = d.units := rfl
@[simp] theorem Dev.memStore_walks (d : Dev) (a : Nat) (bs : List Byte) : (d.memStore a bs).walks = d.walks := rfl
@[simp] theorem Dev.memStore_waits (d : Dev) (a : Nat) (bs : List Byte) : (d.memStore a bs).waits = d.waits := rfl
@[simp] theorem Dev.memStore_host (d : Dev) (a : Nat) (bs : List Byte) : (d.memStore a bs).host = d.host := rfl
@[simp] theorem Dev.memStore_queues (d : Dev) (a : Nat) (bs : List Byte) : (d.memStore a bs).queues = d.queues := rfl
@[simp] theorem Dev.memStore_cmds (d : Dev) (a : Nat) (bs : List Byte) : (d.memStore a bs).cmds = d.cmds := rfl
@[simp] theorem Dev.memStore_hch (d : Dev) (a : Nat) (bs : List Byte) : (d.memStore a bs).hch = d.hch := rfl
@[simp] theorem Dev.memStore_err (d : Dev) (a : Nat) (bs : List Byte) : (d.memStore a bs).err = d.err := rfl
@[simp] theorem Dev.memStore_time (d : Dev) (a : Nat) (bs : List Byte) : (d.memStore a bs).time = d.time := rfl
@[simp] theorem Dev.memStore_clk (d : Dev) (a : Nat) (bs : List Byte) : (d.memStore a bs).clk = d.clk := rfl
@[simp] theorem Dev.memStore_free (d : Dev) (a : Nat) (bs : List Byte) : (d.memStore a bs).free = d.free := rfl
@[simp] theorem Dev.memStore_out (d : Dev) (a : Nat) (bs : List Byte) : (d.memStore a bs).out = d.out := rfl
@[simp] theorem Dev.memStore_hostMem (d : Dev) (a : Nat) (bs : List Byte) : (d.memStore a bs).hostMem = d.hostMem := rfl
@[simp] theorem Dev.memStore_peat (d : Dev) (a : Nat) (bs : List Byte) : (d.memStore a bs).peat = d.peat := rfl
@[simp] theorem Dev.memStore_ctxs (d : Dev) (a : Nat) (bs : List Byte) : (d.memStore a bs).ctxs = d.ctxs := rfl
@[simp] theorem Dev.memStore_entries (d : Dev) (a : Nat) (bs : List Byte) : (d.memStore a bs).entries = d.entries := rfl
@[simp] theorem Dev.memStore_boxes (d : Dev) (a : Nat) (bs : List Byte) : (d.memStore a bs).boxes = d.boxes := rfl
@[simp] theorem Dev.memStore_stewards (d : Dev) (a : Nat) (bs : List Byte) : (d.memStore a bs).stewards = d.stewards := rfl
@[simp] theorem Dev.memStore_firings (d : Dev) (a : Nat) (bs : List Byte) : (d.memStore a bs).firings = d.firings := rfl
@[simp] theorem Dev.memStore_src (d : Dev) (a : Nat) (bs : List Byte) : (d.memStore a bs).src = d.src := rfl
@[simp] theorem Dev.memStore_dst (d : Dev) (a : Nat) (bs : List Byte) : (d.memStore a bs).dst = d.dst := rfl
@[simp] theorem Dev.memStore_links (d : Dev) (a : Nat) (bs : List Byte) : (d.memStore a bs).links = d.links := rfl
@[simp] theorem Dev.memStore_swc (d : Dev) (a : Nat) (bs : List Byte) : (d.memStore a bs).swc = d.swc := rfl
@[simp] theorem Dev.memStore_evLimit (d : Dev) (a : Nat) (bs : List Byte) : (d.memStore a bs).evLimit = d.evLimit := rfl
@[simp] theorem Dev.memStore_keys (d : Dev) (a : Nat) (bs : List Byte) : (d.memStore a bs).keys = d.keys := rfl
@[simp] theorem Dev.memStore_rings (d : Dev) (a : Nat) (bs : List Byte) : (d.memStore a bs).rings = d.rings := rfl
@[simp] theorem Dev.memStore_flows (d : Dev) (a : Nat) (bs : List Byte) : (d.memStore a bs).flows = d.flows := rfl
@[simp] theorem Dev.memStore_mcs (d : Dev) (a : Nat) (bs : List Byte) : (d.memStore a bs).mcs = d.mcs := rfl
@[simp] theorem Dev.memStore_meters (d : Dev) (a : Nat) (bs : List Byte) : (d.memStore a bs).meters = d.meters := rfl
@[simp] theorem Dev.memStore_moving (d : Dev) (a : Nat) (bs : List Byte) : (d.memStore a bs).moving = d.moving := rfl
@[simp] theorem Dev.memStore_groups (d : Dev) (a : Nat) (bs : List Byte) : (d.memStore a bs).groups = d.groups := rfl
@[simp] theorem Dev.memStore_decims (d : Dev) (a : Nat) (bs : List Byte) : (d.memStore a bs).decims = d.decims := rfl
@[simp] theorem Dev.memStore_bridges (d : Dev) (a : Nat) (bs : List Byte) : (d.memStore a bs).bridges = d.bridges := rfl
@[simp] theorem Dev.memStore_regions (d : Dev) (a : Nat) (bs : List Byte) : (d.memStore a bs).regions = d.regions := rfl
@[simp] theorem Dev.memStore_levels (d : Dev) (a : Nat) (bs : List Byte) : (d.memStore a bs).levels = d.levels := rfl
@[simp] theorem Dev.memStore_cells (d : Dev) (a : Nat) (bs : List Byte) : (d.memStore a bs).cells = d.cells := rfl
@[simp] theorem Dev.memStore_nudge (d : Dev) (a : Nat) (bs : List Byte) : (d.memStore a bs).nudge = d.nudge := rfl
@[simp] theorem Dev.memStore_pwr (d : Dev) (a : Nat) (bs : List Byte) : (d.memStore a bs).pwr = d.pwr := rfl
@[simp] theorem Dev.memStore_rst (d : Dev) (a : Nat) (bs : List Byte) : (d.memStore a bs).rst = d.rst := rfl
@[simp] theorem Dev.memStore_boot (d : Dev) (a : Nat) (bs : List Byte) : (d.memStore a bs).boot = d.boot := rfl
@[simp] theorem Dev.memStore_sec (d : Dev) (a : Nat) (bs : List Byte) : (d.memStore a bs).sec = d.sec := rfl
@[simp] theorem Dev.memStore_frg (d : Dev) (a : Nat) (bs : List Byte) : (d.memStore a bs).frg = d.frg := rfl
@[simp] theorem Dev.memStore_mgt (d : Dev) (a : Nat) (bs : List Byte) : (d.memStore a bs).mgt = d.mgt := rfl

@[simp] theorem Dev.setCtx_regs (d : Dev) (x : Nat) (c : Ctx) : (d.setCtx x c).regs = d.regs := rfl
@[simp] theorem Dev.setCtx_stat (d : Dev) (x : Nat) (c : Ctx) : (d.setCtx x c).stat = d.stat := rfl
@[simp] theorem Dev.setCtx_shelf (d : Dev) (x : Nat) (c : Ctx) : (d.setCtx x c).shelf = d.shelf := rfl
@[simp] theorem Dev.setCtx_snap (d : Dev) (x : Nat) (c : Ctx) : (d.setCtx x c).snap = d.snap := rfl
@[simp] theorem Dev.setCtx_cfg (d : Dev) (x : Nat) (c : Ctx) : (d.setCtx x c).cfg = d.cfg := rfl
@[simp] theorem Dev.setCtx_staged (d : Dev) (x : Nat) (c : Ctx) : (d.setCtx x c).staged = d.staged := rfl
@[simp] theorem Dev.setCtx_held (d : Dev) (x : Nat) (c : Ctx) : (d.setCtx x c).held = d.held := rfl
@[simp] theorem Dev.setCtx_accepted (d : Dev) (x : Nat) (c : Ctx) : (d.setCtx x c).accepted = d.accepted := rfl
@[simp] theorem Dev.setCtx_posted (d : Dev) (x : Nat) (c : Ctx) : (d.setCtx x c).posted = d.posted := rfl
@[simp] theorem Dev.setCtx_stands (d : Dev) (x : Nat) (c : Ctx) : (d.setCtx x c).stands = d.stands := rfl
@[simp] theorem Dev.setCtx_units (d : Dev) (x : Nat) (c : Ctx) : (d.setCtx x c).units = d.units := rfl
@[simp] theorem Dev.setCtx_walks (d : Dev) (x : Nat) (c : Ctx) : (d.setCtx x c).walks = d.walks := rfl
@[simp] theorem Dev.setCtx_waits (d : Dev) (x : Nat) (c : Ctx) : (d.setCtx x c).waits = d.waits := rfl
@[simp] theorem Dev.setCtx_host (d : Dev) (x : Nat) (c : Ctx) : (d.setCtx x c).host = d.host := rfl
@[simp] theorem Dev.setCtx_queues (d : Dev) (x : Nat) (c : Ctx) : (d.setCtx x c).queues = d.queues := rfl
@[simp] theorem Dev.setCtx_cmds (d : Dev) (x : Nat) (c : Ctx) : (d.setCtx x c).cmds = d.cmds := rfl
@[simp] theorem Dev.setCtx_hch (d : Dev) (x : Nat) (c : Ctx) : (d.setCtx x c).hch = d.hch := rfl
@[simp] theorem Dev.setCtx_err (d : Dev) (x : Nat) (c : Ctx) : (d.setCtx x c).err = d.err := rfl
@[simp] theorem Dev.setCtx_time (d : Dev) (x : Nat) (c : Ctx) : (d.setCtx x c).time = d.time := rfl
@[simp] theorem Dev.setCtx_clk (d : Dev) (x : Nat) (c : Ctx) : (d.setCtx x c).clk = d.clk := rfl
@[simp] theorem Dev.setCtx_free (d : Dev) (x : Nat) (c : Ctx) : (d.setCtx x c).free = d.free := rfl
@[simp] theorem Dev.setCtx_out (d : Dev) (x : Nat) (c : Ctx) : (d.setCtx x c).out = d.out := rfl
@[simp] theorem Dev.setCtx_hostMem (d : Dev) (x : Nat) (c : Ctx) : (d.setCtx x c).hostMem = d.hostMem := rfl
@[simp] theorem Dev.setCtx_peat (d : Dev) (x : Nat) (c : Ctx) : (d.setCtx x c).peat = d.peat := rfl
@[simp] theorem Dev.setCtx_memw (d : Dev) (x : Nat) (c : Ctx) : (d.setCtx x c).memw = d.memw := rfl
@[simp] theorem Dev.setCtx_entries (d : Dev) (x : Nat) (c : Ctx) : (d.setCtx x c).entries = d.entries := rfl
@[simp] theorem Dev.setCtx_boxes (d : Dev) (x : Nat) (c : Ctx) : (d.setCtx x c).boxes = d.boxes := rfl
@[simp] theorem Dev.setCtx_stewards (d : Dev) (x : Nat) (c : Ctx) : (d.setCtx x c).stewards = d.stewards := rfl
@[simp] theorem Dev.setCtx_firings (d : Dev) (x : Nat) (c : Ctx) : (d.setCtx x c).firings = d.firings := rfl
@[simp] theorem Dev.setCtx_src (d : Dev) (x : Nat) (c : Ctx) : (d.setCtx x c).src = d.src := rfl
@[simp] theorem Dev.setCtx_dst (d : Dev) (x : Nat) (c : Ctx) : (d.setCtx x c).dst = d.dst := rfl
@[simp] theorem Dev.setCtx_links (d : Dev) (x : Nat) (c : Ctx) : (d.setCtx x c).links = d.links := rfl
@[simp] theorem Dev.setCtx_swc (d : Dev) (x : Nat) (c : Ctx) : (d.setCtx x c).swc = d.swc := rfl
@[simp] theorem Dev.setCtx_evLimit (d : Dev) (x : Nat) (c : Ctx) : (d.setCtx x c).evLimit = d.evLimit := rfl
@[simp] theorem Dev.setCtx_keys (d : Dev) (x : Nat) (c : Ctx) : (d.setCtx x c).keys = d.keys := rfl
@[simp] theorem Dev.setCtx_rings (d : Dev) (x : Nat) (c : Ctx) : (d.setCtx x c).rings = d.rings := rfl
@[simp] theorem Dev.setCtx_flows (d : Dev) (x : Nat) (c : Ctx) : (d.setCtx x c).flows = d.flows := rfl
@[simp] theorem Dev.setCtx_mcs (d : Dev) (x : Nat) (c : Ctx) : (d.setCtx x c).mcs = d.mcs := rfl
@[simp] theorem Dev.setCtx_meters (d : Dev) (x : Nat) (c : Ctx) : (d.setCtx x c).meters = d.meters := rfl
@[simp] theorem Dev.setCtx_moving (d : Dev) (x : Nat) (c : Ctx) : (d.setCtx x c).moving = d.moving := rfl
@[simp] theorem Dev.setCtx_groups (d : Dev) (x : Nat) (c : Ctx) : (d.setCtx x c).groups = d.groups := rfl
@[simp] theorem Dev.setCtx_decims (d : Dev) (x : Nat) (c : Ctx) : (d.setCtx x c).decims = d.decims := rfl
@[simp] theorem Dev.setCtx_bridges (d : Dev) (x : Nat) (c : Ctx) : (d.setCtx x c).bridges = d.bridges := rfl
@[simp] theorem Dev.setCtx_regions (d : Dev) (x : Nat) (c : Ctx) : (d.setCtx x c).regions = d.regions := rfl
@[simp] theorem Dev.setCtx_levels (d : Dev) (x : Nat) (c : Ctx) : (d.setCtx x c).levels = d.levels := rfl
@[simp] theorem Dev.setCtx_cells (d : Dev) (x : Nat) (c : Ctx) : (d.setCtx x c).cells = d.cells := rfl
@[simp] theorem Dev.setCtx_nudge (d : Dev) (x : Nat) (c : Ctx) : (d.setCtx x c).nudge = d.nudge := rfl
@[simp] theorem Dev.setCtx_pwr (d : Dev) (x : Nat) (c : Ctx) : (d.setCtx x c).pwr = d.pwr := rfl
@[simp] theorem Dev.setCtx_rst (d : Dev) (x : Nat) (c : Ctx) : (d.setCtx x c).rst = d.rst := rfl
@[simp] theorem Dev.setCtx_boot (d : Dev) (x : Nat) (c : Ctx) : (d.setCtx x c).boot = d.boot := rfl
@[simp] theorem Dev.setCtx_sec (d : Dev) (x : Nat) (c : Ctx) : (d.setCtx x c).sec = d.sec := rfl
@[simp] theorem Dev.setCtx_frg (d : Dev) (x : Nat) (c : Ctx) : (d.setCtx x c).frg = d.frg := rfl
@[simp] theorem Dev.setCtx_mgt (d : Dev) (x : Nat) (c : Ctx) : (d.setCtx x c).mgt = d.mgt := rfl

end Sys2Proof.Machine
end

