-- ==== Sys2Proof/Laws/Ulfel.lean ====
section
/-! SUPPORT. The frame of an Ulfel instruction: a command that acts on one engine context changes that context alone. -/
namespace Sys2Proof.Machine

/-- A command that acts on a context alone answers that context replaced. -/
theorem lift_setCtx {f : Dev → Dev} {s : State} {x : Nat} {c : Ctx} (h : s.CoreUp) (hf : f s.dev = s.dev.setCtx x c) :
    lift f s = .next { s with dev := s.dev.setCtx x c } := by
  obtain ⟨⟨⟨-, hm, hn, hs⟩, hr⟩, hc⟩ := h
  unfold lift; rw [run_of_up hr hc, carry_exact] <;> simp only [hf]
  · exact hn
  · exact hm
  · exact hs.trans (Dev.summary_congr rfl)

/-- A context after one has been replaced. -/
theorem ctx_setCtx (d : Dev) (x y : Nat) (c : Ctx) : (d.setCtx x c).ctx y = if y = x then c else d.ctx y := by
  exact SMap.get_put _ _ _ _ _

/-- Replacing a context changes that context alone. -/
theorem onlyCtx_setCtx (s : State) (x : Nat) (c : Ctx) : OnlyCtx x s { s with dev := s.dev.setCtx x c } :=
  ⟨rfl, fun y hy => by simp [ctx_setCtx, hy]⟩

/-- An instruction that the context may carry out and whose word is legal is its body. -/
theorem insn_body {s : State} {x : Nat} {srcs : List Nat} (h : s.Issues x srcs) {w : Word} {legal : Ctx → Bool} {body : Ctx → Dev → Dev}
    (hl : legal (s.dev.ctx x) = true) : s.dev.insn x w srcs legal body = body (s.dev.ctx x) s.dev := by
  obtain ⟨-, h1, h2, h3, h4⟩ := h
  unfold Dev.insn
  simp only [h1, h2, hl]
  simp only [Bool.not_true, Bool.or_self, Bool.false_eq_true, if_false, Nat.not_le.2 h3]
  rw [if_neg]
  intro h
  simp only [Bool.and_eq_true, decide_eq_true_eq] at h
  exact absurd (h4 (by simpa using h.1)) (by omega)

/-- Where no loop ends, execution goes on at the next word. -/
theorem loopNext_none (pc : Word) (ls : List LoopLevel) (h : ∀ l ∈ ls, l.stop ≠ pc) : loopNext pc ls = (pc + 4, ls) := by
  cases ls with
  | nil => rfl
  | cons l ls => simp [loopNext, h l (by simp)]

/-- `advance` moves pc on. -/
theorem movesOn_of {c c' d : Ctx} (h1 : c'.pc = d.advance.pc) (h2 : c'.loops = d.advance.loops) (h3 : d.pc = c.pc) (h4 : d.loops = c.loops) :
    MovesOn c c' := by
  unfold Ctx.advance at h1 h2
  rw [h3, h4] at h1 h2
  refine ⟨h1, h2, fun h => ?_⟩
  rw [h1, h2]
  have := loopNext_none c.pc c.loops.reverse (by simpa using h)
  simp [this]

/-- A general register after a write to one. -/
theorem gr_setG (c : Ctx) (m n : Nat) (v : Word) : (c.setG m v).gr n = if n = m ∧ n ≠ 0 then v else c.gr n := by
  unfold Ctx.setG Ctx.gr
  by_cases hm : m = 0
  · subst hm; by_cases hn : n = 0 <;> simp [hn]
  · by_cases hn : n = 0
    · simp [hn]
    · simp [hm, hn, SMap.get_put]

/-- An instruction that writes gd and no other register. -/
theorem gOp_writes {s : State} {x : Nat} {srcs : List Nat} (h : s.Issues x srcs) (w : Word) (lat dd : Nat) (v : Ctx → Word)
    (hv : v ((s.dev.ctx x).spend srcs 1 (if dd = 0 then [] else [(dd, lat)])) = v (s.dev.ctx x)) (o : Host.Outcome State Fault Refusal)
    (ho : o = lift (fun d => d.gOp x w srcs lat dd true v) s) :
    ∃ t, o = .next t ∧ WritesG s x dd srcs (v (s.dev.ctx x)) t := by
  have hf : s.dev.gOp x w srcs lat dd true v = s.dev.setCtx x
     (((s.dev.ctx x).spend srcs 1 (if dd = 0 then [] else [(dd, lat)])).setG dd (v (s.dev.ctx x))).advance := by
    unfold Dev.gOp Dev.ctxOp
    rw [insn_body h rfl]; dsimp only; rw [hv]
  refine ⟨_, ho.trans (lift_setCtx h.1 hf), ?_⟩
  unfold WritesG
  dsimp only
  refine ⟨onlyCtx_setCtx _ _ _, ?_, ?_, ?_, ?_⟩
  · intro n; simp only [ctx_setCtx, if_true]
    exact (gr_setG _ _ _ _)
  · simp only [ctx_setCtx, if_true]
    refine movesOn_of rfl rfl ?_ ?_ <;> unfold Ctx.setG <;> split <;> rfl
  · simp only [ctx_setCtx, if_true, Spends]
    unfold Ctx.advance Ctx.setG; split <;> rfl
  · simp only [ctx_setCtx, if_true]
    unfold Ctx.advance Ctx.setG; split <;> rfl

theorem Completes.of {c : Instr} {s : State} {P Q : State → Prop} (h : ∃ t, exec c s = .next t ∧ P t) (hpq : ∀ t, P t → Q t) : Completes c s Q :=
  let ⟨t, h1, h2⟩ := h; ⟨t, h1, hpq t h2⟩

end Sys2Proof.Machine
end

