-- ==== Sys2Proof/WellFormed.lean ====
section
/-! DEFINITION. Which commands have the form the spec gives them: the lengths of their lists (R48, R81, R99, R110, R440, R428). exec takes
every command; a list of another length is cut or padded (log 2). -/
namespace Sys2Proof

/-- The command has the spec's form. -/
def Instr.wellFormed : Instr → Bool
  | .registerWrite _ _ bytes => [1, 2, 4, 8, 16, 32, 64].contains bytes.length
  | .readClear _ _ size => [1, 2, 4, 8, 16, 32, 64].contains size
  | .unitEvtWrite .. => true
  | .bitAliasAccess .. => true
  | .stagedWriteApply .. => true
  | .commitGo .. => true
  | .commitApply .. => true
  | .glbCommit .. => true
  | .postedWriteComplete .. => true
  | .glbSnapGo .. => true
  | .snapshotComplete => true
  | .cfgScan => true
  | .cfgCrcCapture .. => true
  | .cfgRefWrite .. => true
  | .softReset .. => true
  | .orderEnable .. => true
  | .orderDisable .. => true
  | .orderDrain .. => true
  | .orderReset .. => true
  | .orderNone .. => true
  | .unitStandbyReached .. => true
  | .unitSyncingEntry .. => true
  | .acquisitionComplete .. => true
  | .inputLost .. => true
  | .drainComplete .. => true
  | .drainTimeout .. => true
  | .cabinetWalkStep .. => true
  | .ownerWrite .. => true
  | .eventHoldExpire .. => true
  | .functionLevelReset .. => true
  | .vfEnable .. => true
  | .d3hotEntry .. => true
  | .read .. => true
  | .qread .. => true
  | .write _ ws _ => 1 ≤ ws.length && ws.length ≤ 16
  | .qwrite _ ws _ => 1 ≤ ws.length && ws.length ≤ 16
  | .status => true
  | .tenant .. => true
  | .spiUnknownCommand .. => true
  | .hostBindWrite .. => true
  | .hostT0PathWrite .. => true
  | .queueEnable .. => true
  | .queueDisable .. => true
  | .sqTailWrite .. => true
  | .cqHeadWrite .. => true
  | .eqHeadWrite .. => true
  | .sqPortPost .. => true
  | .cqPortConsume .. => true
  | .eqPortConsume .. => true
  | .userDbWrite .. => true
  | .commandFetch _ ws => ws.length == 16
  | .run _ ws => ws.length == 16
  | .inline _ ws => ws.length == 16
  | .unitop _ ws => ws.length == 16
  | .cmdFence _ ws => ws.length == 16
  | .completionPostDeferred .. => true
  | .hchPtrWrite .. => true
  | .hchPlaybackRead _ block => block.length % 64 == 0
  | .hchRecordWrite .. => true
  | .add .. => true
  | .sub .. => true
  | .and .. => true
  | .or .. => true
  | .xor .. => true
  | .shl .. => true
  | .shr .. => true
  | .sar .. => true
  | .mul .. => true
  | .mulh .. => true
  | .min .. => true
  | .max .. => true
  | .clz .. => true
  | .addi .. => true
  | .andi .. => true
  | .ori .. => true
  | .xori .. => true
  | .lui .. => true
  | .beq .. => true
  | .bne .. => true
  | .blt .. => true
  | .bge .. => true
  | .bltu .. => true
  | .bgeu .. => true
  | .jal .. => true
  | .jr .. => true
  | .loop .. => true
  | .ldw .. => true
  | .ldh .. => true
  | .ldhu .. => true
  | .ldb .. => true
  | .ldbu .. => true
  | .stw .. => true
  | .sth .. => true
  | .stb .. => true
  | .ldv .. => true
  | .stv .. => true
  | .sld .. => true
  | .sst .. => true
  | .stag .. => true
  | .tagmax .. => true
  | .vadd .. => true
  | .vsub .. => true
  | .vmul .. => true
  | .vmac .. => true
  | .vrnd .. => true
  | .vgain .. => true
  | .vabs .. => true
  | .vmax .. => true
  | .vsel .. => true
  | .vsplat .. => true
  | .vcvtf .. => true
  | .vcvti .. => true
  | .vfadd .. => true
  | .vfmul .. => true
  | .vfmac .. => true
  | .uget .. => true
  | .uset .. => true
  | .ucmd .. => true
  | .uwait .. => true
  | .unitOpDone .. => true
  | .uwaitTimeout .. => true
  | .qput .. => true
  | .qget .. => true
  | .qcred .. => true
  | .arm .. => true
  | .waitev .. => true
  | .tickwait .. => true
  | .time .. => true
  | .snap .. => true
  | .nop .. => true
  | .fence .. => true
  | .halt .. => true
  | .wait .. => true
  | .trap .. => true
  | .csrr .. => true
  | .csrw .. => true
  | .xret .. => true
  | .timerExpire .. => true
  | .tickBudgetExpire .. => true
  | .eload .. => true
  | .eloadComplete .. => true
  | .triggerFire .. => true
  | .runStart .. => true
  | .gclSwitch .. => true
  | .gateEntryAdvance .. => true
  | .lcPllTimeout .. => true
  | .linkHoldExpire .. => true
  | .linkDown .. => true
  | .rxFrame _ o _ _ _ _ => 0 < o.length
  | .pauseExpire .. => true
  | .pauseWd .. => true
  | .holdoffExpire .. => true
  | .txEnqueue .. => true
  | .txFrameStart .. => true
  | .txFrameDone .. => true
  | .preemptVerify .. => true
  | .stcRealign .. => true
  | .spqHeadWrite .. => true
  | .ltxTailWrite .. => true
  | .ltxDescriptorDone .. => true
  | .wakePatternHit f => f.all (fun o => 0 < o.length)
  | .tokenEmit .. => true
  | .rxToken .. => true
  | .tokenReturn .. => true
  | .managerElectionTimeout .. => true
  | .ringTokenLoss .. => true
  | .passThrough .. => true
  | .windowStart .. => true
  | .rxBlock .. => true
  | .rxAsync .. => true
  | .echoSend .. => true
  | .rxEcho .. => true
  | .censusStart .. => true
  | .censusPeriodExpire .. => true
  | .rxCensus .. => true
  | .censusReturn .. => true
  | .tableSend .. => true
  | .ringWrap .. => true
  | .ringUnwrap .. => true
  | .switchFrame => true
  | .fdbWrite .. => true
  | .fdbDelete .. => true
  | .fdbLookup .. => true
  | .fdbRead .. => true
  | .fdbFlush .. => true
  | .fdbOpComplete => true
  | .fdbAgeExpire .. => true
  | .rxStreamPacket .. => true
  | .flowHoldExpire .. => true
  | .legDown .. => true
  | .flowPacketRelease .. => true
  | .tickStart .. => true
  | .auditCheck => true
  | .timeSet .. => true
  | .timeStep .. => true
  | .timeCmdApply => true
  | .timeAdjWrite .. => true
  | .stcRead .. => true
  | .servoOfsWrite .. => true
  | .servoRingSample => true
  | .servoHoldover => true
  | .ppsOutEdge => true
  | .ppsOutEnd => true
  | .ppsInEdge .. => true
  | .ppsInRead .. => true
  | .mcsCountRead .. => true
  | .tickSizeChange .. => true
  | .mclkPllTimeout .. => true
  | .mclkLock .. => true
  | .mclkBypass .. => true
  | .mclkHandback .. => true
  | .mcsCalGo .. => true
  | .mcsCalDone .. => true
  | .rateMeterGate .. => true
  | .frameSync .. => true
  | .portBlockTransfer .. => true
  | .apgFrameRead .. => true
  | .groupClkLost .. => true
  | .decimSettled .. => true
  | .bridgeLock .. => true
  | .regionSwap .. => true
  | .swapCaptureDone .. => true
  | .regionWdataWrite .. => true
  | .loudnessRestart .. => true
  | .histogramClear .. => true
  | .pwrCmdActive .. => true
  | .pwrCmdQuiet .. => true
  | .pwrCmdRetain .. => true
  | .pwrCmdListen .. => true
  | .entryCommit .. => true
  | .wakeIn .. => true
  | .pcieWake => true
  | .wakeTimerExpire => true
  | .mspiWake => true
  | .retainExit => true
  | .listenExit => true
  | .pwrWakeAck .. => true
  | .domainPowerRequest .. => true
  | .domainPowerDone .. => true
  | .oppRequest .. => true
  | .oppFreqSwitch => true
  | .oppVoutTaken .. => true
  | .oppPowerGood .. => true
  | .oppPowerGoodTimeout => true
  | .errAck .. => true
  | .errRestart .. => true
  | .errRestartDone => true
  | .logDeferredAppend => true
  | .peatRead .. => true
  | .peatWrite .. => true
  | .peatAccessDone => true
  | .keyLoad .. => true
  | .keyErase .. => true
  | .keyGenerate .. => true
  | .keyCmdDone => true
  | .secLockWrite .. => true
  | .fuseProgram .. => true
  | .secMinSvnWrite .. => true
  | .debugOpen .. => true
  | .debugEraseDone .. => true
  | .regacc => true
  | .fragalStart .. => true
  | .fragalArmComplete => true
  | .fragalStop .. => true
  | .checkpoint .. => true
  | .checkpointPeriodExpire => true
  | .checkpointDone => true
  | .digestIntervalClose => true
  | .fragalReplayStart _ _ chunks => chunks.all (fun c => c.length == 4096)
  | .frgHostptrWrite .. => true
  | .frgOcbDataAccess .. => true
  | .traceTailDone => true
  | .supplyTrip => true
  | .resetNAssert => true
  | .resetRelease .. => true
  | .resetSequenceComplete => true
  | .perstAssert => true
  | .perstRelease => true
  | .bootImageReadDone image => 256 ≤ image.length
  | .loadTableEntry .. => true
  | .bootComplete => true
  | .thermSample .. => true
  | .thermShutdown => true
  | .thermRecover .. => true
  | .gpioEdge .. => true
  | .gpioSet .. => true
  | .gpioClr .. => true
  | .pmbSendByte .. => true
  | .pmbWriteByte .. => true
  | .pmbWriteWord .. => true
  | .pmbReadByte .. => true
  | .pmbReadWord .. => true
  | .pmbXferDone .. => true
  | .pcsLock .. => true
  | .tokenMiss .. => true
  | .rxTable .. => true
  | .vddioSupplyLoss .. => true
  | .vddioSupplyReturn .. => true
  | .registerWindowDone .. => true
  | .fuseProgramDone => true
  | .replayRecordRelease more => more.all (fun c => c.length == 4096)
  | .tapTransition .. => true

end Sys2Proof
end

