-- ==== Sys2Proof/Tests/Slice0.lean ====
section
/-! SUPPORT. The tests of this package: for each statement of Certificates, states and operands that meet the hypotheses of its clauses
(so that no hypothesis is empty), with what the command is found to do there; the well-formedness check refusing an ill-formed term for
each of its conditions; no word spelling a command, since the opcode table gives no bits. Expected values are those of the spec's rules. -/
namespace Sys2Proof.Tests
open Sys2Proof.Machine

-- One theorem after another: many evaluations in the kernel at once would take more threads than the memory has room for.
set_option Elab.async false

/-- A state made from the one after reset, with the rising edges of the device summary signalled. -/
def st (f : Dev → Dev) : State :=
  let d := f State.reset.dev
  { State.reset with dev := { d with host := { d.host with sumPrev := d.summary } } }

/-- A next state that passes. -/
def passes (P : State → Bool) : Host.Outcome State Fault Refusal → Bool
  | .next t => P t
  | _ => false

/-- The command answers a next state that passes. -/
def ok (c : Instr) (s : State) (P : State → Bool) : Bool := passes P (exec c s)

/-- An engine context that may issue. -/
def eng (x : Nat) (f : Ctx → Ctx) : State := st (fun d => d.setCtx x (f { running := true, ended := false, budget := 1000 }))

/-- Some registers of a context. -/
def Ctx.with (c : Ctx) (g : List (Nat × Word)) : Ctx := g.foldl (fun c e => c.setG e.1 e.2) c

/-- Fields of registers written one after another. -/
def wrs (fs : List (Fld × Nat)) (d : Dev) : Dev := fs.foldl (fun d e => d.wr e.1 e.2) d

/-- The device with every domain powered and the TAP open. -/
def powered (f : Dev → Dev) : State := st (fun d => f (wrs [(F.PWR_DOMAIN_STATE_ON, 0x3FFFF), (F.SEC_STATUS_TAP_OPEN, 1)] d))

/-- PARENT reads 0 after reset. -/
theorem parent_reset (v : Nat) (h : v < 0x1000) : bits (resetWord (A.UNIT_LINK v)) 0 12 = 0 := by
  have e : A.UNIT_LINK v = 0x10000 + v * 0x40 + 0xC := by simp only [A.UNIT_LINK, Base.UNIT]
  have hb : blockAt (A.UNIT_LINK v) = if (classOf v).isSome then some (.unit v, 0xC) else none := by
    unfold blockAt
    rw [e, show (0x10000 + v * 0x40 + 0xC - 0x10000) / 0x40 = v by omega, show (0x10000 + v * 0x40 + 0xC) % 0x40 = 0xC by omega]
    simp only [show ¬ (0x10000 + v * 0x40 + 0xC < 0x10000) by omega, show 0x10000 + v * 0x40 + 0xC < 0x50000 by omega, if_true]
    repeat rw [if_neg (by omega)]
    rw [if_neg (by simp)]
  have hr : ∃ r, findRow (Block.unit v).rows 0xC = some r ∧ fieldsReset r.1.fields = 0x0FFF0000 := by
    unfold Block.rows
    exact ⟨_, rfl, by decide⟩
  obtain ⟨⟨r, i⟩, hr, hf⟩ := hr
  unfold resetWord
  rw [hb]
  by_cases hc : (classOf v).isSome
  · simp only [hc, if_true, show A.UNIT_LINK v < 0x600000 by omega, hr, hf]
    simp [instanceReset]; decide
  · simp [hc, show A.UNIT_LINK v < 0x600000 by omega]; decide

/-- Every parent written is a cabinet. -/
def cabs (d : Dev) : Bool := d.regs.all fun e => e.1 % 0x40 != 0xC || 0x50000 ≤ e.1 || isCabinet (bits e.2 0 12)

theorem parent_of_cabs (d : Dev) (h : cabs d = true) (v : Nat) (hv : v < 0x1000) : isCabinet (d.parent v) = true := by
  have hm : A.UNIT_LINK v % 0x40 = 0xC := by simp only [A.UNIT_LINK, Base.UNIT]; omega
  have hlt : ¬ 0x50000 ≤ A.UNIT_LINK v := by simp only [A.UNIT_LINK, Base.UNIT]; omega
  have key : ∀ m : SMap Word, m.all (fun e => e.1 % 0x40 != 0xC || 0x50000 ≤ e.1 || isCabinet (bits e.2 0 12)) = true →
      isCabinet (bits (SMap.get resetWord m (A.UNIT_LINK v)) 0 12) = true := by
    intro m
    induction m with
    | nil => intro _; rw [SMap.get, parent_reset v hv]; decide
    | cons e m ih =>
      intro h
      rw [List.all_cons, Bool.and_eq_true] at h
      unfold SMap.get
      split
      · rename_i he
        have := h.1
        rw [he, hm] at this
        simpa [hlt] using this
      · exact ih h.2
  exact key d.regs h

theorem quiet_of (s : State) (h : s.CoreUp ∧ s.dev.staged = [] ∧ s.dev.held = [] ∧ s.dev.accepted = [] ∧ s.dev.stands = [] ∧
    s.dev.walks = [] ∧ s.dev.waits = [] ∧ cabs s.dev = true) : s.Quiet :=
  ⟨h.1, h.2.1, h.2.2.1, h.2.2.2.1, h.2.2.2.2.1, h.2.2.2.2.2.1, h.2.2.2.2.2.2.1, parent_of_cabs _ h.2.2.2.2.2.2.2⟩

theorem test_idle_time : passes (fun t => t.dev.time.ns == 1) (step State.reset) = true := by decide +kernel

/-- Obligations.StepTakesTheFrontCommand: states and operands that meet its hypotheses. -/
theorem wit_StepTakesTheFrontCommand :
    passes (fun t => t.pending == [.status]) (step { State.reset with pending := [.status, .status] }) = true := by decide +kernel

/-- A cycle at the end of a second, with TIME_ADJ at −1 × 2⁻³² ns (R293). -/
def lastNs : State :=
  st (fun d => { d.wr F.TIME_ADJ_ADJ 0xFFFFFFFF with time := { d.time with ns := 999999999, frac := 0xFFFFFFFF } })

/-- Obligations.IdleStepCountsOneCycle: states and operands that meet its hypotheses. -/
theorem wit_IdleStepCountsOneCycle :
    lastNs.pending = [] ∧ lastNs.dev.inReset = false ∧ lastNs.dev.island 3 = true ∧ lastNs.dev.time.ns < 1000000000 ∧
    passes (fun t => (t.dev.time.sec, t.dev.time.ns, t.dev.time.frac) == (1, 0, 0xFFFFFFFE)) (step lastNs) = true := by
  decide +kernel

/-- Obligations.StepKeepsAtRest: states and operands that meet its hypotheses. -/
theorem wit_StepKeepsAtRest : State.reset.AtRest := by unfold State.AtRest; decide +kernel

/-- A programming of the fuses that ends (R430). -/
def fusing : State :=
  { st (fun d => { d with sec := { d.sec with fusing := true } }) with pending := [.fuseProgramDone] }

/-- Obligations.FusesAreProgrammedOnce: states and operands that meet its hypotheses. -/
theorem wit_FusesAreProgrammedOnce : fusing.fuses.programmed = false ∧
    passes (fun t => t.fuses == { programmed := true, hash := List.replicate 8 0 }) (step fusing) = true := by decide +kernel

/-! ### Ulfel: integer instructions, branches, loops (R121–R125) -/

/-- What register 3 of a context holds, with pc moved on by a word. -/
def g3 (x : Nat) (v : Word) (t : State) : Bool := (t.dev.ctx x).gr 3 == v && (t.dev.ctx x).pc == 4

/-- Two registers of the last thread and of the last signal engine: the largest and the smallest number. -/
def ints (x : Nat) : State := eng x (fun c => Ctx.with c [(1, 0x7FFFFFFF), (2, 0x80000000)])

/-- Obligations.IntInstructionsWriteTheirResult: states and operands that meet its hypotheses. -/
theorem wit_IntInstructions :
    (ints 95).Issues 95 [1, 2] ∧ (ints 63).Issues 63 [1, 2] ∧
    (ok (.add 95 3 1 2 0) (ints 95) (g3 95 0xFFFFFFFF) &&
     ok (.sub 63 3 1 2 0) (ints 63) (g3 63 0xFFFFFFFF) &&
     ok (.and 95 3 1 2 0) (ints 95) (g3 95 0) &&
     ok (.or 95 3 1 2 0) (ints 95) (g3 95 0xFFFFFFFF) &&
     ok (.xor 95 3 1 1 0) (ints 95) (g3 95 0) &&
     ok (.mul 95 3 1 1 0) (ints 95) (g3 95 1) &&
     ok (.mulh 95 3 1 2 0) (ints 95) (g3 95 0xC0000000) &&
     ok (.min 95 3 1 2 0) (ints 95) (g3 95 0x80000000) &&
     ok (.max 95 3 1 2 0) (ints 95) (g3 95 0x7FFFFFFF) &&
     ok (.shl 95 3 1 1 0) (ints 95) (g3 95 0x80000000) &&
     ok (.shr 95 3 2 1 0) (ints 95) (g3 95 1) &&
     ok (.sar 95 3 2 1 0) (ints 95) (g3 95 0xFFFFFFFF)) = true := by
  unfold State.Issues State.CoreUp State.Up State.AtRest; decide +kernel

/-- Obligations.ImmediateInstructionsWriteTheirResult: states and operands that meet its hypotheses. -/
theorem wit_ImmediateForms :
    (ints 95).Issues 95 [1, 0] ∧ (ints 95).Issues 95 [] ∧
    (ok (.shl 95 3 1 0 (31#5 ++ 1#1)) (ints 95) (g3 95 0x80000000) &&
     ok (.shr 95 3 2 0 (31#5 ++ 1#1)) (ints 95) (g3 95 1) &&
     ok (.sar 95 3 2 0 (4#5 ++ 1#1)) (ints 95) (g3 95 0xF8000000) &&
     ok (.clz 95 3 1 0 0) (ints 95) (g3 95 1) &&
     ok (.clz 95 3 4 0 0) (ints 95) (g3 95 32) &&
     ok (.addi 95 3 1 0xFFFF) (ints 95) (g3 95 0x7FFFFFFE) &&
     ok (.andi 95 3 1 0x8000) (ints 95) (g3 95 0x7FFF8000) &&
     ok (.ori 95 3 2 1) (ints 95) (g3 95 0x80000001) &&
     ok (.xori 95 3 2 0xFFFF) (ints 95) (g3 95 0x7FFFFFFF) &&
     ok (.lui 95 3 0 0x8001) (ints 95) (g3 95 0x80010000) &&
     ok (.addi 95 0 1 1) (ints 95) (fun t => (t.dev.ctx 95).gr 0 == 0)) = true := by
  unfold State.Issues State.CoreUp State.Up State.AtRest; decide +kernel

/-- A thread at 0x100 inside a loop, with an address of an instruction in g4. -/
def looping : State :=
  eng 64 (fun c => { Ctx.with c [(1, 0x7FFFFFFF), (2, 0x80000000), (4, 0x3FFFC)] with
    pc := 0x100, loops := [{ count := 2, start := 0x100, stop := 0x110 }] })

/-- Where a thread goes. -/
def pcAt (v : Word) (t : State) : Bool := (t.dev.ctx 64).pc == v

/-- Obligations.BranchesAndJumpsGoToTheirTarget: states and operands that meet its hypotheses. -/
theorem wit_Branches :
    looping.Issues 64 [1, 2] ∧ looping.Issues 64 [4] ∧ (looping.dev.ctx 64).endsBody = false ∧
    ((looping.dev.ctx 64).gr 4).toNat < (looping.dev.ctx 64).limit 64 ∧
    (ok (.beq 64 1 1 4) looping (fun t => pcAt 0x110 t && (t.dev.ctx 64).loops.length == 1 && (t.dev.ctx 64).cycles == 3) &&
     ok (.beq 64 1 2 4) looping (fun t => pcAt 0x104 t && (t.dev.ctx 64).cycles == 1) &&
     ok (.bne 64 1 2 0xFFFF) looping (fun t => pcAt 0xFC t && (t.dev.ctx 64).loops.isEmpty) &&
     ok (.blt 64 2 1 2) looping (pcAt 0x108) &&
     ok (.blt 64 1 2 2) looping (pcAt 0x104) &&
     ok (.bge 64 1 2 2) looping (pcAt 0x108) &&
     ok (.bltu 64 1 2 2) looping (pcAt 0x108) &&
     ok (.bgeu 64 1 2 2) looping (pcAt 0x104) &&
     ok (.jal 64 0x3FFFFC0) looping (fun t => pcAt 0 t && (t.dev.ctx 64).gr 31 == 0x104) &&
     ok (.jr 64 5 4 0 0) looping (fun t => pcAt 0x3FFFC t && (t.dev.ctx 64).gr 5 == 0x104)) = true := by
  unfold State.Issues State.CoreUp State.Up State.AtRest; decide +kernel

/-- Obligations.LoopOpensALevel: states and operands that meet its hypotheses. -/
theorem wit_Loop :
    looping.Issues 64 [1] ∧ (looping.dev.ctx 64).loops.length < 2 ∧ (looping.dev.ctx 64).endsBody = false ∧
    (0x100 : Nat) + 4 * 3 < (looping.dev.ctx 64).limit 64 ∧
    (ok (.loop 64 0 1 3) looping (fun t => pcAt 0x104 t && (t.dev.ctx 64).loops.map (·.stop) == [0x110, 0x10C]) &&
     ok (.loop 64 0 3 3) looping (fun t => pcAt 0x110 t && (t.dev.ctx 64).loops.length == 1)) = true := by
  unfold State.Issues State.CoreUp State.Up State.AtRest; decide +kernel

/-! ### Loads, stores, samples (R126–R130) -/

/-- The last word of data memory of thread 0 and of signal engine 63, and addresses there. -/
def stored (x : Nat) : State :=
  let top : Nat := if x < 64 then 0x30000 else 0x100000
  let s := eng x (fun c => { Ctx.with c [(1, BitVec.ofNat 32 (top - 4)), (2, 0x84838281), (4, BitVec.ofNat 32 (top - 16))] with
    v := [(20, 0x11223344), (23, 0x55667788)] })
  { s with mem := [(engineBase x + top - 4, 0x91), (engineBase x + top - 1, 0x82)] }

/-- Obligations.LoadsReadDataMemory: states and operands that meet its hypotheses. -/
theorem wit_Loads :
    (stored 64).Issues 64 [1] ∧ inData 64 0xFFFFC 4 = true ∧ inData 64 0xFFFFF 1 = true ∧
    (ok (.ldw 64 3 1 0) (stored 64) (g3 64 0x82000091) &&
     ok (.ldh 64 3 1 2) (stored 64) (g3 64 0xFFFF8200) &&
     ok (.ldhu 64 3 1 2) (stored 64) (g3 64 0x8200) &&
     ok (.ldb 64 3 1 0) (stored 64) (g3 64 0xFFFFFF91) &&
     ok (.ldbu 64 3 1 3) (stored 64) (g3 64 0x82)) = true := by
  unfold State.Issues State.CoreUp State.Up State.AtRest; decide +kernel

/-- Obligations.StoresWriteOnlyTheirBytes: states and operands that meet its hypotheses. -/
theorem wit_Stores :
    (stored 64).Issues 64 [1, 2] ∧ (stored 63).Issues 63 [4, Rk.v 5] ∧ isSignal 63 = true ∧ inData 63 0x2FFF0 16 = true ∧
    (ok (.stw 64 2 1 0) (stored 64) (fun t => t.mem == [(0xCFFFFC, 0x81), (0xCFFFFD, 0x82), (0xCFFFFE, 0x83), (0xCFFFFF, 0x84)]) &&
     ok (.sth 64 2 1 2) (stored 64) (fun t => t.mem == [(0xCFFFFC, 0x91), (0xCFFFFE, 0x81), (0xCFFFFF, 0x82)]) &&
     ok (.stb 64 2 1 3) (stored 64) (fun t => t.mem == [(0xCFFFFC, 0x91), (0xCFFFFF, 0x81)]) &&
     ok (.stv 63 5 4 0) (stored 63) (fun t => (List.range 4).map (fun i => memByte t.mem (engineBase 63 + 0x2FFF0 + 4 * i)) == [0x44, 0, 0, 0x88])) = true := by
  unfold State.Issues State.CoreUp State.Up State.AtRest; decide +kernel

/-- Signal engine 0 in the last period of its tick, with samples of the last four input channels. -/
def sampled : State :=
  let s := eng 0 (fun c => { Ctx.with c [(1, 0x7FC)] with
    v := [(20, 7)], p := [(1, 9), (2, 0xF)], t := [(4, 0), (5, 2), (7, 4), (8, 3)] })
  { s with dev := { s.dev with dst := [((0x1A000 + 252) * 64 + 7, { v := 5, tag := 0 }), ((0x1A000 + 255) * 64 + 7, { v := 6, tag := 4 })] } }

/-- Obligations.SampleInstructionsComplete: states and operands that meet its hypotheses. -/
theorem wit_Samples :
    isSignal 0 = true ∧ sampled.Issues 0 [1, Rk.v 5, Rk.tag 1] ∧ sampled.Issues 0 [Rk.tag 1, Rk.tag 2] ∧
    sampleOk (sampled.dev.ctx 0) 0x7FC = true ∧ (stored 63).Issues 63 [4] ∧
    (ok (.ldv 63 6 4 0) (stored 63) (fun t => (t.dev.ctx 63).lane 6 3 == 0x82000091) &&
     ok (.sld 0 3 1 3 1) sampled (fun t => let c := t.dev.ctx 0
      (c.lane 3 0, c.lane 3 1, c.lane 3 3, c.tag 3 0, c.tag 3 3, c.pred 3, c.gr 1) == (5, 0, 6, 0, 4, 9, 0x800)) &&
     ok (.sst 0 5 1 1 2) sampled (fun t => let c := t.dev.ctx 0
      SMap.get (fun _ => {}) c.outNow (252 * 64 + 7) == { v := 7, tag := 0 } && c.gr 1 == 0x8FC) &&
     ok (.stag 0 2 0 1 4) sampled (fun t => (t.dev.ctx 0).tag 2 0 == 4 && (t.dev.ctx 0).tag 2 1 == (sampled.dev.ctx 0).tag 2 1)) = true := by
  unfold State.Issues State.CoreUp State.Up State.AtRest; decide +kernel

/-- Obligations.TagmaxFoldsInAnyOrder: states and operands that meet its hypotheses. -/
theorem wit_Tagmax :
    sampled.Issues 0 [Rk.tag 1, Rk.tag 2] ∧ (∀ i, i < 4 → (sampled.dev.ctx 0).tag 1 i < 5 ∧ (sampled.dev.ctx 0).tag 2 i < 5) ∧
    [0, 2, 4, 1].Perm [4, 1, 0, 2] ∧
    ok (.tagmax 0 3 1 2 0) sampled (fun t => let c := t.dev.ctx 0
      (c.tag 3 0, c.tag 3 1, c.tag 3 3, c.pred 3) == (3, 2, 4, 9)) = true := by
  unfold State.Issues State.CoreUp State.Up State.AtRest; decide +kernel

/-! ### Vector instructions (R119, R120, R131–R133) -/

/-- v1: the largest, the smallest, one half, 1 ulp; v2: one half, the smallest, minus one half, one half; p1 masks lane 3; g2 names a
level block. -/
def vecs : State :=
  eng 0 (fun c => { Ctx.with c [(1, 9), (2, 0x10000)] with
    v := [(4, 0x7FFFFFFF), (5, 0x80000000), (6, 0x40000000), (7, 1), (8, 0x40000000), (9, 0x80000000), (10, 0xC0000000), (11, 0x40000000)],
    a := [(0, 0x7FFFFFFFFFFFFFFF), (1, 0xFFFFFFFFFFC00000)], p := [(1, 7)], t := [(7, 2)] })

/-- The lanes of v3 and VSTAT. -/
def v3 (ls : List Word) (f : Nat) (t : State) : Bool :=
  let c := t.dev.ctx 0
  (List.range 4).map (c.lane 3) == ls && c.vstat == f && c.pc == 4

/-- Obligations.VectorFixedPointWritesLanes: states and operands that meet its hypotheses. -/
theorem wit_VectorFixedPoint :
    vecLegal 0 0 = true ∧ vecLegal 0 0x30 = true ∧ vImm 0x30 = 0 ∧ vPe 0x30 = true ∧ vecs.Issues 0 [Rk.v 1, Rk.v 2] ∧
    vecs.Issues 0 [Rk.v 1, Rk.v 2, Rk.tag 1] ∧ vecs.Issues 0 [1] ∧
    (ok (.vadd 0 3 1 2 0) vecs (v3 [0x7FFFFFFF, 0x80000000, 0, 0x40000001] 1) &&
     ok (.vadd 0 3 1 2 0x30) vecs (v3 [0x7FFFFFFF, 0x80000000, 0, 0] 1) &&
     ok (.vsub 0 3 1 2 0) vecs (v3 [0x3FFFFFFF, 0, 0x7FFFFFFF, 0xC0000001] 1) &&
     ok (.vmul 0 3 1 2 0) vecs (v3 [0x40000000, 0x7FFFFFFF, 0xE0000000, 1] 1) &&
     ok (.vmax 0 3 1 2 0) vecs (v3 [0x7FFFFFFF, 0x80000000, 0x40000000, 0x40000000] 0) &&
     ok (.vabs 0 3 1 0 0) vecs (v3 [0x7FFFFFFF, 0x7FFFFFFF, 0x40000000, 1] 1) &&
     ok (.vsplat 0 3 1 0 0) vecs (v3 [9, 9, 9, 9] 0) &&
     ok (.vsel 0 3 1 2 0x30) vecs (v3 [0x7FFFFFFF, 0x80000000, 0x40000000, 0x40000000] 0)) = true := by
  unfold State.Issues State.CoreUp State.Up State.AtRest; decide +kernel

/-- Obligations.AccumulatorInstructionsComplete: states and operands that meet its hypotheses. -/
theorem wit_Accumulators :
    vecs.Issues 0 [Rk.v 1, Rk.v 2, Rk.acc 0] ∧ vecs.Issues 0 [Rk.mac 0, Rk.acc 0] ∧ vImm 8 = 8 ∧
    (ok (.vmac 0 0 1 2 0) vecs (fun t => (t.dev.ctx 0).acc 0 0 == 0x7FFFFFFFFFFFFFFF && (t.dev.ctx 0).acc 0 1 == 0x3FFFFFFFC00000 &&
      (t.dev.ctx 0).vstat == 2) &&
     ok (.vmac 0 0 1 2 8) vecs (fun t => (t.dev.ctx 0).acc 0 1 == 0x40000000000000 && (t.dev.ctx 0).vstat == 0) &&
     ok (.vrnd 0 3 0 0 0) vecs (v3 [0x7FFFFFFF, 0, 0, 0] 1) &&
     ok (.vrnd 0 3 0 0 9) vecs (fun t => v3 [0x7FFFFFFF, 0xFFFFFFFF, 0, 0] 1 t && (t.dev.ctx 0).acc 0 0 == 0)) = true := by
  unfold State.Issues State.CoreUp State.Up State.AtRest; decide +kernel

/-- v1: 1.0, 2.0, the smallest normal, infinity; v2: 1.0, one half, itself, minus infinity; v3: 1.0. -/
def floats : State :=
  eng 0 (fun c => { c with
    v := [(4, 0x3F800000), (5, 0x40000000), (6, 0x00800000), (7, 0x7F800000), (8, 0x3F800000), (9, 0x3F000000), (10, 0x00800000), (11, 0xFF800000),
          (12, 0x3F800000), (13, 0x3F800000)] })

/-- Obligations.VectorFloatingPointWritesLanes: states and operands that meet its hypotheses. -/
theorem wit_VectorFloatingPoint :
    floats.Issues 0 [Rk.v 1, Rk.v 2, Rk.v 3] ∧
    (ok (.vfadd 0 3 1 2 0) floats (v3 [0x40000000, 0x40200000, 0x01000000, 0x7FC00000] 4) &&
     ok (.vfmul 0 3 1 2 0) floats (v3 [0x3F800000, 0x3F800000, 0, 0xFF800000] 16) &&
     ok (.vfmac 0 3 1 2 0) floats (fun t => (t.dev.ctx 0).lane 3 0 == 0x40000000 && (t.dev.ctx 0).lane 3 1 == 0x40000000) &&
     ok (.vcvtf 0 3 1 0 0) vecs (v3 [0x3F800000, 0xBF800000, 0x3F000000, 0x30000000] 0) &&
     ok (.vcvti 0 3 2 0 0) floats (v3 [0x7FFFFFFF, 0x40000000, 0, 0x80000000] 1)) = true := by
  unfold State.Issues State.CoreUp State.Up State.AtRest; decide +kernel

/-- A level block: lane 0 at -24.0 that stays, lane 1 that reaches its target, lane 2 that goes down, lane 3 that stays. -/
def leveled : State :=
  let w (i : Nat) (v : Word) : List Host.Cell := ((wordBytes v).zipIdx.map (fun b => (0x1010000 + 4 * i + b.2, b.1))).filter (fun e => e.2 != 0)
  { vecs with mem := w 0 0xE8000000 ++ w 1 0x00FFFFFF ++ w 2 0x01000000 ++ w 5 0x00000010 ++ w 6 0xFFFFFFFF ++ w 9 0x01000000 ++ w 10 0 }

/-- Obligations.VgainRampsItsLevels: states and operands that meet its hypotheses. -/
theorem wit_Vgain :
    leveled.Issues 0 [Rk.v 1, 2] ∧ inData 0 0x10000 64 = true ∧ engineBase 0 = 0x1000000 ∧
    (∀ i, i < 4 → -2147483648 ≤ (memWordAt leveled.mem (0x1010000 + 4 * i)).toInt + (memWordAt leveled.mem (0x1010010 + 4 * i)).toInt ∧
      (memWordAt leveled.mem (0x1010000 + 4 * i)).toInt + (memWordAt leveled.mem (0x1010010 + 4 * i)).toInt ≤ 2147483647) ∧
    ok (.vgain 0 3 1 2 0) leveled (fun t => (List.range 8).map (fun i => memWordAt t.mem (0x1010000 + 4 * i)) ==
      [0xE8000000, 0x01000000, 0x00FFFFFF, 0, 0, 0, 0xFFFFFFFF, 0]) = true := by
  unfold State.Issues State.CoreUp State.Up State.AtRest; decide +kernel

/-! ### Exceptions, unit and queue instructions, events, system instructions (R117, R134–R150) -/

/-- A thread and a signal engine with a handler; g1 misaligned, g2 outside data memory, g4 a sample address of another tick. -/
def handled (x : Nat) : State := eng x (fun c => { Ctx.with c [(1, 0x40001), (2, 0x200000), (4, 0x3F00)] with excVec := 0x40 })

/-- The handler runs for a cause, with this detail. -/
def inHandler (x code : Nat) (info : Word) (t : State) : Bool :=
  let c := t.dev.ctx x
  (c.pc, c.excCause, c.excInfo, c.excAddr, c.excActive) == (0x40, code, info, 0, true) && t.mem.isEmpty

/-- Obligations.ExceptionsEnterTheHandler: states and operands that meet its hypotheses. -/
theorem wit_Exceptions :
    (handled 64).Issues 64 [1, 2] ∧ (handled 0).Issues 0 [4] ∧ ((handled 64).dev.ctx 64).hasHandler ∧
    ((handled 64).dev.ctx 64).endsBody = false ∧ (handled 64).dev.inWindow 64 0x200000 = false ∧ inData 64 0x200000 4 = false ∧
    sampleOk ((handled 0).dev.ctx 0) 0x3F00 = false ∧
    (ok (.ldw 64 3 1 0) (handled 64) (inHandler 64 2 0x40001) &&
     ok (.stw 64 3 1 1) (handled 64) (inHandler 64 2 0x40002) &&
     ok (.ldw 64 3 2 0) (handled 64) (inHandler 64 3 0x200000) &&
     ok (.jr 64 3 1 0 0) (handled 64) (inHandler 64 2 0x40001) &&
     ok (.jal 64 0x3FFFFFF) (handled 64) (inHandler 64 3 0xFFFFFFFC) &&
     ok (.beq 64 0 0 0x8000) (handled 64) (inHandler 64 3 0xFFFE0000) &&
     ok (.add 64 3 1 2 1) (handled 64) (inHandler 64 1 0x04611020) &&
     ok (.sld 64 3 1 1 0) (handled 64) (fun t => (t.dev.ctx 64).excCause == 1) &&
     ok (.vadd 64 3 1 2 0) (handled 64) (fun t => (t.dev.ctx 64).excCause == 1) &&
     ok (.uget 0 3 1 0) (handled 0) (fun t => (t.dev.ctx 0).excCause == 1) &&
     ok (.sld 0 3 4 1 0) (handled 0) (inHandler 0 3 0x3F00)) = true := by
  unfold State.Issues Ctx.hasHandler State.CoreUp State.Up State.AtRest; decide +kernel

/-- Thread 0 of tenant 0, or of tenant 5 that owns nothing, with the ID of link 0 in g1. -/
def units (t : Nat) (w : Wait) : State := eng 64 (fun c => { Ctx.with c [(1, 0x010), (2, 7)] with tenant := t, wait := w })

/-- Obligations.UnitInstructionsComplete: states and operands that meet its hypotheses. -/
theorem wit_UnitInstructions :
    (units 0 .none).Issues 64 [1, 2] ∧ (units 0 .none).dev.unitAddr 0 0x010 4 = (0, 0x10404) ∧
    (units 0 .none).dev.unitAddr 0 0x010 0x14 = (0, 0x10414) ∧ (units 0 .none).dev.postWaits 0x10414 = false ∧
    (units 0 .none).CoreUp ∧ (classOf 0x010).isSome = true ∧
    (ok (.uget 64 3 1 4) (units 0 .none) (fun t => (t.dev.ctx 64).wait == .unitDone (some (3, 0)) 0x300) &&
     ok (.uset 64 2 1 0x14) (units 0 .none) (fun t => bits (t.dev.reg (A.UNIT_EVT_EN 0x010)) 0 3 == 7) &&
     ok (.ucmd 64 3 1 1) (units 0 .none) (fun t => match (t.dev.ctx 64).wait with
      | .unitDone (some (3, _)) _ => true | _ => false) &&
     ok (.uwait 64 3 1 0) (units 0 .none) (fun t => (t.dev.ctx 64).wait == .unitDone (some (3, 0)) 0x300) &&
     ok (.uwait 64 3 1 0x13) (units 0 .none) (fun t => (t.dev.ctx 64).wait == .state 3 0x010 3 1) &&
     ok (.unitOpDone 64) (units 0 (.unitDone (some (3, 8)) 0x305)) (fun t => g3 64 8 t && (t.dev.ctx 64).uresult == 0x305) &&
     ok (.uwaitTimeout 64) (units 0 (.state 3 0x010 3 1)) (fun t => g3 64 0x80000000 t && (t.dev.ctx 64).uresult == 0x80000300)) = true := by
  unfold State.Issues State.CoreUp State.Up State.AtRest; decide +kernel

/-- Thread 0 with a handler, waiting for its register window. -/
def window (w : Wait) : State := eng 64 (fun c => { c with excVec := 0x40, wait := w })

/-- Obligations.RegisterWindowAccessEnds: states and operands that meet its hypotheses. -/
theorem wit_RegisterWindow :
    (window (.load 3 0 4 false)).CoreUp ∧
    ((window (.load 3 0 4 false)).dev.readRequest ⟨[], {}⟩ .window 0 4).2 = some [0x4E, 0xB0, 0x16, 0x96] ∧
    ((window (.load 3 0x5FFF000 4 false)).dev.readRequest ⟨[], {}⟩ .window 0x5FFF000 4).2 = none ∧
    (((window (.load 3 0x5FFF000 4 false)).dev.readRequest ⟨[], {}⟩ .window 0x5FFF000 4).1.ctx 64 =
      (window (.load 3 0x5FFF000 4 false)).dev.ctx 64) ∧
    (let w := (window (.store A.GPIO_SET [1, 0, 0, 0])).dev.writeRequest ⟨[], {}⟩ .window A.GPIO_SET [1, 0, 0, 0]
     w.2 = true ∧ w.1.ctx 64 = (window (.store A.GPIO_SET [1, 0, 0, 0])).dev.ctx 64) ∧
    (ok (.registerWindowDone 64) (window (.load 3 0 4 false)) (g3 64 0x9616B04E) &&
     ok (.registerWindowDone 64) (window (.load 3 0x5FFF000 4 false)) (inHandler 64 4 0x85FFF000) &&
     ok (.registerWindowDone 64) (window (.store A.GPIO_SET [1, 0, 0, 0])) (fun t => (t.dev.ctx 64).wait == .none && t.dev.reg A.GPIO_OUT == 1)) = true := by
  unfold State.CoreUp State.Up State.AtRest; decide +kernel

/-- Thread 8 of steward 1, with a mailbox of steward 3 that has one credit or none, and one word in its own. -/
def boxes (n : Nat) : State :=
  let s := eng 72 (fun c => Ctx.with c [(1, 3), (2, 0xAB), (4, 0x21)])
  { s with dev := { s.dev with boxes := [(boxKey 1 1, { entries := [0xCD], credits := 7, wr := 1, wr2 := 1 }), (boxKey 3 8, { credits := n })] } }

/-- Obligations.QueueInstructionsComplete: states and operands that meet its hypotheses. -/
theorem wit_QueueInstructions :
    (boxes 1).Issues 72 [1, 2] ∧ (boxes 1).Issues 72 [4] ∧ isSignal 72 = false ∧
    (∀ t, t < 8 → (((boxes 1).dev.ctx (threadCtx 3 t)).wait == .none) = true) ∧ ((boxes 1).dev.box (boxKey 3 8)).credits ≠ 0 ∧
    ((boxes 0).dev.box (boxKey 3 8)).credits = 0 ∧ ((boxes 1).dev.box (boxKey (stewardOf 72) (0x21 - 0x20))).entries = [0xCD] ∧
    (ok (.qput 72 3 1 2 0) (boxes 1) (fun t => g3 72 0 t && (t.dev.box (boxKey 3 8)).entries == [0xAB] && (t.dev.box (boxKey 3 8)).credits == 0) &&
     ok (.qput 72 3 1 2 0) (boxes 0) (g3 72 0x08) &&
     ok (.qget 72 3 4 0 0) (boxes 1) (fun t => g3 72 0xCD t && (t.dev.box (boxKey 1 1)).credits == 8) &&
     ok (.qcred 72 3 1 0 0) (boxes 1) (g3 72 1)) = true := by
  unfold State.Issues State.CoreUp State.Up State.AtRest; decide +kernel

/-- A context with sources: g1 user doorbell, g2 a timer of 5, g4 a domain; slot 1 has fired. -/
def waiting (x : Nat) : State :=
  eng x (fun c => { Ctx.with c [(1, 0x50000000), (2, 0x30000000), (4, 5)] with excVec := 0x40, slots := [{}, { fired := true }] ++ List.replicate 6 {} })

/-- Obligations.EventInstructionsComplete: states and operands that meet its hypotheses. -/
theorem wit_EventInstructions :
    (waiting 64).Issues 64 [1, 0] ∧ (waiting 0).Issues 0 [2, 4] ∧ ((waiting 64).dev.ctx 64).slots.length = 8 ∧
    (waiting 64).dev.bindCheck 0 false 0x50000000 0 = 0 ∧ (waiting 0).dev.bindCheck 0 true 0x30000000 5 = 0 ∧
    Nat.land ((waiting 64).dev.ctx 64).firedMask 2 = 2 ∧ (waiting 64).Issues 64 [4] ∧
    (ok (.arm 64 7 1 0 0) (waiting 64) (fun t => ((t.dev.ctx 64).slots.getD 7 {}).src == 0x50000000 && (t.dev.ctx 64).pc == 4) &&
     ok (.waitev 64 3 0 0) (waiting 64) (g3 64 0) &&
     ok (.waitev 64 3 0 2) (waiting 64) (g3 64 2) &&
     ok (.waitev 64 3 0 1) (waiting 64) (fun t => (t.dev.ctx 64).wait == .event 3 1 && (t.dev.ctx 64).pc == 0) &&
     ok (.tickwait 0 3 0 0 0) (waiting 0) (fun t => (t.dev.ctx 0).wait == .nextTick 3 && (t.dev.ctx 0).ended) &&
     ok (.tickwait 64 3 4 0 0) (waiting 64) (fun t => g3 64 0xFFFFFFFF t && (t.dev.ctx 64).uresult == 0x302) &&
     ok (.time 64 4 0 0 0) (waiting 64) (fun t => (t.dev.ctx 64).pc == 4) &&
     ok (.snap 64 3 0 0 0) (waiting 64) (fun t => g3 64 1 t && t.dev.rd F.GLB_SNAP_BUSY == 1)) = true := by
  unfold State.Issues State.CoreUp State.Up State.AtRest; decide +kernel

/-- A context whose handler runs. -/
def returning : State := eng 64 (fun c => { c with excVec := 0x40, excActive := true, excAddr := 0x80, hidden := [{ count := 1, start := 0, stop := 4 }] })

/-- Obligations.SystemInstructionsComplete: states and operands that meet its hypotheses. -/
theorem wit_SystemInstructions :
    (waiting 64).Issues 64 [] ∧ (waiting 0).Issues 0 [] ∧ ((waiting 64).dev.ctx 64).hasHandler ∧ returning.Issues 64 [1] ∧
    (returning.dev.ctx 64).excActive = true ∧
    (ok (.nop 64 0 0 0) (waiting 64) (fun t => (t.dev.ctx 64).pc == 4) &&
     ok (.fence 64 0 0 0) (waiting 64) (fun t => (t.dev.ctx 64).pc == 4) &&
     ok (.halt 0 0 0 0) (waiting 0) (fun t => (t.dev.ctx 0).ended && t.dev.rd (F.ENG_STAT_HALTED 0) == 1) &&
     ok (.halt 64 0 0 0) (waiting 64) (fun t => !(t.dev.ctx 64).running) &&
     ok (.trap 64 0 0 0 0x3FF) (waiting 64) (fun t => let c := t.dev.ctx 64
      (c.excCause, c.excAddr, c.excInfo, c.pc) == (7, 4, 0x3FF, 0x40)) &&
     ok (.csrr 64 3 0 0x023) (waiting 64) (g3 64 0x40) &&
     ok (.csrw 64 0 1 0x023) (waiting 64) (fun t => (t.dev.ctx 64).excVec == 0x50000000) &&
     ok (.xret 64 1) returning (fun t => let c := t.dev.ctx 64
      (c.pc, c.loops.length, c.excActive) == (0x80, 1, false)) &&
     ok (.xret 64 1) (waiting 64) (fun t => (t.dev.ctx 64).excCause == 1)) = true := by
  unfold State.Issues Ctx.hasHandler State.CoreUp State.Up State.AtRest; decide +kernel

/-- A thread whose slot 0 is a timer; a signal engine within its tick; steward 0 in service with an entry to fire and a request to start. -/
def timed : State := eng 64 (fun c => { c with slots := [{ src := 0x38000000, param := 5, periods := 6 }] ++ List.replicate 7 {} })
def stewarded : State :=
  st (fun d => { wrs [(F.UNIT_STATE_STATE 0x0F0, 3), (F.STW_ELOAD_BUSY 0, 1)] d with
    firings := [(entryKey 0 1023, 9)], entries := [(entryKey 0 1023, { valid := true, tenant := 7, addr := 0x100, slot := { src := 0x30000000, param := 1 } })],
    stewards := [(0, { startq := [{ kind := .entry 3 none, tenant := 7, pc := 0x200 }] })] })

/-- Obligations.StewardCommandsTakeEffect: states and operands that meet its hypotheses. -/
theorem wit_StewardCommands :
    timed.CoreUp ∧ srcKind ((timed.dev.ctx 64).slots.getD 0 {}).src = 3 ∧ stewarded.CoreUp ∧
    (waiting 0).dev.rd (F.ENG_CFG_OVR_LIMIT 0) > 1 ∧ stewarded.dev.freeThreadOf 0 = some 0 ∧ stewarded.dev.ustate 0x0F0 = 3 ∧
    (ok (.timerExpire (.slot 64 0)) timed (fun t => ((t.dev.ctx 64).slots.getD 0 {}).fired && ((t.dev.ctx 64).slots.getD 0 {}).data == 7) &&
     ok (.tickBudgetExpire 0) (waiting 0) (fun t => (t.dev.ctx 0).overran && (t.dev.ctx 0).ovrTotal == 1) &&
     ok (.eloadComplete 0) stewarded (fun t => t.dev.rd (F.STW_ELOAD_BUSY 0) == 0) &&
     ok (.triggerFire 0 1023) stewarded (fun t => (t.dev.steward 0).startq.length == 2 && t.dev.firings.isEmpty) &&
     ok (.runStart 0) stewarded (fun t => (t.dev.ctx 64).running && (t.dev.ctx 64).pc == 0x200 && (t.dev.ctx 64).tenant == 7)) = true := by
  unfold State.CoreUp State.Up State.AtRest; decide +kernel

/-! ### The register map (R9, R44–R72, R134) -/

/-- Link 0 IDLE with a write of its commit set 0 held, accepted, staged, or posted for a quad. -/
def aWrite : Staged := { addr := A.LNK_CTRL 0, mask := 0x10, val := 0x10, path := .spi }
def aPosted : Staged := { addr := A.LNK_SERDES 23, mask := 0xFF, val := 0x12, path := .spi }
def link (f : Dev → Dev) : State := powered (fun d => f (wrs [(F.UNIT_STATE_STATE 0x010, 1)] d))
def held : State := link (fun d => { d with held := [aWrite] })

/-- Obligations.RegisterAccessesFollowTheirCodes: states and operands that meet its hypotheses. -/
theorem wit_RegisterAccesses :
    held.TakesWrite .spi 0x2008 ∧ held.dev.route .spi 0x2008 = .map 0x2008 ∧ locate 0x2008 = .reg .clk 8 ∧
    (fieldsAt .clk 8).all (fun f => f.acc == .rw) = true ∧ reservedWithin .clk 8 = 0 ∧ held.Up ∧ held.dev.pathUp .pcie = true ∧
    held.dev.route .pcie 0xC40003 = .map 0xC40003 ∧ held.dev.rd F.FRG_STATUS_STATE ≠ Frg.RECORDING ∧
    (locate 0xC40003).window = true ∧ held.dev.requestError .pcie 0xC40003 1 true = none ∧
    held.dev.route .jtag 0x8000000 = .map 0x8000000 ∧ held.dev.requestError .pcie 0x2001 4 true = some (0x2001, 3) ∧
    held.TakesRead .pcie (A.LNK_EVT 23) ∧ locate (A.LNK_EVT 23) = .reg (.lnk 23) 8 ∧ locate 0x2008 = .reg .clk 8 ∧
    held.TakesWrite .spi (0x2000000 + 0x2008 * 32 + 4) ∧
    (ok (.registerWrite .spi 0x2008 (wordBytes 0xFFFFFFFF)) held (fun t => t.dev.reg 0x2008 == 0x1FF7F) &&
     ok (.registerWrite .pcie 0xC40003 [7]) held (fun t => memByte t.mem 0xC40003 == 7 && t.mem.length == 1) &&
     ok (.registerWrite .pcie 0x2001 [1, 2, 3, 4]) held (fun t => t.dev.rd F.GLB_BUSERR_COUNT_COUNT == 1 && t.dev.rd F.GLB_BUSERR_INFO_KIND == 3) &&
     ok (.readClear .pcie (BitVec.ofNat 32 (A.LNK_EVT 23)) 4) (powered (wrs [(F.LNK_EVT_DOWN 23, 1)]))
      (fun t => t.dev.reg (A.LNK_EVT 23) == 0 && t.dev.out == [.data .pcie [2]]) &&
     ok (.bitAliasAccess .spi 0x2008 1 (some 1)) held (fun t => t.dev.reg 0x2008 == 2)) = true := by
  unfold State.TakesWrite State.TakesRead State.Up State.AtRest; decide +kernel

/-- Obligations.RegisterAccessesFollowTheirCodes: states and operands that meet its hypotheses. -/
theorem wit_BitAliasRead :
    (powered (wrs [(F.CFG_STATUS_MISMATCH_EVT, 1), (F.CFG_STATUS_VALID, 1)])).TakesRead .spi (0x2000000 + 0x5010 * 32 + 8) ∧
    locate 0x5010 = .reg .cfg 0x10 ∧ accMask (· == .wo) (fieldsAt .cfg 0x10) = 0 ∧
    ok (.bitAliasAccess .spi 0x5010 2 none) (powered (wrs [(F.CFG_STATUS_MISMATCH_EVT, 1), (F.CFG_STATUS_VALID, 1)]))
      (fun t => t.dev.reg 0x5010 == 1 && t.dev.out == [.data .spi [1]]) = true := by
  unfold State.TakesRead State.Up State.AtRest; decide +kernel

/-- Obligations.UnitEvtWriteClearsLeaves: states and operands that meet its hypotheses. -/
theorem wit_UnitEvtWrite : let s := st (wrs [(F.UNIT_EVT_STATE_CHG 0xFF0, 1), (F.UNIT_EVT_REFUSED 0xFF0, 1), (F.UNIT_OWNER_OWNER 0x010, 5)])
    s.TakesWrite .spi (A.UNIT_EVT 0x010) ∧ s.CoreUp ∧ (classOf 0x010).isSome = true ∧ s.dev.rd (F.UNIT_OWNER_OWNER 0x010) = 5 ∧
    locate (A.UNIT_EVT 0x010) = .reg (.unit 0x010) 0x10 ∧
    ok (.unitEvtWrite (.cmd 5) 0x010 2) (st (wrs [(F.UNIT_EVT_STATE_CHG 0x010, 1), (F.UNIT_EVT_REFUSED 0x010, 1), (F.UNIT_OWNER_OWNER 0x010, 5)]))
      (fun t => bits (t.dev.reg (A.UNIT_EVT 0x010)) 1 3 == 2) = true := by
  unfold State.TakesWrite State.CoreUp State.Up State.AtRest; decide +kernel

/-- Obligations.WaitingWritesApply: states and operands that meet its hypotheses. -/
theorem wit_WaitingWrites :
    held.TakesWrite .spi (A.LNK_COMMIT 0) ∧ locate (A.LNK_COMMIT 0) = .reg (.lnk 0) 0xC ∧ isCommit (.lnk 0) 0xC = true ∧
    held.dev.held = [aWrite] ∧ held.dev.accepted = [] ∧ aWrite.setId = some (0x010, 0) ∧
    setOfReg (A.LNK_COMMIT 0) (0x010, 0) = true ∧ held.dev.ustate 0x010 ≠ 0 ∧ held.dev.safe = false ∧
    held.dev.cfgRefuses 0 0 = false ∧
    (let d := held.dev.noteReserved (.lnk 0) 0xC (A.LNK_COMMIT 0) (withGo 1)
     ({ d with held := [] } : Dev).setCheck (d.applyOne aWrite) (0x010, 0) [] = (0, 0)) ∧
    (let d := held.dev.noteReserved .glb 0x10 A.GLB_COMMIT (withGo 1)
     ({ d with held := [] } : Dev).setCheck (d.applyOne aWrite) (0x010, 0) [] = (0, 0)) ∧
    held.TakesWrite .spi A.GLB_COMMIT ∧ unitOfAddr aWrite.addr = some 0x010 ∧ aPosted.slow = some (.serdes 5) ∧
    (ok (.commitGo .spi (BitVec.ofNat 32 (A.LNK_COMMIT 0)) 1) held (fun t => t.dev.held.isEmpty && t.dev.accepted.length == 1) &&
     ok (.glbCommit .pcie 1) held (fun t => t.dev.held.isEmpty && t.dev.accepted.length == 1) &&
     ok (.glbCommit .pcie 1) (link id) (fun t => t.dev.rd F.GLB_COMMIT_STATUS_UNIT == 0xFFF) &&
     ok (.stagedWriteApply 0x010) (link (fun d => { d with staged := [aWrite] })) (fun t => t.dev.staged.isEmpty && t.dev.rd (F.LNK_CTRL_MODE 0) == 1) &&
     ok (.commitApply 0x010 0) (link (fun d => { d with accepted := [((0x010, 0), [aWrite])] }))
      (fun t => t.dev.accepted.isEmpty && t.dev.rd (F.LNK_CTRL_MODE 0) == 1) &&
     ok (.postedWriteComplete (.serdes 5)) (link (fun d => { d with posted := [aPosted] }))
      (fun t => t.dev.posted.isEmpty && bits (t.dev.reg (A.LNK_SERDES 23)) 0 8 == 0x12)) = true := by
  unfold State.TakesWrite State.Up State.AtRest; decide +kernel

/-- A snapshot under way, with a request pending or not. -/
def snapping (k : Nat) : State :=
  st (fun d => { wrs [(F.GLB_SNAP_BUSY, 1), (F.GLB_SNAP_PENDING, k)] d with snap := { d.snap with taking := some ({}, 0x500000007) } })

/-- Obligations.SnapshotsSampleAndSwap: states and operands that meet its hypotheses. -/
theorem wit_Snapshots :
    held.TakesWrite .pcie A.GLB_SNAP ∧ (snapping 0).TakesWrite .pcie A.GLB_SNAP ∧ (snapping 1).TakesWrite .pcie A.GLB_SNAP ∧
    held.dev.rd F.GLB_SNAP_BUSY = 0 ∧ (snapping 0).dev.rd F.GLB_SNAP_BUSY = 1 ∧ (snapping 0).dev.rd F.GLB_SNAP_PENDING = 0 ∧
    (snapping 1).dev.rd F.GLB_SNAP_PENDING = 1 ∧
    (ok (.glbSnapGo .pcie 1) held (fun t => t.dev.rd F.GLB_SNAP_BUSY == 1) &&
     ok (.glbSnapGo .pcie 1) (snapping 0) (fun t => t.dev.rd F.GLB_SNAP_PENDING == 1) &&
     ok (.glbSnapGo .pcie 1) (snapping 1) (fun t => t.dev.rd F.GLB_SNAP_COALESCED == 1) &&
     ok .snapshotComplete (snapping 0) (fun t => t.dev.reg A.GLB_SNAP_TIME_HI == 5 && t.dev.rd F.GLB_SNAP_BUSY == 0) &&
     ok .snapshotComplete (snapping 1) (fun t => t.dev.reg A.GLB_SNAP_SEQ == 1 && t.dev.rd F.GLB_SNAP_BUSY == 1)) = true := by
  unfold State.TakesWrite State.Up State.AtRest; decide +kernel

/-- The configuration set holds no register below 0x10000. -/
theorem configCrc_congr (d e : Dev) (m : List Host.Cell) (h : ∀ a, 0x10000 ≤ a → d.reg a = e.reg a) : d.configCrc m = e.configCrc m := by
  have hw : ∀ a, 0x10000 ≤ a → d.configWord m a = e.configWord m a := fun a ha => by simp [Dev.configWord, h a ha]
  have hr : ∀ r ∈ configRanges, 0x10000 ≤ r.1 := by decide
  refine congrArg (~~~ ·) ?_
  refine List.foldl_ext _ _ _ fun c r hmem => List.foldl_ext _ _ _ fun c i _ => ?_
  rw [hw _ (Nat.le_trans (hr r hmem) (Nat.le_add_right _ _))]

/-- A configuration check with this reference, and these fields. -/
def checked (ref : Word) (fs : List (Fld × Nat)) : State := powered (fun d => (wrs ((F.CFG_CTRL_REF_VALID, 1) :: fs) d).setReg A.CFG_CRC_REF ref)

theorem checked_crc (r r' : Word) : (checked r []).dev.configCrc (checked r []).mem = (checked r' []).dev.configCrc (checked r' []).mem := by
  show Dev.configCrc _ State.reset.mem = Dev.configCrc _ State.reset.mem
  refine configCrc_congr _ _ _ fun a ha => ?_
  have hne : a ≠ A.CFG_CRC_REF := by simp only [A.CFG_CRC_REF, Base.CFG]; omega
  show Dev.reg (Dev.setReg _ _ _) a = Dev.reg (Dev.setReg _ _ _) a
  rw [Dev.reg_setReg_of_ne _ _ hne, Dev.reg_setReg_of_ne _ _ hne]

/-- Obligations.ConfigurationIsChecked: states and operands that meet its hypotheses. -/
theorem wit_ConfigurationCheck :
    (checked 0 []).TakesWrite .jtag A.CFG_CRC_CAPTURE ∧ (checked 0 []).TakesWrite .spi A.CFG_CRC_REF ∧ (checked 0 []).CoreUp ∧
    (checked 0 []).dev.cfg.dirty = false ∧ (checked 0 [(F.CFG_CRC_CAPTURE_BUSY, 1)]).CoreUp ∧
    (checked 0 [(F.CFG_CRC_CAPTURE_BUSY, 1)]).dev.rd F.CFG_CRC_CAPTURE_BUSY = 1 ∧
    (checked 0 []).dev.rd F.CFG_CRC_CAPTURE_BUSY = 0 ∧ (checked 0 []).dev.rd F.CFG_CTRL_REF_VALID = 1 ∧
    (checked 0 []).dev.rd F.CFG_CTRL_ACTION ≠ 2 ∧
    (ok (.cfgCrcCapture .spi 1) (checked 0 []) (fun t => t.dev.rd F.CFG_CRC_CAPTURE_BUSY == 1) &&
     ok (.cfgRefWrite .spi 7) (st id) (fun t => t.dev.reg A.CFG_CRC_REF == 7 && t.dev.rd F.CFG_CTRL_REF_VALID == 1)) = true := by
  unfold State.TakesWrite State.CoreUp State.Up State.AtRest; decide +kernel

/-- Both the reference that agrees and one that differs exist. -/
theorem wit_ConfigurationCheck_ref : let crc := (checked 0 []).dev.configCrc (checked 0 []).mem
    (checked crc []).dev.reg A.CFG_CRC_REF = (checked crc []).dev.configCrc (checked crc []).mem ∧
    (checked (crc + 1) []).dev.reg A.CFG_CRC_REF ≠ (checked (crc + 1) []).dev.configCrc (checked (crc + 1) []).mem := by
  intro crc
  have e : ∀ x, (checked x []).dev.reg A.CFG_CRC_REF = x := fun x => Dev.reg_setReg_self _ _ _
  rw [e, e, checked_crc crc 0, checked_crc (crc + 1) 0]
  exact ⟨rfl, by simp [crc]⟩

/-! ### Units (R25–R46) -/

/-- The machine with some units in a state. -/
def quiet (us : List (Nat × Nat)) (f : Dev → Dev) : State := powered (fun d => f (us.foldl (fun d u => d.wr (F.UNIT_STATE_STATE u.1) u.2) d))

theorem wit_Orders_quiet : (quiet [(0x011, 1), (0x012, 3)] id).Quiet := quiet_of _ (by unfold State.CoreUp State.Up State.AtRest; decide +kernel)

/-- Obligations.OrdersTakeEffect: states and operands that meet its hypotheses. -/
theorem wit_Orders :
    (quiet [(0x011, 1), (0x012, 3)] id).TakesWrite .pcie (A.UNIT_CMD 0x010) ∧
    (let q := quiet [(0x011, 1), (0x012, 3)] id
     let k := fun (u o : Nat) => (Dev.checkN 800 q.dev { tenant := some 0, skipBusy := false } [] u o).2.2
     k 0x010 Ord.ENABLE = (0, 0) ∧ k 0x011 Ord.DISABLE = (0, 0) ∧ k 0x012 Ord.DRAIN = (0, 0) ∧ k 0x012 Ord.RESET = (0, 0) ∧
     k 0xC3F Ord.ENABLE = (9, 0) ∧ q.dev.ustate 0x010 = 0 ∧ q.dev.ustate 0x011 = 1 ∧ q.dev.ustate 0x012 = 3 ∧
     (classOf 0x010).isSome = true ∧ isCabinet 0x010 = false ∧
     ok (.orderEnable (.reg .pcie) 0x010) q (fun t => t.dev.ustate 0x010 == 0 && t.dev.rd (F.UNIT_CMD_TARGET 0x010) == 2) = true ∧
     ok (.orderDisable (.cmd 0) 0x011) q (fun t => t.dev.ustate 0x011 == 0) = true ∧
     ok (.orderDrain (.cmd 0) 0x012) q (fun t => t.dev.ustate 0x012 == 4) = true ∧
     ok (.orderReset (.reg .pcie) 0x012) q (fun t => t.dev.ustate 0x012 == 0) = true ∧
     ok (.orderEnable (.cmd 0) 0xC3F) q (fun t => t.dev.rd (F.UNIT_STATE_REASON 0xC3F) == 9 && t.dev.rd (F.UNIT_REFUSALS_REFUSALS 0xC3F) == 1) = true ∧
     ok (.orderNone (.cmd 0) 0x010) q (fun t => decide (t = q)) = true) := by
  unfold State.TakesWrite State.Up State.AtRest; decide +kernel

/-- A port in every state an event moves it from; group 0's, whose bit clock is there. -/
def moving (k : Nat) (u : UnitRt) : State :=
  quiet [(0x040, 3), (0x050, k)] (fun d => (d.setUnit 0x050 u).wr (F.APG_CFG_BRIDGED 0) 1)

theorem wit_StateChanges_quiet : (moving 0 { order := Ord.ENABLE }).Quiet ∧ (moving 1 { syncWait := true }).Quiet ∧ (moving 2 {}).Quiet ∧
    (moving 3 {}).Quiet ∧ (moving 4 {}).Quiet := by
  refine ⟨?_, ?_, ?_, ?_, ?_⟩ <;> apply quiet_of <;> unfold State.CoreUp State.Up State.AtRest <;> decide +kernel

/-- Obligations.UnitsMoveThroughTheirStates: states and operands that meet its hypotheses. -/
theorem wit_StateChanges :
    (classOf 0x050).isSome = true ∧ isCabinet 0x050 = false ∧ syncsAtOnce 0x050 = false ∧
    (moving 0 { order := Ord.ENABLE }).dev.ustate 0x050 = 0 ∧
    ((moving 0 { order := Ord.ENABLE }).dev.unit 0x050).order = Ord.ENABLE ∧
    (moving 1 { syncWait := true }).dev.ustate 0x050 = 1 ∧ (moving 1 { syncWait := true }).dev.boundaryComes 0x050 = true ∧
    (moving 1 { syncWait := true }).dev.acquiresNothing 0x050 = false ∧ (moving 2 {}).dev.ustate 0x050 = 2 ∧
    (moving 2 {}).dev.acquires 0x050 = true ∧ (moving 3 {}).dev.ustate 0x050 = 3 ∧ (moving 4 {}).dev.ustate 0x050 = 4 ∧
    (match unitKind 0x050 with | .port k => k == 0 | _ => false) = true ∧
    (ok (.unitStandbyReached 0x050) (moving 0 { order := Ord.ENABLE }) (fun t => t.dev.ustate 0x050 == 1 && (t.dev.unit 0x050).syncWait) &&
     ok (.unitSyncingEntry 0x050) (moving 1 { syncWait := true }) (fun t => t.dev.ustate 0x050 == 2) &&
     ok (.acquisitionComplete 0x050) (moving 2 {}) (fun t => t.dev.ustate 0x050 == 3) &&
     ok (.inputLost 0x050) (moving 3 {}) (fun t => t.dev.ustate 0x050 == 2) &&
     ok (.drainComplete 0x050) (moving 4 {}) (fun t => t.dev.ustate 0x050 == 0) &&
     ok (.drainTimeout 0x050) (moving 4 {}) (fun t => t.dev.ustate 0x050 == 0)) = true := by
  decide +kernel

/-- A walk of the last cabinet that waits for link 0, in a state. -/
def walking (k : Nat) : State :=
  quiet [(0x010, k)] (fun d => { d with walks := [{ cab := 0xFFE, order := Ord.DISABLE, src := .cmd 0, awaiting := some 0x010, todo := [], failed := none }] })

/-- Obligations.WalksOwnersAndHeldEvents: states and operands that meet its hypotheses. -/
theorem wit_WalksOwnersEvents :
    (walking 0).CoreUp ∧ (walking 1).CoreUp ∧ (walking 1).dev.memberReached Ord.DISABLE 0x010 = false ∧
    (walking 0).dev.memberReached Ord.DISABLE 0x010 = true ∧ isCabinet 0xFFE = true ∧ (walking 0).dev.waits = [] ∧
    (walking 0).TakesWrite .spi (A.UNIT_OWNER 0xFFE) ∧ locate (A.UNIT_OWNER 0xFFE) = .reg (.unit 0xFFE) 8 ∧
    (let q := quiet [] (fun d => { d.setUnit 0xFFE { heldPost := true, lastPost := some 0 } with clk := 10000000 })
     q.Up ∧ (q.dev.unit 0xFFE).heldPost = true ∧ (q.dev.unit 0xFFE).lastPost = some 0 ∧ 0 + 10000000 ≤ q.dev.clk ∧
     ok (.eventHoldExpire (.unit 0xFFE)) q (fun t => (t.dev.unit 0xFFE).lastPost == some 10000000) = true) ∧
    (ok (.cabinetWalkStep 0xFFE) (walking 1) (fun t => decide (t = walking 1)) &&
     ok (.cabinetWalkStep 0xFFE) (walking 0) (fun t => t.dev.walks.isEmpty) &&
     ok (.ownerWrite .spi 0xFFE 0x1FF) (walking 0) (fun t => t.dev.rd (F.UNIT_OWNER_OWNER 0xFFE) == 511)) = true := by
  unfold State.TakesWrite State.CoreUp State.Up State.AtRest; decide +kernel

/-! ### The host interfaces (R75–R111) -/

/-- Tenant 1 on PCIe and tenant 33 on the management SPI, with queues of depth 16 or 8 and some entries; the map of virtual function 1 is good. -/
def hosts (fs : List (Fld × Nat)) (q : Queue) : State :=
  powered (fun d => { wrs ([(F.HOST_BIND_SPI 1, 2), (F.HOST_SPI_TENANTS_COUNT, 1), (F.HOST_VF_MAP_FIRST 1, 511), (F.HOST_VF_MAP_COUNT 1, 1),
    (F.Q_DEPTH_LOG2 1 1, 4), (F.Q_DEPTH_LOG2 1 0, 4)] ++ fs) d with queues := [(qKey 1 0, q), (qKey 1 1, q), (qKey 33 0, q), (qKey 33 1, q)] })
def enabled : List (Fld × Nat) :=
  [(F.Q_EN 1 0, 1), (F.Q_EN 1 1, 1), (F.Q_EN 33 0, 1), (F.Q_EN 33 1, 1), (F.SQ_CREDIT_CREDIT 1, 2), (F.SQ_CREDIT_CREDIT 33, 8)]
def someQueue : Queue := { wr := 4, wr2 := 4, rd := 2, rd2 := 2, credits := 3, entries := [[1, 2, 3], [4]] }

/-- Obligations.PcieFunctionsFollowTheirCommands: states and operands that meet its hypotheses. -/
theorem wit_PcieFunctions :
    (hosts enabled someQueue).Up ∧ (hosts enabled someQueue).dev.pathUp .pcie = true ∧
    (hosts enabled someQueue).dev.spiBound 1 = false ∧
    (ok (.functionLevelReset 0) (hosts enabled someQueue) (fun t => t.dev.rd (F.Q_EN 1 0) == 0 && (t.dev.queue 1 0).entries.isEmpty && t.dev.rd (F.Q_EN 33 0) == 1) &&
     ok (.vfEnable 63) (hosts enabled someQueue) (fun t => t.dev.vfMap 1 == some (511, 1) && t.dev.vfMap 63 == none) &&
     ok (.vfEnable 0) (hosts enabled someQueue) (fun t => !t.dev.host.vfEnable) &&
     ok (.d3hotEntry 63) (hosts enabled someQueue) (fun t => t.dev.host.d3hot == [63])) = true := by
  unfold State.Up State.AtRest; decide +kernel

/-- Obligations.SpiFramesFollowTheirCommands: states and operands that meet its hypotheses. -/
theorem wit_Spi :
    (powered id).dev.pathUp .spi = true ∧ (powered id).TakesRead .spi 0 ∧ (powered id).TakesWrite .spi 0xFFFFFC ∧
    (locate 0xFFFFFC).window = true ∧ spiKnown 0x9F = false ∧ (hosts [] {}).dev.spiBound 33 = true ∧
    (ok (.read 0 15) (powered id) (fun t => match t.dev.out with | [.spi _ ws] => ws.length == 16 && ws.headD 0 == 0x9616B04E | _ => false) &&
     ok (.qread 0 0) (powered id) (fun t => match t.dev.out with | [.spi _ ws] => ws == [0x9616B04E] | _ => false) &&
     ok (.write 0xFFFFFC [0x04030201] false) (powered id) (fun t => t.mem == [(0xFFFFFC, 1), (0xFFFFFD, 2), (0xFFFFFE, 3), (0xFFFFFF, 4)]) &&
     ok (.qwrite 0xFFFFFC [0x04030201] false) (powered id) (fun t => t.mem.length == 4) &&
     ok (.write 0xFFFFFC [1] true) (powered id) (fun t => t.dev.host.spiErr) &&
     ok (.qwrite 0xFFFFFC (List.replicate 17 1) false) (powered id) (fun t => t.dev.host.spiErr) &&
     ok .status (powered id) (fun t => t.dev.out.length == 1) &&
     ok (.tenant 33) (hosts [] {}) (fun t => t.dev.host.session == 33) &&
     ok (.tenant 512) (hosts [] {}) (fun t => t.dev.host.spiErr) &&
     ok (.spiUnknownCommand 0x9F) (powered id) (fun t => t.dev.host.spiErr)) = true := by
  unfold State.TakesWrite State.TakesRead State.Up State.AtRest; decide +kernel

/-- Obligations.TenantsAreBoundToPaths: states and operands that meet its hypotheses. -/
theorem wit_Binding : let h := hosts enabled {}
    h.TakesWrite .spi (A.HOST_BIND 15) ∧ h.TakesWrite .spi (A.HOST_BIND 0) ∧ h.TakesWrite .pcie A.HOST_T0_PATH ∧
    h.dev.anyQueue 0 = false ∧ h.dev.anyQueue 511 = false ∧ h.dev.anyQueue 1 = true ∧
    (hosts [(F.Q_EN 0 2, 1)] {}).dev.anyQueue 0 = true ∧ changedBits (h.dev.reg (A.HOST_BIND 15)) 0x80000000 = [31] ∧
    changedBits (h.dev.reg (A.HOST_BIND 0)) 3 = [0, 1] ∧ h.dev.reg A.HOST_T0_PATH = 0 ∧
    h.dev.rd F.HOST_SPI_TENANTS_COUNT ≤ 32 ∧
    (ok (.hostBindWrite .spi 15 0x80000000) h (fun t => t.dev.spiBound 511) &&
     ok (.hostBindWrite .spi 0 3) h (fun t => !t.dev.spiBound 1 && t.dev.rd F.HOST_STATUS_IGNORED == 1) &&
     ok (.hostT0PathWrite .pcie 1) h (fun t => t.dev.spiBound 0) &&
     ok (.hostT0PathWrite .pcie 1) (hosts [(F.Q_EN 0 2, 1)] {}) (fun t => !t.dev.spiBound 0 && t.dev.rd F.HOST_STATUS_IGNORED == 1)) = true := by
  unfold State.TakesWrite State.Up State.AtRest; decide +kernel

/-- Obligations.TenantQueuesEnableAndMove: states and operands that meet its hypotheses. -/
theorem wit_Queues : let h := hosts enabled someQueue
    h.TakesWrite .spi (pageAddr 1 0x18) ∧ h.TakesWrite .spi (pageAddr 1 0x28) ∧ h.TakesWrite .pcie (pageAddr 511 0x38) ∧
    h.TakesWrite .pcie (pageAddr 1 0x40) ∧ (hosts [(F.Q_EN 1 1, 1)] someQueue).TakesWrite .spi (pageAddr 1 0x18) ∧
    h.TakesWrite .pcie (pageAddr 1 0x44) ∧ (h.dev.queue 511 2).dropped = 0 ∧ h.dev.rd (F.Q_EN 511 2) = 0 ∧
    h.dev.spiBound 511 = false ∧ h.dev.spiBound 33 = true ∧ (hosts [(F.Q_EN 1 1, 1)] someQueue).dev.rd (F.Q_EN 1 0) = 0 ∧
    (hosts [(F.Q_EN 1 1, 1)] someQueue).dev.rd (F.Q_EN 1 1) = 1 ∧
    2 ^ bits (0x80000004 : Word) 0 4 ≤ (hosts [(F.Q_EN 1 1, 1)] someQueue).dev.qDepth 1 1 ∧ (h.dev.queue 1 0).ok = true ∧
    h.dev.rd (F.Q_EN 1 0) = 1 ∧ h.dev.rd (F.SQ_CREDIT_CREDIT 1) = 2 ∧ (h.dev.queue 1 1).fill = 2 ∧
    (h.dev.queue 1 1).dropped = 0 ∧
    (ok (.queueEnable .pcie 511 2 0x8000000C) h (fun t => t.dev.rd (F.Q_EN 511 2) == 1 && (t.dev.queue 511 2).credits == 4096) &&
     ok (.queueEnable .spi 1 0 0x80000004) (hosts [(F.Q_EN 1 1, 1)] someQueue) (fun t => t.dev.rd (F.SQ_CREDIT_CREDIT 1) == 16) &&
     ok (.queueDisable .spi 1 0 0) h (fun t => t.dev.rd (F.Q_EN 1 0) == 0) &&
     ok (.queueDisable .spi 1 1 0) h (fun t => t.dev.rd (F.Q_EN 1 1) == 1 && t.dev.rd (F.QSTAT_REASON 1) == Rsn.STATE) &&
     ok (.sqTailWrite .pcie 1 6) h (fun t => (t.dev.queue 1 0).wr == 6 && t.dev.rd (F.SQ_CREDIT_CREDIT 1) == 0) &&
     ok (.sqTailWrite .pcie 1 7) h (fun t => (t.dev.queue 1 0).wr == 4 && t.dev.rd (F.QSTAT_SQ_OVERCREDIT 1) == 1) &&
     ok (.cqHeadWrite .pcie 1 4) h (fun t => (t.dev.queue 1 1).rd == 4 && (t.dev.queue 1 1).credits == 5)) = true := by
  repeat' refine And.intro ?_ ?_
  all_goals decide +kernel

/-- Obligations.TenantQueuesEnableAndMove: states and operands that meet its hypotheses. -/
theorem wit_EqHead : let h := { hosts [(F.Q_EN 1 2, 1)] {} with dev := { (hosts [(F.Q_EN 1 2, 1)] {}).dev with queues := [(qKey 1 2, someQueue), (qKey 33 2, someQueue)] } }
    h.TakesWrite .pcie (pageAddr 1 0x48) ∧ h.dev.rd (F.Q_EN 1 2) = 1 ∧ (h.dev.queue 1 2).fill = 2 ∧
    h.TakesRead .spi (pageAddr 33 0xE0) ∧ (∀ i, i < 4 → h.dev.requestError .spi (pageAddr 33 (0xE0 + 4 * i)) 4 false = none) ∧
    (ok (.eqHeadWrite .pcie 1 3) h (fun t => (t.dev.queue 1 2).rd == 3 && (t.dev.queue 1 2).credits == 4) &&
     ok (.eqPortConsume .spi 33) h (fun t => (t.dev.queue 33 2).entries == [[4]] && (t.dev.queue 33 2).rd == 3)) = true := by
  unfold State.TakesWrite State.TakesRead State.Up State.AtRest; decide +kernel

/-- A thread of tenant 33 armed on its doorbell; completions held with credit back. -/
def doorbell : State :=
  let h := hosts enabled { someQueue with held := [[7]] }
  { h with dev := h.dev.setCtx 64 { running := true, tenant := 33, slots := [{ src := 0x50000000 }] ++ List.replicate 7 {} } }

/-- Obligations.QueuePortsAndDoorbells: states and operands that meet its hypotheses. -/
theorem wit_QueuePorts : let h := hosts enabled someQueue
    h.TakesWrite .spi (pageAddr 33 0xBC) ∧ h.dev.rd (F.Q_EN 33 0) = 1 ∧ h.dev.rd (F.SQ_CREDIT_CREDIT 33) ≠ 0 ∧
    (h.dev.queue 33 0).ok = true ∧ h.TakesRead .spi (pageAddr 33 0xC0) ∧
    (∀ i, i < 8 → h.dev.requestError .spi (pageAddr 33 (0xC0 + 4 * i)) 4 false = none) ∧ (h.dev.queue 33 1).ok = true ∧
    (h.dev.queue 33 1).entries = [[1, 2, 3], [4]] ∧ doorbell.TakesWrite .spi (pageAddr 33 0xF0) ∧ doorbell.dev.coreOn = true ∧
    doorbell.dev.ctxs.map (·.1) = [64] ∧ srcKind ((doorbell.dev.ctx 64).slots.getD 0 {}).src = 5 ∧ doorbell.Up ∧
    (doorbell.dev.queue 33 1).held = [[7]] ∧ (doorbell.dev.queue 33 1).credits ≠ 0 ∧ (doorbell.dev.ctx 64).slots.length = 8 ∧
    (doorbell.dev.queue 33 1).stopped = false ∧ doorbell.dev.rd (F.Q_EN 33 1) = 1 ∧
    (ok (.sqPortPost .spi 33 9) h (fun t => (t.dev.queue 33 0).entries.length == 3 && (t.dev.queue 33 0).wr == 5) &&
     ok (.cqPortConsume .spi 33) h (fun t => (t.dev.queue 33 1).entries == [[4]] && t.dev.out.length == 8) &&
     ok (.userDbWrite .spi 33 0xABCD) doorbell (fun t => ((t.dev.ctx 64).slots.getD 0 {}).fired && ((t.dev.ctx 64).slots.getD 0 {}).data == 0xABCD) &&
     ok (.completionPostDeferred 33) doorbell (fun t => (t.dev.queue 33 1).held.isEmpty && (t.dev.queue 33 1).credits == 2)) = true := by
  repeat' refine And.intro ?_ ?_
  all_goals decide +kernel

/-- Steward 3 in service, with entry 1023 of tenant 1 that any tenant may run. -/
def fetching : State :=
  let h := hosts (enabled ++ [(F.UNIT_STATE_STATE 0x0F3, 3), (F.STW_ETAB_COUNT_COUNT 3, 1024)]) someQueue
  { h with dev := { h.dev with entries := [(entryKey 3 1023, { valid := true, tenant := 9, anyTenant := true, addr := 0x40 })] } }

/-- The first words of a command. -/
def cmdWords (op target steward nargs : Nat) : List Word :=
  [BitVec.ofNat 32 (op + 7 * 65536), 1, BitVec.ofNat 32 (target + steward * 65536), BitVec.ofNat 32 nargs, 0xAA]

/-- Obligations.CommandsAreFetchedAndStarted: states and operands that meet its hypotheses. -/
theorem wit_Commands :
    fetching.CoreUp ∧ fetching.dev.rd F.FRG_STATUS_STATE ≠ Frg.RECORDING ∧ (fetching.dev.queue 1 0).ok = true ∧
    fetching.dev.spiBound 1 = false ∧ (∀ op ∈ [1, 2, 3, 4], fetching.dev.mayFetch 1 (sixteen (cmdWords op 1023 3 1)) = true) ∧
    cTenant (cmdWords 1 1023 3 1) = 1 ∧ fetching.dev.cmdRange (sixteen (cmdWords 1 1023 3 1)) = false ∧
    fetching.dev.cmdRange (sixteen (cmdWords 2 0 3 12)) = false ∧
    fetching.dev.cmdRange (sixteen (cmdWords 3 0xFFF 0 0)) = false ∧ classOf 0xFFF = none ∧
    (fetching.dev.queue 1 1).held = [] ∧ (fetching.dev.queue 1 1).credits ≠ 0 ∧ (fetching.dev.queue 1 1).stopped = false ∧
    fetching.dev.cmds = [] ∧
    (ok (.run 1 (cmdWords 1 1023 3 1)) fetching (fun t => (t.dev.entry (entryKey 3 1023)).running && (t.dev.steward 3).startq ==
      [{ kind := .entry 1023 (some (1, 7)), tenant := 1, args := [0xAA], pc := 0x40 }]) &&
     ok (.inline 1 (cmdWords 2 0 3 12)) fetching (fun t => (t.dev.steward 3).startq == [{ kind := .inlineRun 1 7, tenant := 1, args := [12] }]) &&
     ok (.unitop 1 (cmdWords 3 0xFFF 0 0)) fetching (fun t => t.dev.cmds.isEmpty && (t.dev.queue 1 1).wr == 5) &&
     ok (.cmdFence 1 (cmdWords 4 0 0 0)) fetching (fun t => t.dev.cmds.isEmpty && (t.dev.queue 1 1).wr == 5 && (t.dev.queue 1 0).rd == 3) &&
     ok (.commandFetch 1 (cmdWords 4 0 0 0)) fetching (fun t => t.dev.cmds.isEmpty && (t.dev.queue 1 1).wr == 5)) = true := by
  unfold State.CoreUp State.Up State.AtRest; decide +kernel

/-- Host channel rings 0 and 64 run, owned by tenant 511. -/
def channels (x : HchRt) : State :=
  powered (fun d => { wrs [(F.UNIT_OWNER_OWNER 0x0FA, 511), (F.UNIT_STATE_STATE 0x0FA, 3), (F.HCH_CFG_EN 63, 1), (F.HCH_CFG_EN 127, 1), (F.HCH_CFG_CHANS 63, 1),
    (F.HCH_CFG_DEPTH_LOG2 63, 2)] d with hch := [(63, x), (127, x)] })

/-- Obligations.HostChannelRingsMove: states and operands that meet its hypotheses. -/
theorem wit_HostChannels : let a := channels { tick := 2 }
    let full := channels { dev := 4, dev2 := 4, record := [[{ v := 1 }], []] }
    a.TakesWrite .pcie (pageAddr 511 (0x400 + 4 * 63)) ∧ a.dev.rd (F.UNIT_OWNER_OWNER 0x0FA) = 511 ∧
    a.dev.rd (F.HCH_CFG_EN 63) = 1 ∧ (a.dev.hchRing 63).ok = true ∧ a.CoreUp ∧ full.CoreUp ∧ a.dev.hchRuns 63 = true ∧
    full.dev.hchDepth 127 = 4 ∧ (a.dev.hchRing 63).block = [] ∧ full.dev.rd (F.HCH_CFG_EN 127) = 1 ∧
    (full.dev.hchRing 127).ok = true ∧
    (ok (.hchPtrWrite .pcie 511 63 4) a (fun t => (t.dev.hchRing 63).host == 4) &&
     ok (.hchPtrWrite .pcie 511 63 5) a (fun t => (t.dev.hchRing 63).host == 0 && t.dev.rd F.HOST_STATUS_IGNORED == 1) &&
     ok (.hchPlaybackRead 63 [1, 2, 3, 4]) (channels { tick := 2, host := 1, host2 := 1, hostAt := 1 }) (fun t => (t.dev.hchRing 63).dev == 1 && (t.dev.hchRing 63).block.length == 2) &&
     ok (.hchPlaybackRead 63 []) a (fun t => (t.dev.hchRing 63).dev == 0 && t.dev.rd (F.HCH_STAT_UNDERRUN 63) == 1) &&
     ok (.hchRecordWrite 63) full (fun t => (t.dev.hchRing 127).dev == 4 && t.dev.rd (F.HCH_STAT_DROP 127) == 1) &&
     ok (.hchRecordWrite 63) (channels { record := [[{ v := 1 }], []] }) (fun t => (t.dev.hchRing 127).dev == 1 && (t.dev.hchRing 127).record == [[]])) = true := by
  unfold State.TakesWrite State.CoreUp State.Up State.AtRest; decide +kernel

/-! ### Ethernet links (R174–R212) -/

/-- The last link in a state, an order running on it, with these fields and this link state. -/
def linked (k order : Nat) (fs : List (Fld × Nat)) (l : LinkRt) : State :=
  quiet [(0x027, k)] (fun d => (wrs fs (d.setUnit 0x027 { order := order })).setLink 23 l)

theorem wit_LinkStates_quiet : (linked 2 0 [(F.LNK_CTRL_AN_EN 23, 0), (F.LNK_STATUS_PCS_LOCK 23, 1), (F.LNK_PREEMPT_VERIFY 23, 1)] {}).Quiet ∧ (linked 3 0 [] {}).Quiet ∧
    (linked 0 Ord.ENABLE [(F.LNK_CTRL_SPEED 23, 4)] {}).Quiet := by
  refine ⟨?_, ?_, ?_⟩ <;> apply quiet_of <;> unfold State.CoreUp State.Up State.AtRest <;> decide +kernel

/-- Obligations.LinksComeUpAndGoDown: states and operands that meet its hypotheses. -/
theorem wit_LinkStates : let up := linked 2 0 [(F.LNK_CTRL_AN_EN 23, 0), (F.LNK_STATUS_PCS_LOCK 23, 1), (F.LNK_PREEMPT_VERIFY 23, 1)] {}
    let third := linked 3 0 [(F.LNK_PREEMPT_VERIFY 23, 1)] { verifies := 2 }
    up.dev.ustate 0x027 = 2 ∧ up.dev.anApplies 23 = false ∧ up.dev.rd (F.LNK_STATUS_PCS_LOCK 23) = 1 ∧
    up.dev.rd (F.LNK_PREEMPT_VERIFY 23) = 1 ∧ third.CoreUp ∧
    (linked 1 0 [(F.LNK_CTRL_AN_EN 23, 1)] {}).dev.anApplies 23 = true ∧ (third.dev.link 23).verifies = 2 ∧
    ((linked 0 Ord.ENABLE [(F.LNK_CTRL_SPEED 23, 4)] {}).dev.unit 0x027).order = Ord.ENABLE ∧
    3 ≤ (linked 0 Ord.ENABLE [(F.LNK_CTRL_SPEED 23, 4)] {}).dev.rd (F.LNK_CTRL_SPEED 23) ∧
    (ok (.pcsLock 23 true 0xBEEF) (linked 1 0 [(F.LNK_CTRL_AN_EN 23, 1)] {}) (fun t => t.dev.rd (F.LNK_STATUS_PARTNER 23) == 0xBEEF) &&
     ok (.linkHoldExpire 23) up (fun t => t.dev.ustate 0x027 == 3 && t.dev.rd (F.LNK_STATUS_LINK_UP 23) == 1) &&
     ok (.linkDown 23 2) (linked 3 0 [] { arriving := [] }) (fun t => t.dev.ustate 0x027 == 2 && t.dev.rd (F.LNK_EVT_DOWN 23) == 1) &&
     ok (.preemptVerify 23 true) up (fun t => t.dev.rd (F.LNK_PREEMPT_VERIFY 23) == 2) &&
     ok (.preemptVerify 23 false) up (fun t => t.dev.rd (F.LNK_PREEMPT_VERIFY 23) == 1 && (t.dev.link 23).verifies == 1) &&
     ok (.preemptVerify 23 false) third (fun t => t.dev.rd (F.LNK_PREEMPT_VERIFY 23) == 3) &&
     ok (.stcRealign 23) third (fun t => (t.dev.link 23).shadow == third.dev.stcFine)) = true := by
  unfold State.CoreUp State.Up State.AtRest; decide +kernel

/-- Obligations.PausesEnd: states and operands that meet its hypotheses. -/
theorem wit_Pauses : let l := linked 3 0 [] { pauseMask := 0xFF, pfcMask := 0x80 }
    let p := linked 3 0 [] { pfcMask := 0x80 }
    l.CoreUp ∧ p.CoreUp ∧ (l.dev.link 23).pauseMask / 2 ^ 7 % 2 = 1 ∧ (p.dev.link 23).pauseMask / 2 ^ 7 % 2 = 0 ∧
    (p.dev.link 23).pfcMask / 2 ^ 7 % 2 = 1 ∧
    (ok (.pauseExpire 23 none) l (fun t => t.dev.rd (F.LNK_PAUSE_STAT_PAUSED 23) == 0x80) &&
     ok (.pauseExpire 23 (some 7)) p (fun t => t.dev.rd (F.LNK_PAUSE_STAT_PAUSED 23) == 0) &&
     ok (.holdoffExpire 23 none) (linked 3 0 [] { pauseHeld := 0xFF }) (fun t => (t.dev.link 23).pauseHeld == 0) &&
     ok (.holdoffExpire 23 (some 0)) (linked 3 0 [] { pfcHeld := 3 }) (fun t => t.dev.rd (F.LNK_PAUSE_STAT_HELD_OFF 23) == 2) &&
     ok (.pauseWd 23 7) l (fun t => (t.dev.link 23).pauseHeld == 0xFF && (t.dev.link 23).pfcMask == 0) &&
     ok (.pauseWd 23 7) p (fun t => (t.dev.link 23).pfcHeld == 0x80 && t.dev.rd (F.LNK_EVT_PAUSE_WD 23) == 1)) = true := by
  unfold State.CoreUp State.Up State.AtRest; decide +kernel

/-- A frame of the least length, and one to send. -/
def frame60 : List Byte := [1, 0x80, 0xC2, 0, 0, 0x20, 2, 0, 0, 0, 0, 1, 8, 0] ++ List.replicate 46 0
def txFrame : TxFrame := { octets := frame60, tag := none, len := 64, cls := 7, vid := 1, cells := 1, pkt := 5, src := .port 3, rxTs := 0 }
def frames (fs : List (Fld × Nat)) : State :=
  linked 3 0 ([(F.LNK_FILTER_BYPASS 23, 1)] ++ fs) { arriving := [txFrame], queue := [txFrame] }

/-- Obligations.FramesPassThroughLinks: states and operands that meet its hypotheses. -/
theorem wit_Frames : let f := frames []
    let tags := tagsOf (f.dev.tpid 23) frame60
    f.CoreUp ∧ f.dev.replays 0x027 = false ∧ f.dev.boardwalk 23 = false ∧ f.dev.ustate 0x027 = 3 ∧ f.dev.domainOn 9 = true ∧
    f.dev.power = 0 ∧ 64 ≤ frame60.length + 4 ∧ frame60.length + 4 ≤ f.dev.rd (F.LNK_MAXLEN_MAXLEN 23) + 4 * tags ∧
    beAt frame60 12 2 ≠ 0x8808 ∧ f.dev.passesFilter 23 frame60 = true ∧ f.dev.rd (F.LNK_MACSEC_RX_EN 23) = 0 ∧
    f.dev.rd (F.LNK_VLAN_VFILTER_EN 23) = 0 ∧
    ptpEvent (f.dev.on (F.LNK_PTP_CTRL_L2 23)) (f.dev.on (F.LNK_PTP_CTRL_UDP4 23)) (f.dev.on (F.LNK_PTP_CTRL_UDP6 23)) tags frame60 = none ∧
    f.dev.frg.scope = [] ∧ (f.dev.settleCredit 23).mayTransmit 23 = true ∧
    (f.dev.settleCredit 23).selectTx 23 (fun _ => true) = some txFrame ∧ f.dev.rd (F.LNK_MACSEC_TX_EN 23) = 0 ∧
    (ok (.rxFrame 23 frame60 false 0 0 0) f (fun t => t.dev.stat64 (Ctr.LNK 23 Lc.RX_FCS) == 1) &&
     ok (.rxFrame 23 frame60 true 0 0 0) f (fun t => (t.dev.link 23).other.map (·.octets) == [frame60] && (t.dev.link 23).audio.isEmpty) &&
     ok (.rxFrame 23 frame60 true 0 0 0) (frames [(F.LNK_CLASS_AUDIO 23, 0xFF)]) (fun t => (t.dev.link 23).audio.map (·.octets) == [frame60]) &&
     ok (.txEnqueue 23) f (fun t => (t.dev.link 23).queue.length == 2 && (t.dev.link 23).arriving.isEmpty) &&
     ok (.txEnqueue 23) (frames [(F.LNK_GCL_CTRL_EN 23, 1), (F.LNK_WMAX_WMAX 23 7, 0)]) (fun t => (t.dev.link 23).queue.length == 1) &&
     ok (.txFrameStart 23) f (fun t => (t.dev.link 23).sending.isSome && (t.dev.link 23).queue.isEmpty) &&
     ok (.txFrameDone 23) (linked 3 0 [] { sending := some txFrame }) (fun t => (t.dev.link 23).sending.isNone && t.dev.stat64 (Ctr.LNK 23 Lc.TX_FRAMES) == 1)) = true := by
  unfold State.CoreUp State.Up State.AtRest; decide +kernel

/-- Obligations.GateListsRun: states and operands that meet its hypotheses. -/
theorem wit_Gates : let g := linked 3 0 [(F.LNK_GCL_STATUS_PENDING 23, 1), (F.LNK_GCL_GATES 23 255, 0x55), (F.LNK_GCL_CTRL_EN 23, 1), (F.LNK_GCL_CTRL_LEN 23, 2),
      (F.LNK_GCL_OPER_INTERVAL 23 0, 600), (F.LNK_GCL_CYCLE_CYCLE 23, 1000)] { gateStart := 99 }
    g.CoreUp ∧ g.dev.rd (F.LNK_GCL_STATUS_PENDING 23) = 1 ∧ g.dev.accepted = [] ∧ g.dev.rd (F.LNK_GCL_CTRL_EN 23) = 1 ∧
    (g.dev.spans 23).length = 2 ∧
    ok (.gateEntryAdvance 23) g (fun t => t.dev.rd (F.LNK_GCL_STATUS_ENTRY 23) == 1 && (t.dev.link 23).entryAt == 600) = true := by
  unfold State.CoreUp State.Up State.AtRest; decide +kernel

/-! ### Rings (R213–R238) -/

/-- The last ring in service between links 22 and 23, with these fields and this state. -/
def ringed (fs : List (Fld × Nat)) (r : RingRt) : State :=
  quiet [(0x03B, 3), (0x026, 3), (0x027, 3)] (fun d => { wrs ([(F.RING_LINKS_WEST 11, 22), (F.RING_LINKS_EAST 11, 23), (F.RING_CTRL_RING_ID 11, 0xAB)] ++ fs) d with
    rings := [(11, r)] })
def managing (r : RingRt) : State := ringed [(F.RING_STATUS_ROLE 11, 2), (F.RING_CTRL_MGR_PRIO 11, 15), (F.RING_NAME_LO_NAME 11, 0x77)] r

/-- A frame of a ring from the west: subtype, ring ID, its octets from the fourth after the EtherType, on to octet 31. -/
def ringOctets (sub id : Nat) (rest : List Byte) : List Byte := List.replicate 14 0 ++ ([BitVec.ofNat 8 sub, 0, 0, BitVec.ofNat 8 id] ++ rest ++ List.replicate 48 0).take 48
def ringFrom (sub id : Nat) (rest : List Byte) : RingFrame := { octets := ringOctets sub id rest, fcsOk := true, west := true, ts := 7, pos := 5 }
/-- A token of cycle 9 by a node of this name and priority. -/
def tokenFrom (id prio name : Nat) : RingFrame :=
  ringFrom 1 id ([0, 0, 0, 9] ++ List.replicate 21 0 ++ [BitVec.ofNat 8 name, BitVec.ofNat 8 prio])
def atNode (f : RingFrame) (m : Option (Nat × Nat)) : State := ringed [] { rx := [f], manager := m }

theorem wit_Tokens_quiet : (ringed [(F.RING_CTRL_MGR_PRIO 11, 1)] { cycle := 4 }).Quiet := by
  apply quiet_of; unfold State.CoreUp State.Up State.AtRest; decide +kernel

/-- Obligations.TokensGoRound: states and operands that meet its hypotheses. -/
theorem wit_Tokens : let m := managing { rx := [tokenFrom 0xAB 15 0x77], tokenOut := true }
    let n := ringed [(F.RING_CTRL_MGR_PRIO 11, 1)] { cycle := 4 }
    m.CoreUp ∧ n.CoreUp ∧ m.dev.ringPasses 11 = true ∧ n.dev.ringPasses 11 = true ∧ m.dev.isManager 11 = true ∧
    n.dev.isManager 11 = false ∧ n.dev.ustate 0x03B = 3 ∧ m.dev.ownToken 11 (tokenFrom 0xAB 15 0x77).octets = true ∧
    n.dev.ownToken 11 (tokenFrom 0xAB 15 0x77).octets = false ∧ ringField (tokenFrom 0xAB 15 0x77).octets 2 2 = 0xAB ∧
    ringField (tokenFrom 0xAB 15 0x77).octets 30 1 = 15 ∧ n.dev.rd (F.RING_CTRL_CYCLE 11) = 0 ∧
    outranks (15, 0x78) (15, 0x77) = true ∧ n.dev.rd (F.RING_CTRL_MGR_PRIO 11) ≠ 0 ∧
    (ok (.tokenEmit 11) m (fun t => (t.dev.ring 11).forwarded == some 0 && (t.dev.ring 11).manager == some (15, 0x77)) &&
     ok (.tokenEmit 11) (managing { stepDown := true }) (fun t => t.dev.rd (F.RING_STATUS_ROLE 11) == 1) &&
     ok (.rxToken 11) (atNode (tokenFrom 0xAC 15 0x77) none) (fun t => t.dev.rd (F.RING_EVT_FOREIGN 11) == 1 && (t.dev.ring 11).rx.isEmpty) &&
     ok (.rxToken 11) (atNode (tokenFrom 0xAB 15 0x77) (some (15, 0x78))) (fun t => t.dev.stat64 (Ctr.RING 11 Rc.TOKENS_ABSORBED) == 1) &&
     ok (.rxToken 11) (atNode (tokenFrom 0xAB 15 0x77) none) (fun t => (t.dev.ring 11).cycle == 9 && (t.dev.ring 11).manager == some (15, 0x77)) &&
     ok (.tokenReturn 11) m (fun t => !(t.dev.ring 11).tokenOut && (t.dev.ring 11).rx.isEmpty) &&
     ok (.tokenMiss 11) n (fun t => (t.dev.ring 11).cycle == 5 && (t.dev.ring 11).silent) &&
     ok (.ringTokenLoss 11) n (fun t => t.dev.ustate 0x03B == 2) &&
     ok (.managerElectionTimeout 11) n (fun t => t.dev.rd (F.RING_STATUS_ROLE 11) == 2 && (t.dev.ring 11).censusDue)) = true := by
  unfold State.CoreUp State.Up State.AtRest; decide +kernel

/-- A node with an allocation of 1000 octets at 100, its table in force, and a block to send. -/
def sending (alloc : Nat) (r : RingRt) : State :=
  ringed [(F.RING_ALLOC_ALLOC 11, alloc), (F.RING_OFFSET_OFFSET 11, 100), (F.RING_STATUS_POSITION 11, 3)]
    { r with table := some { ver := 1, s1 := 5000, p := 100, slots := [] }, blocks := [{ flow := 0, n := 0, octets := ringOctets 3 0xAB [] }] }

/-- Obligations.RingFramesGoRound: states and operands that meet its hypotheses. -/
theorem wit_RingFrames : let p := sending 1000 { pass := [ringFrom 3 0xAB []], rx := [ringFrom 3 0xAB [], ringFrom 4 0xAB [10], ringFrom 2 0xAB [0, 0, 0, 6]] }
    p.CoreUp ∧ p.dev.ringPasses 11 = true ∧ p.dev.isManager 11 = false ∧ p.dev.inOwnWindow 11 5 = false ∧
    p.dev.rd (F.RING_STATUS_EAST_WRAP 11) = 0 ∧ p.dev.east 11 = 23 ∧ p.dev.west 11 = 22 ∧ p.dev.ustate (0x010 + 23) = 3 ∧
    p.dev.rd (F.LNK_MACSEC_TX_EN 23) = 0 ∧ p.dev.ustate (0x010 + 22) = 3 ∧ p.dev.rd (F.LNK_MACSEC_TX_EN 22) = 0 ∧
    p.dev.ringSends 11 = true ∧ p.dev.occupancy 11 (62 + 4) ≤ p.dev.rd (F.RING_ALLOC_ALLOC 11) ∧
    subtypeOf (ringFrom 3 0xAB []).octets = 3 ∧ ringField (ringFrom 3 0xAB []).octets 1 1 < 16 ∧ p.dev.inPass2 11 5 = false ∧
    ringField (ringFrom 4 0xAB [10]).octets 4 1 % 64 = 10 ∧ p.dev.rd (F.RING_STATUS_POSITION 11) = 3 ∧
    (ok (.passThrough 11) p (fun t => (t.dev.ring 11).pass.isEmpty && t.dev.out.length == 1) &&
     ok (.windowStart 11) (sending 0 {}) (fun t => (t.dev.ring 11).blocks.isEmpty && t.dev.stat64 (Ctr.RING 11 Rc.ISO_NO_WINDOW) == 1) &&
     ok (.windowStart 11) p (fun t => t.dev.out.length == 1 && t.dev.stat64 (Ctr.RING 11 Rc.TX_BLOCKS) == 1) &&
     ok (.rxBlock 11) p (fun t => (t.dev.ring 11).rx.length == 2 && t.dev.stat64 (Ctr.RING 11 Rc.RX_BLOCKS) == 1) &&
     ok (.rxAsync 11) (sending 0 { rx := [ringFrom 4 0xAB [2]] }) (fun t => t.dev.stat64 (Ctr.RING 11 Rc.ASYNC_RX) == 1) &&
     ok (.echoSend 11) p (fun t => t.dev.out.length == 1) &&
     ok (.rxEcho 11) p (fun t => (t.dev.ring 11).echoRx == (6, 7))) = true := by
  unfold State.CoreUp State.Up State.AtRest; decide +kernel

/-- Obligations.RingsTakeCensusAndWrap: states and operands that meet its hypotheses. -/
theorem wit_RingCensus : let c := ringFrom 5 0xAB [0, 8, 1]
    let m := managing { rx := [{ c with octets := setOctets c.octets 6 (beBytes 0x77 6) }], censusOut := some (8, 4), cycle := 5 }
    let n := ringed [(F.RING_STATUS_EAST_WRAP 11, 1)] { rx := [c, ringFrom 6 0xAB [1]], unwrapAt := some 4, cycle := 260 }
    let due := managing { censusDue := true, tableDue := true, lastCensus := some [] }
    m.CoreUp ∧ n.CoreUp ∧ due.CoreUp ∧ m.dev.ringPasses 11 = true ∧ n.dev.ringPasses 11 = true ∧ due.dev.ringPasses 11 = true ∧
    m.dev.isManager 11 = true ∧ n.dev.isManager 11 = false ∧ due.dev.isManager 11 = true ∧
    due.dev.rd (F.RING_CENSUS_PERIOD 11) ≠ 0 ∧ m.dev.ringName 11 = 0x77 ∧ ringField c.octets 4 2 = 8 ∧
    (parseCensus c.octets).length = 1 ∧ ringField c.octets 6 1 < 64 ∧ n.dev.rd (F.RING_STATUS_WEST_WRAP 11) = 0 ∧
    n.dev.rd (F.RING_STATUS_EAST_WRAP 11) = 1 ∧ m.dev.rd (F.RING_STATUS_EAST_WRAP 11) = 0 ∧
    (ok (.censusStart 11) due (fun t => (t.dev.ring 11).censusOut == some (0, 0) && (t.dev.ring 11).epoch == 1) &&
     ok (.censusPeriodExpire 11) due (fun t => (t.dev.ring 11).censusOut == some (0, 0)) &&
     ok (.censusReturn 11) m (fun t => (t.dev.ring 11).censusOut == none && (t.dev.ring 11).lastCensus.isSome) &&
     ok (.tableSend 11) due (fun t => !(t.dev.ring 11).tableDue && (t.dev.ring 11).tableOut.isSome) &&
     ok (.rxCensus 11) n (fun t => (t.dev.ring 11).index == some 1) &&
     ok (.rxTable 11) n (fun t => (t.dev.ring 11).stored.isSome) &&
     ok (.ringWrap 11 true) n (fun t => t.dev.rd (F.RING_STATUS_WEST_WRAP 11) == 1 && (t.dev.ring 11).changeFor == 2) &&
     ok (.ringWrap 11 false) m (fun t => t.dev.rd (F.RING_STATUS_EAST_WRAP 11) == 1) &&
     ok (.ringUnwrap 11) n (fun t => t.dev.rd (F.RING_STATUS_EAST_WRAP 11) == 0 && t.dev.rd (F.RING_EVT_UNWRAP 11) == 1)) = true := by
  unfold State.CoreUp State.Up State.AtRest; decide +kernel

/-! ### The switch core (R239–R254) -/

/-- Three keys: a group address in the table at slot 1 of its bucket, one that is not in it, and a learned unicast one. -/
def fdbKeyed (da vid : Nat) (fs : List (Fld × Nat)) : State :=
  let b := fdbBucket 0xFFF 0x0180C2000020
  powered (fun d => { wrs ([(F.SWC_FDB_KEY_LO_DA_LO, da), (F.SWC_FDB_KEY_HI_DA_HI, da / 2 ^ 32), (F.SWC_FDB_KEY_HI_VID, vid), (F.SWC_CTRL_AGE, 300),
      (F.SWC_FDB_DATA_LO_PORTS, 0x80000001), (F.SWC_FDB_DATA_HI_PORTS, 8)] ++ fs) d with
    swc := { d.swc with fdb := [(b + 1, { valid := true, da := 0x0180C2000020, vid := 0xFFF, ports := 0x800000001, static := true }),
      (b + 2, { valid := true, da := 2, vid := 7, ports := 1 })] } })

/-- Obligations.ForwardingTableOperates: states and operands that meet its hypotheses. -/
theorem wit_Fdb : let inTable := fdbKeyed 0x0180C2000020 0xFFF []
    let new := fdbKeyed 0x030000000000 1 []
    let b := fdbBucket 0xFFF 0x0180C2000020
    inTable.TakesWrite .spi A.SWC_FDB_CMD ∧ new.TakesWrite .spi A.SWC_FDB_CMD ∧ inTable.dev.rd F.SWC_FDB_CMD_BUSY = 0 ∧
    isGroup 0x0180C2000020 = true ∧ isGroup 0x030000000000 = true ∧ inTable.dev.fdbFind 0xFFF 0x0180C2000020 = some (b + 1) ∧
    new.dev.fdbFind 1 0x030000000000 = none ∧ (new.dev.fdbFree 1 0x030000000000).isSome = true ∧ inTable.CoreUp ∧
    b + 2 < 4096 ∧ (inTable.dev.fdbAt (b + 2)).valid = true ∧ (inTable.dev.fdbAt (b + 2)).static = false ∧
    inTable.dev.rd F.SWC_CTRL_AGE ≠ 0 ∧
    (ok (.fdbWrite .spi 1) inTable (fun t => t.dev.rd F.SWC_FDB_CMD_INDEX == b + 1 && !(t.dev.fdbAt (b + 1)).static && (t.dev.fdbAt (b + 1)).ports == 0x880000001) &&
     ok (.fdbWrite .spi 1) new (fun t => t.dev.swc.fdb.length == 3 && t.dev.rd F.SWC_FDB_CMD_BUSY == 1) &&
     ok (.fdbDelete .spi 2) inTable (fun t => t.dev.swc.fdb.length == 1) &&
     ok (.fdbLookup .spi 3) inTable (fun t => t.dev.rd F.SWC_FDB_DATA_HI_PORTS == 8 && t.dev.rd F.SWC_FDB_DATA_HI_VALID == 1) &&
     ok (.fdbLookup .spi 3) new (fun t => t.dev.rd F.SWC_FDB_DATA_HI_VALID == 0) &&
     ok (.fdbRead .spi (BitVec.ofNat 32 (4 + (b + 2) * 65536))) new (fun t => t.dev.rd F.SWC_FDB_KEY_LO_DA_LO == 2 && t.dev.rd F.SWC_FDB_KEY_HI_VID == 7) &&
     ok (.fdbRead .spi 4) new (fun t => t.dev.rd F.SWC_FDB_DATA_HI_VALID == 0) &&
     ok (.fdbFlush .spi 5) inTable (fun t => t.dev.swc.fdb.length == 1) &&
     ok .fdbOpComplete (fdbKeyed 0 0 [(F.SWC_FDB_CMD_BUSY, 1)]) (fun t => t.dev.rd F.SWC_FDB_CMD_BUSY == 0) &&
     ok (.fdbAgeExpire (Fin.ofNat 4096 (b + 2))) inTable (fun t => t.dev.swc.fdb.length == 1)) = true := by
  unfold State.TakesWrite State.CoreUp State.Up State.AtRest; decide +kernel

/-- A frame in a lane of link 0 for the group address of the table, or for no port, with link 23 in service. -/
def inFrame (da : Nat) : Frame := { octets := beBytes da 6 ++ List.replicate 54 0, port := 0, ts := 0, cls := 7, vid := 0xFFF, pcp := 0, tags := 0 }
def laned (audio : Bool) (da ports : Nat) : State :=
  quiet [(0x027, 3)] (fun d => { d.setLink 0 (if audio then { audio := [inFrame da] } else { other := [inFrame da] }) with
    swc := { d.swc with fdb := [(fdbBucket 0xFFF 0x0180C2000020, { valid := true, da := 0x0180C2000020, vid := 0xFFF, ports, static := true })] } })

theorem egress_pkt (d : Dev) (k : Nat) (x : Frame) (id n len : Nat) : d.egressCheck k (d.forwarded k x id n) len = d.egressCheck k (d.forwarded k x 0 n) len := rfl

/-- Obligations.SwitchMovesFrames: states and operands that meet its hypotheses. -/
theorem wit_SwitchFrame_queue : ∀ id, (match (laned true 0x0180C2000020 0x800000).dev.egressCheck 23
    ((laned true 0x0180C2000020 0x800000).dev.forwarded 23 (inFrame 0x0180C2000020) id 1) (60 + 4) with | .queue => true | _ => false) = true := by
  intro id; rw [egress_pkt]; decide +kernel

/-- Obligations.SwitchMovesFrames: states and operands that meet its hypotheses. -/
theorem wit_SwitchFrame : let a := laned true 0x0180C2000020 0x800000
    let o := laned false 2 0
    a.CoreUp ∧ o.CoreUp ∧ a.dev.safe = false ∧ a.dev.power = 0 ∧ a.dev.rd F.ERR_STATUS_STOPPED / 4 % 2 = 0 ∧
    a.dev.rd F.FRG_STATUS_STATE ≠ Frg.RECORDING ∧ a.dev.nextPort true = some 0 ∧ o.dev.nextPort true = none ∧
    o.dev.nextPort false = some 0 ∧ a.dev.lane true 0 = [inFrame 0x0180C2000020] ∧ a.dev.lookup 0xFFF 0x0180C2000020 0 = [23] ∧
    o.dev.lookup 0xFFF 2 0 = [] ∧ o.dev.flowMatch (inFrame 2) = none ∧ o.dev.ruleOf (inFrame 2) = none ∧
    a.dev.flowMatch (inFrame 0x0180C2000020) = none ∧ a.dev.ruleOf (inFrame 0x0180C2000020) = none ∧ cellsOf 64 = 1 ∧
    a.dev.quotaAdmits 7 1 = true ∧
    (ok .switchFrame a (fun t => (t.dev.link 23).arriving.map (·.octets) == [(inFrame 0x0180C2000020).octets] && t.dev.stat64 (Ctr.PORT 23 Pc.FWD_FRAMES) == 1) &&
     ok .switchFrame o (fun t => t.dev.stat64 (Ctr.PORT 0 Pc.IN_NO_ROUTE) == 1 && (t.dev.link 0).other.isEmpty)) = true := by
  unfold State.CoreUp State.Up State.AtRest; decide +kernel

/-- Packet queue 7 and transmit ring 3 with some entries, and a descriptor carried out. -/
def queued : State :=
  powered (fun d => { wrs [(F.SPQ_CFG_EN 7, 1), (F.LTX_CFG_EN 3, 1), (F.LTX_CFG_DEPTH_LOG2 3, 2)] d with
    swc := { d.swc with spq := [(7, { wr := 1, wr2 := 1, rd := 0xFFFF, rd2 := 0xFFFF })], ltx := [(3, { wr := 5, wr2 := 5, rd := 4, rd2 := 4 })],
                        descs := [{ ring := 3, index := 4, left := 0, time := 0x500000007 }] } })

/-- Obligations.SwitchMovesFrames: states and operands that meet its hypotheses. -/
theorem wit_PacketQueues :
    queued.TakesWrite .pcie (A.SPQ_HEAD 7) ∧ queued.TakesWrite .pcie (A.SPQ_HEAD 6) ∧ (queued.dev.spq 7).ok = true ∧
    queued.dev.rd (F.SPQ_CFG_EN 7) = 1 ∧ (queued.dev.spq 7).fill = 2 ∧ queued.dev.rd (F.SPQ_CFG_EN 6) = 0 ∧
    queued.TakesWrite .spi (A.LTX_TAIL 3) ∧ queued.dev.rd (F.LTX_CFG_EN 3) = 1 ∧ (queued.dev.ltx 3).ok = true ∧
    (queued.dev.ltx 3).fill = 1 ∧ queued.CoreUp ∧
    queued.dev.swc.descs.find? (fun x => x.ring = 3 && x.index = (queued.dev.ltx 3).rd.toNat && x.left = 0) = some { ring := 3, index := 4, left := 0, time := 0x500000007 } ∧
    (ok (.spqHeadWrite .pcie 7 1) queued (fun t => (t.dev.spq 7).rd == 1 && t.dev.rd (F.SPQ_FILL_FILL 7) == 0) &&
     ok (.spqHeadWrite .pcie 7 2) queued (fun t => (t.dev.spq 7).rd == 0xFFFF && t.dev.rd F.SWC_IGNORED_COUNT == 1) &&
     ok (.spqHeadWrite .pcie 6 0) queued (fun t => t.dev.rd F.SWC_IGNORED_COUNT == 1) &&
     ok (.ltxTailWrite .spi 3 8) queued (fun t => (t.dev.ltx 3).wr == 8 && t.dev.swc.descs.length == 4) &&
     ok (.ltxDescriptorDone 3) queued (fun t => t.dev.rd (F.LTX_HEAD_HEAD 3) == 5 && memByte t.mem (0xF00000 + 16) == 7)) = true := by
  unfold State.TakesWrite State.CoreUp State.Up State.AtRest; decide +kernel

/-! ### Streams, ticks, patch regions, meters (R255–R292, R308–R376) -/

/-- The last flow, a sample block flow of one channel from ring 0, in service in domain 0, whose ticks run. -/
def flowing (fs : List (Fld × Nat)) (x : FlowRt) (q : McsRt) : State :=
  quiet [(0xBFF, 3), (0x0A0, 3)] (fun d => { wrs ([(F.FLOW_CFG_FMT 2047, 3), (F.FLOW_CFG_RATE 2047, 1), (F.FLOW_CFG_ENC 2047, 1), (F.FLOW_CHANS_CHANS 2047, 1),
    (F.FLOW_PORTS_PORT_A 2047, 24), (F.FLOW_BUF_BUF_LOG2 2047, 6), (F.FLOW_LATENCY_LATENCY 2047, 1000)] ++ fs) d with flows := [(2047, x)], mcs := [(0, q)] })
/-- A sample block of one period at a media time. -/
def blockAt (t : Nat) : FlowPacket :=
  { octets := List.replicate 14 0 ++ [3, 0, 0, 0, 0, 1, 0, 0] ++ beBytes t 4 ++ [0, 1, 1, 0, 1, 2, 3, 0] ++ List.replicate 40 0, tags := 0, leg := 1, ts := 0, pkt := none }
def ticks : McsRt := { ticking := true }

theorem wit_Packets_hold_quiet : (flowing [(F.FLOW_BUF_HOLD 2047, 7)] { run := 7 } ticks).Quiet := by
  apply quiet_of; unfold State.CoreUp State.Up State.AtRest; decide +kernel

/-- Obligations.StreamPacketsAreTakenAndReleased: states and operands that meet its hypotheses. -/
theorem wit_Packets : let a := flowing [] { rxq := [blockAt 10] } ticks
    let early := flowing [] { rxq := [blockAt 100] } ticks
    let y := { ts := 10, samples := [[{ v := 0x01020300, tag := 0 }]] : Parsed }
    a.CoreUp ∧ early.CoreUp ∧ a.dev.flowTx 2047 = false ∧ a.dev.active 0xBFF = true ∧
    (a.dev.mclk (a.dev.flowDomain 2047)).ticking = true ∧ a.dev.parsePacket 2047 (blockAt 10) = some y ∧
    a.dev.parsePacket 2047 { blockAt 10 with octets := [] } = none ∧ (early.dev.parsePacket 2047 (blockAt 100)).isSome = true ∧
    a.dev.periodAt 0 (a.dev.mediaTime 2047 (blockAt 10) y 0 + a.dev.rd (F.FLOW_LATENCY_LATENCY 2047) * 65536) = 10 ∧
    (a.dev.mclk 0).count + a.dev.tickSize 0 ≤ 10 ∧
    (flowing [(F.FLOW_BUF_HOLD 2047, 7)] { run := 7 } ticks).dev.rd (F.FLOW_BUF_HOLD 2047) ≤ 7 ∧
    (ok (.rxStreamPacket 2047) (flowing [] { rxq := [blockAt 10] } {}) (fun t => t.dev.stat64 (Ctr.SLOT 2047 Sc.PKT_DROPPED) == 1) &&
     ok (.rxStreamPacket 2047) (flowing [] { rxq := [{ blockAt 10 with octets := [] }] } ticks) (fun t => t.dev.stat64 (Ctr.SLOT 2047 Sc.PKT_BAD) == 1) &&
     ok (.rxStreamPacket 2047) early (fun t => t.dev.stat64 (Ctr.SLOT 2047 Sc.PKT_EARLY) == 1 && (t.dev.flow 2047).rxq.isEmpty) &&
     ok (.rxStreamPacket 2047) a (fun t => (t.dev.flow 2047).buf == [(10, { first := 32640, samples := [{ v := 0x01020300, tag := 0 }] })] && t.dev.rd (F.FLOW_STATUS_LEG_B_UP 2047) == 1) &&
     ok (.flowHoldExpire 2047) (flowing [(F.FLOW_BUF_HOLD 2047, 7)] { run := 7 } ticks) (fun t => t.dev.ustate 0xBFF == 2) &&
     ok (.legDown 2047 true) (flowing [(F.FLOW_STATUS_LEG_B_UP 2047, 1)] {} ticks) (fun t => t.dev.rd (F.FLOW_STATUS_LEG_B_UP 2047) == 0)) = true := by
  unfold State.CoreUp State.Up State.AtRest; decide +kernel

/-- Obligations.StreamPacketsAreTakenAndReleased: states and operands that meet its hypotheses. -/
theorem wit_PacketRelease : let r := flowing [(F.FLOW_CFG_DIR 2047, 1)] { txFrom := some 0, seq := some 9 } { ticking := true, count := 100 }
    r.CoreUp ∧ r.dev.flowTx 2047 = true ∧ r.dev.ustate 0xBFF = 3 ∧
    r.dev.packetPeriods 2047 0 ≤ (r.dev.mclk (r.dev.flowDomain 2047)).count ∧
    ok (.flowPacketRelease 2047) r (fun t => (t.dev.flow 2047).seq == some 10) = true := by
  unfold State.CoreUp State.Up State.AtRest; decide +kernel

/-- Obligations.TicksRegionsAndMeters: states and operands that meet its hypotheses. -/
theorem wit_Tick : let k := quiet [(0x0A7, 3)] (fun d => { d with moving := [(0x19400 * 64, { v := 5, tag := 0 })] })
    k.CoreUp ∧ k.dev.replays 0x0A7 = false ∧ k.dev.ticking 7 = true ∧ k.dev.domainOn 17 = true ∧ k.dev.safe = false ∧
    k.dev.domainEngines 7 = [] ∧ SMap.wf (fun _ => ({} : Sample)) k.dev.moving = true ∧ k.dev.movedBy 7 0x19400 = true ∧
    ok (.tickStart 7 100 0) k (fun t => (t.dev.mclk 7).ticking && (t.dev.dstAt 0x19400 0).v == 5) = true := by
  unfold State.CoreUp State.Up State.AtRest; decide +kernel

/-- The last region, of two entries, in a state. -/
def region (k : Nat) (fs : List (Fld × Nat)) (copy : List Word) : State :=
  quiet [(0xC3F, k)] (fun d => { wrs ([(F.PR_REGION_CFG_COUNT 63, 2)] ++ fs) d with regions := [(63, { copy := copy })] })

/-- Obligations.TicksRegionsAndMeters: states and operands that meet its hypotheses. -/
theorem wit_Regions : let r := region 3 [] []
    let capt := region 3 [(F.PR_REGION_SWAP_CAPTURE 63, 1)] [0, 0]
    let off := region 1 [(F.PR_REGION_SWAP_CAPTURE 63, 1)] [0, 7]
    let bad := region 1 [(F.PR_REGION_SWAP_CAPTURE 63, 1)] [0x8000FFFF, 0]
    r.TakesWrite .spi (A.PR_REGION_SWAP 63) ∧ capt.TakesWrite .spi (A.PR_REGION_SWAP 63) ∧ r.CoreUp ∧ off.CoreUp ∧ bad.CoreUp ∧
    r.dev.unitAddr 0 0xC3F 0x108 = (0, A.PR_REGION_SWAP 63) ∧ r.dev.unitAddr 0 0xC3F 0x114 = (0, A.PR_REGION_WDATA 63) ∧
    r.dev.safe = false ∧ r.dev.cfgRefuses 0 0 = false ∧ r.dev.rd (F.PR_REGION_SWAP_CHAINED 63) = 0 ∧
    r.TakesWrite .spi (A.PR_REGION_WDATA 63) ∧ r.dev.rd (F.PR_REGION_WPTR_PTR 63) < r.dev.regionCount 63 ∧ entryOk 0 0 = true ∧
    entryOk 0 0x8000FFFF = false ∧
    (ok (.regionSwap (.reg .spi) 63 1) r (fun t => t.dev.rd (F.PR_REGION_SWAP_CAPTURE 63) == 1 && (t.dev.region 63).copy.length == 2) &&
     ok (.regionSwap (.cmd 0) 63 3) capt (fun t => t.dev.rd (F.PR_REGION_SWAP_CHAINED 63) == 1) &&
     ok (.regionWdataWrite (.cmd 0) 63 0x80001234) r (fun t => t.dev.reg (patchShadow (t.dev.regionBase 63)) == 0x80001234 && t.dev.rd (F.PR_REGION_WPTR_PTR 63) == 1) &&
     ok (.swapCaptureDone 63) capt (fun t => t.dev.rd (F.PR_REGION_SWAP_PENDING 63) == 1) &&
     ok (.swapCaptureDone 63) off (fun t => t.dev.reg (patchActive (t.dev.regionBase 63 + 1)) == 7) &&
     ok (.swapCaptureDone 63) bad (fun t => t.dev.rd (F.PR_REGION_SWAP_REASON 63) == Rsn.RANGE)) = true := by
  unfold State.TakesWrite State.CoreUp State.Up State.AtRest; decide +kernel

/-- Obligations.TicksRegionsAndMeters: states and operands that meet its hypotheses. -/
theorem wit_Meters : let m := powered (fun d => { wrs [(F.MTR_LD_CFG_EN 255, 1)] d with stat := [(Ctr.HIST 2047, 5)] })
    m.TakesWrite .jtag (A.MTR_LD_CTRL 255) ∧ m.dev.rd (F.MTR_LD_CFG_EN 255) = 1 ∧ m.TakesWrite .jtag (A.MTR_HISTW 2047) ∧
    (ok (.loudnessRestart .jtag 255 1) m (fun t => t.dev.stat64 (Ctr.LOUD 255 + 24) == m.dev.t64) &&
     ok (.histogramClear .jtag 2047 0x80000000) m (fun t => t.dev.stat64 (Ctr.HIST 2047) == 0)) = true := by
  unfold State.TakesWrite State.Up State.AtRest; decide +kernel

/-! ### Time, media clocks, rate meters (R293–R330) -/

/-- The time unit in a state, with these fields and this time. -/
def timedUnit (k : Nat) (fs : List (Fld × Nat)) (x : TimeRt) : State := quiet [(0x0FC, k)] (fun d => { wrs fs d with time := x, clk := 600000000 })
/-- The servo runs, from offset samples, or from ring 11. -/
def servo (source : Nat) : State :=
  let s := timedUnit 2 [(F.TIME_SERVO_EN, 1), (F.TIME_SERVO_SOURCE, source), (F.TIME_SERVO_RING, 11), (F.TIME_SERVO_GAIN_KP, 256), (F.TIME_SERVO_GAIN_KI, 256),
    (F.UNIT_STATE_STATE 0x03B, 3)] {}
  { s with dev := { s.dev with rings := [(11, { offsets := [100, 50] })] } }

/-- Obligations.TimeIsSetSteeredAndCaptured: states and operands that meet its hypotheses. -/
theorem wit_TimeCommands : let b := timedUnit 3 [(F.TIME_SET_NS_NS, 999999999), (F.TIME_STEP_LO_STEP, 0xFFFFFFFF), (F.TIME_STEP_HI_STEP, 0xFFFFFFFF)] { sec := 7 }
    let set := timedUnit 3 [(F.TIME_CMD_BUSY, 1)] { command := some (1, 5000000000, false) }
    let back := timedUnit 3 [] { command := some (2, -1, false) }
    b.TakesWrite .spi A.TIME_CMD ∧ b.dev.time.command = none ∧ b.TakesWrite .pcie A.TIME_ADJ ∧ b.dev.servoRuns = false ∧
    (servo 0).TakesWrite .pcie A.TIME_ADJ ∧ (servo 0).dev.servoRuns = true ∧ b.TakesRead .window A.TIME_STC_NS ∧
    b.TakesRead .spi A.TIME_PPS_IN_NS ∧ set.Up ∧ back.Up ∧ ¬ (999999999 < set.dev.rd F.TIME_SET_NS_NS) ∧
    (ok (.timeSet .spi 1) b (fun t => t.dev.time.command == some (1, 999999999, false)) &&
     ok (.timeStep .spi 2) b (fun t => t.dev.time.command == some (2, -1, false) && t.dev.rd F.TIME_CMD_BUSY == 1) &&
     ok .timeCmdApply set (fun t => t.dev.time.sec == 5 && t.dev.time.ns == 0 && (t.dev.link 23).shadow == 5000000000 * 2 ^ 32) &&
     ok .timeCmdApply back (fun t => t.dev.rd F.TIME_CMD_REASON == Rsn.RANGE && t.dev.stcFine == 0) &&
     ok (.timeAdjWrite .pcie 0xFFFFFFFF) b (fun t => t.dev.reg A.TIME_ADJ == 0xFFFFFFFF) &&
     ok (.timeAdjWrite .pcie 1) (servo 0) (fun t => t.dev.reg A.TIME_ADJ == 0 && t.dev.rd F.TIME_IGNORED_COUNT == 1) &&
     ok (.stcRead .window) b (fun t => t.dev.time.latchWindow == (7, 0)) &&
     ok (.ppsInRead .spi) (timedUnit 3 [] { pps := (2 ^ 32 + 9, 1, 3) }) (fun t => t.dev.rd F.TIME_PPS_IN_SEC_LO_SEC == 9 && t.dev.rd F.TIME_PPS_IN_SEC_HI_SEQ == 3)) = true := by
  repeat' refine And.intro ?_ ?_
  all_goals decide +kernel

/-- Obligations.TimeIsSetSteeredAndCaptured: states and operands that meet its hypotheses. -/
theorem wit_ServoAndPps : let p := timedUnit 3 [(F.TIME_PPS_OUT_EN, 1), (F.TIME_PPS_IN_EN, 1), (F.TIME_PPS_IN_DELAY_DELAY, 100)] { sec := 7, ns := 50, ppsAt := some 100000000 }
    let q := timedUnit 3 [(F.TIME_PPS_IN_EN, 1), (F.TIME_PPS_IN_FALL, 1)] { ppsAt := some 100000001, ppsOut := true }
    (servo 0).dev.rd F.TIME_SERVO_STEP_EN = 0 ∧ (servo 0).TakesWrite .jtag A.TIME_SERVO_OFS ∧
    (servo 0).dev.rd F.TIME_SERVO_SOURCE = 0 ∧ (servo 2).CoreUp ∧ (servo 2).dev.servoRuns = true ∧
    (servo 2).dev.rd F.TIME_SERVO_SOURCE = 2 ∧ (servo 2).dev.ustate (0x030 + 11) = 3 ∧ (servo 2).dev.isManager 11 = false ∧
    ((servo 2).dev.ring 11).offsets ≠ [] ∧ (servo 2).dev.rd F.TIME_STATUS_HOLDOVER = 0 ∧ p.Up ∧ p.dev.active 0x0FC = true ∧
    p.dev.replays 0x0FC = false ∧ p.dev.rd F.TIME_PPS_OUT_EN = 1 ∧ q.dev.time.ppsOut = true ∧ p.dev.rd F.TIME_PPS_IN_FALL = 0 ∧
    q.dev.rd F.TIME_PPS_IN_FALL = 1 ∧ q.Up ∧
    (ok (.servoOfsWrite .jtag 0xFFFFFFF6) (servo 0) (fun t => toSigned 32 (t.dev.rd F.TIME_ADJ_ADJ) == 20 && toSigned 32 (t.dev.rd F.TIME_SERVO_INTEG_INTEG) == -10) &&
     ok .servoRingSample (servo 2) (fun t => toSigned 32 (t.dev.rd F.TIME_ADJ_ADJ) == -150) &&
     ok .servoHoldover (servo 0) (fun t => t.dev.rd F.TIME_STATUS_HOLDOVER == 1) &&
     ok .ppsOutEdge p (fun t => t.dev.time.ppsOut && t.dev.out == [.pin Pin.PPS_OUT true]) &&
     ok .ppsOutEnd q (fun t => !t.dev.time.ppsOut) &&
     ok (.ppsInEdge false) p (fun t => t.dev.time.pps == (6, 999999950, 1) && t.dev.time.ppsAt == some 600000000) &&
     ok (.ppsInEdge true) q (fun t => t.dev.stat64 (Ctr.TIME Tc.PPS_IN_REJECTED) == 1)) = true := by
  unfold State.TakesWrite State.CoreUp State.Up State.AtRest; decide +kernel

/-- The last media clock in a state, following the STC, with these fields and this state. -/
def clocked (k order : Nat) (fs : List (Fld × Nat)) (x : McsRt) : State :=
  quiet [(0x0A7, k)] (fun d => { wrs ((F.MCS_CTRL_SRC 7, 1) :: fs) (d.setUnit 0x0A7 { order := order }) with mcs := [(7, x)], groups := [(15, { blockAt := 9 * 65536 })] })

theorem wit_MediaClocks_quiet : (clocked 0 Ord.ENABLE [] {}).Quiet ∧ (clocked 2 0 [] { goodSince := some 0 }).Quiet := by
  refine ⟨?_, ?_⟩ <;> apply quiet_of <;> unfold State.CoreUp State.Up State.AtRest <;> decide +kernel

/-- Obligations.MediaClocksLockAndCalibrate: states and operands that meet its hypotheses. -/
theorem wit_MediaClocks : let g := clocked 2 0 [] { goodSince := some 0 }
    let lost := clocked 3 0 [(F.MCS_STATUS_LOCKED 7, 1), (F.MCS_CTRL_SRC 7, 3)] { refSince := some 0 }
    let bad := clocked 3 0 [(F.MCS_STATUS_LOCKED 7, 1)] { badTicks := 2 }
    let by_ := fun (l : Nat) => clocked 3 0 [(F.MCS_STATUS_BYPASS 7, 1), (F.MCS_ANCHOR_LIMIT 7, l)] { refSince := some 0 }
    g.CoreUp ∧ lost.CoreUp ∧ bad.CoreUp ∧ (by_ 1).CoreUp ∧ (by_ 0).dev.safe = false ∧
    (by_ 1).dev.rd (F.MCS_STATUS_BYPASS 7) = 1 ∧ (by_ 1).dev.refNow 7 = true ∧ g.dev.active 0x0A7 = true ∧
    g.dev.rd (F.MCS_CTRL_SRC 7) ≠ 0 ∧ lost.dev.rd (F.MCS_CTRL_SRC 7) ≠ 0 ∧ g.dev.rd (F.MCS_STATUS_BYPASS 7) = 0 ∧
    g.dev.rd (F.MCS_STATUS_LOCKED 7) = 0 ∧ g.dev.refNow 7 = true ∧ lost.dev.refNow 7 = false ∧ (4096 + 2 ^ 3) % 2 ^ 3 = 0 ∧
    (clocked 0 Ord.ENABLE [] {}).dev.ustate 0x0A7 = 0 ∧ ((clocked 0 Ord.ENABLE [] {}).dev.unit 0x0A7).order = Ord.ENABLE ∧
    divRound (10000000 * 65536 * (by_ 1).dev.domainHz 7) (65536 * 1000000000 * (by_ 1).dev.tickSize 7) * (by_ 1).dev.tickSize 7 ≠ 0 ∧
    (ok (.tickSizeChange 7) (clocked 3 0 [] { tickNew := some 3, tickLog := 5, ticking := true, count := 4096 }) (fun t => (t.dev.mclk 7).tickLog == 3 && (t.dev.mclk 7).tickNew == none) &&
     ok (.mclkLock 7) g (fun t => t.dev.rd (F.MCS_STATUS_LOCKED 7) == 1 && t.dev.ustate 0x0A7 == 3) &&
     ok (.mclkBypass 7) lost (fun t => t.dev.rd (F.MCS_STATUS_BYPASS 7) == 1 && t.dev.stat64 (Ctr.MCS 7 Mc.REF_LOSSES) == 1) &&
     ok (.mclkBypass 7) bad (fun t => t.dev.rd (F.MCS_STATUS_LOCKED 7) == 0 && t.dev.stat64 (Ctr.MCS 7 Mc.UNLOCKS) == 1) &&
     ok (.mclkHandback 7 65536000) (by_ 1) (fun t => t.dev.rd (F.MCS_STATUS_BYPASS 7) == 0 && (t.dev.mclk 7).slew == 65536000) &&
     ok (.mclkHandback 7 (10000000 * 65536)) (by_ 1) (fun t => t.dev.stat64 (Ctr.MCS 7 Mc.ANCHORS) == 1) &&
     ok (.mcsCalDone 7 5 9) (clocked 0 0 [(F.MCS_CAL_CAL_BUSY 7, 1)] {}) (fun t => t.dev.rd (F.MCS_CAL_FMIN_FMIN 7) == 5 && t.dev.rd (F.MCS_CAL_FMAX_FMAX 7) == 9)) = true := by
  unfold State.CoreUp State.Up State.AtRest; decide +kernel

/-- Obligations.MediaClocksLockAndCalibrate: states and operands that meet its hypotheses. -/
theorem wit_MediaClockReads : let o := clocked 0 0 [] { count := 0x500000007, tickAt := 3 * 65536 }
    o.TakesWrite .spi (A.MCS_CAL 7) ∧ o.dev.posted = [] ∧ o.dev.ustate (0x0A0 + 7) = 0 ∧ o.dev.rd (F.MCS_CAL_CAL_BUSY 7) = 0 ∧
    o.TakesRead .pcie (A.MCS_COUNT_LO 7) ∧ o.TakesRead .pcie (A.APG_FRAME_LO 15) ∧ o.CoreUp ∧
    (SMap.get (fun _ => (7, 0)) { o.dev with meters := [(23, (1, 1))] }.meters 23) = (1, 1) ∧
    (ok (.mcsCalGo .spi 7 0x13F) o (fun t => t.dev.rd (F.MCS_CAL_CAL_BUSY 7) == 1 && t.dev.rd (F.MCS_CAL_BAND 7) == 63) &&
     ok (.mcsCountRead .pcie 7) o (fun t => t.dev.reg (A.MCS_COUNT_HI 7) == 5 && t.dev.reg (A.MCS_TICK_TIME_LO 7) == 3) &&
     ok (.apgFrameRead .pcie 15) o (fun t => t.dev.reg (A.APG_FRAME_TIME_LO 15) == 9) &&
     ok (.rateMeterGate 23 4801 (100000000 * 65536)) { o with dev := { o.dev with meters := [(23, (1, 1))] } }
      (fun t => t.dev.rd (F.RM_FREQ_FREQ 23) == 768000 && t.dev.rd (F.RM_STAT_CLASS 23) == 1)) = true := by
  unfold State.TakesWrite State.TakesRead State.CoreUp State.Up State.AtRest; decide +kernel

/-! ### Port groups, power, domains, the operating point (R330–R402) -/

/-- The last port group in a state, with its state; its bridge and its last decimator SYNCING; domain 0 ticks. -/
def grouped (k : Nat) (x : GroupRt) : State :=
  quiet [(0x04F, k), (0x09F, 2), (0x17F, 2), (0x0A0, 3)] (fun d => { d with groups := [(15, x)] })
def portFrames : List (Nat × List PortFrame) := [(9, []), (17, [])]

theorem wit_PortGroups_quiet : (grouped 3 {}).Quiet := by apply quiet_of; unfold State.CoreUp State.Up State.AtRest; decide +kernel

/-- Obligations.PortGroupsFrameAndTransfer: states and operands that meet its hypotheses. -/
theorem wit_PortGroups : let g := grouped 3 { ready := portFrames }
    g.CoreUp ∧ g.dev.active 0x04F = true ∧ g.dev.replays 0x04F = false ∧ (g.dev.group 15).frameAt = none ∧
    g.dev.ustate 0x04F = 3 ∧ g.dev.ustate 0x17F = 2 ∧ (g.dev.decim 127).leftR = 0 ∧ (g.dev.decim 127).leftF = 0 ∧
    g.dev.ustate 0x09F = 2 ∧ g.dev.ticking (g.dev.rd (F.APG_CFG_DOMAIN 15)) = true ∧
    (ok (.frameSync 15 64 []) g (fun t => (t.dev.group 15).frameAt.isSome && (t.dev.group 15).frames == 1) &&
     ok (.frameSync 15 64 []) (grouped 4 { frameAt := some 0 }) (fun t => t.dev.rd (F.APG_STATUS_BCLKS 15) == 64) &&
     ok (.portBlockTransfer 15) g (fun t => (t.dev.group 15).ready == [(17, [])] && t.dev.rd (F.APG_FRAME_LO_COUNT 15) == 9) &&
     ok (.groupClkLost 15) g (fun t => t.dev.ustate 0x04F == 2) &&
     ok (.decimSettled 127) g (fun t => t.dev.ustate 0x17F == 3) &&
     ok (.bridgeLock 15 0x40000000 (-100)) g (fun t => t.dev.ustate 0x09F == 3 && t.dev.rd (F.BRG_STATUS_LOCKED 15) == 1) &&
     ok (.bridgeLock 15 0x40000001 0) g (fun t => t.dev.ustate 0x09F == 2 && t.dev.stat64 (Ctr.BRG 15 0x10) == 1)) = true := by
  unfold State.CoreUp State.Up State.AtRest; decide +kernel

/-- Group 15 with an output pin sends its slots. Obligations.PortGroupsFrameAndTransfer: states and operands that meet its hypotheses. -/
theorem wit_PortGroups_out : let g := grouped 3 {}
    let s := { g with dev := wrs [(F.UNIT_STATE_STATE 0x08F, 3), (F.AP_PIN1_DIR 63, 2), (F.AP_PIN1_SLOTS 63, 8), (F.AP_SLOT_EN1_EN 63, 1)] g.dev }
    s.CoreUp ∧ s.dev.groupOutputs 15 ≠ [] ∧
    ok (.frameSync 15 64 []) s (fun t => t.dev.out.length == 1) = true := by
  unfold State.CoreUp State.Up State.AtRest; decide +kernel

/-- The regulators' addresses and codes, and wake sources. -/
def supplies : List (Fld × Nat) :=
  [(F.CLK_PMB_CORE_ADDR, 0x40), (F.CLK_PMB_SRAM_ADDR, 0x41), (F.CLK_VOUT_OPP_CODE 0, 1), (F.CLK_VOUT_OPP_CODE 1, 2), (F.CLK_VOUT_OPP_CODE 2, 3), (F.CLK_VOUT_CORE_RET_CODE, 4),
   (F.CLK_VOUT_SRAM_RUN_CODE, 5), (F.CLK_VOUT_SRAM_RET_CODE, 6), (F.PWR_WAKE_EN_WAKE_IN, 1), (F.PWR_WAKE_EN_PCIE, 1), (F.PWR_WAKE_EN_TIMER, 1), (F.PWR_WAKE_TIMER_MS, 1),
   (F.PWR_WAKE_EN_MSPI, 1), (F.PWR_WAKE_LNK_LINKUP, 1), (F.PWR_WAKE_LNK_MAGIC, 1)]
/-- The device in a power state, with this state of the power unit. -/
def inPower (k : Nat) (fs : List (Fld × Nat)) (x : PowerRt) : State := powered (fun d => { wrs ([(F.PWR_STATUS_STATE, k)] ++ supplies ++ fs) d with pwr := x })
/-- The check of a power request as the command meets it. -/
def powerVerdict (s : State) (k : Nat) : Nat :=
  (((s.dev.poke { mem := s.mem, fuses := s.fuses } .spi A.PWR_CMD (putBits 0 0 3 k)).postComplete .pwr).powerCheck k).1

/-- Obligations.PowerStatesAreEnteredAndLeft: states and operands that meet its hypotheses. -/
theorem wit_PowerRequests : let a := inPower 0 [] {}
    let q := inPower 1 [] {}
    a.TakesWrite .spi A.PWR_CMD ∧ q.TakesWrite .spi A.PWR_CMD ∧ a.dev.posted = [] ∧ powerVerdict a 0 = 0 ∧
    powerVerdict a 1 = 0 ∧ powerVerdict a 2 = 0 ∧ powerVerdict a 3 = 0 ∧ powerVerdict q 0 = 0 ∧ a.dev.power = 0 ∧
    q.dev.power = 1 ∧ q.dev.pwr.toward = 0 ∧
    (ok (.pwrCmdActive .spi 0) a (fun t => t.dev.power == 0 && t.dev.rd F.PWR_STATUS_UNIT == 0xFFF) &&
     ok (.pwrCmdActive .spi 0) q (fun t => t.dev.power == 0 && t.dev.rd F.PWR_WAKE_CAUSE_CAUSE == 32) &&
     ok (.pwrCmdQuiet .spi 0) a (fun t => t.dev.power == 1) &&
     ok (.pwrCmdRetain .spi 0) a (fun t => t.dev.pwr.toward == 2 && t.dev.rd F.PWR_DOMAIN_STATE_ON == 0 && t.dev.pwr.domains == 0x3FFFF) &&
     ok (.pwrCmdListen .spi 0) a (fun t => t.dev.pwr.toward == 3 && t.dev.rd F.PWR_STATUS_TRANSIT == 1)) = true := by
  unfold State.TakesWrite State.Up State.AtRest; decide +kernel

/-- A magic packet for address 0. -/
def magicFrame : List Byte := List.replicate 14 1 ++ List.replicate 6 0xFF ++ List.replicate 96 0

/-- Obligations.PowerStatesAreEnteredAndLeft: states and operands that meet its hypotheses. -/
theorem wit_PowerMoves : let e := fun (k : Nat) => { inPower 0 [(F.PWR_RETAIN_MASK_HI_BANKS, 1)] { toward := k } with mem := [(0xC00000, 1), (0xD00000, 2)] }
    let r := inPower 2 [] { toward := 2 }
    let l := inPower 3 [] { toward := 3 }
    (e 2).Up ∧ (e 3).Up ∧ (e 2).dev.power < 2 ∧ pmbFails .done = none ∧ pmbFails .nack ≠ none ∧ r.Up ∧ l.Up ∧ 2 ≤ r.dev.power ∧
    r.dev.pwr.toward ≠ 0 ∧ r.dev.pwr.waking = false ∧ r.dev.rd F.PWR_WAKE_EN_WAKE_IN = 1 ∧
    r.dev.rd F.MGT_PIN_LEVEL_WAKE_IN = 0 ∧ magicIn 0 magicFrame = true ∧ l.dev.pwr.magic = 0 ∧
    (ok (.entryCommit .done .done) (e 2) (fun t => t.dev.power == 2 && t.dev.rd F.PWR_DOMAIN_STATE_ISLANDS == 46 && t.mem == [(0xC00000, 1)]) &&
     ok (.entryCommit .done .pec) (e 3) (fun t => t.dev.power == 3 && t.dev.rd F.PWR_DOMAIN_STATE_ISLANDS == 32) &&
     ok (.entryCommit .nack .done) (e 2) (fun t => t.dev.power == 0 && t.dev.rd F.PWR_STATUS_REASON == Rsn.INTERNAL) &&
     ok (.wakeIn true) r (fun t => t.dev.rd F.PWR_WAKE_CAUSE_CAUSE == 1 && t.dev.pwr.waking) &&
     ok .pcieWake r (fun t => t.dev.rd F.PWR_WAKE_CAUSE_CAUSE == 2) &&
     ok .wakeTimerExpire r (fun t => t.dev.rd F.PWR_WAKE_CAUSE_CAUSE == 4) &&
     ok .mspiWake l (fun t => t.dev.rd F.PWR_WAKE_CAUSE_CAUSE == 8) &&
     ok (.wakePatternHit none) l (fun t => t.dev.rd F.PWR_WAKE_CAUSE_CAUSE == 16 && t.dev.rd F.PWR_WAKE_HIT_HIT == 32) &&
     ok (.wakePatternHit (some magicFrame)) l (fun t => t.dev.pwr.waking)) = true := by
  unfold State.Up State.AtRest; decide +kernel

/-- Obligations.PowerStatesAreEnteredAndLeft: states and operands that meet its hypotheses. -/
theorem wit_PowerExits : let r := fun (k : Nat) => inPower 2 [(F.PWR_RETAIN_MASK_HI_BANKS, k)] { toward := 2, waking := true, domains := 3 }
    let l := inPower 3 [] { toward := 3, waking := true, wakeOut := true }
    (r 256).Up ∧ (r 0).Up ∧ l.Up ∧ (r 256).dev.retained 40 = true ∧ (r 0).dev.retained 40 = false ∧ l.dev.power = 3 ∧
    (r 0).dev.power = 2 ∧ l.fuses.hash.length = 8 ∧ l.TakesWrite .spi A.PWR_WAKE_ACK ∧
    (ok .retainExit (r 256) (fun t => t.dev.power == 0 && t.dev.rd F.PWR_DOMAIN_STATE_ISLANDS == 0x3F && t.dev.pwr.toward == 0) &&
     ok .retainExit (r 0) (fun t => t.dev.pwr.toward == 0 && t.dev.rd F.PWR_DOMAIN_STATE_ISLANDS == 0x3F) &&
     ok .listenExit l (fun t => t.dev.pwr.wakeOut && t.dev.rd F.PWR_DOMAIN_STATE_ISLANDS == 0x3F) &&
     ok (.pwrWakeAck .spi 1) l (fun t => !t.dev.pwr.wakeOut && t.dev.out.length == 1)) = true := by
  unfold State.TakesWrite State.Up State.AtRest; decide +kernel

/-- Obligations.PowerStatesAreEnteredAndLeft: states and operands that meet its hypotheses. -/
theorem wit_Wait : let w := fun (t : Nat) => eng 64 (fun c => { c with tenant := t })
    let s := { w 0 with dev := (w 0).dev.wr F.PWR_MODE_REQ 1 }
    (w 7).Issues 64 [] ∧ s.Issues 64 [] ∧ isSignal 64 = false ∧ s.dev.power = 0 ∧ (s.dev.powerCheck 1).1 = 0 ∧
    (ok (.wait 64 3 0 0) (w 7) (g3 64 (BitVec.ofNat 32 Rsn.NOT_OWNER)) &&
     ok (.wait 64 3 0 0) s (fun t => t.dev.power == 1 && (t.dev.ctx 64).wait == .power 3)) = true := by
  unfold State.Issues State.CoreUp State.Up State.AtRest; decide +kernel

/-- A change of the operating point at a step. -/
def changing (k new freq : Nat) : State := inPower 0 [(F.CLK_OPP_STATUS_CHANGING, 1)] { change := k, newOpp := new, freq := freq }

/-- Obligations.DomainsAndOperatingPointsChange: states and operands that meet its hypotheses. -/
theorem wit_Domains : let a := powered (fun d => d.wr F.PWR_DOMAIN_STATE_ON 0x3FFFE)
    let r := fun (x : PowerRt) => { powered (fun d => { d.wr F.PWR_DOMAIN_STATE_ON 8 with pwr := x }) with mem := [(0x1C00000, 1)] }
    a.TakesWrite .spi A.PWR_DOMAIN_REQ ∧ a.dev.posted = [] ∧ a.dev.rd F.PWR_STATUS_TRANSIT = 0 ∧
    (∀ i, i < 18 → ∀ u ∈ domainUnits i, a.dev.ustate u = 0) ∧ (r { rising := 16 }).CoreUp ∧ (r { falling := 8 }).CoreUp ∧
    (ok (.domainPowerRequest .spi 1) a (fun t => t.dev.pwr.rising == 1 && t.dev.pwr.falling == 0x3FFFE && t.dev.rd F.PWR_DOMAIN_REASON_UNIT == 0xFFF) &&
     ok (.domainPowerDone 4 true) (r { rising := 16 }) (fun t => t.dev.rd F.PWR_DOMAIN_STATE_ON == 24 && t.dev.pwr.rising == 0) &&
     ok (.domainPowerDone 4 false) (r { rising := 16 }) (fun t => t.dev.rd F.PWR_DOMAIN_STATE_ON == 8 && t.dev.rd F.PWR_DOMAIN_REASON_REASON == Rsn.NO_CLOCK) &&
     ok (.domainPowerDone 3 true) (r { falling := 8 }) (fun t => t.dev.rd F.PWR_DOMAIN_STATE_ON == 0 && t.mem.isEmpty)) = true := by
  unfold State.TakesWrite State.CoreUp State.Up State.AtRest; decide +kernel

/-- Obligations.DomainsAndOperatingPointsChange: states and operands that meet its hypotheses. -/
theorem wit_OperatingPoint : let a := inPower 0 [] {}
    a.TakesWrite .spi A.CLK_OPP ∧ a.dev.safe = false ∧ a.dev.rd F.CLK_OPP_STATUS_CHANGING = 0 ∧
    a.dev.rd F.PWR_STATUS_TRANSIT = 0 ∧ a.dev.rd F.CLK_OPP_STATUS_CUR = 1 ∧ a.dev.posted = [] ∧
    ((a.dev.poke { mem := a.mem, fuses := a.fuses } .spi A.CLK_OPP 2).postComplete .clk).oppResource 2 = 0 ∧
    (changing 1 2 1).CoreUp ∧
    (ok (.oppRequest .spi 1) a (fun t => t.dev.rd F.CLK_OPP_STATUS_CHANGING == 0 && t.dev.rd F.CLK_OPP_STATUS_REASON == 0) &&
     ok (.oppRequest .spi 2) a (fun t => t.dev.pwr.change == 1 && t.dev.pwr.newOpp == 2) &&
     ok .oppFreqSwitch (changing 1 2 1) (fun t => t.dev.pwr.freq == 2 && t.dev.pwr.change == 2) &&
     ok .oppFreqSwitch (changing 5 0 1) (fun t => t.dev.rd F.CLK_OPP_STATUS_CUR == 0 && t.dev.pwr.freq == 0) &&
     ok .oppFreqSwitch (changing 6 2 2) (fun t => t.dev.pwr.freq == 1 && t.dev.pwr.change == 0) &&
     ok (.oppVoutTaken .done) (changing 2 2 2) (fun t => t.dev.rd F.CLK_OPP_STATUS_CUR == 2) &&
     ok (.oppVoutTaken .done) (changing 3 0 1) (fun t => t.dev.pwr.change == 4) &&
     ok (.oppPowerGood .done 0) (changing 4 0 1) (fun t => t.dev.pwr.change == 5) &&
     ok (.oppPowerGood .done 0x800) (changing 4 0 1) (fun t => t.dev.pwr.change == 4) &&
     ok (.oppVoutTaken .nack) (changing 2 2 2) (fun t => t.dev.pwr.change == 6 && t.dev.rd F.CLK_OPP_STATUS_REASON == Rsn.INTERNAL) &&
     ok (.oppVoutTaken .nack) (changing 3 0 1) (fun t => t.dev.pwr.change == 0 && t.dev.rd F.CLK_OPP_STATUS_CUR == 1) &&
     ok (.oppPowerGood .nack 0) (changing 4 0 1) (fun t => t.dev.pwr.change == 0) &&
     ok .oppPowerGoodTimeout (changing 4 0 1) (fun t => t.dev.pwr.change == 0 && t.dev.rd F.CLK_OPP_STATUS_CHANGING == 0)) = true := by
  unfold State.TakesWrite State.CoreUp State.Up State.AtRest; decide +kernel

/-! ### Errors, audit, security, the test access port (R403–R436) -/

/-- A record shown with SEQ 5, another behind it; subsystem 3 stopped; cells said to be used that are not; a key of the SPI's own. -/
def faulty : State := powered (fun d => { wrs [(F.ERR_FIRST_HDR_VALID, 1), (F.ERR_FIRST_HDR_SEQ, 5), (⟨A.ERR_NEXT_HDR, 0, 32⟩, 0x80000006), (F.ERR_STATUS_STOPPED, 8),
  (F.SWC_STATUS_CELLS_FREE, 65535)] d with err := { d.err with deferred := [{ cls := 0, code := 7, unit := 0, words := [] }] } })
def restarting : State := powered (fun d => { wrs [(F.ERR_STATUS_STOPPED, 8), (F.ERR_RESTART_BUSY, 1)] d with err := { d.err with restarting := some 3 } })

/-- Obligations.ErrorsAndSecurityAct: states and operands that meet its hypotheses. -/
theorem wit_ErrorsAct : let s := faulty
    let n := powered id
    s.TakesWrite .spi A.ERR_ACK ∧ s.dev.rd F.ERR_FIRST_HDR_VALID = 1 ∧ s.dev.rd F.ERR_FIRST_HDR_SEQ = bits 5 0 16 ∧
    s.dev.rd F.ERR_FIRST_HDR_SEQ ≠ bits 0xFFFF 0 16 ∧ n.TakesWrite .spi A.ERR_ACK ∧ n.dev.rd F.ERR_FIRST_HDR_VALID = 0 ∧
    s.TakesWrite .spi A.ERR_RESTART ∧ s.dev.safe = false ∧ s.dev.rd F.ERR_RESTART_BUSY = 0 ∧
    s.dev.rd F.ERR_STATUS_STOPPED / 2 ^ bits 3 0 4 % 2 = 1 ∧ restarting.CoreUp ∧ restarting.dev.err.restarting = some 3 ∧
    s.CoreUp ∧ s.dev.err.deferred ≠ [] ∧ s.dev.logAllows = true ∧
    (s.dev.auditChecks.find? (fun c => c.inv == 0 && c.want != c.got)).isSome = true ∧
    (s.dev.auditChecks.find? (fun c => c.inv == 5 && c.want != c.got)).isNone = true ∧
    (ok (.errAck .spi 5) s (fun t => t.dev.reg A.ERR_FIRST_HDR == 0x80000006 && t.dev.reg A.ERR_NEXT_HDR == 0) &&
     ok (.errAck .spi 0xFFFF) s (fun t => t.dev.rd F.ERR_STATUS_ACK_BAD == 1) &&
     ok (.errAck .spi 0) n (fun t => t.dev.rd F.ERR_STATUS_ACK_BAD == 1) &&
     ok (.errRestart .spi 3) s (fun t => t.dev.rd F.ERR_RESTART_BUSY == 1) &&
     ok .errRestartDone restarting (fun t => t.dev.rd F.ERR_STATUS_STOPPED == 0 && t.dev.rd F.ERR_RESTART_BUSY == 0) &&
     ok .logDeferredAppend s (fun t => t.dev.err.deferred.isEmpty) &&
     ok .auditCheck s (fun t => t.dev.rd F.AUD_STATUS_PASS == 62 && t.dev.rd F.AUD_VIOL_INFO_INV == 0)) = true := by
  unfold State.TakesWrite State.CoreUp State.Up State.AtRest; decide +kernel

/-- The security block: peat word 0x16800 addressed, some operation under way. -/
def secured (fs : List (Fld × Nat)) (x : SecRt) : State := powered (fun d => { wrs ([(F.SEC_PEAT_ADDR_ADDR, 0x16800), (⟨A.SEC_PEAT_DATA_LO, 0, 32⟩, 0x11), (⟨A.SEC_PEAT_DATA_HI, 0, 32⟩, 0x22)] ++ fs) d with sec := x })

def peatOps (w : Bool) : State := secured [(F.SEC_PEAT_CMD_BUSY, 1)] { peatOp := some w, peatAt := 0x16800 }
def keyOps (n op type : Nat) : State := secured [(F.SEC_KEY_CMD_BUSY, 1), (⟨A.SEC_KEY_DATA 0, 0, 32⟩, 9)] { keyOp := some (n, op, type) }

/-- Obligations.ErrorsAndSecurityAct: states and operands that meet its hypotheses. -/
theorem wit_PeatActs : let s := secured [] {}
    s.TakesWrite .spi A.SEC_PEAT_CMD ∧ s.dev.rd F.SEC_PEAT_CMD_BUSY = 0 ∧
    s.dev.peatLocked (s.dev.rd F.SEC_PEAT_ADDR_ADDR * 8) false = false ∧
    s.dev.peatLocked (s.dev.rd F.SEC_PEAT_ADDR_ADDR * 8) true = false ∧ (peatOps true).CoreUp ∧
    8 * (peatOps false).dev.sec.peatAt < Peat.SYSTEM ∧
    (ok (.peatRead .spi 0) s (fun t => t.dev.sec.peatOp == some false) &&
     ok (.peatWrite .spi 0) s (fun t => t.dev.sec.peatOp == some true) &&
     ok .peatAccessDone (peatOps true) (fun t => t.dev.peatWord 0x16800 == 0x0000002200000011) &&
     ok .peatAccessDone (peatOps false) (fun t => t.dev.reg A.SEC_PEAT_DATA_LO == 0 && t.dev.sec.peatOp == none)) = true := by
  unfold State.TakesWrite State.CoreUp State.Up State.AtRest; decide +kernel

/-- Obligations.ErrorsAndSecurityAct: states and operands that meet its hypotheses. -/
theorem wit_KeysAct : let s := secured [] {}
    s.TakesWrite .spi A.SEC_KEY_CMD ∧ s.dev.rd F.SEC_LOCK_LOCKS % 2 = 0 ∧ s.dev.rd F.SEC_KEY_CMD_BUSY = 0 ∧
    s.dev.sec.erasing = false ∧ s.dev.sec.eraseFailed = false ∧ keyFits (bits 0x20FF 0 8) (bits 0x20FF 12 4) = true ∧
    (SMap.get (fun _ => {}) s.dev.keys 0 : KeySlot).kind = 0 ∧ (keyOps 255 1 2).CoreUp ∧
    (ok (.keyLoad .spi 0x20FF) s (fun t => t.dev.sec.keyOp == some (255, 1, 2)) &&
     ok (.keyErase .spi 0x20FF) s (fun t => t.dev.sec.keyOp == some (255, 2, 2)) &&
     ok (.keyGenerate .spi 0x3000) s (fun t => t.dev.sec.keyOp == some (0, 3, 3)) &&
     ok .keyCmdDone (keyOps 255 1 2) (fun t => (SMap.get (fun _ => {}) t.dev.keys 255 : KeySlot) == { kind := 2, words := 9 :: List.replicate 7 0 } && t.dev.reg (A.SEC_KEY_DATA 0) == 0) &&
     ok .keyCmdDone (keyOps 255 2 2) (fun t => t.dev.keys.isEmpty)) = true := by
  unfold State.TakesWrite State.CoreUp State.Up State.AtRest; decide +kernel

/-- Obligations.ErrorsAndSecurityAct: states and operands that meet its hypotheses. -/
theorem wit_FusesAndDebug : let s := secured [(F.SEC_LOCK_LOCKS, 8), (F.SEC_MIN_SVN_MIN, 4)] { minSvn := 4 }
    let f := secured [(F.SEC_FUSE_STAGE_HASH 7, 0x77)] { fusing := true }
    let er := { secured [] { erasing := true } with dev := { (secured [] { erasing := true }).dev with keys := [(2, { kind := 1, words := [] })] } }
    s.TakesWrite .spi A.SEC_LOCK ∧ s.TakesWrite .spi A.SEC_FUSE_PROG ∧ s.fuses.programmed = false ∧
    s.TakesWrite .spi A.SEC_MIN_SVN ∧ s.TakesWrite .spi A.SEC_DBG_OPEN ∧ s.dev.rd F.SEC_LOCK_LOCKS / 2 % 2 = 0 ∧ f.CoreUp ∧
    f.fuses.programmed = false ∧ er.CoreUp ∧ er.dev.sec.erasing = true ∧ s.dev.sec.minSvn = 4 ∧
    (ok (.secLockWrite .spi 3) s (fun t => t.dev.rd F.SEC_LOCK_LOCKS == 11) &&
     ok (.fuseProgram .spi 0x96160000) s (fun t => t.dev.sec.fusing) &&
     ok .fuseProgramDone f (fun t => t.fuses.programmed && t.fuses.hash == List.replicate 7 0 ++ [0x77] && t.dev.reg (A.SEC_FUSE_HASH 7) == 0x77) &&
     ok (.secMinSvnWrite .spi 4) s (fun t => t.dev.sec.minSvn == 4) &&
     ok (.secMinSvnWrite .spi 0xFFFF) s (fun t => t.dev.rd F.SEC_MIN_SVN_MIN == 0xFFFF) &&
     ok (.secMinSvnWrite .spi 3) s (fun t => t.dev.rd F.SEC_MIN_SVN_MIN == 4 && t.dev.rd F.SEC_IGNORED_COUNT == 1) &&
     ok (.debugOpen .spi 0xDB610000) s (fun t => t.dev.sec.erasing && t.dev.sec.pendingErase) &&
     ok (.debugEraseDone none) er (fun t => t.dev.keys.isEmpty && t.dev.sec.debugFlag && t.dev.rd F.SEC_STATUS_TAP_OPEN == 1) &&
     ok (.debugEraseDone (some 0)) er (fun t => t.dev.keys.isEmpty && t.dev.sec.eraseFailed && t.dev.rd F.SEC_STATUS_ERASE_FAIL == 1)) = true := by
  unfold State.TakesWrite State.CoreUp State.Up State.AtRest; decide +kernel

/-- The TAP with GO, an access of the word at `a` and this data. -/
def tapAt (w a data : Nat) : State := powered (fun d => { d with mgt := { d.mgt with tapGo := true, tapIr := Tap.REGACC, tapReg := 2 ^ 63 + w * 2 ^ 62 + a * 2 ^ 32 + data } })

/-- Obligations.ErrorsAndSecurityAct: states and operands that meet its hypotheses. -/
theorem wit_TapAccess : let w := tapAt 1 A.PWR_WAKE_EN 0xFFFFFFFF
    let r := tapAt 0 (A.LNK_MAXLEN 11) 5
    w.dev.mgt.tapReg / 2 ^ 62 % 2 = 1 ∧ w.TakesWrite .jtag A.PWR_WAKE_EN ∧ r.dev.mgt.tapReg / 2 ^ 62 % 2 = 0 ∧
    r.TakesRead .jtag (A.LNK_MAXLEN 11) ∧ w.dev.mgt.tapReg / 2 ^ 32 % 2 ^ 27 = A.PWR_WAKE_EN ∧
    r.dev.mgt.tapReg / 2 ^ 32 % 2 ^ 27 = A.LNK_MAXLEN 11 := by
  unfold State.TakesWrite State.TakesRead State.Up State.AtRest; decide +kernel

/-- The TAP in a state of its controller, with this instruction and shift register. -/
def tap (x : TapState) (ir sh opened : Nat) : State :=
  powered (fun d => { d.wr F.SEC_STATUS_TAP_OPEN opened with mgt := { d.mgt with tapState := x, tapIr := ir, tapShift := sh } })

/-- Obligations.TapOffersIdcodeAndBypass: states and operands that meet its hypotheses. -/
theorem wit_TapOffersIdcodeAndBypass :
    (tap .captureDr 1 0 0).Up ∧ (tap .captureDr 1 0 0).dev.island 2 = true ∧
    (tap .captureDr 1 0 0).dev.rd F.FRG_STATUS_STATE ≠ Frg.RECORDING ∧
    (tap .captureDr 1 0 0).dev.rd F.SEC_STATUS_TAP_OPEN = 0 ∧ TapState.next .exit1Ir true = .updateIr ∧
    TapState.next .selectIr true = .testLogicReset ∧
    (ok (.tapTransition false false) (tap .captureDr 1 0 0) (fun t => t.dev.mgt.tapShift == 0x1961609D && t.dev.mgt.tapState == .shiftDr) &&
     ok (.tapTransition false true) (tap .captureDr 0x20 7 0) (fun t => t.dev.mgt.tapShift == 0) &&
     ok (.tapTransition true true) (tap .shiftDr 1 3 0) (fun t => t.dev.mgt.tapShift == 0x80000001 && t.dev.out == [.tdo 1]) &&
     ok (.tapTransition false true) (tap .shiftDr 0xFF 0 0) (fun t => t.dev.mgt.tapShift == 1) &&
     ok (.tapTransition false true) (tap .shiftIr 1 2 0) (fun t => t.dev.mgt.tapShift == 0x81) &&
     ok (.tapTransition true false) (tap .exit1Ir 1 0xFF 0) (fun t => t.dev.mgt.tapIr == 0xFF) &&
     ok (.tapTransition true false) (tap .selectIr 0xFF 0 0) (fun t => t.dev.mgt.tapIr == 1 && t.dev.mgt.tapState == .testLogicReset) &&
     ok (.tapTransition true false) (tap .exit1Dr Tap.REGACC (2 ^ 63 + 1) 1) (fun t => t.dev.mgt.tapReg == 2 ^ 63 + 1 && t.dev.mgt.tapGo)) = true := by
  unfold State.Up State.AtRest; decide +kernel

/-! ### Fragal (R437–R454) -/

/-- A recording or a replay of domain 0, which ticks, with WRAP; unit 0x0A0 in the scope. -/
def frag (k : Nat) (fs : List (Fld × Nat)) (x : FragalRt) : State :=
  powered (fun d => { wrs ([(F.FRG_STATUS_STATE, k), (F.FRG_CTRL_WRAP, 1), (F.FRG_CTRL_DIG_TICKS, 1), (F.FRG_SCOPE_UNIT 15, 0x0A0), (F.FRG_SCOPE_EN 15, 1),
    (F.UNIT_STATE_STATE 0x0A0, 3), (F.FRG_OCB_ADDR_ADDR, 0xFFFFF), (F.FRG_OCB_DATA_DATA, 0)] ++ fs) d with frg := { x with scope := [0x0A0] } })

/-- The path takes a write of this word, recording or not. -/
def MayCommand (s : State) (a : Nat) : Prop :=
  s.Up ∧ toMap .spi = true ∧ s.dev.pathUp .spi = true ∧ s.dev.route .spi (s.dev.pathAddr .spi a) = .map a ∧ s.dev.requestError .spi a 4 true = none

/-- Obligations.FragalRecordsAndReplays: states and operands that meet its hypotheses. -/
theorem wit_FragalCommands : let i := frag 0 [(F.FRG_CTRL_MODE, 1)] {}
    let r := frag 2 [(F.FRG_CTRL_MODE, 1)] {}
    MayCommand i A.FRG_CMD ∧ (i.dev.noteReserved .frg 8 A.FRG_CMD (putBits 0 0 2 1)).recordCheck = 0 ∧
    i.dev.scopeEntries = [0x0A0] ∧ MayCommand r A.FRG_CMD ∧ r.dev.rd F.FRG_CMD_BUSY = 0 ∧
    r.dev.rd F.FRG_STATUS_STATE = Frg.RECORDING ∧ MayCommand r A.FRG_OCB_DATA ∧ i.TakesRead .spi A.FRG_OCB_DATA ∧
    i.TakesWrite .spi A.FRG_HRING_HOSTPTR ∧
    (ok (.fragalStart .spi 0) i (fun t => t.dev.rd F.FRG_STATUS_STATE == Frg.ARMING && t.dev.frg.scope == [0x0A0]) &&
     ok (.fragalStop .spi 0) (frag 1 [(F.FRG_CTRL_MODE, 1)] {}) (fun t => t.dev.rd F.FRG_STATUS_STATE == Frg.STOPPED) &&
     ok (.fragalStop .spi 0) r (fun t => t.dev.rd F.FRG_STATUS_STATE == Frg.STOPPED && t.dev.rd F.FRG_STATUS_END_CAUSE == 1) &&
     ok (.checkpoint .spi 0) r (fun t => t.dev.rd F.FRG_CMD_BUSY == 1 && t.dev.frg.ckpt != []) &&
     ok (.checkpoint .spi 0) (frag 2 [(F.FRG_CMD_BUSY, 1)] {}) (fun t => t.dev.rd F.FRG_CMD_REASON == Rsn.BUSY) &&
     ok (.frgHostptrWrite .spi 5) i (fun t => t.dev.frg.host == 5) &&
     ok (.frgOcbDataAccess .spi (some 5)) i (fun t => SMap.get (fun _ => 0) t.dev.frg.ocb 0xFFFFF == 5 && t.dev.rd F.FRG_OCB_ADDR_ADDR == 0) &&
     ok (.frgOcbDataAccess .spi (some 5)) r (fun t => t.dev.rd F.FRG_IGNORED_COUNT == 1) &&
     ok (.frgOcbDataAccess .spi none) i (fun t => t.dev.out == [.data .spi [0]])) = true := by
  unfold MayCommand State.TakesWrite State.TakesRead State.Up State.AtRest; decide +kernel

/-- A record of the trace with a body. -/
def traceOf (type : Nat) (body : List Byte) : List Byte := fragRecord type 0 0xFFF 0x3F 0 body
def replay (t : List Byte) : State := frag 4 [(F.UNIT_STATE_STATE 0x0A0, 0)] { trace := t }

/-- Obligations.FragalRecordsAndReplays: states and operands that meet its hypotheses. -/
theorem wit_FragalRuns : let a := frag 1 [] {}
    let r := frag 2 [(F.FRG_CKPT_PERIOD, 1)] {}
    let b := frag 2 [(F.FRG_CKPT_PERIOD, 1), (F.FRG_CMD_BUSY, 1)] { ckptDue := true }
    let dg := fun (w : Word) => replay (traceOf Rt.DIGEST (List.replicate 20 0 ++ wordBytes w))
    let v := traceOf Rt.VALUE ([2] ++ List.replicate 7 0 ++ [3] ++ List.replicate 7 0)
    a.CoreUp ∧ a.dev.ticking (a.dev.rd F.FRG_CTRL_DOMAIN) = true ∧ r.CoreUp ∧ b.CoreUp ∧ (dg 0).CoreUp ∧
    (dg 0).dev.frg.trace.head? = some 11 ∧ (∀ u ∈ (dg 0).dev.frg.scope.zipIdx, (dg 0).dev.digest u.2 u.1 = 0) ∧
    (splitRecords 1 (replay v).dev.frg.trace).1 = [v] ∧ recType v = Rt.VALUE ∧ recUnit v = 0xFFF ∧
    leNat ((v.drop 16).take 1) = 2 ∧ (replay v).dev.rd F.FRG_CTRL_SINK = 0 ∧
    (ok .fragalArmComplete a (fun t => t.dev.rd F.FRG_STATUS_STATE == Frg.RECORDING && t.dev.rd F.FRG_CMD_BUSY == 1) &&
     ok .checkpointPeriodExpire r (fun t => t.dev.rd F.FRG_CMD_BUSY == 1) &&
     ok .checkpointPeriodExpire b (fun t => t.dev.stat64 (Ctr.FRG 6) == 1) &&
     ok .checkpointDone b (fun t => t.dev.stat64 (Ctr.FRG 5) == 1 && t.dev.rd F.FRG_CMD_BUSY == 1) &&
     ok .checkpointDone (frag 2 [(F.FRG_CMD_BUSY, 1)] {}) (fun t => t.dev.rd F.FRG_CMD_BUSY == 0) &&
     ok .digestIntervalClose (frag 2 [] { orders := [(3, [9])] }) (fun t => t.dev.frg.orders.isEmpty) &&
     ok .digestIntervalClose (dg 0) (fun t => t.dev.rd F.FRG_STATUS_STATE == Frg.REPLAYING && t.dev.frg.trace.isEmpty) &&
     ok .digestIntervalClose (dg 1) (fun t => t.dev.rd F.FRG_STATUS_STATE == Frg.DIVERGED && t.dev.rd F.FRG_DIV_INFO_KIND == 1) &&
     ok .traceTailDone (frag 3 [] { tail := some (0, true) }) (fun t => t.dev.frg.tail == none && t.dev.stat64 (Ctr.FRG 7) == 1) &&
     ok (.replayRecordRelease []) (replay [1, 2, 3]) (fun t => t.dev.frg.trace == [1, 2, 3]) &&
     ok (.replayRecordRelease []) (replay v) (fun t => t.dev.frg.opp == 3 && t.dev.frg.trace.isEmpty) &&
     ok (.replayRecordRelease []) (replay (traceOf Rt.END [])) (fun t => t.dev.rd F.FRG_STATUS_STATE == Frg.DONE) &&
     ok (.replayRecordRelease []) (replay (traceOf 15 [])) (fun t => t.dev.rd F.FRG_STATUS_STATE == Frg.DIVERGED && t.dev.rd F.FRG_DIV_INFO_KIND == 4)) = true := by
  unfold State.CoreUp State.Up State.AtRest; decide +kernel

/-- A HEADER of this device with no identity key, for the first chunk of the host's ring. -/
def replayFrom : State := frag 0 [(F.FRG_CTRL_MODE, 2), (F.FRG_CTRL_SINK, 1)] {}
def header : List Byte := traceOf Rt.HEADER (replayFrom.dev.headerBody ++ List.replicate 64 0)

theorem bytesWord_toNat (a b c e : Byte) : (bytesWord [a, b, c, e]).toNat = a.toNat + 256 * b.toNat + 65536 * c.toNat + 16777216 * e.toNat := by
  show BitVec.toNat (w := 8 + 8 + 8 + 8) (e ++ c ++ b ++ a) = _
  have ha := a.isLt; have hb := b.isLt; have hc := c.isLt; have he := e.isLt
  rw [BitVec.toNat_append, BitVec.toNat_append, BitVec.toNat_append, ← Nat.shiftLeft_add_eq_or_of_lt hc, ← Nat.shiftLeft_add_eq_or_of_lt hb,
    ← Nat.shiftLeft_add_eq_or_of_lt ha]
  simp only [Nat.shiftLeft_eq]
  omega
theorem bytesWord_leBytes (w : Word) : bytesWord (leBytes w.toNat 4) = w := by
  apply BitVec.eq_of_toNat_eq
  have := w.isLt
  simp only [leBytes, bytesWord_toNat, BitVec.toNat_ofNat]
  omega

/-- A chunk that is not encrypted opens, its CRC as it was made (R440). -/
theorem openChunk_plain (d : Dev) (data : List Byte) (h : data.length = 4064) :
    d.openChunk (chunkBytes none 0 0 16 false data) = some (data, 16) := by
  have e : chunkBytes none 0 0 16 false data = ([0, 0, 0, 0, 0, 0, 0, 0, 0, 0, 0, 0, 16, 0, 0, 0] : List Byte) ++
      (data ++ (leBytes (crc32c ([0, 0, 0, 0, 0, 0, 0, 0, 0, 0, 0, 0, 16, 0, 0, 0] ++ data)).toNat 4 ++ List.replicate 12 0)) := by
    simp [chunkBytes, leBytes]
  rw [e]
  generalize hh : ([0, 0, 0, 0, 0, 0, 0, 0, 0, 0, 0, 0, 16, 0, 0, 0] : List Byte) = hd
  have hl : hd.length = 16 := by rw [← hh]; rfl
  generalize hc : crc32c (hd ++ data) = c
  have h1 : (hd ++ (data ++ (leBytes c.toNat 4 ++ List.replicate 12 0))).take 16 = hd := by rw [← hl]; simp
  have h2 : ((hd ++ (data ++ (leBytes c.toNat 4 ++ List.replicate 12 0))).drop 16).take 4064 = data := by rw [← hl, ← h]; simp
  have h3 : ((hd ++ (data ++ (leBytes c.toNat 4 ++ List.replicate 12 0))).drop 4080).take 4 = leBytes c.toNat 4 := by
    rw [show 4080 = hd.length + data.length by omega, ← List.append_assoc, ← List.length_append, List.drop_left]; simp [leBytes]
  have h4 : (hd ++ (data ++ (leBytes c.toNat 4 ++ List.replicate 12 0))).length = 4096 := by simp [leBytes, hl, h]
  have h5 : (((hd ++ (data ++ (leBytes c.toNat 4 ++ List.replicate 12 0))).drop 12).take 2) = [16, 0] := by rw [← hh]; rfl
  have h6 : (hd ++ (data ++ (leBytes c.toNat 4 ++ List.replicate 12 0))).getD 14 0 = 0 := by rw [← hh]; rfl
  unfold Dev.openChunk
  simp only [h1, h2, h3, h4, h5, h6, hc, bytesWord_leBytes, ne_eq, not_true, if_true, if_false]
  rfl
theorem wit_FragalReplayStart_opens (d : Dev) (data : List Byte) (h : data.length = 4064) :
    d.openChunks [chunkBytes none 0 0 16 false data] = ([(data, 16)], false) := by
  simp only [Dev.openChunks]; rw [openChunk_plain d data h]

/-- Obligations.FragalRecordsAndReplays: states and operands that meet its hypotheses. -/
theorem wit_FragalReplayStart : let e := replayFrom.dev.noteReserved .frg 8 A.FRG_CMD 0
    let h := e.readHeader header
    let t := padTo header 4064
    replayFrom.TakesWrite .spi A.FRG_CMD ∧ replayFrom.dev.safe = false ∧ e.scopeCheck = 0 ∧ fromFirst [(t, 16)] = t ∧
    (splitRecords t.length t).1.head? = some header ∧ recType header = Rt.HEADER ∧ h.verifies = true ∧
    h.id = (replayFrom.dev.reg A.GLB_ID).toNat ∧
    e.regs.all (fun x => !(0x10040 ≤ x.1 && x.1 < 0x50000 && x.1 % 0x40 == 4 && bits x.2 0 3 != 0) || h.scope.contains ((x.1 - 0x10000) / 0x40) ||
      isCabinet ((x.1 - 0x10000) / 0x40)) = true ∧
    t.length = 4064 := by
  unfold State.TakesWrite State.Up State.AtRest; decide +kernel

/-! ### Resets and boot (R455–R471, R509, R510) -/

/-- A reset or a boot under way. -/
def inPhase (x : ResetRt) : State := powered (fun d => { d with rst := x })

/-- Obligations.ResetsAndBoot: states and operands that meet its hypotheses. -/
theorem wit_Resets : let s := { inPhase {} with mem := [(0xC00000, 1)] }
    let h := inPhase { phase := 1, board := true }
    let hot := powered (fun d => { d with rst := { hostif := true }, mgt := { d.mgt with tripped := true } })
    s.TakesWrite .spi A.GLB_SOFT_RESET ∧ (0x96160001 : Word).getLsbD 0 = true ∧ bits 0x96160001 16 16 = 0x9616 ∧ s.AtRest ∧
    s.dev.sec.peatOp ≠ some true ∧ hot.AtRest ∧ hot.dev.inReset = false ∧ hot.dev.rst.hostif = true ∧ h.AtRest ∧
    h.dev.rst.phase = 1 ∧ (inPhase { phase := 2 }).AtRest ∧ s.fuses.hash.length = 8 ∧
    (ok (.softReset .spi 0x96160001) s (fun t => t.dev.inReset && t.dev.rst.phase == 2 && t.mem == [] && (t.dev.reg A.MGT_RESET_CAUSE).getLsbD Cause.SOFT) &&
     ok .supplyTrip s (fun t => t.dev.rst.board && (t.dev.reg A.MGT_RESET_CAUSE).getLsbD Cause.SUPPLY) &&
     ok .resetNAssert s (fun t => t.dev.rst.phase == 1 && (t.dev.reg A.MGT_RESET_CAUSE).getLsbD Cause.RESET_N) &&
     ok .thermShutdown hot (fun t => t.dev.rst.therm && (t.dev.reg A.MGT_RESET_CAUSE).getLsbD Cause.THERM) &&
     ok (.resetRelease 3 true) h (fun t => t.dev.rst.phase == 2 && t.dev.rst.boot == 3) &&
     ok (.resetRelease 3 true) (inPhase { phase := 1, board := true, therm := true }) (fun t => t.dev.rst.phase == 1 && !t.dev.rst.board) &&
     ok (.thermRecover 1 false) (inPhase { phase := 1, therm := true }) (fun t => t.dev.rst.phase == 2 && t.dev.rst.boot == 1) &&
     ok (.thermRecover 1 false) (inPhase { phase := 1, board := true, therm := true }) (fun t => t.dev.rst.phase == 1 && t.dev.rst.board) &&
     ok .resetSequenceComplete (inPhase { phase := 2, boot := 3, hostif := true }) (fun t => !t.dev.inReset && t.dev.rd F.MGT_BOOT_STATUS_STATE == 1 &&
      t.dev.rd F.HOST_T0_PATH_PATH == 1) &&
     ok .resetSequenceComplete (inPhase { phase := 2, boot := 2 }) (fun t => t.dev.rd F.MGT_BOOT_STATUS_STATE == 3) &&
     ok .perstAssert (inPhase { hostif := true }) (fun t => !t.dev.inReset && t.dev.rd F.MGT_PIN_LEVEL_PERST == 0) &&
     ok .perstAssert s (fun t => t.dev.inReset && (t.dev.reg A.MGT_RESET_CAUSE).getLsbD Cause.PERST) &&
     ok .perstRelease (inPhase { phase := 1, perst := true }) (fun t => t.dev.rst.phase == 2)) = true := by
  unfold State.TakesWrite State.Up State.AtRest; decide +kernel

/-- Boot reads an image; an image of this device with no body. -/
def booting (x : BootRt) (fs : List (Fld × Nat)) : State := powered (fun d => { wrs (fs ++ [(F.MGT_BOOT_STATUS_STATE, 1)]) d with boot := x })
def imageOf (n : Nat) : List Byte := leBytes 0x5A574249 4 ++ leBytes n 4 ++ List.replicate 248 0
/-- A body with one load table entry, and four octets behind it. -/
def table (e : List Word) : BootRt := { running := true, body := e.flatMap wordBytes ++ [1, 2, 3, 4], table := 0, resume := 0x20 }

/-- Obligations.ResetsAndBoot: states and operands that meet its hypotheses. -/
theorem wit_Boot : let s := booting {} []
    let body := octets 0 ([] : List Byte)
    let delay := booting (table [5, 0, 1000000, 0]) []
    let copy := booting (table [1, 0xC00000, 4, 16]) []
    let fin := booting (table [0, 0, 0, 0]) []
    let r := (((fin.dev.wr F.MGT_BOOT_STATUS_ENTRIES 1).wr (F.STW_RESUME_VEC 0) 8).dirty).giveOrder (.reg .boot) 0x0F0 Ord.ENABLE
    s.Up ∧ s.dev.rd F.MGT_BOOT_STATUS_STATE = 1 ∧ s.dev.imageCheck s.fuses (imageOf 1) body s.dev.imageLimit = 0 ∧
    s.dev.imageCheck s.fuses (imageOf 2) body s.dev.imageLimit ≠ 0 ∧ (booting { running := true } []).dev.tableEntry = none ∧
    delay.dev.tableEntry = some [5, 0, 1000000, 0] ∧ (locate 0xC00000).window = true ∧
    copy.dev.requestError .boot 0xC00000 4 true = none ∧ fin.dev.coreOn = true ∧ r.2.1 = 0 ∧
    (ok (.bootImageReadDone (imageOf 1)) s (fun t => t.dev.boot.running && t.dev.rd F.SEC_STATUS_BOOT_OK == 1) &&
     ok (.bootImageReadDone (imageOf 2)) s (fun t => t.dev.rd F.MGT_BOOT_STATUS_STATE == 4) &&
     ok (.loadTableEntry true) (booting { running := true } []) (fun t => t.dev.rd F.MGT_BOOT_STATUS_STATE == 4) &&
     ok (.loadTableEntry false) delay (fun t => t.dev.rd F.MGT_BOOT_STATUS_ENTRIES == 1) &&
     ok (.loadTableEntry false) copy (fun t => t.mem == [(0xC00000, 1), (0xC00001, 2), (0xC00002, 3), (0xC00003, 4)]) &&
     ok .bootComplete fin (fun t => t.dev.rd F.MGT_BOOT_STATUS_STATE == 2) &&
     ok .bootComplete (booting (table [0, 0, 0, 0]) [(F.UNIT_CMD_BUSY 0x0F0, 1)]) (fun t => t.dev.rd F.MGT_BOOT_STATUS_STATE == 4)) = true := by
  unfold State.Up State.AtRest; decide +kernel

/-- Obligations.ResetsAndBoot: states and operands that meet its hypotheses. -/
theorem wit_ThermSample :
    (powered id).Up ∧ (powered id).dev.thermLimit < (2240 : BitVec 16).toInt ∧ (powered id).dev.mgt.warned = false ∧
    (ok (.thermSample 0xFFF0 16 2240 0x8000) (powered id) (fun t => t.dev.rd F.THERM_MAX_TEMP == 2240 && t.dev.mgt.tripped && t.dev.rd F.ERR_STATUS_SAFE == 1) &&
     ok (.thermSample 0xFFF0 0xFFF8 0xFFF0 0x8000) (powered id) (fun t => t.dev.rd F.THERM_MAX_TEMP == 0xFFF8 && !t.dev.mgt.warned)) = true := by
  unfold State.Up State.AtRest; decide +kernel

/-! ### Pins and management buses (R484–R489) -/

def pins (fs : List (Fld × Nat)) (x : MgtRt) : State := powered (fun d => { wrs ([(F.CLK_PMB_CORE_ADDR, 0x40), (F.CLK_PMB_SRAM_ADDR, 0x41), (F.PMB_CTRL_PEC, 1)] ++ fs) d with mgt := x })

/-- Obligations.PinsAndManagementBusesAct: states and operands that meet its hypotheses. -/
theorem wit_Pins : let s := pins [(⟨A.GPIO_EDGE, 0, 32⟩, 0xC0000000), (⟨A.GPIO_OUT, 0, 32⟩, 0xF0)] {}
    let q := pins [(⟨A.GPIO_EDGE, 0, 32⟩, 0xC0000000), (F.PWR_DOMAIN_STATE_ISLANDS, 0x3E)] {}
    s.Up ∧ s.dev.island 2 = true ∧ (s.dev.reg A.GPIO_IN).getLsbD 15 ≠ true ∧ bits (s.dev.reg A.GPIO_EDGE) 0 2 = 0 ∧
    bits (q.dev.reg A.GPIO_EDGE) 30 2 = 3 ∧ q.Up ∧ q.dev.coreOn = false ∧ q.dev.island 2 = true ∧
    s.TakesWrite .spi A.GPIO_SET ∧ s.TakesWrite .spi A.GPIO_CLR ∧
    (ok (.gpioEdge 15 true) q (fun t => t.dev.reg A.GPIO_IN == 0x8000 && (t.dev.reg A.GPIO_EVT).getLsbD 15) &&
     ok (.gpioEdge 0 true) s (fun t => t.dev.reg A.GPIO_IN == 1 && t.dev.reg A.GPIO_EVT == 0) &&
     ok (.gpioSet .spi 0x0F) s (fun t => t.dev.reg A.GPIO_OUT == 0xFF) &&
     ok (.gpioClr .spi 0x30) s (fun t => t.dev.reg A.GPIO_OUT == 0xC0)) = true := by
  unfold State.TakesWrite State.Up State.AtRest; decide +kernel

/-- Obligations.PinsAndManagementBusesAct: states and operands that meet its hypotheses. -/
theorem wit_Pmbus : let s := pins [] {}
    let x := fun (kind : Nat) => pins [(F.PMB_XFER_BUSY, 1)] { xfer := some (0x20, 0x8B, kind) }
    s.TakesWrite .spi A.PMB_XFER ∧ s.dev.posted = [] ∧ s.dev.mgt.xfer = none ∧ bits 0x8B20 0 7 ≠ s.dev.rd F.CLK_PMB_CORE_ADDR ∧
    bits 0x8B41 0 7 = s.dev.rd F.CLK_PMB_SRAM_ADDR ∧ (x 3).Up ∧ (x 3).dev.posted = [] ∧
    (x 3).dev.rd F.CLK_OPP_STATUS_CHANGING = 0 ∧ (x 3).dev.rd F.PWR_STATUS_TRANSIT = 0 ∧ (x 3).dev.island 2 = true ∧
    (x 3).dev.rd F.PMB_CTRL_PEC = 1 ∧
    (ok (.pmbSendByte .spi 0x8B20) s (fun t => t.dev.mgt.xfer == some (0x20, 0x8B, 0)) &&
     ok (.pmbWriteByte .spi 0x8B41) s (fun t => t.dev.rd F.PMB_STATUS_REASON == Rsn.STATE) &&
     ok (.pmbReadWord .spi 0x8B41) s (fun t => t.dev.mgt.xfer == some (0x41, 0x8B, 4) && t.dev.rd F.PMB_XFER_BUSY == 1) &&
     ok (.pmbXferDone .done 0xABCD) (x 3) (fun t => t.dev.rd F.PMB_DATA_DATA == 0xCD && t.dev.rd F.PMB_XFER_BUSY == 0) &&
     ok (.pmbXferDone .nack 0) (x 0) (fun t => t.dev.rd F.PMB_STATUS_NACK == 1) &&
     ok (.pmbXferDone .pec 7) (x 4) (fun t => t.dev.rd F.PMB_STATUS_PEC_ERR == 1)) = true := by
  unfold State.TakesWrite State.Up State.AtRest; decide +kernel

/-- Bank 7 with a group in service. -/
def banked : State := quiet [(0x04F, 3), (0x0A0, 3)] (wrs [(F.MGT_VDDIO_LEVEL_MEASURED, 0xFF), (F.MGT_VDDIO_LEVEL_V33, 0xFF)])

/-- Obligations.PinsAndManagementBusesAct: states and operands that meet its hypotheses. -/
theorem wit_BanksAndEload : let s := powered (wrs [(F.STW_ELOAD_BUSY 3, 0)])
    banked.AtRest ∧ banked.dev.ustate 0x04F = 3 ∧ s.TakesWrite .spi (A.STW_ELOAD 3) ∧ s.dev.rd (F.STW_ELOAD_BUSY 3) = 0 ∧
    (ok (.vddioSupplyLoss 7) (powered (wrs [(F.MGT_VDDIO_LEVEL_MEASURED, 0xFF), (F.MGT_VDDIO_LEVEL_V33, 0xFF)])) (fun t => t.dev.rd F.MGT_VDDIO_LEVEL_V33 == 0x7F && t.dev.rd F.PWR_DOMAIN_STATE_VDDIO / 128 == 0) &&
     ok (.vddioSupplyReturn 7 true) (powered id) (fun t => t.dev.rd F.MGT_VDDIO_LEVEL_V33 / 128 == 1 && t.dev.rd F.PWR_DOMAIN_STATE_VDDIO / 128 == 1) &&
     ok (.eload .spi 3 0) s (fun t => t.dev.rd (F.STW_ELOAD_BUSY 3) == 1) &&
     ok (.eload .spi 3 0) (powered (wrs [(F.STW_ELOAD_BUSY 3, 1)])) (fun t => t.dev.rd (F.STW_ELOAD_REASON 3) == Rsn.BUSY)) = true := by
  unfold State.TakesWrite State.Up State.AtRest; decide +kernel

theorem wit_BanksAndEload_quiet : banked.Quiet := by apply quiet_of; unfold State.CoreUp State.Up State.AtRest; decide +kernel

/-! ### The form of commands, and the words of the opcode table -/

/-- The lengths of a register access, an SPI frame, a command, a chunk, an image, a frame, an isochronous block (R48, R81, R99, R110,
R428, R440): the check takes a command of each, and refuses one whose list has another length. -/
theorem test_wellFormed :
    [Instr.registerWrite .spi 0 [0], .readClear .spi 0 64, Instr.write 0 [0] false, .qwrite 0 (List.replicate 16 0) false, .commandFetch 0 (List.replicate 16 0),
     .run 0 (List.replicate 16 0), .inline 0 (List.replicate 16 0), .unitop 0 (List.replicate 16 0), .cmdFence 0 (List.replicate 16 0), .hchPlaybackRead 0 [],
     .rxFrame 0 [0] true 0 0 0, .wakePatternHit none, .fragalReplayStart .spi 0 [], .replayRecordRelease []].all Instr.wellFormed = true ∧
    Instr.wellFormed (.bootImageReadDone (List.replicate 256 0)) = true := by decide +kernel

theorem test_illFormed :
    [Instr.registerWrite .spi 0 [], .registerWrite .spi 0 [0, 0, 0], .readClear .spi 0 3, Instr.write 0 [] false, Instr.write 0 (List.replicate 17 0) false, .qwrite 0 [] false,
     .commandFetch 0 [], .run 0 [], .inline 0 (List.replicate 15 0), .unitop 0 (List.replicate 17 0), .cmdFence 0 [], .hchPlaybackRead 0 [0],
     .rxFrame 0 [] true 0 0 0, .wakePatternHit (some []), .fragalReplayStart .spi 0 [[]], .replayRecordRelease [[0]],
     .bootImageReadDone (List.replicate 255 0)].all (fun c => !Instr.wellFormed c) = true := by decide +kernel

/-- No row of the opcode table has bits: no word spells a command, and none is put into the queue. -/
theorem test_no_word (nbits w : Nat) : decodeTableWord nbits w = none := rfl
theorem test_withFetchWord (nbits w : Nat) : State.reset.withFetchWord nbits w = State.reset := rfl

end Sys2Proof.Tests
end

section
/-! PROOF. One step of the machine, and the state that reset leaves (R11, R459, R463). -/
namespace Sys2Proof.Machine

/-- With a command in front of the queue, a step is that command on the state with the queue's rest. -/
theorem step_of_pending_cons (s : State) (c : Instr) (rest : List Instr) :
    step { s with pending := c :: rest } = exec c { s with pending := rest } := rfl

/-! ### The descriptors of units after reset (R24, R25) -/

/-- The words of the unit table belong to the descriptor of their unit, where the unit ID is not reserved. -/
theorem blockAt_unitTable {u off : Nat} (hu : u < 0x1000) (ho : off < 0x40) :
    blockAt (Base.UNIT u + off) = if (classOf u).isSome then some (.unit u, off) else none := by
  have hdiv : (Base.UNIT u + off - 0x10000) / 0x40 = u := by simp only [Base.UNIT]; omega
  have hmod : (Base.UNIT u + off) % 0x40 = off := by simp only [Base.UNIT]; omega
  have hlo : 0x10000 ≤ Base.UNIT u + off := by simp only [Base.UNIT]; omega
  have hhi : Base.UNIT u + off < 0x50000 := by simp only [Base.UNIT]; omega
  generalize Base.UNIT u + off = a at *
  unfold blockAt
  iterate 13 rw [if_neg (by omega)]
  rw [if_pos hhi]
  simp only [hdiv, hmod]

/-- A word of a descriptor that no unit has a value of its own for holds its row's reset values, or zero for a reserved unit. -/
theorem resetWord_unitTable {u off : Nat} {w : Word} (hu : u < 0x1000) (ho : off < 0x40)
    (hrow : (findRow (Block.unit u).rows off).map (fun r => BitVec.ofNat 32 (fieldsReset r.1.fields)) = some w)
    (hshared : off ∉ [0, 0x1C, 0x38]) :
    resetWord (Base.UNIT u + off) = if (classOf u).isSome then w else 0 := by
  have hlt : Base.UNIT u + off < 0x600000 := by simp only [Base.UNIT]; omega
  obtain ⟨r, hr, rfl⟩ := Option.map_eq_some_iff.1 hrow
  simp only [List.mem_cons, List.not_mem_nil, or_false, not_or] at hshared
  obtain ⟨h0, h1c, h38⟩ := hshared
  unfold resetWord
  rw [if_pos hlt, blockAt_unitTable hu ho]
  by_cases hc : (classOf u).isSome
  · simp only [hc, if_true, hr, instanceReset, if_neg h0, if_neg h1c, h38, decide_false, Bool.false_and, Bool.false_eq_true,
      if_false]
  · simp only [hc, Bool.false_eq_true, if_false]

/-- After reset the register file lists no word of the unit table. -/
theorem reset_reg_unitTable (u off : Nat) :
    State.reset.dev.reg (Base.UNIT u + off) = resetWord (Base.UNIT u + off) := by
  have h1 : A.MGT_BOOT_STATUS ≠ Base.UNIT u + off := by simp only [A.MGT_BOOT_STATUS, Base.MGT, Base.UNIT]; omega
  have h2 : A.MGT_RESET_CAUSE ≠ Base.UNIT u + off := by simp only [A.MGT_RESET_CAUSE, Base.MGT, Base.UNIT]; omega
  have h3 : A.MGT_PIN_LEVEL ≠ Base.UNIT u + off := by simp only [A.MGT_PIN_LEVEL, Base.MGT, Base.UNIT]; omega
  simp only [Dev.reg, State.reset, SMap.get, if_neg h1, if_neg h2, if_neg h3]

/-- A field of a descriptor whose row resets it to zero reads zero after reset, whatever the unit. -/
theorem reset_rd_unitTable {u off lo n : Nat} (w : Word) (hu : u < 0x1000) (ho : off < 0x40)
    (hrow : (findRow (Block.unit u).rows off).map (fun r => BitVec.ofNat 32 (fieldsReset r.1.fields)) = some w)
    (hshared : off ∉ [0, 0x1C, 0x38]) (hw : bits w lo n = 0) : State.reset.dev.rd ⟨Base.UNIT u + off, lo, n⟩ = 0 := by
  have h0 : bits 0 lo n = 0 := by simp [bits]
  simp only [Dev.rd, reset_reg_unitTable, resetWord_unitTable hu ho hrow hshared]
  split
  · exact hw
  · exact h0

/-- After reset every unit is OFF (R27). -/
theorem reset_ustate {u : Nat} (hu : u < 0x1000) : State.reset.dev.ustate u = 0 :=
  reset_rd_unitTable (off := 4) 0 hu (by decide) rfl (by decide) (by decide)

/-- After reset every unit is owned by tenant 0 (R25). -/
theorem reset_owner {u : Nat} (hu : u < 0x1000) : State.reset.dev.rd (F.UNIT_OWNER_OWNER u) = 0 :=
  reset_rd_unitTable (off := 8) 0 hu (by decide) rfl (by decide) (by decide)

/-- After reset every unit has the root as its parent (R25, R37). -/
theorem reset_parent {u : Nat} (hu : u < 0x1000) : State.reset.dev.parent u = 0 :=
  reset_rd_unitTable (off := 0xC) 0x0FFF0000 hu (by decide) rfl (by decide) (by decide)

/-- After reset no order runs on any unit (R26). -/
theorem reset_cmd_busy {u : Nat} (hu : u < 0x1000) : State.reset.dev.rd (F.UNIT_CMD_BUSY u) = 0 :=
  reset_rd_unitTable (off := 0x18) 0x600 hu (by decide) rfl (by decide) (by decide)

/-- After reset nothing is left of a command, and no bit of `GLB_EVT_SUMMARY` is set (R72). -/
theorem reset_atRest : State.reset.AtRest := ⟨rfl, rfl, rfl, by decide +kernel⟩

/-- After reset CORE is powered and the device is out of its reset sequence (R383, R459). -/
theorem reset_coreUp : State.reset.CoreUp := ⟨⟨reset_atRest, rfl⟩, by decide +kernel⟩

/-- The device is ACTIVE after reset (R382). -/
theorem reset_power : State.reset.dev.power = 0 := by decide +kernel

/-- Settles O1: the queue's front is what a step carries out (log 1). -/
theorem stepTakesTheFrontCommand : Obligations.StepTakesTheFrontCommand := step_of_pending_cons

/-- Settles O4. The units named in the statement are instances of what holds of every unit ID. -/
theorem resetStateAsTheSpecGives : Obligations.ResetStateAsTheSpecGives := by
  have units : ∀ u, u < 0x1000 → State.reset.dev.ustate u = 0 ∧ State.reset.dev.rd (F.UNIT_OWNER_OWNER u) = 0 ∧
      State.reset.dev.parent u = 0 ∧ State.reset.dev.rd (F.UNIT_CMD_BUSY u) = 0 :=
    fun u hu => ⟨reset_ustate hu, reset_owner hu, reset_parent hu, reset_cmd_busy hu⟩
  have named : ∀ u ∈ [0, 0x010, 0x040, 0x0FC], u < 0x1000 := by decide
  exact ⟨reset_coreUp, rfl, rfl, rfl, reset_power, fun u hu => units u (named u hu), rfl, rfl⟩

end Sys2Proof.Machine
end

section
/-! PROOF. What has left the device stays on record: signals, events and summaries only add to it (R76, R92, R105). -/
namespace Sys2Proof.Machine

/-- What had left the first device is what left the second first. -/
def Emits (d e : Dev) : Prop := d.out <+: e.out

theorem Emits.refl (d : Dev) : Emits d d := List.prefix_rfl
theorem Emits.trans {a b c : Dev} (h : Emits a b) (k : Emits b c) : Emits a c := List.IsPrefix.trans h k
theorem Emits.of_eq {d e : Dev} (h : e.out = d.out) : Emits d e := by rw [Emits, h]
theorem Emits.after {d e e' : Dev} (k : Emits e e') (h : e.out = d.out) : Emits d e' := (Emits.of_eq h).trans k
theorem Emits.emit (d : Dev) (o : Output) : Emits d (d.emit o) := List.prefix_append _ _

theorem Emits.ite {d a b : Dev} {c : Prop} [Decidable c] (ha : Emits d a) (hb : Emits d b) : Emits d (if c then a else b) := by
  split
  · exact ha
  · exact hb

theorem Emits.when {d e : Dev} (h : Emits d e) (c : Bool) {f : Dev → Dev} (hf : ∀ x, Emits x (f x)) : Emits d (e.when c f) := by
  unfold Dev.when
  exact .ite (h.trans (hf e)) h

theorem Emits.each {α : Type} (xs : List α) {f : Dev → α → Dev} (hf : ∀ x a, Emits x (f x a)) (d : Dev) :
    Emits d (d.each xs f) := by
  induction xs generalizing d with
  | nil => exact .refl d
  | cons x xs ih => exact (hf d x).trans (ih (f d x))

theorem Emits.signal (d : Dev) (fn v : Nat) : Emits d (d.signal fn v) := by
  unfold Dev.signal
  exact .ite (.refl d) (.ite (.ite (.refl d) (.of_eq rfl)) (.emit d _))

theorem Emits.signalTenant (d : Dev) (t : Nat) : Emits d (d.signalTenant t) := by
  unfold Dev.signalTenant; split <;> exact .signal d _ _

theorem Dev.hostBytes_out (bs : List Byte) (d : Dev) (a : Nat) : (d.hostBytes a bs).out = d.out := by
  induction bs generalizing d a with
  | nil => rfl
  | cons b bs ih => exact ih (d.hostByte a b) (a + 1)

theorem Emits.pushEntry (d : Dev) (t q : Nat) (ws : List Word) : Emits d (d.pushEntry t q ws) := by
  unfold Dev.pushEntry
  dsimp only
  refine Emits.when (.of_eq ?_) _ (fun x => .signalTenant x t)
  split
  · rfl
  · exact Dev.hostBytes_out _ _ _

theorem Emits.postRaw (d : Dev) (t u kind : Nat) (detail : Word) : Emits d (d.postRaw t u kind detail) := by
  unfold Dev.postRaw
  exact .ite (.of_eq rfl) (.pushEntry d _ _ _)

theorem Emits.crossing (d : Dev) (t q : Nat) {f : Dev → Dev} (hf : ∀ x, Emits x (f x)) : Emits d (d.crossing t q f) := by
  unfold Dev.crossing
  exact .ite ((hf _).after rfl) (.of_eq rfl)

/-- An event posted to a tenant adds to what has left the device. -/
theorem Emits.postEvent (d : Dev) (t u kind : Nat) (detail : Word) : Emits d (d.postEvent t u kind detail) := by
  unfold Dev.postEvent
  exact (Emits.postRaw d t u kind detail).when _ (fun x => .crossing x t 2 (fun y => .postRaw y _ _ _ _))

theorem Emits.updCtx (d : Dev) (x : Nat) (f : Ctx → Ctx) : Emits d (d.updCtx x f) := .of_eq rfl

theorem Emits.fireSource (d : Dev) (hit : Word → Bool) (co : Nat → Bool) (eo : Nat → EntryRt → Bool) (w : Word) :
    Emits d (d.fireSource hit co eo w) := by
  unfold Dev.fireSource
  dsimp only
  exact Emits.trans (Emits.each _ (fun x a => .ite (.each _ (fun y k => .updCtx y _ _) x) (.refl x)) d) (.of_eq rfl)

theorem Emits.notify (d : Dev) (u : Nat) : Emits d (d.notify u) := by
  unfold Dev.notify Dev.postUnit
  exact .ite ((Emits.postEvent _ _ _ _ _).after rfl) (.of_eq rfl)

theorem Emits.touchN (n : Nat) (d : Dev) (u : Nat) : Emits d (Dev.touchN n d u) := by
  induction n generalizing d u with
  | zero => exact .refl d
  | succ n ih =>
    have up : ∀ e, Emits d e → Emits d (if u = 0 then e else Dev.touchN n e (e.parent u)) :=
      fun e he => .ite he (he.trans (ih e _))
    unfold Dev.touchN
    dsimp only
    refine .ite (.refl d) (up _ ?_)
    have written : Emits d (d.wr (F.UNIT_EVT_SUM u) (if d.sumNow u = true then 1 else 0)) := .of_eq rfl
    generalize d.wr (F.UNIT_EVT_SUM u) (if d.sumNow u = true then 1 else 0) = e at written ⊢
    exact .ite (written.trans (Emits.when (.fireSource e _ _ _ _) _ (fun y => .notify y u))) written

/-- Bringing a unit's summary up to date adds to what has left the device. -/
theorem Emits.touch (d : Dev) (u : Nat) : Emits d (d.touch u) := .touchN 800 d u

/-- Signalling the rising edges of `GLB_EVT_SUMMARY` adds to what has left the device. -/
theorem Emits.settle (d : Dev) : Emits d d.settle := by
  unfold Dev.settle
  dsimp only
  exact Emits.trans (Emits.each summaryVectors (fun x b => .ite (.signal x _ _) (.refl x)) d) (.of_eq rfl)

end Sys2Proof.Machine
end

section
/-! PROOF. What a bus error leaves (R49, R50, R72): its latch and its count in GLB, and a record of class 0, which is placed in the
registers of the ERR block and in the fault log and changes nothing else (R404–R412). -/
namespace Sys2Proof.Machine

/-- The second device differs from the first in what a record of class 0 changes: words of the ERR block, counters, peat, the state of the
error machinery. -/
structure RecordFrame (d e : Dev) : Prop where
  eq : e = { d with regs := e.regs, stat := e.stat, peat := e.peat, err := e.err }
  reg : ∀ a, a < Base.ERR → e.reg a = d.reg a

theorem RecordFrame.memw {d e : Dev} (h : RecordFrame d e) : e.memw = d.memw := by rw [h.eq]
theorem RecordFrame.nudge {d e : Dev} (h : RecordFrame d e) : e.nudge = d.nudge := by rw [h.eq]

theorem RecordFrame.refl (d : Dev) : RecordFrame d d := ⟨rfl, fun _ _ => rfl⟩

theorem RecordFrame.trans {a b c : Dev} (h : RecordFrame a b) (k : RecordFrame b c) : RecordFrame a c := by
  refine ⟨?_, fun x hx => (k.reg x hx).trans (h.reg x hx)⟩
  have hc := k.eq
  rw [h.eq] at hc
  exact hc

theorem RecordFrame.ite {d a b : Dev} {c : Prop} [Decidable c] (ha : RecordFrame d a) (hb : RecordFrame d b) :
    RecordFrame d (if c then a else b) := by
  split
  · exact ha
  · exact hb

theorem RecordFrame.setReg (d : Dev) {a : Nat} (w : Word) (h : Base.ERR ≤ a) : RecordFrame d (d.setReg a w) :=
  ⟨rfl, fun _ hb => Dev.reg_setReg_of_ne d w (by omega)⟩

theorem RecordFrame.wr (d : Dev) {f : Fld} (v : Nat) (h : Base.ERR ≤ f.addr) : RecordFrame d (d.wr f v) := .setReg d _ h
theorem RecordFrame.count (d : Dev) (a n : Nat) : RecordFrame d (d.count a n) := ⟨rfl, fun _ _ => rfl⟩

theorem RecordFrame.setRegs (ws : List Word) (d : Dev) {a : Nat} (h : Base.ERR ≤ a) : RecordFrame d (d.setRegs a ws) := by
  induction ws generalizing d a with
  | nil => exact .refl d
  | cons w ws ih => exact (RecordFrame.setReg d w h).trans (ih (d.setReg a w) (by omega))

theorem RecordFrame.peatWords (d : Dev) (i : Nat) (ws : List Word) : RecordFrame d (d.peatWords i ws) := by
  induction d, i, ws using Dev.peatWords.induct with
  | case1 d i lo hi ws ih =>
    have first : RecordFrame d (d.setPeat i (hi ++ lo)) := ⟨rfl, fun _ _ => rfl⟩
    exact first.trans ih
  | case2 d i lo => exact ⟨rfl, fun _ _ => rfl⟩
  | case3 d i => exact .refl d

theorem RecordFrame.lostRecord (d : Dev) (cls : Nat) : RecordFrame d (d.lostRecord cls) :=
  (RecordFrame.wr d _ (by decide)).trans (.wr _ _ (by decide))

/-- A record of class 0 never escalates one that is held. -/
theorem RecordFrame.placeRecord (d : Dev) (ws : List Word) : RecordFrame d (d.placeRecord 0 ws) := by
  unfold Dev.placeRecord Dev.when
  simp only [Nat.not_lt_zero, decide_false, Bool.false_eq_true, if_false]
  exact .ite (.setRegs ws d (by decide)) (.ite (.setRegs ws d (by decide)) (.lostRecord d 0))

theorem RecordFrame.appendLog (d : Dev) (e : LogEntry) : RecordFrame d (d.appendLog e) :=
  ((RecordFrame.peatWords d _ _).trans (.wr _ _ (by decide))).trans (.count _ _ _)

theorem RecordFrame.setErr {d e : Dev} (h : RecordFrame d e) (r : ErrRt) : RecordFrame d { e with err := r } :=
  h.trans ⟨rfl, fun _ _ => rfl⟩

theorem RecordFrame.logRecord (d : Dev) (cls code src : Nat) (ws : List Word) : RecordFrame d (d.logRecord cls code src ws) := by
  unfold Dev.logRecord
  have recent := fun r => RecordFrame.setErr (.refl d) r
  refine .ite ((recent _).trans (.count _ _ _)) (.ite ?_ (.ite ?_ (.ite ?_ ((recent _).trans (.count _ _ _)))))
  · exact ((recent _).trans (.appendLog _ _)).setErr _
  · exact (((recent _).trans (.appendLog _ _)).setErr _).setErr _
  · exact (((recent _).setErr _).trans (.count _ _ _)).setErr _

theorem RecordFrame.record (d : Dev) (code subsys src : Nat) (i0 i1 : Word) : RecordFrame d (d.record 0 code subsys src i0 i1) := by
  unfold Dev.record
  exact .ite (.count _ _ _)
    ((((RecordFrame.refl d).setErr _).trans (.count _ _ _)).trans ((RecordFrame.placeRecord _ _).trans (.logRecord _ _ _ _ _)))

/-- A record of class 0 has no further effect (R404). -/
theorem RecordFrame.raise (d : Dev) (code subsys src : Nat) (i0 i1 : Word) : RecordFrame d (d.raise 0 code subsys src i0 i1) :=
  .record d code subsys src i0 i1

/-- The latch of bus errors (R50, R72): the first error's address, kind, path and direction, kept while VALID is set. -/
def Dev.latchBusError (d : Dev) (p : Path) (addr kind : Nat) (write : Bool) : Dev :=
  if d.on F.GLB_BUSERR_INFO_VALID then d
  else (d.setReg A.GLB_BUSERR_ADDR (BitVec.ofNat 32 (addr % 2 ^ 27))).setReg A.GLB_BUSERR_INFO
    (BitVec.ofNat 32 (kind + d.busPath p * 2 ^ 4 + (if write then 2 ^ 5 else 0) + 2 ^ 31))

/-- A bus error is latched and counted, then recorded; on the management SPI it sets ERR (R82). -/
theorem Dev.busError_cases (d : Dev) (p : Path) (addr kind : Nat) (write : Bool) :
    ∃ e h, RecordFrame ((d.latchBusError p addr kind write).sat F.GLB_BUSERR_COUNT_COUNT 1) e ∧
      d.busError p addr kind write = { e with host := h } := by
  have recorded := RecordFrame.raise ((d.latchBusError p addr kind write).sat F.GLB_BUSERR_COUNT_COUNT 1) 0x01 0xB 0 (BitVec.ofNat 32 addr)
    (BitVec.ofNat 32 (if kind = Bus.DOMAIN_OFF then Rsn.DOMAIN_OFF else kind))
  cases p <;> exact ⟨_, _, recorded, rfl⟩

/-- A bus error changes of the registers below the ERR block those of its latch and its count. -/
theorem Dev.busError_reg (d : Dev) (p : Path) (addr kind : Nat) (write : Bool) {a : Nat} (h : a < Base.ERR) :
    (d.busError p addr kind write).reg a = ((d.latchBusError p addr kind write).sat F.GLB_BUSERR_COUNT_COUNT 1).reg a := by
  obtain ⟨e, h', he, hb⟩ := d.busError_cases p addr kind write
  rw [hb]
  exact he.reg a h

@[simp] theorem Dev.latchBusError_memw (d : Dev) (p : Path) (addr kind : Nat) (write : Bool) :
    (d.latchBusError p addr kind write).memw = d.memw := by
  by_cases h : d.on F.GLB_BUSERR_INFO_VALID = true
  · rw [Dev.latchBusError, if_pos h]
  · rw [Dev.latchBusError, if_neg h, Dev.setReg_memw, Dev.setReg_memw]

@[simp] theorem Dev.latchBusError_nudge (d : Dev) (p : Path) (addr kind : Nat) (write : Bool) :
    (d.latchBusError p addr kind write).nudge = d.nudge := by
  by_cases h : d.on F.GLB_BUSERR_INFO_VALID = true
  · rw [Dev.latchBusError, if_pos h]
  · rw [Dev.latchBusError, if_neg h, Dev.setReg_nudge, Dev.setReg_nudge]

@[simp] theorem Dev.busError_memw (d : Dev) (p : Path) (addr kind : Nat) (write : Bool) :
    (d.busError p addr kind write).memw = d.memw := by
  obtain ⟨e, h, he, hb⟩ := d.busError_cases p addr kind write
  have recorded : e.memw = (d.latchBusError p addr kind write).memw := he.memw
  simp [hb, recorded]

@[simp] theorem Dev.busError_nudge (d : Dev) (p : Path) (addr kind : Nat) (write : Bool) :
    (d.busError p addr kind write).nudge = d.nudge := by
  obtain ⟨e, h, he, hb⟩ := d.busError_cases p addr kind write
  have recorded : e.nudge = (d.latchBusError p addr kind write).nudge := he.nudge
  simp [hb, recorded]

/-- A field of GLB after a bus error, where it lies in no word of the count. -/
theorem Dev.busError_rd (d : Dev) (p : Path) (addr kind : Nat) (write : Bool) {f : Fld} (h : f.addr < Base.ERR)
    (hc : f.addr ≠ A.GLB_BUSERR_COUNT) : (d.busError p addr kind write).rd f = (d.latchBusError p addr kind write).rd f := by
  simp only [Dev.rd, Dev.busError_reg d p addr kind write h]
  exact Dev.rd_wr_of_ne _ _ hc

/-- A bus error counts; the count saturates (R50). -/
theorem Dev.busError_count (d : Dev) (p : Path) (addr kind : Nat) (write : Bool) :
    (d.busError p addr kind write).rd F.GLB_BUSERR_COUNT_COUNT = min (d.rd F.GLB_BUSERR_COUNT_COUNT + 1) 0xFFFFFFFF := by
  have same : (d.latchBusError p addr kind write).rd F.GLB_BUSERR_COUNT_COUNT = d.rd F.GLB_BUSERR_COUNT_COUNT := by
    unfold Dev.latchBusError
    split
    · rfl
    · rw [Dev.rd_setReg_of_ne _ _ (by decide), Dev.rd_setReg_of_ne _ _ (by decide)]
  have read : (d.busError p addr kind write).rd F.GLB_BUSERR_COUNT_COUNT =
      ((d.latchBusError p addr kind write).sat F.GLB_BUSERR_COUNT_COUNT 1).rd F.GLB_BUSERR_COUNT_COUNT := by
    simp only [Dev.rd, Dev.busError_reg d p addr kind write (a := A.GLB_BUSERR_COUNT) (by decide)]
  rw [read, Dev.sat, Dev.rd_wr_self _ _ _ (by decide), same]
  exact Nat.mod_eq_of_lt (Nat.lt_of_le_of_lt (Nat.min_le_right _ _) (by decide))

/-- The word of the latch, and its fields (R72). -/
theorem bits_busErrorInfo {kind path dir : Nat} (hk : kind < 8) (hp : path < 2) (hd : dir < 2) :
    let w : Word := BitVec.ofNat 32 (kind + path * 2 ^ 4 + dir * 2 ^ 5 + 2 ^ 31)
    bits w 0 3 = kind ∧ bits w 5 1 = dir ∧ bits w 31 1 = 1 := by
  simp only [bits, BitVec.toNat_ofNat]
  omega

/-- Where no error is latched, a bus error latches its word and its address (R50, R72). -/
theorem Dev.latchBusError_of_invalid (d : Dev) (p : Path) (addr : Nat) {kind : Nat} (hk : kind < 8) (write : Bool)
    (h : d.on F.GLB_BUSERR_INFO_VALID = false) :
    let e := d.latchBusError p addr kind write
    e.rd F.GLB_BUSERR_INFO_KIND = kind ∧ e.rd F.GLB_BUSERR_INFO_WRITE = (if write then 1 else 0) ∧
      e.rd F.GLB_BUSERR_INFO_VALID = 1 ∧ e.rd F.GLB_BUSERR_ADDR_ADDR = addr % 2 ^ 27 := by
  have hp : d.busPath p < 2 := by unfold Dev.busPath; split <;> decide
  have hd : (if write then 1 else 0) < 2 := by split <;> decide
  have dir : (if write then 2 ^ 5 else 0) = (if write then 1 else 0) * 2 ^ 5 := by cases write <;> rfl
  obtain ⟨hkind, hdir, hvalid⟩ := bits_busErrorInfo hk hp hd
  simp only [Dev.latchBusError, h, Bool.false_eq_true, if_false, dir]
  refine ⟨(Dev.rd_setReg_self _ F.GLB_BUSERR_INFO_KIND _).trans hkind, (Dev.rd_setReg_self _ F.GLB_BUSERR_INFO_WRITE _).trans hdir,
    (Dev.rd_setReg_self _ F.GLB_BUSERR_INFO_VALID _).trans hvalid, ?_⟩
  rw [Dev.rd_setReg_of_ne _ _ (by decide), Dev.rd_setReg_self _ F.GLB_BUSERR_ADDR_ADDR]
  simp only [bits, BitVec.toNat_ofNat]
  omega

/-- After a bus error one is latched (R50). -/
theorem Dev.busError_valid (d : Dev) (p : Path) (addr : Nat) {kind : Nat} (hk : kind < 8) (write : Bool) :
    (d.busError p addr kind write).rd F.GLB_BUSERR_INFO_VALID = 1 := by
  rw [Dev.busError_rd _ _ _ _ _ (by decide) (by decide)]
  by_cases h : d.on F.GLB_BUSERR_INFO_VALID = true
  · have one_bit : d.rd F.GLB_BUSERR_INFO_VALID < 2 := bits_lt _ _ _
    have nonzero : d.rd F.GLB_BUSERR_INFO_VALID ≠ 0 := by simpa [Dev.on] using h
    rw [Dev.latchBusError, if_pos h]
    omega
  · obtain ⟨-, -, hvalid, -⟩ := d.latchBusError_of_invalid p addr hk write (by simpa using h)
    exact hvalid

/-- With no error latched, a bus error latches its kind, its direction and its address (R50, R72). -/
theorem Dev.busError_latches (d : Dev) (p : Path) (addr : Nat) {kind : Nat} (hk : kind < 8) (write : Bool)
    (h : d.rd F.GLB_BUSERR_INFO_VALID = 0) :
    let e := d.busError p addr kind write
    e.rd F.GLB_BUSERR_INFO_KIND = kind ∧ e.rd F.GLB_BUSERR_INFO_WRITE = (if write then 1 else 0) ∧
      e.rd F.GLB_BUSERR_ADDR_ADDR = addr % 2 ^ 27 := by
  obtain ⟨hkind, hdir, -, haddr⟩ := d.latchBusError_of_invalid p addr hk write (by simp [Dev.on, h])
  refine ⟨?_, ?_, ?_⟩
  · rwa [Dev.busError_rd _ _ _ _ _ (by decide) (by decide)]
  · rwa [Dev.busError_rd _ _ _ _ _ (by decide) (by decide)]
  · rwa [Dev.busError_rd _ _ _ _ _ (by decide) (by decide)]

end Sys2Proof.Machine
end

section
/-! PROOF. Where addresses of the register map lead (R47, R63), the alignment that a word access needs (R48), and words as octets. -/
namespace Sys2Proof.Machine

/-! ### Blocks and their addresses -/

/-- The word at `w` lies at offset `off` of a block that is there, by the block's base, its size and the number of its copies (R47). -/
def Block.Holds (w off : Nat) : Block → Prop
  | .glb => w = off ∧ off < 0x1000
  | .pwr => w = Base.PWR + off ∧ off < 0x1000
  | .clk => w = Base.CLK + off ∧ off < 0x1000
  | .err => w = Base.ERR + off ∧ off < 0x1000
  | .sec => w = Base.SEC + off ∧ off < 0x1000
  | .cfg => w = Base.CFG + off ∧ off < 0x1000
  | .frg => w = Base.FRG + off ∧ off < 0x1000
  | .aud => w = Base.AUD + off ∧ off < 0x1000
  | .time => w = Base.TIME + off ∧ off < 0x1000
  | .host => w = Base.HOST + off ∧ off < 0x1000
  | .mgt => w = Base.MGT + off ∧ off < 0x1000
  | .therm => w = Base.THERM + off ∧ off < 0x1000
  | .unit u => w = Base.UNIT u + off ∧ off < 0x40 ∧ u < 0x1000
  | .lnk n => w = Base.LNK n + off ∧ off < 0x4000 ∧ n < 24
  | .ring k => w = Base.RING k + off ∧ off < 0x1000 ∧ k < 12
  | .swc => w = Base.SWC + off ∧ off < 0x10000
  | .apg g => w = Base.APG g + off ∧ off < 0x1000 ∧ g < 16
  | .ap n => w = Base.AP n + off ∧ off < 0x100 ∧ n < 64
  | .dec d => w = Base.DEC d + off ∧ off < 0x100 ∧ d < 128
  | .brg b => w = Base.BRG b + off ∧ off < 0x400 ∧ b < 16
  | .mcs m => w = Base.MCS m + off ∧ off < 0x1000 ∧ m < 8
  | .pr => w = Base.PR + off ∧ off < 0x10000
  | .mtr => w = Base.MTR + off ∧ off < 0x10000
  | .strm s => w = Base.STRM s + off ∧ off < 0x1000 ∧ s < 256
  | .flow f => w = Base.FLOW f + off ∧ off < 0x100 ∧ f < 2048
  | .seng e => w = Base.SENG e + off ∧ off < 0x400 ∧ e < 64
  | .stw s => w = Base.STW s + off ∧ off < 0x400 ∧ s < 4
  | .tnt t => w = Base.TNT t + off ∧ off < 0x1000 ∧ t < 512

/-- What holds of what either branch gives holds of what the choice gives. -/
theorem forall_mem_ite {α : Type} {c : Prop} [Decidable c] {x y : Option α} {P : α → Prop} (hx : c → ∀ e ∈ x, P e)
    (hy : ¬ c → ∀ e ∈ y, P e) : ∀ e ∈ (if c then x else y), P e := by
  split
  · exact hx ‹_›
  · exact hy ‹_›

/-- An address is the base of its block's copy and the offset. -/
theorem holds_blockAt (w : Nat) : ∀ e ∈ blockAt w, e.1.Holds w e.2 := by
  unfold blockAt
  dsimp only
  repeat' refine forall_mem_ite (fun _ => ?_) (fun _ => ?_)
  all_goals rintro _ ⟨⟩
  all_goals
    simp only [Block.Holds, Base.UNIT, Base.PWR, Base.CLK, Base.ERR, Base.SEC, Base.CFG, Base.FRG, Base.AUD, Base.TIME, Base.HOST, Base.MGT,
      Base.THERM, Base.LNK, Base.RING, Base.SWC, Base.APG, Base.AP, Base.DEC, Base.BRG, Base.MCS, Base.PR, Base.MTR, Base.STRM,
      Base.FLOW, Base.SENG, Base.STW, Base.TNT, Bool.and_eq_true, decide_eq_true_eq, true_and] at *
    omega

theorem holds_of_blockAt {w off : Nat} {b : Block} (h : blockAt w = some (b, off)) : b.Holds w off := holds_blockAt w _ h

/-- A register word that an address names is a word of its block. -/
theorem blockAt_of_locate {a off : Nat} {b : Block} (h : locate a = .reg b off) : blockAt (a / 4 * 4) = some (b, off) := by
  unfold locate at h
  dsimp only at h
  split at h
  · split at h
    · cases h
    · rename_i b' off' hb
      split at h
      · cases h
      · split at h
        · cases h
          exact hb
        · cases h
  · split_ifs at h

/-- The blocks below the unit table no word of which belongs to a unit (R50), GLB apart. -/
def Block.unitless : Block → Bool
  | .pwr | .clk | .err | .sec | .cfg | .frg | .aud | .therm => true
  | _ => false

/-- The blocks without a unit lie above GLB and below the unit table. -/
theorem range_of_unitless {w off : Nat} {b : Block} (h : blockAt w = some (b, off)) (hb : b.unitless = true) :
    0x1000 ≤ w ∧ w < 0x10000 := by
  have hw := holds_of_blockAt h
  unfold Block.unitless at hb
  split at hb
  case h_9 => cases hb
  all_goals
    simp only [Block.Holds, Base.PWR, Base.CLK, Base.ERR, Base.SEC, Base.CFG, Base.FRG, Base.AUD, Base.THERM] at hw
    omega

theorem unitOfAddr_of_unitless {a off : Nat} {b : Block} (h : blockAt (a / 4 * 4) = some (b, off)) (hb : b.unitless = true) :
    unitOfAddr a = none := by
  simp only [unitOfAddr, h]
  unfold Block.unitless at hb
  split at hb
  case h_9 => cases hb
  all_goals rfl

/-- The bit alias of bit `b` of byte `x` (R63). -/
theorem locate_bitAlias (x : BitVec 20) (b : Fin 8) :
    locate (0x2000000 + x.toNat * 32 + b.val * 4) = .bitOf x.toNat b.val := by
  have hx := x.isLt
  have hb := b.isLt
  have hbyte : (0x2000000 + x.toNat * 32 + b.val * 4 - 0x2000000) / 32 = x.toNat := by omega
  have hbit : (0x2000000 + x.toNat * 32 + b.val * 4) % 32 / 4 = b.val := by omega
  unfold locate
  dsimp only
  iterate 7 rw [if_neg (by omega)]
  rw [if_pos (by omega), hbyte, hbit]

/-! ### Requests of one word (R48) -/

/-- A word that is no bus error lies in a request of a size that its location takes. -/
theorem sizeOk_of_wordError {d : Dev} {p : Path} {a req n : Nat} {write : Bool} (h : d.wordError p a req n write = none) :
    sizeOk (locate a) req n write = true := by
  unfold Dev.wordError at h
  dsimp only at h
  split at h
  · cases h
  split at h
  · cases h
  split at h
  · cases h
  · rename_i hs
    simpa using hs

/-- A request of four octets that is no bus error is aligned. -/
theorem aligned_of_requestError {d : Dev} {p : Path} {a : Nat} {write : Bool} (h : d.requestError p a 4 write = none) : a % 4 = 0 := by
  have first : a / 4 * 4 ∈ requestWords a 4 := by
    refine List.mem_map.2 ⟨0, List.mem_range.2 (by omega), rfl⟩
  have ok := List.findSome?_eq_none_iff.1 h _ first
  have size := sizeOk_of_wordError (Option.map_eq_none_iff.1 ok)
  simpa [sizeOk] using size

theorem requestWords_of_aligned {a : Nat} (h : a % 4 = 0) : requestWords a 4 = [a] := by
  have count : min 17 (max 1 ((a % 4 + 4 + 3) / 4)) = 1 := by omega
  simp only [requestWords, count, List.range_one, List.map_cons, List.map_nil]
  congr 1
  omega

/-! ### Words as octets (R8) -/

theorem bytesWord_wordBytes (v : Word) : bytesWord (wordBytes v) = v := by
  have h : v.extractLsb' 24 8 ++ v.extractLsb' 16 8 ++ v.extractLsb' 8 8 ++ v.extractLsb' 0 8 = v.extractLsb' 0 (8+8+8+8) := by
    rw [BitVec.extractLsb'_append_extractLsb'_eq_extractLsb' (by rfl), BitVec.extractLsb'_append_extractLsb'_eq_extractLsb' (by rfl),
      BitVec.extractLsb'_append_extractLsb'_eq_extractLsb' (by rfl)]
  exact h.trans BitVec.extractLsb'_eq_self

theorem wordsOf_wordBytes (v : Word) : wordsOf (wordBytes v) = [v] := by
  show [bytesWord (wordBytes v)] = [v]
  rw [bytesWord_wordBytes]

theorem wordBytes_bytesWord (a b c e : Byte) : wordBytes (bytesWord [a, b, c, e]) = [a, b, c, e] := by
  show [(e ++ c ++ b ++ a).extractLsb' 0 8, (e ++ c ++ b ++ a).extractLsb' 8 8, (e ++ c ++ b ++ a).extractLsb' 16 8,
    (e ++ c ++ b ++ a).extractLsb' 24 8] = [a, b, c, e]
  simp only [BitVec.extractLsb'_append_eq_ite]
  simp

end Sys2Proof.Machine
end

section
/-! PROOF. Accesses to the register map as commands (R9, R12, R48–R50, R61–R63): what a write that the interface takes stores, what a read
answers and clears, and what each leaves unchanged. -/
namespace Sys2Proof.Machine

/-! ### Carrying out a command that leaves no summary to be brought up to date -/

/-- What a command may read of a state besides the device. -/
abbrev State.env (s : State) : Env := { mem := s.mem, fuses := s.fuses }

/-- The second device differs from the first in register words of `W` alone. -/
structure RegsFrame (W : Nat → Prop) (d e : Dev) : Prop where
  eq : e = { d with regs := e.regs }
  reg : ∀ a, ¬ W a → e.reg a = d.reg a

theorem RegsFrame.refl (W : Nat → Prop) (d : Dev) : RegsFrame W d d := ⟨rfl, fun _ _ => rfl⟩

theorem RegsFrame.ite {W : Nat → Prop} {d a b : Dev} {c : Prop} [Decidable c] (ha : RegsFrame W d a) (hb : RegsFrame W d b) :
    RegsFrame W d (if c then a else b) := by
  split
  · exact ha
  · exact hb

theorem RegsFrame.setReg {W : Nat → Prop} {d e : Dev} (h : RegsFrame W d e) {a : Nat} (w : Word) (ha : W a) :
    RegsFrame W d (e.setReg a w) := by
  refine ⟨?_, fun b hb => (Dev.reg_setReg_of_ne e w (fun eq => hb (by rw [eq]; exact ha))).trans (h.reg b hb)⟩
  rw [h.eq]
  rfl

theorem RegsFrame.mono {V W : Nat → Prop} {d e : Dev} (h : RegsFrame V d e) (hVW : ∀ a, V a → W a) : RegsFrame W d e :=
  ⟨h.eq, fun a ha => h.reg a (fun hv => ha (hVW a hv))⟩

theorem EvFrame.mono {V W : Nat → Prop} {d e : Dev} (h : EvFrame V d e) (hVW : ∀ a, V a → W a) : EvFrame W d e :=
  ⟨h.eq, fun a ha => h.reg a (fun hv => ha (hVW a hv))⟩

/-- Out of reset, a command whose effect leaves no summary to be brought up to date is its effect, its stores, and the signals of
`GLB_EVT_SUMMARY`. -/
theorem runAon_settles {f : Env → Dev → Dev} {s : State} {d : Dev} (up : s.Up) (hf : f s.env s.dev = d)
    (hn : d.nudge = []) :
    runAon f s = .next { s with mem := applyMem d.memw s.mem, dev := { d.settle with memw := [] } } := by
  subst hf
  rw [runAon_of_up up.2, carry_plain hn]

/-- A command that changes registers alone. -/
theorem runAon_onlyRegs {W : Nat → Prop} {f : Env → Dev → Dev} {s : State} {d : Dev} (up : s.Up)
    (hf : f s.env s.dev = d) (hd : RegsFrame W s.dev d) :
    ∃ t, runAon f s = .next t ∧ OnlyRegs W s t ∧ ∀ a, t.dev.reg a = d.reg a := by
  obtain ⟨⟨-, hm, hn, -⟩, -⟩ := id up
  have memw : d.memw = [] := by rw [hd.eq]; exact hm
  have nudge : d.nudge = [] := by rw [hd.eq]; exact hn
  obtain ⟨pba, out, settled⟩ := d.settle_cases
  refine ⟨_, runAon_settles up hf nudge, ⟨?_, fun a ha => ?_⟩, fun a => Dev.settle_reg d a⟩
  · rw [memw, settled, hd.eq, applyMem_nil, ← hm]
  · exact (Dev.settle_reg d a).trans (hd.reg a ha)

/-- A command that answers a read: the data leave on the path; registers change as the read and events change them. -/
theorem runAon_answers {f : Env → Dev → Dev} {s : State} {p : Path} {a : Nat} {w : Word} {d : Dev} (up : s.Up)
    (hf : f s.env s.dev = d.emit (.data p [w]))
    (hd : EvFrame (fun b => b = a ∨ evtWord b) s.dev d) (ho : Emits s.dev d) :
    ∃ t, runAon f s = .next t ∧ RegFrame (· = a) s t ∧ Answers p w s t ∧ t.dev.reg a = d.reg a := by
  obtain ⟨⟨-, hm, hn, -⟩, -⟩ := id up
  have memw : d.memw = [] := by rw [hd.eq]; exact hm
  have nudge : d.nudge = [] := by rw [hd.eq]; exact hn
  have sent := Emits.settle (d.emit (.data p [w]))
  refine ⟨_, runAon_settles up hf nudge, ⟨fun b hb he => ?_, ?_, rfl, rfl⟩, ⟨?_, ?_⟩, ?_⟩
  · exact (Dev.settle_reg _ b).trans (hd.reg b (not_or.2 ⟨hb, he⟩))
  · show applyMem d.memw s.mem = s.mem
    rw [memw, applyMem_nil]
  · exact sent.subset (List.mem_append_right _ (List.mem_singleton.2 rfl))
  · exact (ho.trans (.emit d _)).trans sent
  · exact Dev.settle_reg _ a

/-! ### Writes of words whose fields are all RW (R9, R12) -/

theorem and_ones (x : Word) : x &&& 4294967295#32 = x := BitVec.and_allOnes

theorem ones_and (x : Word) : 4294967295#32 &&& x = x := BitVec.allOnes_and

theorem merge_zero (old v : Word) : merge old 0 v = old := by simp [merge, and_ones]

theorem accMask_eq_zero {q : Acc → Bool} {fs : List FieldRow} (h : ∀ f ∈ fs, q f.acc = false) : accMask q fs = 0 := by
  induction fs with
  | nil => rfl
  | cons f fs ih => simp [accMask, h f (by simp), ih (fun g hg => h g (by simp [hg]))]

/-- A word whose fields are all RW takes the written bits of its fields, where no reserved encoding is written and the word is not of the
configuration set. -/
theorem Dev.plainWrite_of_rw {d : Dev} {p : Path} {b : Block} {off a : Nat} {m v : Word} (hrw : ∀ f ∈ fieldsAt b off, f.acc = .rw)
    (hres : reservedWithin b off = 0) (hbad : d.badFields b off a m v = []) (hcfg : inConfig b off a = false) :
    d.plainWrite p b off a m v =
      if m &&& accMask (· == .rw) (fieldsAt b off) = 0 then d
      else d.setReg a (merge (d.reg a) (m &&& accMask (· == .rw) (fieldsAt b off)) v) := by
  have wp : accMask (· == .wp) (fieldsAt b off) = 0 := accMask_eq_zero (fun f hf => by rw [hrw f hf]; rfl)
  have ws : ∀ m : Word, (fieldsAt b off).filter (fun f => f.acc == .ws && m &&& fieldMask f.lo f.width != 0) = [] := by
    intro m
    refine List.filter_eq_nil_iff.2 (fun f hf => ?_)
    rw [hrw f hf]
    simp
  unfold Dev.plainWrite
  simp only [hbad, hres, accMask, ws, wp, hcfg]
  simp [Dev.each, Dev.dirtyIf, and_ones]

/-- The blocks whose words of RW fields have no effect beside being stored. -/
theorem Dev.writeReg_of_stored {d : Dev} {env : Env} {p : Path} {b : Block} {off a : Nat} {m v : Word}
    (hb : b ∈ [.clk, .aud, .therm, .pwr]) (hack : ¬ (b = .pwr ∧ off = 0x2C)) :
    d.writeReg env p b off a m v = (d.noteReserved b off a (v &&& m)).plainWrite p b off a m v := by
  simp only [List.mem_cons, List.not_mem_nil, or_false] at hb
  obtain rfl | rfl | rfl | rfl := hb
  · simp only [Dev.writeReg, isCommit, Bool.false_eq_true, if_false]
  · simp only [Dev.writeReg, isCommit, Bool.false_eq_true, if_false]
  · simp only [Dev.writeReg, isCommit, Bool.false_eq_true, if_false]
  · have other : off ≠ 0x2C := fun h => hack ⟨rfl, h⟩
    simp only [Dev.writeReg, isCommit, Bool.false_eq_true, if_false, if_neg other]

theorem Dev.badFields_of_stored {d : Dev} {b : Block} {off a : Nat} {m v : Word} (hb : b ∈ [.clk, .aud, .therm, .pwr]) :
    d.badFields b off a m v = [] := by
  simp only [List.mem_cons, List.not_mem_nil, or_false] at hb
  obtain rfl | rfl | rfl | rfl := hb <;> simp [Dev.badFields, reservedValue]

theorem inConfig_of_unitless {b : Block} {off a : Nat} (hb : b.unitless = true) (ha : a < 0x10000) : inConfig b off a = false := by
  unfold Block.unitless at hb
  split at hb
  case h_9 => cases hb
  all_goals
    simp only [inConfig, Bool.or_eq_false_iff, Bool.and_eq_false_iff, decide_eq_false_iff_not]
    omega

/-- In a block without a unit, a write of non-zero bits to reserved fields counts in GLB (R12). -/
theorem Dev.noteReserved_frame {d : Dev} {b : Block} {off a : Nat} {w : Word} (h : blockAt (a / 4 * 4) = some (b, off))
    (hb : b.unitless = true) : RegsFrame rsvWord d (d.noteReserved b off a w) := by
  have counted : RegsFrame rsvWord d (d.countReserved a) := by
    unfold Dev.countReserved
    rw [unitOfAddr_of_unitless h hb]
    exact (RegsFrame.refl _ d).setReg _ (.inl rfl)
  exact .ite counted (.refl _ d)

/-- A write of some bits of a word whose fields are all RW, in a block that only stores: the word takes the written bits of its fields; of
the others, the count of reserved bits alone may change. -/
theorem Dev.writeReg_of_rw {d : Dev} {env : Env} {p : Path} {b : Block} {off a : Nat} {m v : Word}
    (hb : b ∈ [.clk, .aud, .therm, .pwr]) (hack : ¬ (b = .pwr ∧ off = 0x2C)) (ha : blockAt (a / 4 * 4) = some (b, off))
    (hres : reservedWithin b off = 0) (hrw : ∀ f ∈ fieldsAt b off, f.acc = .rw) :
    RegsFrame (fun y => y = a ∨ rsvWord y) d (d.writeReg env p b off a m v) ∧
      (d.writeReg env p b off a m v).reg a = merge (d.reg a) (m &&& accMask (· == .rw) (fieldsAt b off)) v := by
  have unitless : b.unitless = true := by
    simp only [List.mem_cons, List.not_mem_nil, or_false] at hb
    obtain rfl | rfl | rfl | rfl := hb <;> rfl
  obtain ⟨lo, hi⟩ := range_of_unitless ha unitless
  have noted := Dev.noteReserved_frame (d := d) (w := v &&& m) ha unitless
  have kept : (d.noteReserved b off a (v &&& m)).reg a = d.reg a := by
    refine noted.reg a ?_
    simp only [rsvWord, A.GLB_RSV_WRITES]
    omega
  rw [Dev.writeReg_of_stored hb hack,
    Dev.plainWrite_of_rw hrw hres (Dev.badFields_of_stored hb) (inConfig_of_unitless unitless (by omega)), kept]
  split
  · rename_i none
    rw [none, merge_zero]
    exact ⟨noted.mono (fun _ => .inr), kept⟩
  · exact ⟨(noted.mono (fun _ => .inr)).setReg _ (.inl rfl), Dev.reg_setReg_self _ _ _⟩

/-! ### Writes on a path (R48–R50) -/

section
variable {d : Dev} {env : Env} {p : Path} {addr a : Nat} {bs : List Byte}

/-- A write that is no bus error, with no recording to hold it, is carried out where its address leads. -/
theorem Dev.hostWrite_of_taken (hup : d.pathUp p = true) (hroute : d.route p addr = .map a)
    (hok : d.requestError p a bs.length true = none) (hrec : d.rd F.FRG_STATUS_STATE ≠ Frg.RECORDING) :
    d.hostWrite env p addr bs =
      if bs.length < 4 then (d.memStore a bs).dirtyIf (locate a).code else d.writeAll env p a (wordsOf bs) := by
  have unrecorded : d.recordWrite p (d.pathTenant p a) a bs = d := by
    unfold Dev.recordWrite Dev.hostRecord
    rw [hok, if_neg (by decide), if_pos hrec]
  simp only [Dev.hostWrite, Dev.pathWrite, Dev.writeRequest, hup, hroute, unrecorded, hok, Bool.not_true, Bool.false_eq_true, if_false]
  by_cases short : bs.length < 4
  · simp only [if_pos short]
  · simp only [if_neg short]

/-- A write that is a bus error leaves the bus error and an error on its path. -/
theorem Dev.hostWrite_of_refused {w k : Nat} (hup : d.pathUp p = true) (hroute : d.route p addr = .map a)
    (herr : d.requestError p a bs.length true = some (w, k)) :
    d.hostWrite env p addr bs = (d.busError p w k true).fails p := by
  have unrecorded : d.recordWrite p (d.pathTenant p a) a bs = d := by
    unfold Dev.recordWrite
    rw [herr, Option.isSome_some, if_pos rfl]
  simp only [Dev.hostWrite, Dev.pathWrite, Dev.writeRequest, hup, hroute, unrecorded, herr]
  rfl

/-- A word written on a path. -/
theorem Dev.hostWrite_word {v : Word} (hup : d.pathUp p = true) (hroute : d.route p addr = .map a)
    (hok : d.requestError p a 4 true = none) (hrec : d.rd F.FRG_STATUS_STATE ≠ Frg.RECORDING) :
    d.hostWrite env p addr (wordBytes v) = d.writeWord env p a v := by
  rw [Dev.hostWrite_of_taken (bs := wordBytes v) hup hroute hok hrec, wordsOf_wordBytes]
  rfl

theorem Dev.writeWord_window {v : Word} (hw : (locate a).window = true) :
    d.writeWord env p a v = (d.memStore a (wordBytes v)).dirtyIf (locate a).code := by
  unfold Dev.writeWord
  generalize locate a = l at hw ⊢
  cases l with
  | stwMem s off => rfl
  | sengMem e off => rfl
  | _ => cases hw

/-- A write of up to four octets into an engine memory window stores them. -/
theorem Dev.hostWrite_window (hup : d.pathUp p = true) (hroute : d.route p addr = .map a) (hw : (locate a).window = true)
    (hn : bs.length ≤ 4) (hok : d.requestError p a bs.length true = none) (hrec : d.rd F.FRG_STATUS_STATE ≠ Frg.RECORDING) :
    d.hostWrite env p addr bs = (d.memStore a bs).dirtyIf (locate a).code := by
  rw [Dev.hostWrite_of_taken hup hroute hok hrec]
  split
  · rfl
  · obtain ⟨b0, b1, b2, b3, rfl⟩ : ∃ b0 b1 b2 b3, bs = [b0, b1, b2, b3] := List.length_eq_four.1 (by omega)
    show d.writeWord env p a (bytesWord [b0, b1, b2, b3]) = _
    rw [Dev.writeWord_window hw, wordBytes_bytesWord]

@[simp] theorem Dev.dirtyIf_memw (d : Dev) (c : Bool) : (d.dirtyIf c).memw = d.memw := by unfold Dev.dirtyIf; split <;> rfl
@[simp] theorem Dev.dirtyIf_nudge (d : Dev) (c : Bool) : (d.dirtyIf c).nudge = d.nudge := by unfold Dev.dirtyIf; split <;> rfl

/-! ### Reads (R61–R63) -/

/-- A word read on a path: its value leaves, and the read has its effect. -/
theorem Dev.hostRead_word (hup : d.pathUp p = true) (hroute : d.route p addr = .map a) (hok : d.requestError p a 4 false = none) :
    d.hostRead env p addr 4 = (d.readTouch p a 0xFFFFFFFF true).emit (.data p [d.readWord env p a]) := by
  have aligned := aligned_of_requestError hok
  have all : readBits a 4 a = 0xFFFFFFFF := rfl
  have octets : ∀ w : Word, wordsOf ((([] ++ wordBytes w).drop 0).take 4 ++
      List.replicate (3 - (((([] ++ wordBytes w).drop 0).take 4).length + 3) % 4) 0) = [w] := by
    intro w
    have four : (wordBytes w).length = 4 := rfl
    rw [List.nil_append, List.drop_zero, List.take_of_length_le (Nat.le_of_eq four), four]
    exact wordsOf_wordBytes w
  simp only [Dev.hostRead, Dev.pathRead, Dev.readRequest, Dev.readAll, hup, hroute, hok, requestWords_of_aligned aligned, aligned, all,
    List.foldl_cons, List.foldl_nil, octets]
  rfl

end

theorem and_not_and (x y : Word) : x &&& ~~~ (x &&& y) = x &&& ~~~ y := by
  ext i hi
  simp only [BitVec.getElem_and, BitVec.getElem_not]
  cases x[i] <;> simp

/-- A read of some bits of a register word, with no latch to move: the leaves read are cleared, and events follow. -/
theorem Dev.readReg_cases {d : Dev} {p : Path} {a : Nat} {b : Block} {off : Nat} {m : Word} {full : Bool}
    (hmoves : d.readMoves p b off full = d) (hunit : ∀ u, unitOfAddr a = some u → u < 0x1000) (ha : ¬ evtWord a) :
    let e := d.readReg p a b off m full
    EvFrame (fun y => y = a ∨ evtWord y) d e ∧ Emits d e ∧ e.reg a = d.reg a &&& ~~~ clearedBy b off m full := by
  have cleared : EvFrame (fun y => y = a ∨ evtWord y) d (d.setReg a (d.reg a &&& ~~~ (d.reg a &&& clearedBy b off m full))) :=
    .setReg d _ (.inl rfl)
  unfold Dev.readReg
  simp only [hmoves]
  split
  · rename_i none
    refine ⟨.refl d, .refl d, ?_⟩
    rw [← and_not_and, none]
    exact (and_ones _).symm
  · split
    · rename_i u hu
      have touched := Dev.touch_frame (d.setReg a (d.reg a &&& ~~~ (d.reg a &&& clearedBy b off m full))) (hunit u hu)
      refine ⟨cleared.trans (touched.mono (fun _ => .inr)), (Emits.touch _ u).after rfl, ?_⟩
      rw [touched.reg a ha, Dev.reg_setReg_self, and_not_and]
    · refine ⟨cleared, .of_eq rfl, ?_⟩
      rw [Dev.reg_setReg_self, and_not_and]

end Sys2Proof.Machine
end

section
/-! PROOF. O25: the register interface does what the access codes of R9 say, on words, through the bit alias and in the engine memory windows,
and a bus error is latched, counted and answered (R48–R50, R61–R63, R72). -/
namespace Sys2Proof.Machine

/-! ### Writes (R9, R12, R63) -/

/-- A word of RW fields in a block that only stores takes the bits written to it. -/
theorem registerWrite_of_rw {s : State} {p : Path} {addr : BitVec 32} {v : Word} {b : Block} {off : Nat} (take : s.TakesWrite p addr.toNat)
    (route : s.dev.route p addr.toNat = .map addr.toNat) (loc : locate addr.toNat = .reg b off) (hb : b ∈ [.clk, .aud, .therm, .pwr])
    (hack : ¬ (b = .pwr ∧ off = 0x2C)) (hrw : ∀ f ∈ fieldsAt b off, f.acc = .rw) (hres : reservedWithin b off = 0) :
    Completes (.registerWrite p addr (wordBytes v)) s (fun t => OnlyRegs (fun a => a = addr.toNat ∨ rsvWord a) s t ∧
      t.dev.reg addr.toNat = merge (s.dev.reg addr.toNat) (accMask (· == .rw) (fieldsAt b off)) v) := by
  obtain ⟨up, -, path, -, ok, idle⟩ := take
  obtain ⟨frame, word⟩ := Dev.writeReg_of_rw (d := s.dev) (env := s.env) (p := p) (m := 0xFFFFFFFF) (v := v)
    hb hack (blockAt_of_locate loc) hres hrw
  have written : s.dev.hostWrite s.env p addr.toNat (wordBytes v) =
      s.dev.writeReg s.env p b off addr.toNat 0xFFFFFFFF v := by
    rw [Dev.hostWrite_word path route ok idle, Dev.writeWord, loc]
  obtain ⟨t, ht, only, regs⟩ := runAon_onlyRegs (f := fun env d => d.hostWrite env p addr.toNat (wordBytes v)) up written frame
  refine ⟨t, ht, only, ?_⟩
  rw [regs, word]
  exact congrArg (fun m => merge _ m v) (ones_and _)

/-- A write through the bit alias of a word of RW fields in a block that only stores writes that bit alone. -/
theorem bitAliasWrite_of_rw {s : State} {p : Path} {x : BitVec 20} {b : Fin 8} {v : Word} {bl : Block} {off : Nat}
    (loc : locate x.toNat = .reg bl off) (hbl : bl ∈ [.clk, .aud, .therm, .pwr]) (hack : ¬ (bl = .pwr ∧ off = 0x2C))
    (hres : reservedWithin bl off = 0) (hrw : ∀ f ∈ fieldsAt bl off, f.acc = .rw)
    (take : s.TakesWrite p (0x2000000 + x.toNat * 32 + b.val * 4)) :
    let a := x.toNat / 4 * 4
    let k := x.toNat % 4 * 8 + b.val
    Completes (.bitAliasAccess p x b (some v)) s (fun t => OnlyRegs (fun y => y = a ∨ rsvWord y) s t ∧
      t.dev.reg a = merge (s.dev.reg a) (fieldMask k 1 &&& accMask (· == .rw) (fieldsAt bl off))
        (if v.getLsbD 0 then 0xFFFFFFFF else 0)) := by
  intro a k
  obtain ⟨up, map, path, route, ok, idle⟩ := take
  have block : blockAt (a / 4 * 4) = some (bl, off) := by
    rw [show a / 4 * 4 = x.toNat / 4 * 4 by omega]
    exact blockAt_of_locate loc
  obtain ⟨frame, word⟩ := Dev.writeReg_of_rw (d := s.dev) (env := s.env) (p := p) (m := fieldMask k 1)
    (v := if v.getLsbD 0 then 0xFFFFFFFF else 0) hbl hack block hres hrw
  have written : s.dev.poke s.env p (0x2000000 + x.toNat * 32 + b.val * 4) v =
      s.dev.writeReg s.env p bl off a (fieldMask k 1) (if v.getLsbD 0 then 0xFFFFFFFF else 0) := by
    rw [Dev.poke, if_pos map, Dev.hostWrite_word path route ok idle, Dev.writeWord, locate_bitAlias]
    simp only [loc]
    rfl
  obtain ⟨t, ht, only, regs⟩ := runAon_onlyRegs
    (f := fun env d => d.poke env p (0x2000000 + x.toNat * 32 + b.val * 4) v) up written frame
  exact ⟨t, ht, only, (regs a).trans word⟩

/-- A write of up to four octets into an engine memory window stores them, and no other octet changes (R48). -/
theorem windowWrite_stores {s : State} {p : Path} {addr : BitVec 32} {bs : List Byte} {x : Nat} (up : s.Up)
    (path : s.dev.pathUp p = true) (route : s.dev.route p addr.toNat = .map x) (idle : s.dev.rd F.FRG_STATUS_STATE ≠ Frg.RECORDING)
    (window : (locate x).window = true) (short : bs.length ≤ 4) (ok : s.dev.requestError p x bs.length true = none) :
    Completes (.registerWrite p addr bs) s (fun t => ∀ b, memByte t.mem b =
      if x ≤ b ∧ b < x + bs.length then bs.getD (b - x) 0 else memByte s.mem b) := by
  obtain ⟨⟨-, hm, hn, -⟩, -⟩ := id up
  have stored : s.dev.hostWrite s.env p addr.toNat bs = (s.dev.memStore x bs).dirtyIf (locate x).code :=
    Dev.hostWrite_window path route window short ok idle
  refine ⟨_, runAon_settles (f := fun env d => d.hostWrite env p addr.toNat bs) up stored (by simpa using hn), fun b => ?_⟩
  have ops : ((s.dev.memStore x bs).dirtyIf (locate x).code).memw = bs.zipIdx.map (fun e => MemOp.byte (x + e.2) e.1) := by
    simp [Dev.memStore, hm]
  simp only [ops]
  exact memByte_applyMem_bytes bs x b s.mem

/-- A write that is a bus error stores nothing; it is latched, counted and answered (R49, R50, R72). -/
theorem registerWrite_of_busError {s : State} {p : Path} {addr : BitVec 32} {bs : List Byte} {x w k : Nat} (up : s.Up)
    (path : s.dev.pathUp p = true) (route : s.dev.route p addr.toNat = .map x)
    (err : s.dev.requestError p x bs.length true = some (w, k)) (hk : k < 5) :
    Completes (.registerWrite p addr bs) s (fun t => t.mem = s.mem ∧ Output.error p ∈ t.dev.out ∧
      t.dev.rd F.GLB_BUSERR_COUNT_COUNT = min (s.dev.rd F.GLB_BUSERR_COUNT_COUNT + 1) 0xFFFFFFFF ∧
      t.dev.rd F.GLB_BUSERR_INFO_VALID = 1 ∧
      (s.dev.rd F.GLB_BUSERR_INFO_VALID = 0 → t.dev.rd F.GLB_BUSERR_INFO_KIND = k ∧ t.dev.rd F.GLB_BUSERR_INFO_WRITE = 1 ∧
        t.dev.rd F.GLB_BUSERR_ADDR_ADDR = w % 2 ^ 27)) := by
  obtain ⟨⟨-, hm, hn, -⟩, -⟩ := id up
  have failed : s.dev.hostWrite s.env p addr.toNat bs = (s.dev.busError p w k true).fails p :=
    Dev.hostWrite_of_refused path route err
  have nudge : ((s.dev.busError p w k true).fails p).nudge = [] := by simp [Dev.fails, hn]
  have memw : ((s.dev.busError p w k true).fails p).memw = [] := by simp [Dev.fails, hm]
  have kept : ∀ f, ((s.dev.busError p w k true).fails p).settle.rd f = (s.dev.busError p w k true).rd f := Dev.settle_rd _
  have small : k < 8 := by omega
  refine ⟨_, runAon_settles (f := fun env d => d.hostWrite env p addr.toNat bs) up failed nudge, ?_, ?_, ?_, ?_, fun invalid => ?_⟩
  · show applyMem ((s.dev.busError p w k true).fails p).memw s.mem = s.mem
    rw [memw, applyMem_nil]
  · exact (Emits.settle _).subset (List.mem_append_right _ (List.mem_singleton.2 rfl))
  · exact (kept _).trans (Dev.busError_count _ _ _ _ _)
  · exact (kept _).trans (Dev.busError_valid _ _ _ small _)
  · obtain ⟨kind, dir, place⟩ := s.dev.busError_latches p w small true invalid
    exact ⟨(kept _).trans kind, (kept _).trans dir, (kept _).trans place⟩

/-! ### Reads (R9, R61–R63) -/

/-- A read of a link's register answers its word without the WO fields and clears the leaves returned as 1. -/
theorem readClear_lnk {s : State} {p : Path} {addr : BitVec 32} {n off : Nat} (take : s.TakesRead p addr.toNat)
    (route : s.dev.route p addr.toNat = .map addr.toNat) (loc : locate addr.toNat = .reg (.lnk n) off) :
    Completes (.readClear p addr 4) s (fun t => RegFrame (· = addr.toNat) s t ∧
      Answers p (s.dev.reg addr.toNat &&& ~~~ accMask (· == .wo) (fieldsAt (.lnk n) off)) s t ∧
      t.dev.reg addr.toNat = s.dev.reg addr.toNat &&& ~~~ accMask (· == .rcl) (fieldsAt (.lnk n) off)) := by
  obtain ⟨up, -, path, -, ok⟩ := take
  have word : addr.toNat / 4 * 4 = addr.toNat := by have := aligned_of_requestError ok; omega
  have block := blockAt_of_locate loc
  obtain ⟨place, size, copies⟩ : Block.Holds (addr.toNat / 4 * 4) off (.lnk n) := holds_of_blockAt block
  have unit : ∀ u, unitOfAddr addr.toNat = some u → u < 0x1000 := by
    intro u hu
    simp only [unitOfAddr, block, unitOfBlock, Option.some.injEq] at hu
    omega
  have leaf : ¬ evtWord addr.toNat := by
    simp only [evtWord, Base.LNK] at place ⊢
    omega
  obtain ⟨frame, out, cleared⟩ := Dev.readReg_cases (d := s.dev) (p := p) (b := .lnk n) (off := off) (m := 0xFFFFFFFF) (full := true)
    rfl unit leaf
  have answered : s.dev.hostRead s.env p addr.toNat 4 =
      (s.dev.readReg p addr.toNat (.lnk n) off 0xFFFFFFFF true).emit
        (.data p [s.dev.reg addr.toNat &&& ~~~ accMask (· == .wo) (fieldsAt (.lnk n) off)]) := by
    rw [Dev.hostRead_word path route ok, Dev.readTouch, Dev.readWord, loc]
    simp only [word]
    rfl
  obtain ⟨t, ht, regs, data, reg⟩ := runAon_answers (f := fun env d => d.hostRead env p addr.toNat 4) up answered frame out
  exact ⟨t, ht, regs, data, (reg.trans cleared).trans (congrArg (fun m => _ &&& ~~~ m) (ones_and _))⟩

/-- A read through the bit alias answers the one bit and clears it alone, in the blocks whose reads move no latch and show the word as it
is held. -/
theorem bitAliasRead_of_held {s : State} {p : Path} {x : BitVec 20} {b : Fin 8} {bl : Block} {off : Nat}
    (loc : locate x.toNat = .reg bl off) (hbl : bl ∈ [.pwr, .err, .sec, .cfg]) (hwo : accMask (· == .wo) (fieldsAt bl off) = 0)
    (take : s.TakesRead p (0x2000000 + x.toNat * 32 + b.val * 4)) :
    let a := x.toNat / 4 * 4
    let k := x.toNat % 4 * 8 + b.val
    Completes (.bitAliasAccess p x b none) s (fun t => RegFrame (· = a) s t ∧
      Answers p (BitVec.ofNat 32 (bits (s.dev.reg a) k 1)) s t ∧
      t.dev.reg a = s.dev.reg a &&& ~~~ (fieldMask k 1 &&& accMask (· == .rcl) (fieldsAt bl off))) := by
  intro a k
  obtain ⟨up, map, path, route, ok⟩ := take
  obtain ⟨unitless, moves, shows, clears⟩ : bl.unitless = true ∧ s.dev.readMoves p bl off false = s.dev ∧
      s.dev.shown p bl off (s.dev.reg a) = s.dev.reg a ∧
      clearedBy bl off (fieldMask k 1) false = fieldMask k 1 &&& accMask (· == .rcl) (fieldsAt bl off) := by
    simp only [List.mem_cons, List.not_mem_nil, or_false] at hbl
    obtain rfl | rfl | rfl | rfl := hbl <;> exact ⟨rfl, rfl, rfl, rfl⟩
  have block : blockAt (a / 4 * 4) = some (bl, off) := by
    rw [show a / 4 * 4 = x.toNat / 4 * 4 by omega]
    exact blockAt_of_locate loc
  have unit : ∀ u, unitOfAddr a = some u → u < 0x1000 := by
    rw [unitOfAddr_of_unitless block unitless]
    rintro _ ⟨⟩
  have leaf : ¬ evtWord a := by
    obtain ⟨lo, hi⟩ := range_of_unitless block unitless
    simp only [evtWord]
    omega
  obtain ⟨frame, out, cleared⟩ := Dev.readReg_cases (d := s.dev) (p := p) (m := fieldMask k 1) moves unit leaf
  have answered : s.dev.peek s.env p (0x2000000 + x.toNat * 32 + b.val * 4) =
      (s.dev.readReg p a bl off (fieldMask k 1) false).emit (.data p [BitVec.ofNat 32 (bits (s.dev.reg a) k 1)]) := by
    have value : s.dev.readLoc s.env p a (.reg bl off) = s.dev.reg a := by
      show s.dev.shown p bl off (s.dev.reg a) &&& ~~~ accMask (· == .wo) (fieldsAt bl off) = _
      rw [shows, hwo]
      exact and_ones _
    rw [Dev.peek, if_pos map, Dev.hostRead_word path route ok, Dev.readTouch, Dev.readWord, locate_bitAlias]
    simp only [loc]
    exact congrArg (fun w => (s.dev.readReg p a bl off (fieldMask k 1) false).emit (.data p [BitVec.ofNat 32 (bits w k 1)])) value
  obtain ⟨t, ht, regs, data, reg⟩ := runAon_answers
    (f := fun env d => d.peek env p (0x2000000 + x.toNat * 32 + b.val * 4)) up answered frame out
  exact ⟨t, ht, regs, data, (reg.trans cleared).trans (by rw [clears])⟩

/-- Settles O25: a clause each for words of RW fields, the engine memory windows, bus errors, reads of links, and the bit alias read and
written. -/
theorem registerAccessesFollowTheirCodes : Obligations.RegisterAccessesFollowTheirCodes := by
  intro s p
  refine ⟨?_, ?_, ?_, ?_, ?_, ?_⟩
  · intro addr v b off take route loc hb hack hrw hres
    exact registerWrite_of_rw take route loc hb hack hrw hres
  · intro addr bs x up path route idle window _ short ok
    exact windowWrite_stores up path route idle window short ok
  · intro addr bs x w k up path route err hk
    exact registerWrite_of_busError up path route err hk
  · intro addr n off take route loc
    exact readClear_lnk take route loc
  · intro x b bl off a k loc hbl hwo take
    exact bitAliasRead_of_held loc hbl hwo take
  · intro x b v bl off a k loc hbl hack hres hrw take
    exact bitAliasWrite_of_rw loc hbl hack hres hrw take

end Sys2Proof.Machine
end

section
/-! PROOF. What the classes of units and the events do aside from the descriptors of units: registers above the unit table, the SUM bits of
event words, the limit of events (R45); no state, no order, nothing that waits (R27, R51). -/
namespace Sys2Proof.Machine

/-- What a unit holds beside its registers, but for the limit of its events (R45). -/
def UnitRt.orders (r : UnitRt) : UnitRt := { r with lastPost := none, heldPost := false }

/-- What waits for a boundary or for a unit, and the time. -/
def Dev.waiting (d : Dev) : List Staged × List (SetId × List Staged) × List WaitRec × Nat × Nat :=
  (d.staged, d.accepted, d.waits, d.clk, d.t64)

/-- The second device agrees with the first on every register below the blocks of units, but for SUM in event words, on what units hold,
and on what waits. -/
structure Aside (d e : Dev) : Prop where
  waiting : e.waiting = d.waiting
  unit : ∀ u, (e.unit u).orders = (d.unit u).orders
  bit : ∀ a, a < 0x50000 → ∀ k, (evtWord a → k ≠ 0) → (e.reg a).getLsbD k = (d.reg a).getLsbD k

theorem Aside.refl (d : Dev) : Aside d d := ⟨rfl, fun _ => rfl, fun _ _ _ _ => rfl⟩

theorem Aside.trans {a b c : Dev} (h : Aside a b) (k : Aside b c) : Aside a c :=
  ⟨k.waiting.trans h.waiting, fun u => (k.unit u).trans (h.unit u), fun x hx i hi => (k.bit x hx i hi).trans (h.bit x hx i hi)⟩

theorem Aside.reg {d e : Dev} (h : Aside d e) {a : Nat} (ha : a < 0x50000) (hev : ¬ evtWord a) : e.reg a = d.reg a :=
  BitVec.eq_of_getLsbD_eq fun k _ => h.bit a ha k (fun he => absurd he hev)

/-- A device with the same registers, the same units and the same that waits. -/
theorem Aside.same {d e : Dev} (hr : e.regs = d.regs := by rfl) (hu : e.units = d.units := by rfl)
    (hw : e.waiting = d.waiting := by rfl) : Aside d e :=
  ⟨hw, fun u => by rw [Dev.unit, hu]; rfl, fun a _ k _ => by rw [Dev.reg, hr]; rfl⟩

theorem Aside.ite {d a b : Dev} {c : Prop} [Decidable c] (ha : Aside d a) (hb : Aside d b) : Aside d (if c then a else b) := by
  split
  · exact ha
  · exact hb

theorem Aside.when {d e : Dev} (h : Aside d e) (c : Bool) {f : Dev → Dev} (hf : ∀ x, Aside x (f x)) : Aside d (e.when c f) :=
  .ite (h.trans (hf e)) h

theorem Aside.each {α : Type} (xs : List α) {f : Dev → α → Dev} (hf : ∀ x a, Aside x (f x a)) (d : Dev) : Aside d (d.each xs f) := by
  induction xs generalizing d with
  | nil => exact .refl d
  | cons x xs ih => exact (hf d x).trans (ih (f d x))

theorem Aside.setReg (d : Dev) {a : Nat} (w : Word) (h : 0x50000 ≤ a) : Aside d (d.setReg a w) :=
  ⟨rfl, fun _ => rfl, fun b hb k _ => by rw [Dev.reg_setReg_of_ne d w (by omega : b ≠ a)]⟩

theorem Aside.wr (d : Dev) {f : Fld} (v : Nat) (h : 0x50000 ≤ f.addr) : Aside d (d.wr f v) := .setReg d _ h
theorem Aside.setBit (d : Dev) {a : Nat} (b : Nat) (h : 0x50000 ≤ a) : Aside d (d.setBit a b) := .setReg d _ h
theorem Aside.count (d : Dev) (a n : Nat) : Aside d (d.count a n) := .same
theorem Aside.setCtx (d : Dev) (x : Nat) (c : Ctx) : Aside d (d.setCtx x c) := .same
theorem Aside.updCtx (d : Dev) (x : Nat) (f : Ctx → Ctx) : Aside d (d.updCtx x f) := .same
theorem Aside.setQueue (d : Dev) (t q : Nat) (x : Queue) : Aside d (d.setQueue t q x) := .same
theorem Aside.emit (d : Dev) (o : Output) : Aside d (d.emit o) := .same
theorem Aside.setSteward (d : Dev) (s : Nat) (x : StewardRt) : Aside d (d.setSteward s x) := .same
theorem Aside.setLink (d : Dev) (n : Nat) (x : LinkRt) : Aside d (d.setLink n x) := .same
theorem Aside.setRing (d : Dev) (k : Nat) (x : RingRt) : Aside d (d.setRing k x) := .same
theorem Aside.setFlow (d : Dev) (f : Nat) (x : FlowRt) : Aside d (d.setFlow f x) := .same
theorem Aside.setMclk (d : Dev) (m : Nat) (x : McsRt) : Aside d (d.setMclk m x) := .same
theorem Aside.setGroup (d : Dev) (g : Nat) (x : GroupRt) : Aside d (d.setGroup g x) := .same
theorem Aside.setDecim (d : Dev) (k : Nat) (x : DecimRt) : Aside d (d.setDecim k x) := .same
theorem Aside.setRegion (d : Dev) (r : Nat) (x : RegionRt) : Aside d (d.setRegion r x) := .same
theorem Aside.regrant (d : Dev) (n : Nat) : Aside d (d.regrant n) := .same

/-! ### The blocks of units lie above the unit table (R47) -/

theorem high_lnk (n k : Nat) : 0x50000 ≤ Base.LNK n + k := by simp only [Base.LNK]; omega
theorem high_ring (n k : Nat) : 0x50000 ≤ Base.RING n + k := by simp only [Base.RING]; omega
theorem high_swc (k : Nat) : 0x50000 ≤ Base.SWC + k := by simp only [Base.SWC]; omega
theorem high_flow (n k : Nat) : 0x50000 ≤ Base.FLOW n + k := by simp only [Base.FLOW]; omega
theorem high_mcs (n k : Nat) : 0x50000 ≤ Base.MCS n + k := by simp only [Base.MCS]; omega
theorem high_apg (n k : Nat) : 0x50000 ≤ Base.APG n + k := by simp only [Base.APG]; omega
theorem high_ap (n k : Nat) : 0x50000 ≤ Base.AP n + k := by simp only [Base.AP]; omega
theorem high_dec (n k : Nat) : 0x50000 ≤ Base.DEC n + k := by simp only [Base.DEC]; omega
theorem high_brg (n k : Nat) : 0x50000 ≤ Base.BRG n + k := by simp only [Base.BRG]; omega
theorem high_pr (k : Nat) : 0x50000 ≤ Base.PR + k := by simp only [Base.PR]; omega
theorem high_seng (n k : Nat) : 0x50000 ≤ Base.SENG n + k := by simp only [Base.SENG]; omega
theorem high_tnt (t k : Nat) : 0x50000 ≤ Base.TNT t + k := by simp only [Base.TNT]; omega

/-! ### Events and completions (R45, R76, R92–R105) -/

theorem Aside.signal (d : Dev) (fn v : Nat) : Aside d (d.signal fn v) := by
  obtain ⟨p, o, h⟩ := d.signal_cases fn v
  rw [h]
  exact .same

theorem Aside.signalTenant (d : Dev) (t : Nat) : Aside d (d.signalTenant t) := by
  unfold Dev.signalTenant
  split <;> exact .signal d _ _

theorem Aside.hostBytes (bs : List Byte) (d : Dev) (a : Nat) : Aside d (d.hostBytes a bs) := by
  induction bs generalizing d a with
  | nil => exact .refl d
  | cons b bs ih => exact (Aside.same : Aside d (d.hostByte a b)).trans (ih _ _)

theorem Aside.pushEntry (d : Dev) (t q : Nat) (ws : List Word) : Aside d (d.pushEntry t q ws) := by
  unfold Dev.pushEntry
  refine Aside.when (Aside.trans (Aside.ite (.refl d) (.hostBytes _ d _)) (.setQueue _ _ _ _)) _ (fun x => .signalTenant x t)

theorem Aside.postRaw (d : Dev) (t u kind : Nat) (detail : Word) : Aside d (d.postRaw t u kind detail) := by
  unfold Dev.postRaw
  exact .ite (.setQueue d _ _ _) (.pushEntry d _ _ _)

theorem Aside.crossing (d : Dev) (t q : Nat) {f : Dev → Dev} (hf : ∀ x, Aside x (f x)) : Aside d (d.crossing t q f) := by
  have leaf := Aside.wr d (f := F.QSTAT_THR t) (Nat.lor (d.rd (F.QSTAT_THR t)) (2 ^ q)) (high_tnt t _)
  unfold Dev.crossing
  exact .ite ((leaf.trans (.setQueue _ _ _ _)).trans (hf _)) (leaf.trans (.setQueue _ _ _ _))

theorem Aside.postEvent (d : Dev) (t u kind : Nat) (detail : Word) : Aside d (d.postEvent t u kind detail) := by
  unfold Dev.postEvent
  exact (Aside.postRaw d t u kind detail).when _ (fun x => .crossing x t 2 (fun y => .postRaw y _ _ _ _))

theorem Aside.threshold (d : Dev) (t q old : Nat) : Aside d (d.threshold t q old) := by
  unfold Dev.threshold
  exact (Aside.refl d).when _ (fun x => .crossing x t q (fun y => .postEvent y _ _ _ _))

theorem Aside.putCompletion (d : Dev) (t : Nat) (ws : List Word) : Aside d (d.putCompletion t ws) := by
  unfold Dev.putCompletion
  exact ((Aside.pushEntry d t 1 _).when _ (fun x => .wr x _ (high_tnt t _))).trans (.threshold _ _ _ _)

theorem Aside.postCompletion (d : Dev) (t : Nat) (ws : List Word) : Aside d (d.postCompletion t ws) := by
  unfold Dev.postCompletion
  exact .ite (.putCompletion d t ws) (.setQueue d _ _ _)

theorem Aside.completeCmd (d : Dev) (t seq reason unit detail : Nat) (results : List Word) :
    Aside d (d.completeCmd t seq reason unit detail results) := by
  unfold Dev.completeCmd
  split
  · exact .refl d
  · exact .ite .same (Aside.trans .same (.postCompletion _ _ _))

theorem Aside.fireSource (d : Dev) (hit : Word → Bool) (co : Nat → Bool) (eo : Nat → EntryRt → Bool) (w : Word) :
    Aside d (d.fireSource hit co eo w) := by
  unfold Dev.fireSource
  exact Aside.trans (Aside.each _ (fun x a => .ite (.each _ (fun y k => .updCtx y _ _) x) (.refl x)) d) .same

/-- The limit of a unit's events is no part of its orders. -/
theorem Aside.setUnit (d : Dev) {u : Nat} {r : UnitRt} (h : r.orders = (d.unit u).orders) : Aside d (d.setUnit u r) := by
  refine ⟨rfl, fun v => ?_, fun _ _ _ _ => rfl⟩
  simp only [Dev.unit, Dev.setUnit, SMap.get_put]
  split
  · next hv => rw [hv]; exact h
  · rfl

theorem Aside.notify (d : Dev) (u : Nat) : Aside d (d.notify u) := by
  have posted : Aside d (d.setUnit u { d.unit u with lastPost := some d.clk, heldPost := false }) := .setUnit d rfl
  have held : Aside d (d.setUnit u { d.unit u with heldPost := true }) := .setUnit d rfl
  unfold Dev.notify Dev.postUnit
  exact .ite (posted.trans (.postEvent _ _ _ _ _)) held

/-- SUM is bit 0 of its event word. -/
theorem Aside.wrSum (d : Dev) (u v : Nat) : Aside d (d.wr (F.UNIT_EVT_SUM u) v) := by
  refine ⟨rfl, fun _ => rfl, fun a ha k hk => ?_⟩
  show ((d.setReg _ _).reg a).getLsbD k = _
  rw [Dev.reg_setReg]
  split
  · next eq =>
    have event : evtWord a := by
      left
      rw [eq] at ha ⊢
      simp only [A.UNIT_EVT, Base.UNIT] at ha ⊢
      omega
    have above : ¬ (0 ≤ k ∧ k < 0 + 1) := by
      have := hk event
      omega
    rw [getLsbD_putBits _ 0 1 _ _ (by decide), if_neg above, eq]
  · rfl

theorem Aside.touchN (n : Nat) (d : Dev) (u : Nat) : Aside d (Dev.touchN n d u) := by
  induction n generalizing d u with
  | zero => exact .refl d
  | succ n ih =>
    have up : ∀ e, Aside d e → Aside d (if u = 0 then e else Dev.touchN n e (e.parent u)) :=
      fun e he => .ite he (he.trans (ih e _))
    have summed := Aside.wrSum d u (if d.sumNow u = true then 1 else 0)
    unfold Dev.touchN
    refine .ite (.refl d) (up _ (.ite (summed.trans ?_) summed))
    exact Aside.when (.fireSource _ _ _ _ _) _ (fun y => .notify y u)

/-- Bringing the summary of a unit up to date. -/
theorem Aside.touch (d : Dev) (u : Nat) : Aside d (d.touch u) := .touchN 800 d u

/-- Bringing up to date what a command left for its end. -/
theorem Aside.touchAll (d : Dev) : Aside d d.touchAll :=
  (Aside.same : Aside d { d with nudge := [] }).trans (.each _ (fun x u => .touch x u) _)

theorem Aside.settle (d : Dev) : Aside d d.settle := by
  obtain ⟨p, o, h⟩ := d.settle_cases
  rw [h]
  exact .same

end Sys2Proof.Machine
end

section
/-! PROOF. The hooks of the classes (R27) act aside from the descriptors of units: stewards and their runs, links and what they send, rings,
flows, and what each class does when a unit is enabled, reset or changes state. -/
namespace Sys2Proof.Machine

/-! ### Runs of stewards, and signal engines (R153, R162–R169) -/

theorem Aside.setEntry (d : Dev) (k : Nat) (e : EntryRt) : Aside d (d.setEntry k e) := by
  unfold Dev.setEntry
  exact (Aside.same : Aside d { d with entries := SMap.put (fun _ => {}) k e d.entries }).trans (.each _ (fun _ _ => .same) _)

theorem Aside.completeRun (d : Dev) (k : RunKind) (reason unit detail : Nat) (results : List Word) :
    Aside d (d.completeRun k reason unit detail results) := by
  unfold Dev.completeRun
  split
  · exact .refl d
  · exact .refl d
  · exact .completeCmd d _ _ _ _ _ _
  · exact .completeCmd d _ _ _ _ _ _

theorem Aside.entryEnded (d : Dev) (s : Nat) (k : RunKind) : Aside d (d.entryEnded s k) := by
  unfold Dev.entryEnded
  split
  · dsimp only
    split
    · exact .setEntry d _ _
    · exact (Aside.setEntry d _ _).trans (.setSteward _ s _)
  · exact .refl d

theorem Aside.freeThread (d : Dev) (x : Nat) : Aside d (d.freeThread x) := by
  unfold Dev.freeThread
  exact (Aside.updCtx d x _).trans (.entryEnded _ _ _)

theorem Aside.discardStarts (d : Dev) (s : Nat) (silent : Bool) : Aside d (d.discardStarts s silent) := by
  have complete : ∀ (d : Dev) (r : StartReq), Aside d (if silent then d else d.completeRun r.kind 9 0xFFF 0 [0]) :=
    fun d r => .ite (.refl d) (.completeRun d _ _ _ _ _)
  unfold Dev.discardStarts
  refine Aside.trans (Aside.trans (.setSteward d s _) (.each _ (fun d r => ?_) _))
    (.each _ (fun d e => (Aside.setEntry d _ _).trans (.each _ complete _)) _)
  dsimp only
  split
  · exact (Aside.setEntry d _ _).trans (complete _ r)
  · exact complete d r

theorem Aside.endRuns (d : Dev) (s : Nat) (silent : Bool) : Aside d (d.endRuns s silent) := by
  unfold Dev.endRuns
  refine (Aside.discardStarts d s silent).trans (.each _ (fun d t => .ite ?_ (.refl d)) _)
  exact (Aside.ite (.refl d) (.completeRun d _ _ _ _ _)).trans (.freeThread _ _)

theorem Aside.beginRun (d : Dev) (x : Nat) (r : StartReq) : Aside d (d.beginRun x r) := by
  unfold Dev.beginRun
  dsimp only
  split
  · exact (Aside.setEntry d _ _).trans (.setCtx _ x _)
  · exact .setCtx d x _

theorem Aside.startResident (d : Dev) (s : Nat) : Aside d (d.startResident s) := .beginRun d _ _

theorem Aside.resetSteward (d : Dev) (s : Nat) : Aside d (d.resetSteward s) :=
  (Aside.endRuns d s false).trans (.each _ (fun d _ => .updCtx d _ _) _)

theorem Aside.initSignal (d : Dev) (e : Nat) : Aside d (d.initSignal e) := (Aside.setCtx d e _).trans (.wr _ _ (high_seng e _))

theorem Aside.resetSignal (d : Dev) (e : Nat) : Aside d (d.resetSignal e) := (Aside.updCtx d e _).trans (.wr _ _ (high_seng e _))

/-! ### Packets of flows (R290) and frames of links and rings (R182, R236, R251) -/

theorem Aside.closePeriod (d : Dev) (f account : Nat) : Aside d (d.closePeriod f account) := .same

theorem Aside.flowEvt (d : Dev) (f b : Nat) : Aside d (d.flowEvt f b) := by
  unfold Dev.flowEvt Dev.leafLater
  exact .ite (.refl d) ((Aside.setBit d b (high_flow f _)).trans .same)

theorem Aside.flowLeg (d : Dev) (f n leg : Nat) (sent : Bool) : Aside d (d.flowLeg f n leg sent) := by
  have counted : Aside d (if sent then d.flowCount f (if leg = 0 then Fc.PKTS_A else Fc.PKTS_B) 1 else d) :=
    .ite (.count d _ _) (.refl d)
  unfold Dev.flowLeg
  dsimp only
  split
  · exact counted
  · exact counted.trans (.ite (Aside.trans (.setFlow _ f _) (.each _ (fun d t => .closePeriod d f _) _)) (.setFlow _ f _))

theorem Aside.flowDropped (d : Dev) (f n leg : Nat) : Aside d (d.flowDropped f n leg) :=
  ((Aside.count d _ _).trans (.flowEvt _ f 8)).trans (.flowLeg _ f n leg false)

theorem Aside.freeCells (d : Dev) (b : Buf) : Aside d (d.freeCells b) := by
  have words : Aside d ((d.wr F.SWC_STATUS_CELLS_FREE (d.rd F.SWC_STATUS_CELLS_FREE + b.cells)).wr (F.SWC_CLASS_USE_USE b.cls)
      (d.rd (F.SWC_CLASS_USE_USE b.cls) - b.cells)) :=
    (Aside.wr d _ (high_swc _)).trans (.wr _ _ ((high_swc _).trans (Nat.le_add_right _ _)))
  unfold Dev.freeCells
  exact words.trans .same

theorem Aside.setRefs (d : Dev) (id refs : Nat) : Aside d (d.setRefs id refs) := by
  unfold Dev.setRefs
  split
  · exact .refl d
  · exact .ite (.freeCells d _) .same

theorem Aside.release (d : Dev) (id : Nat) : Aside d (d.release id) := by
  unfold Dev.release
  split
  · exact .refl d
  · exact .setRefs d _ _

theorem Aside.releaseTx (d : Dev) (f : TxFrame) (reason : Nat) : Aside d (d.releaseTx f reason) := by
  have gone := Aside.release d f.pkt
  unfold Dev.releaseTx
  dsimp only
  split
  · exact gone.trans .same
  · exact gone.trans (.ite (.flowLeg _ _ _ _ _) (.flowDropped _ _ _ _))
  · exact gone

theorem Aside.discardTx (d : Dev) (n : Nat) : Aside d (d.discardTx n) := by
  have each : ∀ (fs : List TxFrame) (d : Dev), Aside d (d.each fs (fun d f => (d.releaseTx f 9).count (Ctr.LNK n Lc.TX_NOT_IN_SERVICE) 1)) :=
    fun fs d => .each fs (fun d f => (Aside.releaseTx d f 9).trans (.count _ _ _)) d
  unfold Dev.discardTx
  dsimp only
  split
  · exact (((Aside.setLink d n _).trans (.emit _ _)).trans (.releaseTx _ _ 9)).trans (each _ _)
  · exact (Aside.setLink d n _).trans (each _ _)

theorem Aside.linkStops (d : Dev) (n : Nat) : Aside d (d.linkStops n) := by
  have gone := Aside.discardTx d n
  unfold Dev.linkStops
  exact .ite ((gone.trans (.wr _ _ (high_lnk n _))).trans (.each _ (fun d k => .setRing d k _) _)) gone

theorem Aside.ringRole (d : Dev) (k role : Nat) : Aside d (d.ringRole k role) := by
  unfold Dev.ringRole
  exact .ite (.refl d) (((Aside.wr d _ (high_ring k _)).trans (.setBit _ 3 (high_ring k _))).trans .same)

theorem Aside.ringDiscard (d : Dev) (k : Nat) : Aside d (d.ringDiscard k) := by
  unfold Dev.ringDiscard
  exact Aside.trans (Aside.trans (.setRing d k _) (.each _ (fun d _ => .flowDropped d _ _ _) _))
    (.each _ (fun d f => .releaseTx d f 9) _)

theorem Aside.ringStop (d : Dev) (k : Nat) : Aside d (d.ringStop k) := by
  have status := (Aside.ringRole d k 0).trans (.setReg _ (a := A.RING_STATUS k) 0 (high_ring k _))
  have words := ((status.trans (.wr _ (f := F.RING_ALLOC_ALLOC k) 0 (high_ring k _))).trans
    (.wr _ (f := F.RING_OFFSET_OFFSET k) 0 (high_ring k _))).trans (.wr _ (f := F.RING_ASYNC_PASS k) 0 (high_ring k _))
  exact words.trans (.setRing _ k _)

theorem Aside.flowCloseTx (d : Dev) (f : Nat) : Aside d (d.flowCloseTx f) :=
  (Aside.setFlow d f _).trans (.each _ (fun d _ => .closePeriod d f _) _)

theorem Aside.flowCloseRx (d : Dev) (f : Nat) : Aside d (d.flowCloseRx f) :=
  (Aside.setFlow d f _).trans (.each _ (fun d _ => .closePeriod d f _) _)

theorem Aside.flowStop (d : Dev) (f : Nat) (off : Bool) : Aside d (d.flowStop f off) := by
  have closed : Aside d (if off then (d.flowCloseTx f).flowCloseRx f else d.flowCloseTx f) :=
    .ite ((Aside.flowCloseTx d f).trans (.flowCloseRx _ f)) (.flowCloseTx d f)
  have words := ((closed.trans (.wr _ (f := F.FLOW_STATUS_LEG_A_UP f) 0 (high_flow f _))).trans
    (.wr _ (f := F.FLOW_STATUS_LEG_B_UP f) 0 (high_flow f _))).trans (.wr _ (f := F.FLOW_STATUS_DEPTH f) 0 (high_flow f _))
  exact words.trans (.setFlow _ f _)

theorem Aside.clearHist (d : Dev) (f : Nat) : Aside d (d.clearHist f) := .each _ (fun _ _ => .same) d

theorem Aside.settleDecim (d : Dev) (k : Nat) (r f : Bool) : Aside d (d.settleDecim k r f) :=
  (Aside.setDecim d k _).trans (.wr _ _ (high_dec k _))

/-! ### The moments of the state machine -/

/-- What a class does when an ENABLE has been accepted. -/
theorem Aside.onEnable (d : Dev) (u : Nat) : Aside d (d.onEnable u) := by
  unfold Dev.onEnable
  split
  case h_1 e _ => exact .initSignal d e
  case h_2 f _ => exact .ite ((Aside.setFlow d f _).trans (.clearHist _ f)) (.setFlow d f _)
  case h_3 m _ => exact .ite (.setMclk d m _) (.refl d)
  case h_4 => exact .refl d

/-- What a class does when a RESET has been accepted. -/
theorem Aside.onReset (d : Dev) (u : Nat) : Aside d (d.onReset u) := by
  unfold Dev.onReset
  split
  case h_1 e _ => exact .resetSignal d e
  case h_2 s _ => exact .resetSteward d s
  case h_3 n _ => exact .linkStops d n
  case h_4 => exact .same
  case h_5 => exact .refl d

/-- What a class does when a unit has changed state. -/
theorem Aside.onState (d : Dev) (u old new : Nat) : Aside d (d.onState u old new) := by
  unfold Dev.onState
  split
  case h_1 s _ => exact .ite (.startResident d s) (.ite (.discardStarts d s false) (.ite (.endRuns d s false) (.refl d)))
  case h_2 e _ => exact .ite (.updCtx d e _) (.ite (.refl d) (.updCtx d e _))
  case h_3 n _ =>
    have stopped : Aside d (if new = 0 || new = 1 || new = 5 then d.linkStops n else d) := .ite (.linkStops d n) (.refl d)
    have emptied := fun x => ((stopped.trans (.setLink _ n x)).trans (.wr _ (f := F.LNK_STATUS_PCS_LOCK n) 0 (high_lnk n _))).trans
      (.wr _ (f := F.LNK_STATUS_AN_DONE n) 0 (high_lnk n _))
    exact .ite ((emptied _).trans (.regrant _ 2)) stopped
  case h_4 k _ =>
    have discarded : Aside d (if old = 3 then d.ringDiscard k else d) := .ite (.ringDiscard d k) (.refl d)
    exact .ite (discarded.trans (.ringRole _ k 1)) (.ite ((discarded.trans (.ringDiscard _ k)).trans (.ringStop _ k)) discarded)
  case h_5 f _ =>
    exact .ite (.ite (.flowCloseTx d f) (.setFlow d f _)) (.ite (.setFlow d f _) (.ite (.flowStop d f _) (.refl d)))
  case h_6 m _ =>
    have cleared := Aside.setReg d (a := A.MCS_STATUS m) 0 (high_mcs m _)
    exact .ite (cleared.trans (.wr _ _ (high_mcs m _)))
      (.ite ((cleared.trans (.setMclk _ m _)).when _ (fun x => .regrant x 1)) (.ite (.setMclk d m _) (.ite (.setMclk d m _) (.refl d))))
  case h_7 g _ =>
    have muted : Aside d (if new = 3 then d else d.groupMute g) := .ite (.refl d) (.setGroup d g _)
    exact .ite ((muted.trans (.wr _ _ (high_apg g _))).trans (.regrant _ 2)) muted
  case h_8 n _ => exact .ite ((Aside.setGroup d (n / 4) _).trans (.setReg _ 0 (high_ap n _))) (.refl d)
  case h_9 k _ => exact .ite (.settleDecim d k true true) (.ite ((Aside.setDecim d k _).trans (.wr _ _ (high_dec k _))) (.refl d))
  case h_10 b _ => exact .ite (.refl d) (.wr d _ (high_brg b _))
  case h_11 r _ =>
    have swap := Aside.setReg d (a := A.PR_REGION_SWAP r) (d.reg (A.PR_REGION_SWAP r) &&& 0xFFFFFFE3)
      ((high_pr _).trans (Nat.le_add_right _ _))
    exact .ite (.setRegion d r _) (.ite (swap.trans (.setRegion _ r _)) (.refl d))
  case h_12 => exact .ite .same (.refl d)
  case h_13 => exact .refl d

/-- Who waits for a unit's state is answered in its context (R136). -/
theorem Aside.answerStates (d : Dev) (u : Nat) : Aside d (d.answerStates u) := by
  unfold Dev.answerStates
  exact Aside.each (α := Nat × Ctx) _ (fun d e => .updCtx d e.1 _) d

end Sys2Proof.Machine
end

section
/-! PROOF. What a change of a unit's state does (R27, R31): the unit's own words, the words of cabinets above it (R39), and nothing of the
descriptors and orders of other units, where nothing waits for a boundary or for a unit. -/
namespace Sys2Proof.Machine

/-! ### What is kept of some units -/

/-- A register word below the blocks of units that is no event word and, in the unit table, a link word or of a unit of `K`. -/
def Guarded (K : Nat → Prop) (a : Nat) : Prop :=
  a < 0x50000 ∧ ¬ evtWord a ∧ (0x10000 ≤ a → a % 0x40 = 0xC ∨ K ((a - 0x10000) / 0x40))

/-- The second device agrees with the first on what waits, on the links of all units and on the descriptors and orders of the units of `K`. -/
structure Keeps (K : Nat → Prop) (d e : Dev) : Prop where
  waiting : e.waiting = d.waiting
  unit : ∀ v, K v → (e.unit v).orders = (d.unit v).orders
  reg : ∀ a, Guarded K a → e.reg a = d.reg a

variable {K L : Nat → Prop} {d e : Dev} {u v : Nat}

theorem Keeps.refl (d : Dev) : Keeps K d d := ⟨rfl, fun _ _ => rfl, fun _ _ => rfl⟩

theorem Keeps.trans {a b c : Dev} (h : Keeps K a b) (k : Keeps K b c) : Keeps K a c :=
  ⟨k.waiting.trans h.waiting, fun v hv => (k.unit v hv).trans (h.unit v hv), fun x hx => (k.reg x hx).trans (h.reg x hx)⟩

theorem Keeps.ite {a b : Dev} {c : Prop} [Decidable c] (ha : Keeps K d a) (hb : Keeps K d b) : Keeps K d (if c then a else b) := by
  split
  · exact ha
  · exact hb

theorem Keeps.mono (h : Keeps K d e) (hLK : ∀ v, L v → K v) : Keeps L d e :=
  ⟨h.waiting, fun v hv => h.unit v (hLK v hv), fun a ⟨low, event, own⟩ => h.reg a ⟨low, event, fun ha => (own ha).imp_right (hLK _)⟩⟩

theorem Aside.keeps (h : Aside d e) : Keeps K d e := ⟨h.waiting, fun v _ => h.unit v, fun _ ha => h.reg ha.1 ha.2.1⟩

theorem Keeps.rd (h : Keeps K d e) {f : Fld} (hf : Guarded K f.addr) : e.rd f = d.rd f := by rw [Dev.rd, h.reg _ hf, Dev.rd]

theorem Keeps.setReg (d : Dev) {a : Nat} (w : Word) (h : ¬ Guarded K a) : Keeps K d (d.setReg a w) :=
  ⟨rfl, fun _ _ => rfl, fun _ hb => Dev.reg_setReg_of_ne d w (fun eq => h (eq ▸ hb))⟩

theorem Dev.unit_setUnit (d : Dev) (u v : Nat) (r : UnitRt) : (d.setUnit u r).unit v = if v = u then r else d.unit v :=
  SMap.get_put _ d.units u v r

theorem Keeps.setUnit (d : Dev) (r : UnitRt) (h : ¬ K u) : Keeps K d (d.setUnit u r) := by
  refine ⟨rfl, fun v hv => ?_, fun _ _ => rfl⟩
  have ne : v ≠ u := fun eq => h (eq ▸ hv)
  rw [Dev.unit_setUnit, if_neg ne]

/-- The words of a unit of `K` are guarded, its event word apart. -/
theorem guarded_of_mem (hu : u < 0x1000) (hK : K u) {off : Nat} (ho : off < 0x40) (hev : off ≠ 0x10) : Guarded K (Base.UNIT u + off) := by
  have unit : (Base.UNIT u + off - 0x10000) / 0x40 = u := by simp only [Base.UNIT]; omega
  refine ⟨by simp only [Base.UNIT]; omega, ?_, fun _ => .inr (unit.symm ▸ hK)⟩
  simp only [evtWord, Base.UNIT]
  omega

/-- The link word of every unit is guarded. -/
theorem guarded_link (hu : u < 0x1000) : Guarded K (A.UNIT_LINK u) := by
  refine ⟨by simp only [A.UNIT_LINK, Base.UNIT]; omega, ?_, fun _ => .inl (by simp only [A.UNIT_LINK, Base.UNIT]; omega)⟩
  simp only [evtWord, A.UNIT_LINK, Base.UNIT]
  omega

/-- The words of a unit outside `K` are not guarded, its link word apart. -/
theorem not_guarded (hK : ¬ K u) {off : Nat} (ho : off < 0x40) (hlink : off ≠ 0xC) : ¬ Guarded K (Base.UNIT u + off) := by
  have unit : (Base.UNIT u + off - 0x10000) / 0x40 = u := by simp only [Base.UNIT]; omega
  rintro ⟨-, -, own⟩
  obtain link | mem := own (by simp only [Base.UNIT]; omega)
  · simp only [Base.UNIT] at link
    omega
  · exact hK (unit ▸ mem)

theorem not_guarded_evt (u : Nat) : ¬ Guarded K (A.UNIT_EVT u) := by
  rintro ⟨low, event, -⟩
  refine event (.inl ?_)
  simp only [A.UNIT_EVT, Base.UNIT] at low ⊢
  omega

/-! ### A device where nothing waits -/

/-- Nothing waits for a boundary, nobody waits for a unit, and every parent is a cabinet. -/
def Dev.Still (d : Dev) : Prop :=
  (d.staged = [] ∧ d.accepted = [] ∧ d.waits = []) ∧ ∀ v, v < 0x1000 → isCabinet (d.parent v) = true

theorem Keeps.still (h : Keeps K d e) (hd : d.Still) : e.Still := by
  have w := h.waiting
  simp only [Dev.waiting, Prod.mk.injEq] at w
  obtain ⟨staged, accepted, waits, -, -⟩ := w
  refine ⟨by rw [staged, accepted, waits]; exact hd.1, fun v hv => ?_⟩
  rw [Dev.parent, h.rd (f := F.UNIT_LINK_PARENT v) (guarded_link hv)]
  exact hd.2 v hv

theorem Keeps.clk (h : Keeps K d e) : e.clk = d.clk := by
  have w := h.waiting
  simp only [Dev.waiting, Prod.mk.injEq] at w
  exact w.2.2.2.1

theorem Keeps.t64 (h : Keeps K d e) : e.t64 = d.t64 := by
  have w := h.waiting
  simp only [Dev.waiting, Prod.mk.injEq] at w
  exact w.2.2.2.2

/-- Nobody waits, so nobody is answered. -/
theorem Dev.Still.answerWaits (hd : d.Still) (u reason detail : Nat) : d.answerWaits u reason detail = d := by
  obtain ⟨⟨-, -, waits⟩, -⟩ := hd
  have same : ({ d with waits := [] } : Dev) = d := by rw [← waits]
  simp only [Dev.answerWaits, waits, List.filter_nil, Dev.each, List.foldl_nil, same]

/-- Nothing waits for the boundary, so nothing applies. -/
theorem Dev.Still.applyAll (hd : d.Still) (u : Nat) : d.applyAll u = d := by
  obtain ⟨⟨staged, accepted, -⟩, -⟩ := hd
  simp [Dev.applyAll, Dev.applyStaged, staged, accepted, Dev.each]

theorem Keeps.each {α : Type} {f : Dev → α → Dev} (xs : List α) (hf : ∀ x, x.Still → ∀ a ∈ xs, Keeps K x (f x a)) (hd : d.Still) :
    Keeps K d (d.each xs f) := by
  induction xs generalizing d with
  | nil => exact .refl d
  | cons x xs ih =>
    have first := hf d hd x List.mem_cons_self
    exact first.trans (ih (fun y hy a ha => hf y hy a (List.mem_cons_of_mem _ ha)) (first.still hd))

/-! ### The state word (R25, R31) -/

/-- The words of a unit that change with its state. -/
def Dev.stateWords (d : Dev) (u new : Nat) : Dev :=
  let d := (d.wr (F.UNIT_STATE_STATE u) new).wr (F.UNIT_EVT_STATE_CHG u) 1
  let d := (d.setReg (A.UNIT_TIME_LO u) (loWord d.t64)).setReg (A.UNIT_TIME_HI u) (hiWord d.t64)
  let d := d.wr (F.UNIT_EVT_FAULT u) (if new = 5 then 1 else 0)
  let d := if new = 5 then d.sat (F.UNIT_FAULTS_FAULTS u) 1 else d
  if new = 2 then d.wr (F.UNIT_SYNC_COUNT_SYNC_COUNT u) 0 else d

/-- Beside its words, a change of state fires sources, raises the summary and answers who waits for the state. -/
theorem Dev.stateWord_aside (d : Dev) (u new : Nat) : Aside (d.stateWords u new) (d.stateWord u new) :=
  ((Aside.fireSource (d.stateWords u new) _ _ _ _).trans (.touch _ u)).trans (.answerStates _ u)

/-- A word of a unit outside `K`, its link word apart. -/
theorem Keeps.word (h : ¬ K u) (d : Dev) (off : Nat) (w : Word) (ho : off < 0x40 := by decide) (hl : off ≠ 0xC := by decide) :
    Keeps K d (d.setReg (Base.UNIT u + off) w) :=
  .setReg d w (not_guarded h ho hl)

/-- The event word of any unit. -/
theorem Keeps.evt (d : Dev) (u : Nat) (w : Word) : Keeps K d (d.setReg (A.UNIT_EVT u) w) := .setReg d w (not_guarded_evt u)

theorem Keeps.stateWords (d : Dev) (new : Nat) (h : ¬ K u) : Keeps K d (d.stateWords u new) := by
  have timed (x : Dev) : Keeps K x
      (((x.wr (F.UNIT_STATE_STATE u) new).wr (F.UNIT_EVT_STATE_CHG u) 1).setReg (A.UNIT_TIME_LO u) (loWord x.t64)) :=
    ((Keeps.word h x 0x4 _).trans (.evt _ u _)).trans (.word h _ 0x30 _)
  unfold Dev.stateWords
  refine .ite (.trans (.ite (.trans ?_ (.word h _ 0x28 _)) ?_) (.word h _ 0x20 _)) (.ite (.trans ?_ (.word h _ 0x28 _)) ?_) <;>
  exact ((timed d).trans (.word h _ 0x34 _)).trans (.evt _ u _)

theorem Keeps.stateWord (d : Dev) (new : Nat) (h : ¬ K u) : Keeps K d (d.stateWord u new) :=
  (Keeps.stateWords d new h).trans (d.stateWord_aside u new).keeps

/-- A change of state leaves every word of the unit but STATE, the event word, the counters and the time. -/
theorem Dev.reg_stateWords_of_ne (d : Dev) (u new : Nat) {off : Nat} (h : off ∉ [0x4, 0x10, 0x20, 0x28, 0x30, 0x34]) :
    (d.stateWords u new).reg (Base.UNIT u + off) = d.reg (Base.UNIT u + off) := by
  simp only [List.mem_cons, List.not_mem_nil, or_false, not_or] at h
  obtain ⟨h1, h2, h3, h4, h5, h6⟩ := h
  unfold Dev.stateWords
  dsimp only
  split <;> split <;> simp [Dev.wr, Dev.sat, Dev.reg_setReg, h1, h2, h3, h4, h5, h6]

theorem Dev.reg_stateWords_state (d : Dev) (u new : Nat) :
    (d.stateWords u new).reg (A.UNIT_STATE u) = putBits (d.reg (A.UNIT_STATE u)) 0 3 new := by
  unfold Dev.stateWords
  dsimp only
  split <;> split <;> simp [Dev.wr, Dev.sat, Dev.reg_setReg]

theorem Dev.reg_stateWords_time (d : Dev) (u new : Nat) :
    (d.stateWords u new).reg (A.UNIT_TIME_LO u) = loWord d.t64 ∧ (d.stateWords u new).reg (A.UNIT_TIME_HI u) = hiWord d.t64 := by
  unfold Dev.stateWords
  dsimp only
  split <;> split <;> simp [Dev.wr, Dev.sat, Dev.reg_setReg, Dev.t64]

theorem Dev.unit_setReg (d : Dev) (a : Nat) (w : Word) (v : Nat) : (d.setReg a w).unit v = d.unit v := by
  rw [Dev.unit, Dev.setReg_units, Dev.unit]

theorem Dev.unit_stateWords (d : Dev) (u new v : Nat) : (d.stateWords u new).unit v = d.unit v := by
  unfold Dev.stateWords
  dsimp only
  split <;> split <;> simp only [Dev.wr, Dev.sat, Dev.unit_setReg]

end Sys2Proof.Machine
end

section
/-! PROOF. What a change of a unit's state leaves: the unit's order, TARGET and REASON, and every other unit that is no cabinet (R27, R31,
R39). -/
namespace Sys2Proof.Machine

variable {K : Nat → Prop} {d e : Dev} {u v new : Nat}

/-! ### The cabinets above a unit (R39) -/

/-- A unit that is no cabinet. -/
def Plain (u : Nat) : Prop := isCabinet u = false

theorem lt_of_isCabinet (h : isCabinet u = true) : u < 0x1000 := by
  simp only [isCabinet, Bool.or_eq_true, beq_iff_eq, Bool.and_eq_true, decide_eq_true_eq] at h
  omega

theorem not_plain (h : isCabinet u = true) : ¬ Plain u := by simp [Plain, h]

/-- Cabinets that follow their members change no unit below them. -/
theorem Keeps.refreshN (n : Nat) (hd : d.Still) (hc : isCabinet u = true) : Keeps Plain d (Dev.refreshN n d u) := by
  induction n generalizing d u with
  | zero => exact .refl d
  | succ n ih =>
    have word : Keeps Plain d (if d.derived u = d.ustate u then d else d.stateWord u (d.derived u)) :=
      .ite (.refl d) (.stateWord d _ (not_plain hc))
    unfold Dev.refreshN
    dsimp only
    generalize (if d.derived u = d.ustate u then d else d.stateWord u (d.derived u)) = e at word ⊢
    have still := word.still hd
    simp only [still.answerWaits, ite_self]
    exact .ite word (word.trans (ih still (still.2 u (lt_of_isCabinet hc))))

/-- The units that are no cabinets, but for one. -/
def Others (u v : Nat) : Prop := v ≠ u ∧ Plain v

theorem not_others (u : Nat) : ¬ Others u u := fun h => h.1 rfl

/-! ### A change of state (R27, R31) -/

/-- The unit `u` has come to the state `new`: what its order, TARGET and REASON say stays, and so does every other unit that is no
cabinet. -/
structure Enters (u new : Nat) (d e : Dev) : Prop where
  others : Keeps (Others u) d e
  state : e.ustate u = new
  cmd : e.reg (A.UNIT_CMD u) = d.reg (A.UNIT_CMD u)
  reason : e.rd (F.UNIT_STATE_REASON u) = d.rd (F.UNIT_STATE_REASON u)
  unit : (e.unit u).orders = (d.unit u).orders
  time : d.ustate u ≠ new → e.reg (A.UNIT_TIME_LO u) = loWord d.t64 ∧ e.reg (A.UNIT_TIME_HI u) = hiWord d.t64

theorem Enters.stay (h : d.ustate u = new) : Enters u new d d := ⟨.refl d, h, rfl, rfl, rfl, fun ne => absurd h ne⟩

/-- What keeps the words of the unit may follow a change of its state. -/
theorem Enters.then {a b : Dev} (h : Enters u new d a) (k : Keeps Plain a b) (hp : Plain u) (hu : u < 0x1000) : Enters u new d b := by
  have state : b.reg (A.UNIT_STATE u) = a.reg (A.UNIT_STATE u) := k.reg _ (guarded_of_mem hu hp (by decide) (by decide))
  have cmd : b.reg (A.UNIT_CMD u) = a.reg (A.UNIT_CMD u) := k.reg _ (guarded_of_mem hu hp (by decide) (by decide))
  have lo : b.reg (A.UNIT_TIME_LO u) = a.reg (A.UNIT_TIME_LO u) := k.reg _ (guarded_of_mem hu hp (by decide) (by decide))
  have hi : b.reg (A.UNIT_TIME_HI u) = a.reg (A.UNIT_TIME_HI u) := k.reg _ (guarded_of_mem hu hp (by decide) (by decide))
  refine ⟨h.others.trans (k.mono fun v hv => hv.2), ?_, cmd.trans h.cmd, ?_, (k.unit u hp).trans h.unit, fun ne => ?_⟩
  · rw [Dev.ustate, Dev.rd, state]
    exact h.state
  · rw [Dev.rd, state]
    exact h.reason
  · rw [lo, hi]
    exact h.time ne

theorem Enters.stateWords (d : Dev) (hnew : new < 8) : Enters u new d (d.stateWords u new) := by
  have word := d.reg_stateWords_state u new
  refine ⟨.stateWords d new (not_others u), ?_, d.reg_stateWords_of_ne u new (by decide), ?_, by rw [d.unit_stateWords],
    fun _ => d.reg_stateWords_time u new⟩
  · rw [Dev.ustate, Dev.rd, word, bits_putBits_self _ _ _ _ (by decide)]
    exact Nat.mod_eq_of_lt hnew
  · rw [Dev.rd, word, bits_putBits_of_disjoint _ _ _ _ _ _ (by decide) (.inr (by decide : 0 + 3 ≤ 8)), Dev.rd]

/-- Where nothing waits, a unit that is no cabinet comes to the state asked for, and nothing else of the unit or of another changes but the
cabinets above it. -/
theorem Enters.setState (hd : d.Still) (hp : Plain u) (hu : u < 0x1000) (hnew : new < 8) : Enters u new d (d.setState u new) := by
  have changed : Enters u new d ((d.stateWord u new).onState u (d.ustate u) new) :=
    ((Enters.stateWords d hnew).then (d.stateWord_aside u new).keeps hp hu).then (Aside.onState _ u _ new).keeps hp hu
  have still : ((d.stateWord u new).onState u (d.ustate u) new).Still := changed.others.still hd
  unfold Dev.setState
  dsimp only
  split
  · next same => exact .stay same
  generalize (d.stateWord u new).onState u (d.ustate u) new = e at changed still ⊢
  have closed : Enters u new d (if d.ustate u = 0 then e.closeInterval u else e) := by
    split
    · exact changed.then (Aside.same : Aside e (e.closeInterval u)).keeps hp hu
    · exact changed
  simp only [still.applyAll, ite_self]
  generalize (if d.ustate u = 0 then e.closeInterval u else e) = c at closed ⊢
  have stillC := closed.others.still hd
  simp only [stillC.answerWaits, ite_self]
  exact closed.then (.refreshN 800 stillC (stillC.2 u hu)) hp hu

end Sys2Proof.Machine
end

section
/-! PROOF. The states a unit moves through, and the time of each change (R27, R28, R29, R31, R46). -/
namespace Sys2Proof.Machine

variable {K : Nat → Prop} {d e : Dev} {u new : Nat}

/-! ### A command carried out -/

/-- What is left to the end of a command lies aside. -/
theorem run_aside {f : Env → Dev → Dev} {s : State} (up : s.CoreUp) : ∃ t, run f s = .next t ∧ Aside (f s.env s.dev) t.dev := by
  obtain ⟨up, core⟩ := up
  exact ⟨_, run_of_up up.2 core, ((Aside.touchAll _).trans (.settle _)).trans .same⟩

theorem State.Quiet.coreUp {s : State} (h : s.Quiet) : s.CoreUp := h.1

theorem State.Quiet.still {s : State} (h : s.Quiet) : s.dev.Still := by
  obtain ⟨-, staged, -, accepted, -, -, waits, parents⟩ := h
  exact ⟨⟨staged, accepted, waits⟩, parents⟩

/-! ### What a unit acquires (R46) -/

theorem guarded_low {a : Nat} (h : a < 0x10000) (hev : ¬ evtWord a) : Guarded K a := ⟨by omega, hev, fun ha => by omega⟩

/-- Whether a unit acquires anything is no matter of units' states. -/
theorem Keeps.acquiresNothing (h : Keeps K d e) (u : Nat) : e.acquiresNothing u = d.acquiresNothing u := by
  have locked : e.rd F.TIME_STATUS_LOCKED = d.rd F.TIME_STATUS_LOCKED := h.rd (guarded_low (by decide) (by unfold evtWord; decide))
  have servo : e.rd F.TIME_SERVO_EN = d.rd F.TIME_SERVO_EN := h.rd (guarded_low (by decide) (by unfold evtWord; decide))
  unfold Dev.acquiresNothing Dev.on
  rw [locked, servo]

/-! ### The end of an order (R515) -/

theorem Dev.endOrder_busy (d : Dev) (u : Nat) : (d.endOrder u).rd (F.UNIT_CMD_BUSY u) = 0 := Dev.rd_wr_self _ _ 0 (by decide : 8 + 1 ≤ 32)

theorem Dev.endOrder_ustate (d : Dev) (u v : Nat) : (d.endOrder u).ustate v = d.ustate v := Dev.rd_wr_of_ne _ 0 (by simp [Base.UNIT]; omega)

theorem Keeps.endOrder (d : Dev) (h : ¬ K u) : Keeps K d (d.endOrder u) :=
  (Keeps.setUnit d _ h).trans (.word h _ 0x18 _)

/-- BUSY is a matter of the command word. -/
theorem Enters.busy (h : Enters u new d e) : e.rd (F.UNIT_CMD_BUSY u) = d.rd (F.UNIT_CMD_BUSY u) := by rw [Dev.rd, h.cmd, Dev.rd]

/-- The unit came to another state, at the time it is (R31). -/
def Changed (d e : Dev) (u new : Nat) : Prop :=
  e.ustate u = new ∧ e.reg (A.UNIT_TIME_LO u) = loWord d.t64 ∧ e.reg (A.UNIT_TIME_HI u) = hiWord d.t64

theorem Enters.changed (h : Enters u new d e) (ne : d.ustate u ≠ new) : Changed d e u new := ⟨h.state, h.time ne⟩

end Sys2Proof.Machine
end

section
/-! PROOF. O31: each event that moves a unit (R27, R28, R29, R46), and the statement. -/
namespace Sys2Proof.Machine

variable {d e : Dev} {u new : Nat}

/-! ### What stays as it is at the end of a command -/

/-- A word of a unit that is no event word. -/
theorem Aside.word (h : Aside d e) (hu : u < 0x1000) {off : Nat} (ho : off < 0x40 := by decide) (hev : off ≠ 0x10 := by decide) :
    e.reg (Base.UNIT u + off) = d.reg (Base.UNIT u + off) := by
  refine h.reg (by simp only [Base.UNIT]; omega) ?_
  simp only [evtWord, Base.UNIT]
  omega

theorem Aside.ustate (h : Aside d e) (hu : u < 0x1000) : e.ustate u = d.ustate u := by
  rw [Dev.ustate, Dev.rd, h.word hu, Dev.ustate, Dev.rd]

theorem Aside.busy (h : Aside d e) (hu : u < 0x1000) : e.rd (F.UNIT_CMD_BUSY u) = d.rd (F.UNIT_CMD_BUSY u) := by
  rw [Dev.rd, h.word hu, Dev.rd]

theorem Aside.syncWait (h : Aside d e) (u : Nat) : (e.unit u).syncWait = (d.unit u).syncWait := by
  have orders := congrArg UnitRt.syncWait (h.unit u)
  exact orders

theorem Changed.aside {a b : Dev} (h : Changed d a u new) (k : Aside a b) (hu : u < 0x1000) : Changed d b u new := by
  obtain ⟨state, lo, hi⟩ := h
  exact ⟨(k.ustate hu).trans state, (k.word hu).trans lo, (k.word hu).trans hi⟩

theorem Aside.closeInterval (d : Dev) (u : Nat) : Aside d (d.closeInterval u) := .same

theorem Enters.syncWait (h : Enters u new d e) : (e.unit u).syncWait = (d.unit u).syncWait := by
  have orders := congrArg UnitRt.syncWait h.unit
  exact orders

/-! ### The events -/

section
variable (hd : d.Still) (hp : Plain u) (hu : u < 0x1000)
include hd hp hu

/-- A unit whose entry to SYNCING waits for a boundary (R28). -/
theorem Dev.standbyReached_changed (h0 : d.ustate u = 0) (ho : (d.unit u).order = Ord.ENABLE) (hs : syncsAtOnce u = false) :
    Changed d (d.standbyReached u) u 1 ∧ (d.standbyReached u).rd (F.UNIT_CMD_BUSY u) = 0 ∧
      ((d.standbyReached u).unit u).syncWait = true := by
  have others : Keeps (Others u) d (d.endOrder u) := .endOrder d (not_others u)
  have enters := Enters.setState (new := 1) (others.still hd) hp hu (by decide)
  obtain ⟨state, time⟩ := enters.changed (by rw [d.endOrder_ustate, h0]; decide)
  rw [others.t64] at time
  rw [Dev.standbyReached, h0, ho, if_pos (by rfl), Dev.waitSync, hs, if_neg (by decide), Dev.unit_setUnit, if_pos rfl]
  exact ⟨⟨state, time⟩, enters.busy.trans (d.endOrder_busy u), rfl⟩

/-- A unit that acquires something (R46). -/
theorem Dev.syncingEntry_changed (h1 : d.ustate u = 1) (hw : (d.unit u).syncWait = true) (hb : d.boundaryComes u = true)
    (ha : d.acquiresNothing u = false) :
    Changed d (d.syncingEntry u) u 2 ∧ ((d.syncingEntry u).unit u).syncWait = false := by
  have woken : Keeps (Others u) d (d.setUnit u { d.unit u with syncWait := false }) := .setUnit d _ (not_others u)
  have closed := woken.trans (Aside.closeInterval _ u).keeps
  have enters := Enters.setState (new := 2) (closed.still hd) hp hu (by decide)
  have nothing := (closed.trans enters.others).acquiresNothing u
  obtain ⟨state, time⟩ := enters.changed (ne_of_eq_of_ne h1 (by decide))
  have asleep := enters.syncWait
  rw [closed.t64] at time
  rw [Dev.syncingEntry, h1, hw, hb, if_pos (by rfl), (woken.still hd).applyAll]
  dsimp only
  rw [nothing, ha, if_neg (by decide)]
  refine ⟨⟨state, time⟩, asleep.trans ?_⟩
  show ((d.setUnit u _).unit u).syncWait = false
  rw [Dev.unit_setUnit, if_pos rfl]

theorem Dev.acquired_changed (h2 : d.ustate u = 2) : Changed d (d.acquired u) u 3 := by
  rw [Dev.acquired, if_pos h2]
  exact (Enters.setState hd hp hu (by decide)).changed (by rw [h2]; decide)

theorem Dev.inputLost_changed (h3 : d.ustate u = 3) : Changed d (d.inputLost u) u 2 := by
  rw [Dev.inputLost, if_pos h3]
  exact (Enters.setState hd hp hu (by decide)).changed (by rw [h3]; decide)

/-- A unit on which no other depends (R29). -/
theorem Dev.drained_changed (h4 : d.ustate u = 4) (hdep : ∀ e : Dev, e.dependents (.cmd 0) u 0 = e) :
    Changed d (d.drained u) u (if d.rd (F.UNIT_CMD_TARGET u) = 1 then 1 else 0) ∧ (d.drained u).rd (F.UNIT_CMD_BUSY u) = 0 := by
  have ended : Keeps (Others u) d (d.endOrder u) := .endOrder d (not_others u)
  have closed := ended.trans (Aside.closeInterval _ u).keeps
  generalize ht : (if d.rd (F.UNIT_CMD_TARGET u) = 1 then 1 else 0) = target
  have small : target < 4 := by split at ht <;> omega
  have enters := Enters.setState (new := target) (closed.still hd) hp hu (by omega)
  obtain ⟨state, time⟩ := enters.changed (by
    rw [(Aside.closeInterval _ u).ustate hu, d.endOrder_ustate, h4]
    omega)
  rw [closed.t64] at time
  rw [Dev.drained, if_pos h4, (ended.still hd).applyAll, ht, hdep]
  exact ⟨⟨state, time⟩, enters.busy.trans (((Aside.closeInterval _ u).busy hu).trans (d.endOrder_busy u))⟩

end

/-! ### The classes that lose an input and that drain alone (R29, R340, R356, R365) -/

/-- A port, decimator, engine or region returns to SYNCING and does nothing else. -/
theorem Dev.losesInput_of_kind {k : Nat} (h3 : d.ustate u = 3)
    (hk : unitKind u = .port k ∨ unitKind u = .decim k ∨ unitKind u = .seng k ∨ unitKind u = .region k) :
    d.losesInput u = d.inputLost u := by
  rw [Dev.losesInput, if_neg (by omega)]
  obtain hk | hk | hk | hk := hk <;> rw [hk]

section
variable {k : Nat} (hk : unitKind u = .port k ∨ unitKind u = .region k)
include hk

theorem Dev.drainReady_of_kind (d : Dev) : d.drainReady u = true := by
  obtain hk | hk := hk <;> rw [Dev.drainReady, hk]

theorem Dev.onDiscard_of_kind (d : Dev) : d.onDiscard u = d := by
  obtain hk | hk := hk <;> rw [Dev.onDiscard, hk]

theorem Dev.dependents_of_kind (d : Dev) : d.dependents (.cmd 0) u 0 = d := by
  obtain hk | hk := hk <;> rw [Dev.dependents, hk]

end

/-- Settles O31: the unit's own words change with its state, nothing waits for its boundary, and the cabinets above it change no unit that
is no cabinet. -/
theorem unitsMoveThroughTheirStates : Obligations.UnitsMoveThroughTheirStates := by
  unfold Obligations.UnitsMoveThroughTheirStates
  intro s u n changed quiet _ hp
  have hu : n < 0x1000 := u.isLt
  have still := quiet.still
  refine ⟨fun h0 ho hs => ?_, fun h1 hw hb ha => ?_, fun h2 ha => ?_, fun h3 ⟨k, hk⟩ => ?_, fun h4 ⟨k, hk⟩ => ⟨?_, ?_⟩⟩
  · obtain ⟨t, run, k⟩ := run_aside (f := fun _ d => d.standbyReached n) quiet.coreUp
    obtain ⟨moved, busy, waits⟩ := Dev.standbyReached_changed still hp hu h0 ho hs
    obtain ⟨state, time⟩ := moved.aside k hu
    exact ⟨t, run, state, (k.busy hu).trans busy, (k.syncWait n).trans waits, time⟩
  · obtain ⟨t, run, k⟩ := run_aside (f := fun _ d => d.syncingEntry n) quiet.coreUp
    obtain ⟨moved, waits⟩ := Dev.syncingEntry_changed still hp hu h1 hw hb ha
    obtain ⟨state, time⟩ := moved.aside k hu
    exact ⟨t, run, state, (k.syncWait n).trans waits, time⟩
  · obtain ⟨t, run, k⟩ := run_aside (f := fun _ d => if d.acquires n then d.acquired n else d) quiet.coreUp
    rw [if_pos ha] at k
    exact ⟨t, run, (Dev.acquired_changed still hp hu h2).aside k hu⟩
  · obtain ⟨t, run, k⟩ := run_aside (f := fun _ d => d.losesInput n) quiet.coreUp
    rw [Dev.losesInput_of_kind h3 hk] at k
    exact ⟨t, run, (Dev.inputLost_changed still hp hu h3).aside k hu⟩
  all_goals obtain ⟨moved, busy⟩ := Dev.drained_changed still hp hu h4 (Dev.dependents_of_kind hk)
  · obtain ⟨t, run, k⟩ := run_aside (f := fun _ d => if d.drainReady n then d.drained n else d) quiet.coreUp
    rw [if_pos (Dev.drainReady_of_kind hk _)] at k
    obtain ⟨state, time⟩ := moved.aside k hu
    exact ⟨t, run, state, (k.busy hu).trans busy, time⟩
  · obtain ⟨t, run, k⟩ := run_aside (f := fun _ d => if d.ustate n = 4 then (d.onDiscard n).drained n else d) quiet.coreUp
    rw [if_pos h4, Dev.onDiscard_of_kind hk] at k
    obtain ⟨state, time⟩ := moved.aside k hu
    exact ⟨t, run, state, (k.busy hu).trans busy, time⟩

end Sys2Proof.Machine
end

section
/-! PROOF. O26: a write of UNIT_EVT, on a path or by USET (R44, R61, R134). -/
namespace Sys2Proof.Machine

variable {d e : Dev} {env : Env} {p : Path} {u off : Nat} {v : Word}

/-! ### Where the words of a descriptor stand (R47, R48) -/

/-- A word of the descriptor of a unit that the device has. -/
theorem locate_unitTable (hu : u < 0x1000) (hc : (classOf u).isSome = true) (ho : off < 0x40) (aligned : off % 4 = 0)
    (row : (findRow (Block.unit u).rows off).isSome = true) : locate (Base.UNIT u + off) = .reg (.unit u) off := by
  have word : (Base.UNIT u + off) / 4 * 4 = Base.UNIT u + off := by simp only [Base.UNIT]; omega
  have low : Base.UNIT u + off < 0x600000 := by simp only [Base.UNIT]; omega
  have block := blockAt_unitTable hu ho
  rw [if_pos hc] at block
  simp only [locate, word, if_pos low, block, liveOf, row, if_true]

/-- A reserved unit ID has no descriptor. -/
theorem locate_unitTable_none (hu : u < 0x1000) (hc : (classOf u).isSome = false) (ho : off < 0x40) (aligned : off % 4 = 0) :
    locate (Base.UNIT u + off) = .none := by
  have word : (Base.UNIT u + off) / 4 * 4 = Base.UNIT u + off := by simp only [Base.UNIT]; omega
  have low : Base.UNIT u + off < 0x600000 := by simp only [Base.UNIT]; omega
  have block := blockAt_unitTable hu ho
  rw [if_neg (by simp [hc])] at block
  simp only [locate, word, if_pos low, block]

theorem unitOfAddr_unitTable (hu : u < 0x1000) (hc : (classOf u).isSome = true) (ho : off < 0x40) (aligned : off % 4 = 0) :
    unitOfAddr (Base.UNIT u + off) = some u := by
  have word : (Base.UNIT u + off) / 4 * 4 = Base.UNIT u + off := by simp only [Base.UNIT]; omega
  have block := blockAt_unitTable hu ho
  rw [if_pos hc] at block
  simp only [unitOfAddr, word, block, unitOfBlock]

/-- A request that is no bus error leads somewhere. -/
theorem locate_ne_none_of_requestError {a : Nat} {write : Bool} (h : d.requestError p a 4 write = none) : locate a ≠ .none := by
  intro nowhere
  have aligned := aligned_of_requestError h
  have ok := List.findSome?_eq_none_iff.1 h a (by rw [requestWords_of_aligned aligned]; exact List.mem_singleton.2 rfl)
  have error : d.wordError p a a 4 write = some Bus.UNIMPLEMENTED := by
    simp only [Dev.wordError, nowhere, Dev.absent, if_true]
  rw [error] at ok
  cases ok

/-- Where the register interface takes a write of a descriptor, the device has the unit. -/
theorem classOf_of_takesWrite {s : State} (h : s.TakesWrite p (Base.UNIT u + off)) (hu : u < 0x1000) (ho : off < 0x40) :
    (classOf u).isSome = true := by
  obtain ⟨-, -, -, -, ok, -⟩ := h
  have aligned := aligned_of_requestError ok
  have located := locate_ne_none_of_requestError ok
  cases hc : (classOf u).isSome with
  | true => rfl
  | false => exact absurd (locate_unitTable_none hu hc ho (by simp only [Base.UNIT] at aligned; omega)) located

/-- A register written on a path. -/
theorem poke_of_takesWrite {s : State} {a : Nat} {b : Block} (h : s.TakesWrite p a) (loc : locate a = .reg b off) :
    s.dev.poke env p a v = s.dev.writeReg env p b off a 0xFFFFFFFF v := by
  obtain ⟨-, map, path, route, ok, idle⟩ := h
  rw [Dev.poke, if_pos map, Dev.hostWrite_word path route ok idle, Dev.writeWord, loc]

/-! ### The write (R12, R44, R61) -/

/-- The words that a write of UNIT_EVT may change. -/
def evtWriteWord (a : Nat) : Prop := rsvWord a ∨ evtWord a

/-- Reserved bits of a descriptor's word count in its unit. -/
theorem EvFrame.noteReserved (hu : u < 0x1000) (hc : (classOf u).isSome = true) (ho : off < 0x40) (aligned : off % 4 = 0) (b : Block)
    (o : Nat) (d : Dev) (w : Word) : EvFrame rsvWord d (d.noteReserved b o (Base.UNIT u + off) w) := by
  refine EvFrame.when (.refl d) _ fun x => ?_
  rw [Dev.countReserved, unitOfAddr_unitTable hu hc ho aligned]
  refine .wr x _ (.inr ?_)
  simp only [A.UNIT_RSV_WRITES, Base.UNIT]
  omega

/-- The bits of UNIT_EVT after a write of `v`: STATE_CHG and REFUSED clear where written as 1; SUM follows the leaves. -/
def EvtWritten (d e : Dev) (u : Nat) (v : Word) : Prop :=
  ∀ k, k ≠ 0 → (e.reg (A.UNIT_EVT u)).getLsbD k = ((d.reg (A.UNIT_EVT u)).getLsbD k && !(decide (k = 1 ∨ k = 2) && v.getLsbD k))

/-- The mask of the RCL leaves that a write may clear: bits 1 and 2. -/
theorem getLsbD_clearLeaves (old v : Word) (k : Nat) :
    (old &&& ~~~ (v &&& 0xFFFFFFFF &&& 6)).getLsbD k = (old.getLsbD k && !(decide (k = 1 ∨ k = 2) && v.getLsbD k)) := by
  have leaves : (6 : Word).getLsbD k = decide (k = 1 ∨ k = 2) := by
    match k with
    | 0 | 1 | 2 => rfl
    | n + 3 =>
      have above : 6 < 2 ^ (n + 3) := Nat.lt_of_lt_of_le (by decide : 6 < 2 ^ 3) (Nat.pow_le_pow_right (by decide) (by omega))
      have high := Nat.testBit_lt_two_pow above
      simpa [BitVec.getLsbD] using high
  have whole : v &&& 0xFFFFFFFF = v := and_ones v
  rw [whole, BitVec.getLsbD_and, BitVec.getLsbD_not, BitVec.getLsbD_and, leaves]
  by_cases hk : k < 32
  · simp [hk, Bool.and_comm]
  · simp [BitVec.getLsbD_of_ge old k (by omega)]

/-- UNIT_EVT written whole. -/
theorem Dev.writeReg_unitEvt (hu : u < 0x1000) (hc : (classOf u).isSome = true) (d : Dev) (env : Env) (p : Path) (v : Word) :
    EvFrame evtWriteWord d (d.writeReg env p (.unit u) 0x10 (A.UNIT_EVT u) 0xFFFFFFFF v) ∧
      EvtWritten d (d.writeReg env p (.unit u) 0x10 (A.UNIT_EVT u) 0xFFFFFFFF v) u v := by
  have counted := EvFrame.noteReserved hu hc (off := 0x10) (by decide) (by decide) (.unit u) 0x10 d (v &&& 0xFFFFFFFF)
  have event : evtWord (A.UNIT_EVT u) := by
    left
    simp only [A.UNIT_EVT, Base.UNIT]
    omega
  have other : ¬ rsvWord (A.UNIT_EVT u) := by
    simp only [rsvWord, A.UNIT_EVT, A.GLB_RSV_WRITES, Base.UNIT]
    omega
  have written : d.writeReg env p (.unit u) 0x10 (A.UNIT_EVT u) 0xFFFFFFFF v =
      (let x := d.noteReserved (.unit u) 0x10 (A.UNIT_EVT u) (v &&& 0xFFFFFFFF)
       (x.setReg (A.UNIT_EVT u) (x.reg (A.UNIT_EVT u) &&& ~~~ (v &&& 0xFFFFFFFF &&& 6))).touch u) := rfl
  have old := counted.reg _ other
  rw [written]
  generalize d.noteReserved (.unit u) 0x10 (A.UNIT_EVT u) (v &&& 0xFFFFFFFF) = x at counted old ⊢
  have noted : EvFrame evtWriteWord d x := counted.mono fun _ => .inl
  refine ⟨(noted.trans (.setReg x _ (.inr event))).trans ((Dev.touch_frame _ hu).mono fun _ => .inr), fun k hk => ?_⟩
  have low : A.UNIT_EVT u < 0x50000 := by simp only [A.UNIT_EVT, Base.UNIT]; omega
  rw [(Aside.touch _ u).bit _ low k fun _ => hk, Dev.reg_setReg_self, old]
  exact getLsbD_clearLeaves _ v k

/-- The path priority is no part of the write. -/
theorem EvFrame.stands {W : Nat → Prop} {d e : Dev} (h : EvFrame W { d with stands := [] } e) :
    EvFrame W d { e with stands := d.stands } := by
  refine ⟨?_, h.reg⟩
  rw [h.eq]

/-- USET of UNIT_EVT by the unit's owner or tenant 0. -/
theorem Dev.unitSet_unitEvt {t : Fin 512} (hu : u < 0x1000) (hc : (classOf u).isSome = true)
    (ht : t.val = 0 ∨ t.val = d.rd (F.UNIT_OWNER_OWNER u)) (loc : locate (A.UNIT_EVT u) = .reg (.unit u) 0x10) :
    EvFrame evtWriteWord d (d.unitSet env t u 0x10 v false).1 ∧ EvtWritten d (d.unitSet env t u 0x10 v false).1 u v := by
  have address : d.unitAddr t.val u 0x10 = (0, A.UNIT_EVT u) := by
    have known : (classOf u).isNone = false := by rw [← Option.not_isSome, hc]; rfl
    have owner : ¬ (t.val ≠ 0 ∧ t.val ≠ d.rd (F.UNIT_OWNER_OWNER u)) := fun ⟨h0, h1⟩ => ht.elim h0 h1
    rw [Dev.unitAddr, known, if_neg (by decide), if_neg (by simpa only [Bool.and_eq_true, decide_eq_true_eq] using owner),
      if_pos (by decide)]
    rfl
  have stored : (d.unitSet env t u 0x10 v false).1 = (d.unitStore env t.val (.unit u) 0x10 (A.UNIT_EVT u) v).1 := by
    simp [Dev.unitSet, address, Dev.unitWrite, loc]
  rw [stored, Dev.unitStore]
  by_cases h0 : t.val = 0
  · rw [if_pos h0]
    exact Dev.writeReg_unitEvt hu hc d env .window v
  · rw [if_neg h0]
    obtain ⟨frame, bits⟩ := Dev.writeReg_unitEvt hu hc { d with stands := [] } env .window v
    exact ⟨frame.stands, bits⟩

/-! ### The statement -/

/-- A command that acts outside CORE, and changes registers beside what events change. -/
theorem runAon_regFrame {W : Nat → Prop} {f : Env → Dev → Dev} {s : State} (up : s.Up)
    (h : EvFrame (fun a => W a ∨ evtWord a) s.dev (f s.env s.dev)) :
    ∃ t, runAon f s = .next t ∧ RegFrame W s t ∧ ∀ a, t.dev.reg a = (f s.env s.dev).reg a := by
  obtain ⟨⟨-, memw, nudge, -⟩, -⟩ := id up
  have done := runAon_settles up rfl (show (f s.env s.dev).nudge = [] by rw [h.eq]; exact nudge)
  refine ⟨_, done, ⟨fun a ha he => ?_, ?_, rfl, rfl⟩, fun a => Dev.settle_reg _ a⟩
  · exact (Dev.settle_reg _ a).trans (h.reg a (not_or.2 ⟨ha, he⟩))
  · show applyMem (f s.env s.dev).memw s.mem = s.mem
    rw [h.eq]
    exact (congrArg (applyMem · s.mem) memw).trans (applyMem_nil _)

/-- Settles O26: the write clears the leaves written as 1 (RCL), counts reserved bits, and brings SUM up to date. -/
theorem unitEvtWriteClearsLeaves : Obligations.UnitEvtWriteClearsLeaves := by
  unfold Obligations.UnitEvtWriteClearsLeaves
  intro s src u v taken
  have hu : u.toNat < 0x1000 := u.isLt
  have written : s.Up ∧ EvFrame evtWriteWord s.dev (s.dev.eitherWrite s.env src u.toNat 0x10 (A.UNIT_EVT u.toNat) v) ∧
      EvtWritten s.dev (s.dev.eitherWrite s.env src u.toNat 0x10 (A.UNIT_EVT u.toNat) v) u.toNat v := by
    cases src with
    | reg p =>
      have hc := classOf_of_takesWrite taken hu (by decide)
      have loc := locate_unitTable hu hc (off := 0x10) (by decide) (by decide) rfl
      refine ⟨taken.1, ?_⟩
      rw [Dev.eitherWrite, poke_of_takesWrite taken loc]
      exact Dev.writeReg_unitEvt hu hc s.dev s.env p v
    | cmd t =>
      obtain ⟨⟨up, core⟩, hc, ht, loc⟩ := taken
      refine ⟨up, ?_⟩
      rw [Dev.eitherWrite, if_pos core]
      exact Dev.unitSet_unitEvt hu hc ht loc
  obtain ⟨up, frame, bits⟩ := written
  obtain ⟨t, run, kept, regs⟩ := runAon_regFrame (W := rsvWord)
    (f := fun env d => d.eitherWrite env src u.toNat 0x10 (A.UNIT_EVT u.toNat) v) up frame
  refine ⟨t, run, kept, fun k hk => ?_, fun k hk => ?_⟩
  · have leaf : k = 1 ∨ k = 2 := by simpa using hk
    rw [regs, bits k (by omega), decide_eq_true leaf, Bool.true_and]
  · rw [regs, bits k (by omega), decide_eq_false (by omega), Bool.false_and, Bool.not_false, Bool.and_true]

end Sys2Proof.Machine
end

section
/-! PROOF. An order begun on a unit that is no cabinet: what it leaves of every other unit, and what follows for the units that depend on it
(R27, R261, R324, R339, R515). -/
namespace Sys2Proof.Machine

variable {d e : Dev} {src : OrderSrc} {u v n order new : Nat}

/-! ### An order begun, apart from the change of state -/

/-- A RESET clears the unit before it turns OFF (R27). -/
def Dev.cleared (d : Dev) (u : Nat) : Dev :=
  (((d.endOrder u).setUnit u { (d.endOrder u).unit u with syncWait := false }).wr (F.UNIT_CMD_TARGET u) 0).onReset u

/-- An ENABLE aims at IN_SERVICE (R27). -/
def Dev.aimed (d : Dev) (u : Nat) : Dev := (d.wr (F.UNIT_CMD_TARGET u) 2).onEnable u

/-- The ENABLE of a unit that is OFF runs (R28). -/
def Dev.enabling (d : Dev) (src : OrderSrc) (u order : Nat) : Dev :=
  ((d.aimed u).setUnit u { (d.aimed u).unit u with order := order, src := some src }).wr (F.UNIT_CMD_BUSY u) 1

/-- A DISABLE of a unit that drains no work aims at OFF (R27). -/
def Dev.stopped (d : Dev) (u : Nat) : Dev :=
  let e := (d.endOrder u).wr (F.UNIT_CMD_TARGET u) 0
  e.setUnit u { e.unit u with syncWait := false }

/-- A DRAIN or DISABLE that drains runs (R29). -/
def Dev.draining (d : Dev) (src : OrderSrc) (u order : Nat) : Dev :=
  let e := (d.wr (F.UNIT_CMD_TARGET u) (targetOf order)).wr (F.UNIT_CMD_BUSY u) 1
  e.setUnit u { e.unit u with order := order, src := some src, drainAt := e.clk }

/-- An order where nobody waits. -/
theorem Dev.Still.beginOne (hd : d.Still) (src : OrderSrc) (u order : Nat) : d.beginOne src u order =
    if d.transOf u order == .noEffect then d
    else if order = Ord.RESET then ((d.cleared u).setState u 0).closeInterval u
    else if order = Ord.ENABLE then if d.ustate u = 0 then d.enabling src u order else (d.aimed u).waitSync u
    else if d.ustate u = 4 then
      (d.wr (F.UNIT_CMD_TARGET u) 0).setUnit u { (d.wr (F.UNIT_CMD_TARGET u) 0).unit u with order := order, src := some src }
    else if d.ustate u = 1 || d.ustate u = 5 then (d.stopped u).setState u 0
    else (d.draining src u order).setState u 4 := by
  simp only [Dev.beginOne, hd.answerWaits]
  rfl

/-! ### An order begun leaves the other units -/

theorem Keeps.cmd (u : Nat) (d : Dev) (w : Word) : Keeps (Others u) d (d.setReg (A.UNIT_CMD u) w) := .word (not_others u) d 0x18 w

theorem Keeps.own (u : Nat) (d : Dev) (r : UnitRt) : Keeps (Others u) d (d.setUnit u r) := .setUnit d r (not_others u)

/-- Nothing waits after an order begun that began where nothing waited: a change of state may follow. -/
theorem Keeps.setState {a : Dev} (h : Keeps (Others u) d a) (hd : d.Still) (hp : Plain u) (hu : u < 0x1000) (hnew : new < 8) :
    Keeps (Others u) d (a.setState u new) :=
  h.trans (Enters.setState (h.still hd) hp hu hnew).others

theorem Keeps.cleared (d : Dev) (u : Nat) : Keeps (Others u) d (d.cleared u) := by
  unfold Dev.cleared
  exact (((Keeps.endOrder d (not_others u)).trans (.own u _ _)).trans (.cmd u _ _)).trans (Aside.onReset _ u).keeps

theorem Keeps.aimed (d : Dev) (u : Nat) : Keeps (Others u) d (d.aimed u) := by
  unfold Dev.aimed
  exact (Keeps.cmd u d _).trans (Aside.onEnable _ u).keeps

theorem Keeps.enabling (d : Dev) (src : OrderSrc) (u order : Nat) : Keeps (Others u) d (d.enabling src u order) := by
  unfold Dev.enabling
  exact ((Keeps.aimed d u).trans (.own u _ _)).trans (.cmd u _ _)

theorem Keeps.stopped (d : Dev) (u : Nat) : Keeps (Others u) d (d.stopped u) := by
  unfold Dev.stopped
  exact ((Keeps.endOrder d (not_others u)).trans (.cmd u _ _)).trans (.own u _ _)

theorem Keeps.draining (d : Dev) (src : OrderSrc) (u order : Nat) : Keeps (Others u) d (d.draining src u order) := by
  unfold Dev.draining
  exact ((Keeps.cmd u d _).trans (.cmd u _ _)).trans (.own u _ _)

section
variable (hd : d.Still) (hp : Plain u) (hu : u < 0x1000)
include hd hp hu

theorem Keeps.sendBack : Keeps (Others u) d (d.sendBack u) := .ite ((Keeps.refl d).setState hd hp hu (by decide)) (.refl d)

theorem Keeps.waitSync : Keeps (Others u) d (d.waitSync u) := by
  have entered := (Keeps.own u d { d.unit u with syncWait := false }).setState hd hp hu (new := 2) (by decide)
  exact .ite (.ite (entered.setState hd hp hu (by decide)) entered) (.own u d _)

theorem Keeps.beginOne (src : OrderSrc) (order : Nat) : Keeps (Others u) d (d.beginOne src u order) := by
  rw [hd.beginOne]
  refine .ite (.refl d) (.ite ?reset (.ite ?enable (.ite ?drained (.ite ?stopped ?drains))))
  case reset => exact ((Keeps.cleared d u).setState hd hp hu (by decide)).trans (Aside.closeInterval _ u).keeps
  case enable =>
    have aimed := Keeps.aimed d u
    exact .ite (.enabling d src u order) (aimed.trans (.waitSync (aimed.still hd) hp hu))
  case drained => exact (Keeps.cmd u d _).trans (.own u _ _)
  case stopped => exact (Keeps.stopped d u).setState hd hp hu (by decide)
  case drains => exact (Keeps.draining d src u order).setState hd hp hu (by decide)

end

/-! ### The units that depend on one -/

/-- The unit `n` alone. -/
def Just (n v : Nat) : Prop := v = n

theorem Keeps.just (h : Keeps (Others u) d e) (hp : Plain n) (hne : n ≠ u) : Keeps (Just n) d e :=
  h.mono fun _ hv => hv ▸ ⟨hne, hp⟩

theorem Keeps.ustate (h : Keeps (Just n) d e) (hn : n < 0x1000) : e.ustate n = d.ustate n :=
  h.rd (f := F.UNIT_STATE_STATE n) (guarded_of_mem (K := Just n) (off := 0x4) hn rfl (by decide) (by decide))

theorem plain_of_lt (h0 : 0 < v) (h : v < 0xD00) : Plain v := by
  simp only [Plain, isCabinet, Bool.or_eq_false_iff, beq_eq_false_iff_ne, Bool.and_eq_false_iff, decide_eq_false_iff_not]
  omega

/-- A flow of a stream engine. -/
theorem plain_flow {s i : Nat} (hs : s < 256) (hi : i < 8) : Plain (0x400 + 8 * s + i) ∧ 0x400 + 8 * s + i < 0x1000 :=
  ⟨plain_of_lt (by omega) (by omega), by omega⟩

/-- A draining engine disables flows that are not OFF, in their order: no unit that is OFF or no flow changes with them (R261). -/
theorem Keeps.drainFlows {s : Nat} (m : Nat) (hd : d.Still) (hs : s < 256) (hp : Plain n) (hn : n < 0x1000)
    (hoff : n < 0x400 ∨ d.ustate n = 0) : Keeps (Just n) d (Dev.drainFlows m d s) := by
  induction m generalizing d with
  | zero => exact .refl d
  | succ m ih =>
    unfold Dev.drainFlows
    refine .ite (.refl d) ?_
    split
    · exact .refl d
    next u found =>
      obtain ⟨i, hi, rfl⟩ := List.mem_map.1 (List.mem_of_find?_eq_some found)
      have on := List.find?_some found
      have flow := plain_flow (i := 7 - i) hs (by omega)
      have ne : n ≠ 0x400 + 8 * s + (7 - i) := by
        rintro rfl
        obtain low | off := hoff
        · omega
        · simp [off] at on
      have disabled := (Keeps.beginOne hd flow.1 flow.2 ((d.unit (0x200 + s)).src.getD (.cmd 0)) Ord.DISABLE).just hp ne
      exact .ite (disabled.trans (ih (disabled.still hd) (hoff.imp_right (disabled.ustate hn).trans))) disabled

/-- Units that return to SYNCING change no other. -/
theorem Keeps.sendBacks {vs : List Nat} (hd : d.Still) (hp : Plain n) (hvs : ∀ v ∈ vs, Plain v ∧ v < 0x1000 ∧ n ≠ v) :
    Keeps (Just n) d (d.each vs Dev.sendBack) :=
  .each vs (fun _ hx v hv => (Keeps.sendBack hx (hvs v hv).1 (hvs v hv).2.1).just hp (hvs v hv).2.2) hd

end Sys2Proof.Machine
end

section
/-! PROOF. What follows for the units that depend on one (R261, R324, R339), and what an order does to its own unit (R27, R515). -/
namespace Sys2Proof.Machine

variable {d e a b : Dev} {src : OrderSrc} {u v n order new st target busy : Nat}

/-! ### The units of the kinds on which others depend (R24) -/

/-- Where the units stand of a kind on which others depend. -/
def KindPlace (u : Nat) : UnitKind → Prop
  | .stream s => u = 0x200 + s ∧ s < 256
  | .flow f => u = 0x400 + f ∧ f < 2048
  | .mclk m => u = 0x0A0 + m ∧ m < 8
  | .group g => u = 0x040 + g ∧ g < 16
  | _ => True

theorem KindPlace.ite {c : Prop} [Decidable c] {k l : UnitKind} (hk : c → KindPlace u k) (hl : KindPlace u l) :
    KindPlace u (if c then k else l) := by
  split
  · next h => exact hk h
  · exact hl

theorem unitKind_place (u : Nat) : KindPlace u (unitKind u) := by
  have range {lo hi : Nat} (h : (decide (lo ≤ u) && decide (u ≤ hi)) = true) : lo ≤ u ∧ u ≤ hi := by simpa using h
  have skip {k l : UnitKind} {c : Prop} [Decidable c] (hk : KindPlace u k) (hl : KindPlace u l) : KindPlace u (if c then k else l) :=
    .ite (fun _ => hk) hl
  unfold unitKind
  iterate 3 refine skip trivial ?_
  refine .ite (fun group => ?_) ?_
  · obtain ⟨lo, hi⟩ := range group
    exact ⟨by omega, by omega⟩
  iterate 2 refine skip trivial ?_
  refine .ite (fun mclk => ?_) ?_
  · obtain ⟨lo, hi⟩ := range mclk
    exact ⟨by omega, by omega⟩
  iterate 8 refine skip trivial ?_
  refine .ite (fun stream => ?_) ?_
  · obtain ⟨lo, hi⟩ := range stream
    exact ⟨by omega, by omega⟩
  refine .ite (fun flow => ?_) ?_
  · obtain ⟨lo, hi⟩ := range flow
    exact ⟨by omega, by omega⟩
  iterate 2 refine skip trivial ?_
  trivial

theorem place_of_unitKind {k : UnitKind} (h : unitKind u = k) : KindPlace u k := h ▸ unitKind_place u

/-! ### The units that depend on one -/

/-- A domain that stops sends back flows, engines, regions, ports and bridges (R324). -/
theorem Keeps.domainStops {m : Nat} (hd : d.Still) (hm : m < 8) : Keeps (Just (0x0A0 + m)) d (d.domainStops m) := by
  refine Keeps.sendBacks hd (plain_of_lt (by omega) (by omega)) fun v hv => ?_
  simp only [List.mem_append, List.mem_map, List.mem_flatMap, List.mem_filter, List.mem_range, Dev.flowsNotOff, Bool.and_eq_true,
    decide_eq_true_eq] at hv
  have place : 0 < v ∧ v < 0xD00 ∧ 0x0A0 + m ≠ v := by
    obtain (((⟨f, ⟨⟨e, ⟨-, ⟨⟨⟨lo, hi⟩, -⟩, -⟩⟩, rfl⟩, -⟩, rfl⟩ | ⟨e, ⟨he, -⟩, rfl⟩) | ⟨r, ⟨hr, -⟩, rfl⟩) | ⟨g, ⟨⟨hg, -⟩, -⟩, i, hi, rfl⟩) |
      ⟨g, ⟨⟨hg, -⟩, -⟩, rfl⟩ := hv <;> omega
  obtain ⟨pos, low, ne⟩ := place
  exact ⟨plain_of_lt pos low, by omega, ne⟩

/-- A group that stops sends back its ports, its decimators and its bridge (R339). -/
theorem Keeps.groupStops {g : Nat} (hd : d.Still) (hg : g < 16) : Keeps (Just (0x040 + g)) d (d.groupStops g) := by
  refine Keeps.sendBacks hd (plain_of_lt (by omega) (by omega)) fun v hv => ?_
  simp only [List.mem_append, List.mem_map, List.mem_range, List.mem_singleton] at hv
  have place : 0 < v ∧ v < 0xD00 ∧ 0x040 + g ≠ v := by
    obtain (⟨i, hi, rfl⟩ | ⟨i, hi, rfl⟩) | rfl := hv <;> omega
  obtain ⟨pos, low, ne⟩ := place
  exact ⟨plain_of_lt pos low, by omega, ne⟩

/-- What follows for other units leaves the unit itself, but for a flow of an engine that drains. -/
theorem Keeps.dependents (hd : d.Still) (src : OrderSrc) (order : Nat)
    (hflow : ∀ f, unitKind n = .flow f → d.ustate n = 0 ∨ d.ustate (0x200 + f / 8) ≠ 4) :
    Keeps (Just n) d (d.dependents src n order) := by
  unfold Dev.dependents
  split
  case h_1 s kind =>
    obtain ⟨rfl, hs⟩ := place_of_unitKind kind
    have plain : Plain (0x200 + s) := plain_of_lt (by omega) (by omega)
    refine .ite (.each _ (fun x hx i hi => ?_) hd) (.drainFlows 9 hd hs plain (by omega) (.inl (by omega)))
    have flow := plain_flow hs (List.mem_range.1 hi)
    exact (Keeps.beginOne hx flow.1 flow.2 src Ord.RESET).just plain (by omega)
  case h_2 f kind =>
    have off := hflow f kind
    obtain ⟨rfl, hf⟩ := place_of_unitKind kind
    obtain off | idle := off
    · exact .drainFlows 9 hd (by omega) (plain_of_lt (by omega) (by omega)) (by omega) (.inr off)
    · rw [Dev.drainFlows, if_pos idle]
      exact .refl d
  case h_3 m kind =>
    obtain ⟨rfl, hm⟩ := place_of_unitKind kind
    exact .ite (.domainStops hd hm) (.refl d)
  case h_4 g kind =>
    obtain ⟨rfl, hg⟩ := place_of_unitKind kind
    exact .ite (.refl d) (.groupStops hd hg)
  case h_5 => exact .refl d

/-! ### The unit's own words -/

/-- The unit is in state `st`, with this TARGET and BUSY, and its REASON is as before. -/
structure Ordered (u st target busy : Nat) (d e : Dev) : Prop where
  state : e.ustate u = st
  target : e.rd (F.UNIT_CMD_TARGET u) = target
  busy : e.rd (F.UNIT_CMD_BUSY u) = busy
  reason : e.rd (F.UNIT_STATE_REASON u) = d.rd (F.UNIT_STATE_REASON u)

theorem Ordered.refl (d : Dev) (u : Nat) : Ordered u (d.ustate u) (d.rd (F.UNIT_CMD_TARGET u)) (d.rd (F.UNIT_CMD_BUSY u)) d d :=
  ⟨rfl, rfl, rfl, rfl⟩

theorem Ordered.wrTarget (h : Ordered u st target busy d a) (t : Nat) (ht : t < 4) :
    Ordered u st t busy d (a.wr (F.UNIT_CMD_TARGET u) t) := by
  have other : A.UNIT_STATE u ≠ A.UNIT_CMD u := by simp
  refine ⟨(Dev.rd_wr_of_ne a t other).trans h.state, ?_, ?_, (Dev.rd_wr_of_ne a t other).trans h.reason⟩
  · exact (Dev.rd_wr_self a _ t (by decide : 9 + 2 ≤ 32)).trans (Nat.mod_eq_of_lt ht)
  · exact (Dev.rd_wr_of_disjoint a t (by decide : 9 + 2 ≤ 32) (.inl (by decide : 8 + 1 ≤ 9))).trans h.busy

theorem Ordered.wrBusy (h : Ordered u st target busy d a) (t : Nat) (ht : t < 2) :
    Ordered u st target t d (a.wr (F.UNIT_CMD_BUSY u) t) := by
  have other : A.UNIT_STATE u ≠ A.UNIT_CMD u := by simp
  refine ⟨(Dev.rd_wr_of_ne a t other).trans h.state, ?_, ?_, (Dev.rd_wr_of_ne a t other).trans h.reason⟩
  · exact (Dev.rd_wr_of_disjoint a t (by decide : 8 + 1 ≤ 32) (.inr (by decide : 8 + 1 ≤ 9))).trans h.target
  · exact (Dev.rd_wr_self a _ t (by decide : 8 + 1 ≤ 32)).trans (Nat.mod_eq_of_lt ht)

theorem Ordered.setUnit (h : Ordered u st target busy d a) (r : UnitRt) : Ordered u st target busy d (a.setUnit u r) :=
  ⟨h.state, h.target, h.busy, h.reason⟩

theorem Ordered.endOrder (h : Ordered u st target busy d a) : Ordered u st target 0 d (a.endOrder u) := (h.setUnit _).wrBusy 0 (by decide)

theorem Ordered.keeps (h : Ordered u st target busy d a) (k : Keeps (Just u) a b) (hu : u < 0x1000) : Ordered u st target busy d b := by
  have state := k.reg _ (guarded_of_mem (K := Just u) (off := 0x4) hu rfl (by decide) (by decide))
  have cmd := k.reg _ (guarded_of_mem (K := Just u) (off := 0x18) hu rfl (by decide) (by decide))
  refine ⟨(k.ustate hu).trans h.state, ?_, ?_, ?_⟩
  · rw [Dev.rd, cmd]
    exact h.target
  · rw [Dev.rd, cmd]
    exact h.busy
  · rw [Dev.rd, state]
    exact h.reason

theorem Ordered.setState (h : Ordered u st target busy d a) (ha : a.Still) (hp : Plain u) (hu : u < 0x1000) (hnew : new < 8) :
    Ordered u new target busy d (a.setState u new) := by
  have enters := Enters.setState ha hp hu hnew
  refine ⟨enters.state, ?_, enters.busy.trans h.busy, enters.reason.trans h.reason⟩
  rw [Dev.rd, enters.cmd]
  exact h.target

theorem Ordered.cleared (d : Dev) (hu : u < 0x1000) : Ordered u (d.ustate u) 0 0 d (d.cleared u) :=
  (((Ordered.refl d u).endOrder.setUnit _).wrTarget 0 (by decide)).keeps (Aside.onReset _ u).keeps hu

theorem Ordered.enabling (d : Dev) (src : OrderSrc) (hu : u < 0x1000) (order : Nat) :
    Ordered u (d.ustate u) 2 1 d (d.enabling src u order) :=
  ((((Ordered.refl d u).wrTarget 2 (by decide)).keeps (Aside.onEnable _ u).keeps hu).setUnit _).wrBusy 1 (by decide)

theorem Ordered.stopped (d : Dev) (u : Nat) : Ordered u (d.ustate u) 0 0 d (d.stopped u) :=
  ((Ordered.refl d u).endOrder.wrTarget 0 (by decide)).setUnit _

theorem Ordered.draining (d : Dev) (src : OrderSrc) (u : Nat) : Ordered u (d.ustate u) 1 1 d (d.draining src u Ord.DRAIN) :=
  (((Ordered.refl d u).wrTarget 1 (by decide)).wrBusy 1 (by decide)).setUnit _

theorem Dev.drainAt_draining (d : Dev) (src : OrderSrc) (u order : Nat) :
    ((d.draining src u order).unit u).drainAt = (d.draining src u order).clk := by
  unfold Dev.draining
  dsimp only
  rw [Dev.unit_setUnit, if_pos rfl]
  rfl

/-! ### The orders of R27 -/

/-- The orders that a unit obeys in a state. -/
theorem transOf_plain (hp : Plain u) (d : Dev) (order : Nat) :
    d.transOf u order = transition (d.ustate u) order (d.rd (F.UNIT_CMD_TARGET u)) (d.unit u).syncWait := by
  simp [Dev.transOf, show isCabinet u = false from hp]

section
variable (hd : d.Still) (hp : Plain u) (hu : u < 0x1000)
include hd hp hu

theorem Dev.beginOne_enable (src : OrderSrc) (h0 : d.ustate u = 0) :
    Ordered u 0 2 1 d (d.beginOne src u Ord.ENABLE) ∧ ((d.beginOne src u Ord.ENABLE).unit u).order = Ord.ENABLE := by
  have go : d.transOf u Ord.ENABLE = .go := by rw [transOf_plain hp, h0]; rfl
  rw [hd.beginOne, go, if_neg (by decide), if_neg (by decide), if_pos rfl, if_pos h0]
  have words := Ordered.enabling d src hu Ord.ENABLE
  rw [h0] at words
  refine ⟨words, ?_⟩
  rw [Dev.enabling, Dev.wr, Dev.unit_setReg, Dev.unit_setUnit, if_pos rfl]

theorem Dev.beginOne_disable (src : OrderSrc) (h1 : d.ustate u = 1) : Ordered u 0 0 0 d (d.beginOne src u Ord.DISABLE) := by
  have go : d.transOf u Ord.DISABLE = .go := by rw [transOf_plain hp, h1]; rfl
  rw [hd.beginOne, go, if_neg (by decide), if_neg (by decide), if_neg (by decide), h1, if_neg (by decide), if_pos (by rfl)]
  exact (Ordered.stopped d u).setState ((Keeps.stopped d u).still hd) hp hu (by decide)

theorem Dev.beginOne_drain (src : OrderSrc) (h3 : d.ustate u = 3) :
    Ordered u 4 1 1 d (d.beginOne src u Ord.DRAIN) ∧ ((d.beginOne src u Ord.DRAIN).unit u).drainAt = d.clk := by
  have go : d.transOf u Ord.DRAIN = .go := by rw [transOf_plain hp, h3]; rfl
  rw [hd.beginOne, go, if_neg (by decide), if_neg (by decide), if_neg (by decide), h3, if_neg (by decide), if_neg (by decide)]
  have still := (Keeps.draining d src u Ord.DRAIN).still hd
  refine ⟨(Ordered.draining d src u).setState still hp hu (by decide), ?_⟩
  have order := congrArg UnitRt.drainAt (Enters.setState (new := 4) still hp hu (by decide)).unit
  exact (Eq.trans order (d.drainAt_draining src u _)).trans (Keeps.draining d src u _).clk

theorem Dev.beginOne_reset (src : OrderSrc) : Ordered u 0 0 0 d (d.beginOne src u Ord.RESET) := by
  have go : d.transOf u Ord.RESET = .go := by rw [transOf_plain hp]; rfl
  rw [hd.beginOne, go, if_neg (by decide), if_pos rfl]
  exact ((Ordered.cleared d hu).setState ((Keeps.cleared d u).still hd) hp hu (by decide)).keeps (Aside.closeInterval _ u).keeps hu

end

end Sys2Proof.Machine
end

section
/-! PROOF. O30: an order given where nothing waits or stands: its check, its record, its effect (R26, R32, R33, R112). -/
namespace Sys2Proof.Machine

variable {d e a b : Dev} {src : OrderSrc} {env : Env} {u n order : Nat}

/-! ### The check and its record (R32, R33) -/

/-- The check of an order as its issuer (R32). -/
def Dev.verdict (d : Dev) (src : OrderSrc) (u order : Nat) : Verdict :=
  (Dev.checkN 800 d { tenant := some (orderTenant src), skipBusy := false } [] u order).2.2

/-- The check of a unit that is no cabinet changes nothing. -/
theorem checkN_plain (m : Nat) (d : Dev) (k : Asker) (prov : List Nat) (hp : Plain u) (order : Nat) :
    (Dev.checkN m d k prov u order).1 = d := by
  cases m with
  | zero => rfl
  | succ m =>
    unfold Dev.checkN
    split
    · rw [show isCabinet u = false from hp]
      rfl
    · rfl

/-- What the record of an accepted order leaves. -/
theorem Dev.accept_words (d : Dev) (u : Nat) :
    (d.accept u).ustate u = d.ustate u ∧ (d.accept u).rd (F.UNIT_STATE_REASON u) = 0 ∧ Keeps (Others u) d (d.accept u) := by
  have reason := Dev.rd_wr_self d (F.UNIT_STATE_REASON u) 0 (by decide : 8 + 8 ≤ 32)
  refine ⟨?_, ?_, ?_⟩
  · exact (Dev.rd_wr_of_disjoint _ 0 (by decide : 16 + 12 ≤ 32) (.inl (by decide : 0 + 3 ≤ 16))).trans
      (Dev.rd_wr_of_disjoint d 0 (by decide : 8 + 8 ≤ 32) (.inl (by decide : 0 + 3 ≤ 8)))
  · exact (Dev.rd_wr_of_disjoint _ 0 (by decide : 16 + 12 ≤ 32) (.inl (by decide : 8 + 8 ≤ 16))).trans reason
  · exact (Keeps.word (not_others u) d 0x4 _).trans (.word (not_others u) _ 0x4 _)

/-- What the record of a refusal holds: the verdict, and one refusal more. -/
theorem Dev.refuse_words (d : Dev) (hu : u < 0x1000) {r dt : Nat} (hr : r < 256) (hdt : dt < 4096) :
    (d.refuse u r dt).ustate u = d.ustate u ∧ (d.refuse u r dt).rd (F.UNIT_STATE_REASON u) = r ∧
    (d.refuse u r dt).rd (F.UNIT_STATE_DETAIL u) = dt ∧
    (d.refuse u r dt).rd (F.UNIT_REFUSALS_REFUSALS u) = min (d.rd (F.UNIT_REFUSALS_REFUSALS u) + 1) (2 ^ 32 - 1) := by
  have recorded := Aside.touch ((((d.wr (F.UNIT_STATE_REASON u) r).wr (F.UNIT_STATE_DETAIL u) dt).sat (F.UNIT_REFUSALS_REFUSALS u) 1).wr
    (F.UNIT_EVT_REFUSED u) 1) u
  have state := recorded.word hu (off := 0x4)
  have count := recorded.word hu (off := 0x24)
  have word : (d.refuse u r dt).reg (A.UNIT_STATE u) = putBits (putBits (d.reg (A.UNIT_STATE u)) 8 8 r) 16 12 dt := by
    refine Eq.trans state ?_
    simp [Dev.wr, Dev.sat, Dev.reg_setReg]
  have counted : (d.refuse u r dt).reg (A.UNIT_REFUSALS u) =
      putBits (d.reg (A.UNIT_REFUSALS u)) 0 32 (min (d.rd (F.UNIT_REFUSALS_REFUSALS u) + 1) (2 ^ 32 - 1)) := by
    refine Eq.trans count ?_
    simp [Dev.wr, Dev.sat, Dev.reg_setReg, Dev.rd]
  refine ⟨?_, ?_, ?_, ?_⟩
  · rw [Dev.ustate, Dev.rd, word, bits_putBits_of_disjoint _ _ _ _ _ _ (by decide) (.inl (by decide : 0 + 3 ≤ 16)),
      bits_putBits_of_disjoint _ _ _ _ _ _ (by decide) (.inl (by decide : 0 + 3 ≤ 8))]
    rfl
  · rw [Dev.rd, word, bits_putBits_of_disjoint _ _ _ _ _ _ (by decide) (.inl (by decide : 8 + 8 ≤ 16)),
      bits_putBits_self _ _ _ _ (by decide)]
    exact Nat.mod_eq_of_lt hr
  · rw [Dev.rd, word, bits_putBits_self _ _ _ _ (by decide)]
    exact Nat.mod_eq_of_lt hdt
  · rw [Dev.rd, counted, bits_putBits_self _ _ _ _ (by decide)]
    exact Nat.mod_eq_of_lt (by omega)

/-! ### An order given (R26, R112) -/

theorem Aside.stand (d : Dev) (spi cmd : Bool) (p : Path) (u order : Nat) : Aside d (d.stand spi cmd p u order) := .ite .same .same

/-- Tenant 0's accepted order stands in the unit's interval. -/
def Dev.stood (d : Dev) (src : OrderSrc) (u order : Nat) : Dev :=
  match d.orderPath src with
  | some (spi, c, p) => d.stand spi c p u order
  | none => d

theorem Aside.stood (d : Dev) (src : OrderSrc) (u order : Nat) : Aside d (d.stood src u order) := by
  unfold Dev.stood
  split
  · exact .stand d _ _ _ _ _
  · exact .refl d

/-- An accepted order on a unit that is no cabinet is recorded and begins. -/
theorem orderN_checked (m : Nat) (d : Dev) (src : OrderSrc) (hp : Plain u) (order : Nat) :
    (Dev.orderN (m + 1) d src true u order).1 = (d.accept u).beginUnit src u order := by
  unfold Dev.orderN
  simp [show isCabinet u = false from hp]

/-- Where no order stands, an order is checked; refused, it is recorded, and accepted, it takes effect. -/
theorem Dev.giveOrder_quiet (hs : d.stands = []) (hp : Plain u) (h1 : 1 ≤ order) (h4 : order ≤ 4) :
    (d.giveOrder src u order).1 =
      if (d.verdict src u order).1 ≠ 0 then d.refuse u (d.verdict src u order).1 (d.verdict src u order).2
      else ((d.accept u).beginUnit src u order).stood src u order := by
  have alone (spi : Bool) : d.standing spi u = none := by rw [Dev.standing, hs]; rfl
  have same := checkN_plain 800 d { tenant := some (orderTenant src), skipBusy := false } [] hp order
  unfold Dev.giveOrder Dev.verdict Dev.stood
  rw [if_neg (by omega), if_neg (by omega)]
  simp only [alone, same, orderN_checked 799 d src hp order]
  split <;> split <;> rfl

/-! ### An order as a command and as a write of UNIT_CMD (R26) -/

/-- The orders have no reserved bits, and ORDER holds them whole. -/
theorem order_fields (h4 : order ≤ 4) (u : Nat) :
    (BitVec.ofNat 32 order &&& 0xFFFFFFFF) &&& reservedBits (.unit u) 0x18 = 0 ∧
      bits (BitVec.ofNat 32 order &&& 0xFFFFFFFF) 0 4 = order := by
  have fields : fieldsAt (.unit u) 0x18 = fieldsAt (.unit 0) 0x18 := rfl
  have reserved : reservedBits (.unit u) 0x18 = reservedBits (.unit 0) 0x18 := by rw [reservedBits, fields]; rfl
  rw [reserved]
  revert order
  decide

theorem Dev.giveOrder_zero (d : Dev) (src : OrderSrc) (u : Nat) : (d.giveOrder src u 0).1 = d := by
  rw [Dev.giveOrder, if_pos rfl]

theorem Dev.writeReg_unit (d : Dev) (env : Env) (p : Path) (u off a : Nat) (m v : Word) :
    d.writeReg env p (.unit u) off a m v = (d.noteReserved (.unit u) off a (v &&& m)).writeUnit p u off a m v := rfl

theorem Dev.noteReserved_of_none {b : Block} {off : Nat} {w : Word} (h : w &&& reservedBits b off = 0) (d : Dev) (a : Nat) :
    d.noteReserved b off a w = d := by
  unfold Dev.noteReserved
  rw [h]
  rfl

/-- UNIT_CMD written with an order. -/
theorem Dev.writeReg_unitCmd (h4 : order ≤ 4) (d : Dev) (env : Env) (p : Path) (u : Nat) :
    d.writeReg env p (.unit u) 0x18 (A.UNIT_CMD u) 0xFFFFFFFF (BitVec.ofNat 32 order) = (d.giveOrder (.reg p) u order).1 := by
  obtain ⟨reserved, code⟩ := order_fields h4 u
  rw [Dev.writeReg_unit, Dev.noteReserved_of_none reserved, Dev.writeUnit, if_neg (by decide), if_neg (by decide), if_neg (by decide),
    if_pos rfl, code]
  split
  · next zero => rw [zero, d.giveOrder_zero]
  · rfl

/-- A unit that is no cabinet takes an order. -/
def State.TakesOrder (s : State) (src : OrderSrc) (u : Nat) : Prop :=
  match src with
  | .reg p => s.TakesWrite p (A.UNIT_CMD u)
  | .cmd _ => True

theorem orderRow_given {s : State} (quiet : s.Quiet) (hc : (classOf u).isSome = true) (hu : u < 0x1000) (taken : s.TakesOrder src u)
    (h4 : order ≤ 4) : s.dev.orderRow s.env src u order = (s.dev.giveOrder src u order).1 := by
  cases src with
  | reg p =>
    have loc := locate_unitTable hu hc (off := 0x18) (by decide) (by decide) rfl
    rw [Dev.orderRow, poke_of_takesWrite taken loc]
    exact s.dev.writeReg_unitCmd h4 s.env p u
  | cmd t => rw [Dev.orderRow, quiet.coreUp.2, hc, if_pos (by rfl)]

/-- What an order does to a unit that is no cabinet, where nothing waits or stands: a refusal is recorded, an accepted order begins, and
what depends on the unit changes no word of it. -/
theorem order_effect {s : State} (quiet : s.Quiet) (hc : (classOf u).isSome = true) (hp : Plain u) (hu : u < 0x1000)
    (taken : s.TakesOrder src u) (h1 : 1 ≤ order) (h4 : order ≤ 4) :
    ∃ t, runAon (fun env d => d.orderRow env src u order) s = .next t ∧
      Aside (if (s.dev.verdict src u order).1 ≠ 0 then
          s.dev.refuse u (s.dev.verdict src u order).1 (s.dev.verdict src u order).2
        else (s.dev.accept u).beginUnit src u order) t.dev := by
  have stands : s.dev.stands = [] := by
    obtain ⟨-, -, -, -, stands, -⟩ := quiet
    exact stands
  have row := orderRow_given quiet hc hu taken h4
  rw [Dev.giveOrder_quiet stands hp h1 h4] at row
  have ended := (Aside.touchAll (s.dev.orderRow s.env src u order)).trans (.settle _)
  refine ⟨_, runAon_of_up quiet.coreUp.1.2, Aside.trans (b := s.dev.orderRow s.env src u order) ?_ (ended.trans .same)⟩
  rw [row]
  split
  · exact .refl _
  · exact .stood _ src u order

/-- The code 0 is no order. -/
theorem order_none {s : State} (quiet : s.Quiet) (hc : (classOf u).isSome = true) (hu : u < 0x1000) (taken : s.TakesOrder src u) :
    runAon (fun env d => d.orderRow env src u 0) s = .next s := by
  obtain ⟨⟨-, memw, nudge, summary⟩, up⟩ := quiet.coreUp.1
  have same : s.dev.orderRow s.env src u 0 = s.dev := (orderRow_given quiet hc hu taken (by decide)).trans (s.dev.giveOrder_zero src u)
  have carried := carry_exact (f := fun env d => d.orderRow env src u 0) (s := s) (by rw [same]; exact nudge)
    (by rw [same]; exact memw) (by rw [same]; exact summary)
  rw [runAon_of_up up, carried, same]

/-- An order that the check accepts. -/
theorem order_accepted {s : State} (quiet : s.Quiet) (hc : (classOf u).isSome = true) (hp : Plain u) (hu : u < 0x1000)
    (taken : s.TakesOrder src u) (h1 : 1 ≤ order) (h4 : order ≤ 4) (ok : s.dev.verdict src u order = (0, 0))
    (hflow : ∀ f, unitKind u = .flow f →
      ((s.dev.accept u).beginOne src u order).ustate u = 0 ∨ s.dev.ustate (0x200 + f / 8) ≠ 4) :
    ∃ t, runAon (fun env d => d.orderRow env src u order) s = .next t ∧
      Keeps (Just u) ((s.dev.accept u).beginOne src u order) t.dev := by
  obtain ⟨t, run, k⟩ := order_effect quiet hc hp hu taken h1 h4
  rw [ok, if_neg (by decide)] at k
  obtain ⟨-, -, accepted⟩ := s.dev.accept_words u
  have still := accepted.still quiet.still
  have begun := Keeps.beginOne still hp hu src order
  refine ⟨t, run, (Keeps.dependents (begun.still still) src order fun f kind => ?_).trans k.keeps⟩
  refine (hflow f kind).imp_right fun idle => ?_
  obtain ⟨rfl, hf⟩ := place_of_unitKind kind
  have engine : Others (0x400 + f) (0x200 + f / 8) := ⟨by omega, plain_of_lt (by omega) (by omega)⟩
  have same := (accepted.trans begun).rd (f := F.UNIT_STATE_STATE (0x200 + f / 8))
    (guarded_of_mem (K := Others (0x400 + f)) (off := 0x4) (by omega) engine (by decide) (by decide))
  exact fun four => idle (same.symm.trans four)

/-- An order accepted leaves REASON 0. -/
theorem Ordered.accepted {st target busy : Nat} {d e : Dev} (h : Ordered u st target busy (d.accept u) e) :
    e.rd (F.UNIT_STATE_REASON u) = 0 := h.reason.trans (d.accept_words u).2.1

/-- Settles O30: nothing stands or waits, so an order is checked, recorded and begun on the unit alone; what follows for the units that
depend on it changes no word of it. TARGET of a unit that DISABLE has brought to OFF reads OFF (log 108). -/
theorem ordersTakeEffect : Obligations.OrdersTakeEffect := by
  unfold Obligations.OrdersTakeEffect
  intro s src u n checked quiet hc hp taken
  have hu : n < 0x1000 := u.isLt
  have hp : Plain n := hp
  have taken : s.TakesOrder src n := taken
  obtain ⟨state, -, accepted⟩ := s.dev.accept_words n
  have still := accepted.still quiet.still
  refine ⟨fun ok h0 => ?_, fun ok h1 => ?_, fun ok h3 idle => ?_, fun ok => ?_, fun r dt hr hr8 hdt no => ?_, ?_⟩
  · obtain ⟨words, order⟩ := Dev.beginOne_enable still hp hu src (state.trans h0)
    obtain ⟨t, run, k⟩ := order_accepted quiet hc hp hu taken (by decide) (by decide) ok fun _ _ => .inl words.state
    obtain ⟨st, target, busy, reason⟩ := words.keeps k hu
    exact ⟨t, run, st, target, busy, (words.keeps k hu).accepted, (congrArg UnitRt.order (k.unit n rfl)).trans order⟩
  · have words := Dev.beginOne_disable still hp hu src (state.trans h1)
    obtain ⟨t, run, k⟩ := order_accepted quiet hc hp hu taken (by decide) (by decide) ok fun _ _ => .inl words.state
    have words := words.keeps k hu
    exact ⟨t, run, words.state, words.target, words.busy, words.accepted⟩
  · obtain ⟨words, since⟩ := Dev.beginOne_drain still hp hu src (state.trans h3)
    obtain ⟨t, run, k⟩ := order_accepted quiet hc hp hu taken (by decide) (by decide) ok fun f kind => .inr (idle f kind)
    have words := words.keeps k hu
    exact ⟨t, run, words.state, words.target, words.busy, words.accepted,
      ((congrArg UnitRt.drainAt (k.unit n rfl)).trans since).trans accepted.clk⟩
  · have words := Dev.beginOne_reset still hp hu src
    obtain ⟨t, run, k⟩ := order_accepted quiet hc hp hu taken (by decide) (by decide) ok fun _ _ => .inl words.state
    have words := words.keeps k hu
    exact ⟨t, run, words.state, words.busy, words.accepted⟩
  · obtain ⟨t, run, k⟩ := order_effect quiet hc hp hu taken (order := Ord.ENABLE) (by decide) (by decide)
    have no : s.dev.verdict src n Ord.ENABLE = (r, dt) := no
    rw [no, if_pos hr] at k
    obtain ⟨st, reason, detail, refusals⟩ := s.dev.refuse_words hu hr8 hdt
    refine ⟨t, run, (k.ustate hu).trans st, ?_, ?_, ?_⟩
    · rw [Dev.rd, k.word hu]
      exact reason
    · rw [Dev.rd, k.word hu]
      exact detail
    · rw [Dev.rd, k.word hu]
      exact refusals
  · exact ⟨s, order_none quiet hc hu taken, rfl⟩

end Sys2Proof.Machine
end

section
/-! PROOF. A word with GO written on a path (R9, R12, R54, R58, R64, R71), and what a command leaves whose effect leaves no summary to be
brought up to date (R45). -/
namespace Sys2Proof.Machine

variable {d e : Dev} {env : Env} {p : Path} {v : Word}

/-! ### Commands that leave no summary to be brought up to date -/

/-- The command has left its effect `d`; of the device the signals of `GLB_EVT_SUMMARY` alone are added (R76). -/
structure Settled (s : State) (d : Dev) (t : State) : Prop where
  dev : t.dev = { d with host := { d.host with pba := t.dev.host.pba, sumPrev := t.dev.host.sumPrev }, out := t.dev.out, memw := [] }
  mem : t.mem = applyMem d.memw s.mem
  fuses : t.fuses = s.fuses
  pending : t.pending = s.pending

theorem Settled.reg {s t : State} (h : Settled s d t) (a : Nat) : t.dev.reg a = d.reg a := by rw [h.dev]; rfl

theorem Settled.rd {s t : State} (h : Settled s d t) (f : Fld) : t.dev.rd f = d.rd f := by rw [Dev.rd, h.reg, Dev.rd]

theorem carry_settled {f : Env → Dev → Dev} {s : State} (hf : f s.env s.dev = d) (hn : d.nudge = []) :
    ∃ t, carry f s = .next t ∧ Settled s d t := by
  subst hf
  obtain ⟨pba, out, settled⟩ := (f s.env s.dev).settle_cases
  refine ⟨_, carry_plain hn, ?_, rfl, rfl, rfl⟩
  rw [settled]

theorem runAon_settled {f : Env → Dev → Dev} {s : State} (up : s.Up) (hf : f s.env s.dev = d) (hn : d.nudge = []) :
    ∃ t, runAon f s = .next t ∧ Settled s d t := by
  rw [runAon_of_up up.2]
  exact carry_settled hf hn

theorem run_settled {f : Env → Dev → Dev} {s : State} (up : s.CoreUp) (hf : f s.env s.dev = d) (hn : d.nudge = []) :
    ∃ t, run f s = .next t ∧ Settled s d t := by
  obtain ⟨⟨-, released⟩, core⟩ := up
  rw [run_of_up released core]
  exact carry_settled hf hn

/-! ### Words that GO is written to -/

/-- Reserved bits count in GLB, or in the unit whose word is written (R12). -/
theorem RegsFrame.noteReserved (d : Dev) (b : Block) (off : Nat) {a : Nat} (w : Word) (unit : ∀ u, unitOfAddr a = some u → u < 0x1000) :
    RegsFrame rsvWord d (d.noteReserved b off a w) := by
  have counted : RegsFrame rsvWord d (d.countReserved a) := by
    unfold Dev.countReserved
    split
    · next u hu =>
      have small := unit u hu
      refine (RegsFrame.refl _ d).setReg _ (.inr ?_)
      simp only [A.UNIT_RSV_WRITES, Base.UNIT]
      omega
    · exact (RegsFrame.refl _ d).setReg _ (.inl rfl)
  exact .ite counted (.refl _ d)

theorem RegsFrame.nudge {W : Nat → Prop} (h : RegsFrame W d e) : e.nudge = d.nudge := by rw [h.eq]

theorem RegsFrame.rd {W : Nat → Prop} (h : RegsFrame W d e) {f : Fld} (hf : ¬ W f.addr) : e.rd f = d.rd f := by
  rw [Dev.rd, h.reg _ hf, Dev.rd]

/-- A word of GLB or CFG belongs to no unit, and so do its reserved bits. -/
theorem RegsFrame.noteReserved_unitless (d : Dev) (b : Block) (off : Nat) {a : Nat} (w : Word) (h : unitOfAddr a = none) :
    RegsFrame rsvWord d (d.noteReserved b off a w) :=
  .noteReserved d b off w fun u hu => by rw [h] at hu; cases hu

theorem getLsbD_withGo (v : Word) : (withGo v).getLsbD 0 = true := by simp [withGo]

end Sys2Proof.Machine
end

section
/-! PROOF. O28: the statistics snapshot (R64, R65). -/
namespace Sys2Proof.Machine

variable {d e : Dev} {env : Env} {p : Path} {v : Word}

/-! ### What a request does -/

/-- The second device differs from the first in counters alone. -/
def CountersOnly (d e : Dev) : Prop := ∃ stat, e = { d with stat := stat }

theorem CountersOnly.trans {a b c : Dev} (h : CountersOnly a b) (k : CountersOnly b c) : CountersOnly a c := by
  obtain ⟨_, rfl⟩ := h
  obtain ⟨stat, rfl⟩ := k
  exact ⟨stat, rfl⟩

theorem CountersOnly.setStat (d : Dev) (a n : Nat) : CountersOnly d (d.setStat a n) := ⟨_, rfl⟩

theorem CountersOnly.each {α : Type} (xs : List α) {f : Dev → α → Dev} (hf : ∀ x a, CountersOnly x (f x a)) (d : Dev) :
    CountersOnly d (d.each xs f) := by
  induction xs generalizing d with
  | nil => exact ⟨d.stat, rfl⟩
  | cons x xs ih => exact (hf d x).trans (ih (f d x))

/-- The meters that restart with a snapshot change counters alone (R374, R375). -/
theorem CountersOnly.restartCells (d : Dev) : CountersOnly d d.restartCells := by
  unfold Dev.restartCells
  split
  · exact ⟨d.stat, rfl⟩
  · refine .each _ (fun x c => ?_) d
    dsimp only
    split
    · exact (CountersOnly.setStat x _ _).trans (.setStat _ _ _)
    · exact (CountersOnly.setStat x _ _).trans (.setStat _ _ _)

/-- A snapshot that begins: BUSY, and every counter sampled with the STC; the meters restart. -/
theorem CountersOnly.snapStart (d : Dev) :
    CountersOnly { d.wr F.GLB_SNAP_BUSY 1 with snap := { taking := some (d.stat, BitVec.ofNat 64 d.t64) } } d.snapStart :=
  .restartCells _

theorem Dev.snapStart_reg (d : Dev) (a : Nat) : d.snapStart.reg a = (d.wr F.GLB_SNAP_BUSY 1).reg a := by
  obtain ⟨stat, h⟩ := CountersOnly.snapStart d
  rw [h]
  rfl

theorem Dev.snapStart_rd (d : Dev) (f : Fld) : d.snapStart.rd f = (d.wr F.GLB_SNAP_BUSY 1).rd f := by
  rw [Dev.rd, Dev.snapStart_reg, Dev.rd]

theorem Dev.snapRequest_of_idle (h : d.rd F.GLB_SNAP_BUSY = 0) : d.snapRequest = d.snapStart := by
  simp [Dev.snapRequest, Dev.on, h]

theorem Dev.snapRequest_of_busy (h : d.rd F.GLB_SNAP_BUSY = 1) (hp : d.rd F.GLB_SNAP_PENDING = 0) :
    d.snapRequest = d.wr F.GLB_SNAP_PENDING 1 := by
  simp [Dev.snapRequest, Dev.on, h, hp]

theorem Dev.snapRequest_of_pending (h : d.rd F.GLB_SNAP_BUSY = 1) (hp : d.rd F.GLB_SNAP_PENDING = 1) :
    d.snapRequest = d.sat F.GLB_SNAP_COALESCED 1 := by
  simp [Dev.snapRequest, Dev.on, h, hp]

/-! ### The request as a write -/

/-- GO of GLB_SNAP written whole. -/
theorem Dev.writeReg_glbSnap (d : Dev) (env : Env) (p : Path) (v : Word) :
    d.writeReg env p .glb 0x20 A.GLB_SNAP 0xFFFFFFFF (withGo v) =
      (d.noteReserved .glb 0x20 A.GLB_SNAP (withGo v)).snapRequest := by
  have whole : withGo v &&& 0xFFFFFFFF = withGo v := and_ones _
  simp only [Dev.writeReg, Dev.writeGlb, whole, getLsbD_withGo]
  rfl

/-- The device once the reserved bits of a written GLB_SNAP have been counted. -/
abbrev Dev.snapNoted (d : Dev) (v : Word) : Dev := d.noteReserved .glb 0x20 A.GLB_SNAP (withGo v)

theorem Dev.snapNoted_frame (d : Dev) (v : Word) : RegsFrame rsvWord d (d.snapNoted v) := .noteReserved_unitless d _ _ _ rfl

theorem Dev.snapNoted_rd (d : Dev) (v : Word) {f : Fld} (h : f.addr = A.GLB_SNAP) : (d.snapNoted v).rd f = d.rd f :=
  (d.snapNoted_frame v).rd (by rw [h]; simp [rsvWord, A.GLB_SNAP])

theorem poke_glbSnap {s : State} (take : s.TakesWrite p A.GLB_SNAP) (v : Word) :
    s.dev.poke s.env p A.GLB_SNAP (withGo v) = (s.dev.snapNoted v).snapRequest := by
  rw [poke_of_takesWrite take (b := .glb) (off := 0x20) rfl, Dev.writeReg_glbSnap]

/-- A request that finds a snapshot under way changes GLB_SNAP alone. -/
theorem glbSnapGo_counted {s : State} (take : s.TakesWrite p A.GLB_SNAP) (f : Fld) (n : Nat) (hf : f.addr = A.GLB_SNAP)
    (width : f.lo + f.width ≤ 32) (effect : (s.dev.snapNoted v).snapRequest = (s.dev.snapNoted v).wr f n) :
    Completes (.glbSnapGo p v) s (fun t => t.dev.rd f = n % 2 ^ f.width ∧ OnlyRegs (fun a => a = A.GLB_SNAP ∨ rsvWord a) s t) := by
  have frame : RegsFrame (fun a => a = A.GLB_SNAP ∨ rsvWord a) s.dev ((s.dev.snapNoted v).wr f n) :=
    ((s.dev.snapNoted_frame v).mono fun _ => .inr).setReg _ (.inl hf)
  obtain ⟨t, run, only, regs⟩ := runAon_onlyRegs (f := fun env d => d.poke env p A.GLB_SNAP (withGo v)) take.1
    ((poke_glbSnap take v).trans effect) frame
  refine ⟨t, run, ?_, only⟩
  rw [Dev.rd, regs]
  exact Dev.rd_wr_self _ f n width

/-- A request with no snapshot under way begins one. -/
theorem glbSnapGo_begins {s : State} (take : s.TakesWrite p A.GLB_SNAP) (idle : s.dev.rd F.GLB_SNAP_BUSY = 0) :
    Completes (.glbSnapGo p v) s (fun t => t.dev.rd F.GLB_SNAP_BUSY = 1 ∧
      t.dev.snap.taking = some (s.dev.stat, BitVec.ofNat 64 s.dev.t64) ∧ t.dev.shelf = s.dev.shelf) := by
  obtain ⟨⟨-, -, nudge, -⟩, -⟩ := take.1
  have noted := s.dev.snapNoted_frame v
  obtain ⟨stat, begun⟩ := CountersOnly.snapStart (s.dev.snapNoted v)
  have effect := (poke_glbSnap take v).trans (Dev.snapRequest_of_idle ((s.dev.snapNoted_rd v rfl).trans idle))
  obtain ⟨t, run, done⟩ := runAon_settled (f := fun env d => d.poke env p A.GLB_SNAP (withGo v)) take.1 effect
    (by rw [begun]; exact noted.nudge.trans nudge)
  refine ⟨t, run, ?_, ?_, ?_⟩
  · rw [done.rd, Dev.snapStart_rd]
    exact Dev.rd_wr_self _ _ 1 (by decide)
  · rw [done.dev, begun]
    show some ((s.dev.snapNoted v).stat, BitVec.ofNat 64 (s.dev.snapNoted v).t64) = _
    rw [noted.eq]
    rfl
  · rw [done.dev, begun]
    show (s.dev.snapNoted v).shelf = _
    rw [noted.eq]

/-! ### Completion -/

/-- The hidden copy swapped in: the shelf, its instant and its number; BUSY clear (R64). -/
def Dev.snapSwapped (d : Dev) (copy : SMap Dword) (time : Dword) : Dev :=
  let d := { d with shelf := copy, snap := { taking := none } }
  let d := (d.setReg A.GLB_SNAP_TIME_LO (loWord time.toNat)).setReg A.GLB_SNAP_TIME_HI (hiWord time.toNat)
  (d.setReg A.GLB_SNAP_SEQ (d.reg A.GLB_SNAP_SEQ + 1)).wr F.GLB_SNAP_BUSY 0

theorem Dev.snapSwapped_reg (d : Dev) (copy : SMap Dword) (time : Dword) (a : Nat) : (d.snapSwapped copy time).reg a =
    if a = A.GLB_SNAP then putBits (d.reg A.GLB_SNAP) 1 1 0
    else if a = A.GLB_SNAP_SEQ then d.reg A.GLB_SNAP_SEQ + 1
    else if a = A.GLB_SNAP_TIME_HI then hiWord time.toNat
    else if a = A.GLB_SNAP_TIME_LO then loWord time.toNat else d.reg a := by
  have base : ∀ a, ({ d with shelf := copy, snap := { taking := none } } : Dev).reg a = d.reg a := fun _ => rfl
  simp [Dev.snapSwapped, Dev.wr, Dev.reg_setReg, base]

theorem Dev.snapSwapped_pending (d : Dev) (copy : SMap Dword) (time : Dword) :
    (d.snapSwapped copy time).rd F.GLB_SNAP_PENDING = d.rd F.GLB_SNAP_PENDING := by
  rw [Dev.rd, Dev.snapSwapped_reg, if_pos rfl, bits_putBits_of_disjoint _ _ _ _ _ _ (by decide) (by decide), Dev.rd]

theorem Dev.snapSwapped_busy (d : Dev) (copy : SMap Dword) (time : Dword) : (d.snapSwapped copy time).rd F.GLB_SNAP_BUSY = 0 := by
  rw [Dev.rd, Dev.snapSwapped_reg, if_pos rfl]
  exact bits_putBits_self _ 1 1 0 (by decide)

theorem loWord_toNat (w : Dword) : loWord w.toNat = w.setWidth 32 := by
  apply BitVec.eq_of_toNat_eq
  simp [loWord]

theorem hiWord_toNat (w : Dword) : hiWord w.toNat = w.extractLsb' 32 32 := by
  apply BitVec.eq_of_toNat_eq
  simp [hiWord, Nat.shiftRight_eq_div_pow]

/-- Completion swaps the copy in, signals vector 520 (R76), and begins the pending request, if there is one. -/
theorem Dev.snapComplete_cases {copy : SMap Dword} {time : Dword} (h : d.snap.taking = some (copy, time)) :
    ∃ pba out, let e := { d.snapSwapped copy time with host := { d.host with pba := pba }, out := out }
      (d.rd F.GLB_SNAP_PENDING = 0 → d.snapComplete = e) ∧
      (d.rd F.GLB_SNAP_PENDING = 1 → d.snapComplete = (e.wr F.GLB_SNAP_PENDING 0).snapStart) := by
  obtain ⟨pba, out, signalled⟩ := (d.snapSwapped copy time).signal_cases 0 520
  have same : d.snapComplete =
      if ((d.snapSwapped copy time).signal 0 520).on F.GLB_SNAP_PENDING then
        (((d.snapSwapped copy time).signal 0 520).wr F.GLB_SNAP_PENDING 0).snapStart
      else (d.snapSwapped copy time).signal 0 520 := by
    simp only [Dev.snapComplete, h]
    rfl
  have pending : ((d.snapSwapped copy time).signal 0 520).rd F.GLB_SNAP_PENDING = d.rd F.GLB_SNAP_PENDING := by
    rw [signalled]
    exact d.snapSwapped_pending copy time
  refine ⟨pba, out, fun none => ?_, fun one => ?_⟩
  · rw [same, Dev.on, pending, none]
    exact signalled
  · rw [same, Dev.on, pending, one, signalled]
    rfl

/-- The copy that has been swapped in shows on the shelf and in GLB; a pending request has begun. -/
structure SnapServed (d e : Dev) (copy : SMap Dword) (time : Dword) : Prop where
  shelf : e.shelf = copy
  reg : ∀ a, a ≠ A.GLB_SNAP → e.reg a = (d.snapSwapped copy time).reg a
  pending : e.rd F.GLB_SNAP_PENDING = 0
  busy : e.rd F.GLB_SNAP_BUSY = d.rd F.GLB_SNAP_PENDING
  nudge : e.nudge = d.nudge

theorem Dev.snapComplete_serves {copy : SMap Dword} {time : Dword} (h : d.snap.taking = some (copy, time)) :
    SnapServed d d.snapComplete copy time := by
  obtain ⟨pba, out, idle, begins⟩ := Dev.snapComplete_cases h
  have one_bit : d.rd F.GLB_SNAP_PENDING < 2 := bits_lt _ _ _
  obtain none | one : d.rd F.GLB_SNAP_PENDING = 0 ∨ d.rd F.GLB_SNAP_PENDING = 1 := by omega
  · rw [idle none]
    exact ⟨rfl, fun _ _ => rfl, (d.snapSwapped_pending copy time).trans none, (d.snapSwapped_busy copy time).trans none.symm, rfl⟩
  · rw [begins one]
    obtain ⟨stat, begun⟩ := CountersOnly.snapStart
      (({ d.snapSwapped copy time with host := { d.host with pba := pba }, out := out } : Dev).wr F.GLB_SNAP_PENDING 0)
    refine ⟨by rw [begun]; rfl, fun a ha => ?_, ?_, ?_, by rw [begun]; rfl⟩
    · rw [Dev.snapStart_reg]
      exact (Dev.reg_setReg_of_ne _ _ ha).trans (Dev.reg_setReg_of_ne _ _ ha)
    · rw [Dev.snapStart_rd, Dev.rd_wr_of_disjoint _ _ (by decide) (by decide)]
      exact Dev.rd_wr_self _ _ 0 (by decide)
    · rw [Dev.snapStart_rd, one]
      exact Dev.rd_wr_self _ _ 1 (by decide)

/-- Settles O28: a request by what it finds under way, and the completion of a snapshot. -/
theorem snapshotsSampleAndSwap : Obligations.SnapshotsSampleAndSwap := by
  unfold Obligations.SnapshotsSampleAndSwap
  intro s p v
  refine ⟨fun take => ⟨glbSnapGo_begins take, fun busy none => ?_, fun busy pending => ?_⟩, fun copy time up taking => ?_⟩
  · exact glbSnapGo_counted take F.GLB_SNAP_PENDING 1 rfl (by decide)
      (Dev.snapRequest_of_busy ((s.dev.snapNoted_rd v rfl).trans busy) ((s.dev.snapNoted_rd v rfl).trans none))
  · obtain ⟨t, run, count, only⟩ := glbSnapGo_counted take F.GLB_SNAP_COALESCED _ rfl (by decide)
      (Dev.snapRequest_of_pending ((s.dev.snapNoted_rd v rfl).trans busy) ((s.dev.snapNoted_rd v rfl).trans pending))
    refine ⟨t, run, ?_, only⟩
    rw [count, s.dev.snapNoted_rd v rfl]
    exact Nat.mod_eq_of_lt (Nat.lt_of_le_of_lt (Nat.min_le_right _ _) (by decide))
  · have served := Dev.snapComplete_serves taking
    obtain ⟨⟨-, -, nudge, -⟩, -⟩ := id up
    obtain ⟨t, run, done⟩ := runAon_settled (f := fun _ d => d.snapComplete) up rfl (served.nudge.trans nudge)
    refine ⟨t, run, ?_, ?_, ?_, ?_, (done.rd _).trans served.pending, (done.rd _).trans served.busy⟩
    · rw [done.dev]
      exact served.shelf
    · rw [done.reg, served.reg _ (by decide), Dev.snapSwapped_reg]
      rfl
    · rw [done.reg, served.reg _ (by decide), Dev.snapSwapped_reg]
      exact loWord_toNat time
    · rw [done.reg, served.reg _ (by decide), Dev.snapSwapped_reg]
      exact hiWord_toNat time

end Sys2Proof.Machine
end

section
/-! PROOF. What an error record leaves of the configuration check, whatever its class where no power entry is under way: safe state and
the end of a recording change no word of the CFG block (R404, R408, R412, R415, R448). -/
namespace Sys2Proof.Machine

/-- The second device agrees with the first on the CFG block, on what the configuration check holds, on power states, and on what is left
for the end of the command. -/
structure KeepsCfg (d e : Dev) : Prop where
  cfg : e.cfg = d.cfg
  pwr : e.pwr = d.pwr
  nudge : e.nudge = d.nudge
  reg : ∀ a, Base.CFG ≤ a → a < Base.FRG → e.reg a = d.reg a

variable {d e : Dev}

theorem KeepsCfg.refl (d : Dev) : KeepsCfg d d := ⟨rfl, rfl, rfl, fun _ _ _ => rfl⟩

theorem KeepsCfg.trans {a b c : Dev} (h : KeepsCfg a b) (k : KeepsCfg b c) : KeepsCfg a c :=
  ⟨k.cfg.trans h.cfg, k.pwr.trans h.pwr, k.nudge.trans h.nudge, fun x lo hi => (k.reg x lo hi).trans (h.reg x lo hi)⟩

theorem KeepsCfg.rd (h : KeepsCfg d e) {f : Fld} (lo : Base.CFG ≤ f.addr) (hi : f.addr < Base.FRG) : e.rd f = d.rd f := by
  rw [Dev.rd, h.reg _ lo hi, Dev.rd]

/-- A device with the same registers, and the same of what is kept beside them. -/
theorem KeepsCfg.same {d e : Dev} (hr : e.regs = d.regs := by rfl) (hc : e.cfg = d.cfg := by rfl) (hp : e.pwr = d.pwr := by rfl)
    (hn : e.nudge = d.nudge := by rfl) : KeepsCfg d e :=
  ⟨hc, hp, hn, fun a _ _ => by rw [Dev.reg, hr]; rfl⟩

theorem KeepsCfg.ite {a b : Dev} {c : Prop} [Decidable c] (ha : KeepsCfg d a) (hb : KeepsCfg d b) : KeepsCfg d (if c then a else b) := by
  split
  · exact ha
  · exact hb

theorem KeepsCfg.when (h : KeepsCfg d e) (c : Bool) {f : Dev → Dev} (hf : ∀ x, KeepsCfg x (f x)) : KeepsCfg d (e.when c f) :=
  .ite (h.trans (hf e)) h

theorem KeepsCfg.whenNot (h : KeepsCfg d e) {c : Bool} (hc : c = false) (f : Dev → Dev) : KeepsCfg d (e.when c f) := by
  rw [hc]
  exact h

theorem KeepsCfg.each {α : Type} (xs : List α) {f : Dev → α → Dev} (hf : ∀ x a, KeepsCfg x (f x a)) (d : Dev) :
    KeepsCfg d (d.each xs f) := by
  induction xs generalizing d with
  | nil => exact .refl d
  | cons x xs ih => exact (hf d x).trans (ih (f d x))

theorem KeepsCfg.setReg (d : Dev) {a : Nat} (w : Word) (h : a < Base.CFG ∨ Base.FRG ≤ a) : KeepsCfg d (d.setReg a w) :=
  ⟨rfl, rfl, rfl, fun _ lo hi => Dev.reg_setReg_of_ne d w (by omega)⟩

theorem KeepsCfg.wr (d : Dev) {f : Fld} (v : Nat) (h : f.addr < Base.CFG ∨ Base.FRG ≤ f.addr := by decide) : KeepsCfg d (d.wr f v) :=
  .setReg d _ h

theorem KeepsCfg.count (d : Dev) (a n : Nat) : KeepsCfg d (d.count a n) := .same

theorem KeepsCfg.signal (d : Dev) (fn v : Nat) : KeepsCfg d (d.signal fn v) := by
  obtain ⟨pba, out, h⟩ := d.signal_cases fn v
  rw [h]
  exact .same

theorem KeepsCfg.hostBytes (bs : List Byte) (d : Dev) (a : Nat) : KeepsCfg d (d.hostBytes a bs) := by
  induction bs generalizing d a with
  | nil => exact .refl d
  | cons b bs ih => exact (KeepsCfg.same : KeepsCfg d (d.hostByte a b)).trans (ih _ _)

theorem KeepsCfg.peatWords (d : Dev) (i : Nat) (ws : List Word) : KeepsCfg d (d.peatWords i ws) := by
  induction d, i, ws using Dev.peatWords.induct with
  | case1 d i lo hi ws ih => exact (KeepsCfg.same : KeepsCfg d (d.setPeat i (hi ++ lo))).trans ih
  | case2 d i lo => exact .same
  | case3 d i => exact .refl d

/-! ### Records (R407, R408, R412) -/

/-- Consecutive words below the CFG block. -/
theorem KeepsCfg.setRegs (ws : List Word) (d : Dev) {a : Nat} (h : a + 4 * ws.length ≤ Base.CFG) : KeepsCfg d (d.setRegs a ws) := by
  induction ws generalizing d a with
  | nil => exact .refl d
  | cons w ws ih =>
    rw [List.length_cons] at h
    exact (KeepsCfg.setReg d w (.inl (by omega))).trans (ih _ (by omega))

theorem KeepsCfg.lostRecord (d : Dev) (cls : Nat) : KeepsCfg d (d.lostRecord cls) := (KeepsCfg.wr d _).trans (.wr _ _)

theorem KeepsCfg.placeRecord (d : Dev) (cls : Nat) {ws : List Word} (h : ws.length = 8) : KeepsCfg d (d.placeRecord cls ws) := by
  have first (x : Dev) : KeepsCfg x (x.setRegs A.ERR_FIRST_HDR ws) := .setRegs ws x (by rw [h]; decide)
  have next (x : Dev) : KeepsCfg x (x.setRegs A.ERR_NEXT_HDR ws) := .setRegs ws x (by rw [h]; decide)
  have escalated (x : Dev) : KeepsCfg x ((x.wr F.ERR_STATUS_ESCALATED 1).signal 0 512) := (KeepsCfg.wr x 1).trans (.signal _ _ _)
  unfold Dev.placeRecord
  refine .ite (first d) (.ite ((next d).when _ escalated) (.ite (.when ?_ _ escalated) (.lostRecord d cls)))
  exact (KeepsCfg.lostRecord d _).trans (next _)

theorem KeepsCfg.appendLog (d : Dev) (e : LogEntry) : KeepsCfg d (d.appendLog e) :=
  ((KeepsCfg.peatWords d _ _).trans (.wr _ _)).trans (.count _ _ _)

theorem KeepsCfg.logRecord (d : Dev) (cls code src : Nat) (ws : List Word) : KeepsCfg d (d.logRecord cls code src ws) := by
  have err (x : Dev) (r : ErrRt) : KeepsCfg x { x with err := r } := .same
  have appended (r : ErrRt) (e : LogEntry) : KeepsCfg d (({ d with err := r } : Dev).appendLog e) := (err d r).trans (.appendLog _ _)
  unfold Dev.logRecord
  refine .ite ((err d _).trans (.count _ _ _)) (.ite ?_ (.ite ?_ (.ite ?_ ((err d _).trans (.count _ _ _)))))
  · exact (appended _ _).trans (err _ _)
  · exact ((appended _ _).trans (err _ _)).trans (err _ _)
  · exact (((err d _).trans (err _ _)).trans (.count _ _ _)).trans (err _ _)

theorem KeepsCfg.record (d : Dev) (cls code subsys src : Nat) (i0 i1 : Word) : KeepsCfg d (d.record cls code subsys src i0 i1) := by
  have numbered (r : ErrRt) : KeepsCfg d (({ d with err := r } : Dev).count (Ctr.ERR_CLASS cls) 1) := .same
  unfold Dev.record
  exact .ite (.count d _ _) (((numbered _).trans (.placeRecord _ cls rfl)).trans (.logRecord _ _ _ _ _))

/-! ### Safe state (R415): a recording ends (R448), boot fails (R473), synthesizers bypass (R322) -/

theorem KeepsCfg.postChunk (d : Dev) (body : List Byte) : KeepsCfg d (d.postChunk body) := by
  have filled (f : FragalRt) (n : Nat) :
      KeepsCfg d ((({ d with frg := f } : Dev).wr F.FRG_OCB_FILL_CHUNKS n).count (Ctr.FRG 2) 1) :=
    ((KeepsCfg.same : KeepsCfg d { d with frg := f }).trans (.wr _ _)).trans (.count _ _ _)
  unfold Dev.postChunk
  exact .ite (((filled _ _).trans (.hostBytes _ _ _)).trans (.setReg _ _ (by decide))) (filled _ _)

theorem KeepsCfg.flushN (n : Nat) (d : Dev) : KeepsCfg d (Dev.flushN n d) := by
  induction n generalizing d with
  | zero => exact .refl d
  | succ n ih =>
    unfold Dev.flushN
    have taken (f : FragalRt) : KeepsCfg d { d with frg := f } := .same
    exact .ite (.refl d) (((taken _).trans (.postChunk _ _)).trans (ih _))

theorem KeepsCfg.appendRecord (d : Dev) (r : List Byte) : KeepsCfg d (d.appendRecord r) := by
  have taken (f : FragalRt) : KeepsCfg d { d with frg := f } := .same
  exact (((taken _).trans (.count _ _ _)).trans (.count _ _ _)).trans (.flushN _ _)

theorem KeepsCfg.fragEnd (d : Dev) (cause : Nat) : KeepsCfg d (d.fragEnd cause) := by
  have stopped : KeepsCfg d ((((d.wr F.FRG_STATUS_STATE Frg.STOPPED).wr F.FRG_STATUS_END_CAUSE cause).frgEvt 1).wr F.FRG_CMD_BUSY 0) :=
    (((KeepsCfg.wr d _).trans (.wr _ _)).trans (.setReg _ _ (by decide))).trans (.wr _ _)
  have frg (x : Dev) (f : FragalRt) : KeepsCfg x { x with frg := f } := .same
  unfold Dev.fragEnd
  refine .ite (.refl d) (.ite stopped ?_)
  have ended (xs : List (Nat × List Nat)) (g : Nat × List Nat → List Byte) (r : List Byte) := (stopped.trans
    (KeepsCfg.each xs (fun x o => KeepsCfg.appendRecord x (g o)) _)).trans (.appendRecord _ r)
  refine .ite ((ended _ _ _).trans (frg _ _)) (.ite ?_ (((ended _ _ _).trans (frg _ _)).trans (.appendRecord _ _)))
  exact (((ended _ _ _).trans (frg _ _)).trans (frg _ _)).trans (.flushN 1 _)

theorem KeepsCfg.fragFatal (d : Dev) : KeepsCfg d d.fragFatal := by
  have tail (f : FragalRt) : KeepsCfg d { d.fragEnd 2 with frg := f } := (KeepsCfg.fragEnd d 2).trans .same
  unfold Dev.fragFatal
  exact .ite (.fragEnd d 2) ((tail _).trans (.peatWords _ _ _))

/-- Safe state with no power entry to abandon (R402). -/
theorem KeepsCfg.enterSafe (d : Dev) (h : d.pwr.toward = 0) : KeepsCfg d d.enterSafe := by
  have safe := (KeepsCfg.wr d (f := F.ERR_STATUS_SAFE) 1).trans (.fragFatal _)
  have bypass (x : Dev) (m : Nat) : KeepsCfg x
      (if x.ustate (0x0A0 + m) = 0 then x else (x.wr (F.MCS_STATUS_BYPASS m) 1).wr (F.MCS_STATUS_LOCKED m) 0) :=
    .ite (.refl x) ((KeepsCfg.wr x 1 (.inr (by simp only [A.MCS_STATUS, Base.FRG, Base.MCS]; omega))).trans
      (.wr _ 0 (.inr (by simp only [A.MCS_STATUS, Base.FRG, Base.MCS]; omega))))
  have boot := safe.when ((d.wr F.ERR_STATUS_SAFE 1).fragFatal.rd F.MGT_BOOT_STATUS_STATE == 1)
    (f := fun x => x.wr F.MGT_BOOT_STATUS_STATE 4) (fun x => .wr x 4)
  unfold Dev.enterSafe
  exact (boot.whenNot (by rw [boot.pwr, h]; rfl) _).trans (.each _ bypass _)

/-- A record that no unit or subsystem faults with (R404). -/
theorem KeepsCfg.raise (d : Dev) {cls : Nat} (hc : cls = 0 ∨ cls = 3) (code subsys src : Nat) (i0 i1 : Word) (h : d.pwr.toward = 0) :
    KeepsCfg d (d.raise cls code subsys src i0 i1) := by
  have recorded := KeepsCfg.record d cls code subsys src i0 i1
  obtain rfl | rfl := hc
  · exact recorded
  · exact .ite recorded (.ite (recorded.trans .same) (recorded.trans (.enterSafe _ (by rw [recorded.pwr, h]))))

end Sys2Proof.Machine
end

section
/-! PROOF. O29: the configuration check (R69–R71). -/
namespace Sys2Proof.Machine

variable {d e : Dev} {crc : Word} {p : Path} {v : Word}

/-- What a scan that gave `crc` shows, whatever the comparison with the reference finds; and no power entry is under way. -/
structure Scanned (crc : Word) (valid : Nat) (d : Dev) : Prop where
  now : d.reg A.CFG_CRC_NOW = crc
  clean : d.cfg.dirty = false
  valid : d.rd F.CFG_STATUS_VALID = valid
  settled : d.pwr.toward = 0
  nudge : d.nudge = []

theorem Scanned.keeps {n : Nat} (h : Scanned crc n d) (k : KeepsCfg d e) : Scanned crc n e where
  now := (k.reg _ (by decide) (by decide)).trans h.now
  clean := by rw [k.cfg, h.clean]
  valid := (k.rd (by decide) (by decide)).trans h.valid
  settled := by rw [k.pwr, h.settled]
  nudge := k.nudge.trans h.nudge

theorem Scanned.setReg {n : Nat} (h : Scanned crc n d) (a : Nat) (w : Word)
    (ha : A.CFG_CRC_NOW ≠ a ∧ A.CFG_STATUS ≠ a := by decide) : Scanned crc n (d.setReg a w) where
  now := (Dev.reg_setReg_of_ne d w ha.1).trans h.now
  clean := h.clean
  valid := (Dev.rd_setReg_of_ne d w ha.2).trans h.valid
  settled := h.settled
  nudge := h.nudge

theorem Scanned.wr {n : Nat} (h : Scanned crc n d) (f : Fld) (x : Nat) (hn : A.CFG_CRC_NOW ≠ f.addr := by decide)
    (hf : f.lo + f.width ≤ 32 := by decide) (hv : f.addr ≠ A.CFG_STATUS ∨ 1 ≤ f.lo := by decide) : Scanned crc n (d.wr f x) where
  now := (Dev.reg_setReg_of_ne d _ hn).trans h.now
  clean := h.clean
  valid := by
    obtain other | above := hv
    · exact (Dev.rd_wr_of_ne d x (f := f) (g := F.CFG_STATUS_VALID) other.symm).trans h.valid
    · exact (Dev.rd_wr_of_disjoint d (g := F.CFG_STATUS_VALID) x hf (.inl above)).trans h.valid
  settled := h.settled
  nudge := h.nudge

/-! ### The result, the capture and the comparison -/

/-- The result of a scan in CFG_CRC_NOW, and whether it is valid. -/
def Dev.scanResult (d : Dev) (crc : Word) : Dev :=
  ({ d with cfg := { d.cfg with dirty := false } }.setReg A.CFG_CRC_NOW crc).wr F.CFG_STATUS_VALID (bit (!d.cfg.dirty))

theorem Dev.scanResult_reg (d : Dev) (crc : Word) {a : Nat} (now : a ≠ A.CFG_CRC_NOW) (status : a ≠ A.CFG_STATUS) :
    (d.scanResult crc).reg a = d.reg a :=
  (Dev.reg_setReg_of_ne _ _ status).trans (Dev.reg_setReg_of_ne _ _ now)

theorem Dev.scanResult_rd (d : Dev) (crc : Word) {f : Fld} (now : f.addr ≠ A.CFG_CRC_NOW := by decide)
    (status : f.addr ≠ A.CFG_STATUS := by decide) : (d.scanResult crc).rd f = d.rd f := by
  rw [Dev.rd, d.scanResult_reg crc now status, Dev.rd]

theorem scanned_scanResult (h : d.pwr.toward = 0) (hn : d.nudge = []) :
    Scanned crc (if d.cfg.dirty then 0 else 1) (d.scanResult crc) where
  now := (Dev.reg_setReg_of_ne _ _ (by decide)).trans (Dev.reg_setReg_self _ _ _)
  clean := rfl
  valid := (Dev.rd_wr_self _ _ _ (by decide)).trans (by cases d.cfg.dirty <;> rfl)
  settled := h
  nudge := hn

/-- A difference found by a valid scan is flagged and counted (R70). -/
def Dev.mismatched (d : Dev) : Dev :=
  (if d.on F.CFG_STATUS_MISMATCH then d else (d.wr F.CFG_STATUS_MISMATCH 1).wr F.CFG_STATUS_MISMATCH_EVT 1).sat
    F.CFG_MISMATCH_COUNT_COUNT 1

theorem Dev.mismatched_flag (d : Dev) : d.mismatched.rd F.CFG_STATUS_MISMATCH = 1 := by
  refine (Dev.rd_wr_of_ne _ _ (by decide)).trans ?_
  split
  · next on =>
    have one_bit : d.rd F.CFG_STATUS_MISMATCH < 2 := bits_lt _ _ _
    have nonzero : d.rd F.CFG_STATUS_MISMATCH ≠ 0 := by simpa [Dev.on] using on
    omega
  · exact (Dev.rd_wr_of_disjoint _ 1 (by decide) (by decide)).trans (Dev.rd_wr_self _ _ 1 (by decide))

theorem Dev.mismatched_count (d : Dev) :
    d.mismatched.rd F.CFG_MISMATCH_COUNT_COUNT = min (d.rd F.CFG_MISMATCH_COUNT_COUNT + 1) 0xFFFFFFFF := by
  have counts (x : Dev) : (x.sat F.CFG_MISMATCH_COUNT_COUNT 1).rd F.CFG_MISMATCH_COUNT_COUNT =
      min (x.rd F.CFG_MISMATCH_COUNT_COUNT + 1) 0xFFFFFFFF :=
    (Dev.rd_wr_self x _ _ (by decide)).trans (Nat.mod_eq_of_lt (Nat.lt_of_le_of_lt (Nat.min_le_right _ _) (by decide)))
  refine (counts _).trans ?_
  split
  · rfl
  · rw [Dev.rd_wr_of_ne _ 1 (by decide), Dev.rd_wr_of_ne _ 1 (by decide)]

theorem Scanned.mismatched {n : Nat} (h : Scanned crc n d) : Scanned crc n d.mismatched := by
  have flagged : Scanned crc n (if d.on F.CFG_STATUS_MISMATCH then d
      else (d.wr F.CFG_STATUS_MISMATCH 1).wr F.CFG_STATUS_MISMATCH_EVT 1) := by
    split
    · exact h
    · exact (h.wr _ 1).wr _ 1
  exact flagged.wr _ _

theorem Dev.compareConfig_of_unset (h : d.rd F.CFG_CTRL_REF_VALID = 0) : d.compareConfig crc = d := by
  simp [Dev.compareConfig, Dev.on, h]

theorem Dev.compareConfig_of_equal (h : d.rd F.CFG_CTRL_REF_VALID = 1) (heq : d.reg A.CFG_CRC_REF = crc) :
    d.compareConfig crc = d.wr F.CFG_STATUS_MISMATCH 0 := by
  simp [Dev.compareConfig, Dev.on, h, heq]

/-- The record of a difference leaves the CFG block as the count left it (R404). -/
theorem Dev.compareConfig_of_differing (h : d.rd F.CFG_CTRL_REF_VALID = 1) (hne : d.reg A.CFG_CRC_REF ≠ crc) (hp : d.pwr.toward = 0) :
    KeepsCfg d.mismatched (d.compareConfig crc) := by
  have raised : ∃ cls w, (cls = 0 ∨ cls = 3) ∧ d.compareConfig crc = d.mismatched.raise cls 0x09 0xB 0 crc w := by
    simp only [Dev.compareConfig, Dev.on, h, if_neg hne.symm]
    exact ⟨_, _, (ite_eq_or_eq _ 3 0).symm, rfl⟩
  have toward : d.mismatched.pwr.toward = 0 := by
    unfold Dev.mismatched
    split <;> exact hp
  obtain ⟨cls, w, hcls, same⟩ := raised
  rw [same]
  exact .raise _ hcls _ _ _ _ _ toward

theorem Scanned.compareConfig {n : Nat} (h : Scanned crc n d) : Scanned crc n (d.compareConfig crc) := by
  have one_bit : d.rd F.CFG_CTRL_REF_VALID < 2 := bits_lt _ _ _
  obtain unset | set : d.rd F.CFG_CTRL_REF_VALID = 0 ∨ d.rd F.CFG_CTRL_REF_VALID = 1 := by omega
  · rwa [Dev.compareConfig_of_unset unset]
  · by_cases heq : d.reg A.CFG_CRC_REF = crc
    · rw [Dev.compareConfig_of_equal set heq]
      exact h.wr _ 0
    · exact h.mismatched.keeps (Dev.compareConfig_of_differing set heq h.settled)

/-- The reference a capture sets (R71). -/
def Dev.captured (d : Dev) (crc : Word) : Dev :=
  ((d.setReg A.CFG_CRC_REF crc).wr F.CFG_CTRL_REF_VALID 1).wr F.CFG_CRC_CAPTURE_BUSY 0

theorem Dev.captured_ref (d : Dev) (crc : Word) : (d.captured crc).reg A.CFG_CRC_REF = crc :=
  (Dev.reg_setReg_of_ne _ _ (by decide)).trans ((Dev.reg_setReg_of_ne _ _ (by decide)).trans (Dev.reg_setReg_self _ _ _))

theorem Dev.captured_refValid (d : Dev) (crc : Word) : (d.captured crc).rd F.CFG_CTRL_REF_VALID = 1 :=
  (Dev.rd_wr_of_ne _ _ (by decide)).trans (Dev.rd_wr_self _ _ 1 (by decide))

theorem Dev.captured_busy (d : Dev) (crc : Word) : (d.captured crc).rd F.CFG_CRC_CAPTURE_BUSY = 0 :=
  Dev.rd_wr_self _ _ 0 (by decide)

theorem Dev.captureConfig_of_waiting (h : d.rd F.CFG_CRC_CAPTURE_BUSY = 1) : d.captureConfig crc = d.captured crc := by
  simp [Dev.captureConfig, Dev.on, h, Dev.captured]

theorem Dev.captureConfig_of_none (h : d.rd F.CFG_CRC_CAPTURE_BUSY = 0) : d.captureConfig crc = d := by
  simp [Dev.captureConfig, Dev.on, h]

/-- Whether or not a capture waits, the reference after it is valid and agrees where it was and did. -/
theorem Dev.captureConfig_agrees (h : d.rd F.CFG_CTRL_REF_VALID = 1) (heq : d.reg A.CFG_CRC_REF = crc) :
    (d.captureConfig crc).rd F.CFG_CTRL_REF_VALID = 1 ∧ (d.captureConfig crc).reg A.CFG_CRC_REF = crc := by
  have one_bit : d.rd F.CFG_CRC_CAPTURE_BUSY < 2 := bits_lt _ _ _
  obtain none | waits : d.rd F.CFG_CRC_CAPTURE_BUSY = 0 ∨ d.rd F.CFG_CRC_CAPTURE_BUSY = 1 := by omega
  · rw [Dev.captureConfig_of_none none]
    exact ⟨h, heq⟩
  · rw [Dev.captureConfig_of_waiting waits]
    exact ⟨d.captured_refValid crc, d.captured_ref crc⟩

theorem Scanned.captureConfig {n : Nat} (h : Scanned crc n d) : Scanned crc n (d.captureConfig crc) := by
  unfold Dev.captureConfig
  split
  · exact ((h.setReg _ _).wr _ _).wr _ _
  · exact h

theorem Dev.scanEnds_of_dirty (h : d.cfg.dirty = true) : d.scanEnds crc = d.scanResult crc := by
  simp [Dev.scanEnds, Dev.scanResult, h]

theorem Dev.scanEnds_of_clean (h : d.cfg.dirty = false) :
    d.scanEnds crc = ((d.scanResult crc).captureConfig crc).compareConfig crc := by
  simp [Dev.scanEnds, Dev.scanResult, h]

theorem scanned_scanEnds (hp : d.pwr.toward = 0) (hn : d.nudge = []) :
    Scanned crc (if d.cfg.dirty then 0 else 1) (d.scanEnds crc) := by
  have result := scanned_scanResult (crc := crc) hp hn
  by_cases h : d.cfg.dirty = true
  · rwa [Dev.scanEnds_of_dirty h]
  · rw [Dev.scanEnds_of_clean (Bool.eq_false_iff.mpr h)]
    exact result.captureConfig.compareConfig

/-! ### What a valid scan does with the reference -/

/-- A capture that waits takes the result, which then agrees with itself. -/
theorem Dev.scanEnds_captures (clean : d.cfg.dirty = false) (waits : d.rd F.CFG_CRC_CAPTURE_BUSY = 1) :
    d.scanEnds crc = ((d.scanResult crc).captured crc).wr F.CFG_STATUS_MISMATCH 0 := by
  rw [Dev.scanEnds_of_clean clean, Dev.captureConfig_of_waiting ((d.scanResult_rd crc).trans waits),
    Dev.compareConfig_of_equal (Dev.captured_refValid _ _) (Dev.captured_ref _ _)]

theorem Dev.scanEnds_differs (clean : d.cfg.dirty = false) (none : d.rd F.CFG_CRC_CAPTURE_BUSY = 0)
    (valid : d.rd F.CFG_CTRL_REF_VALID = 1) (differs : d.reg A.CFG_CRC_REF ≠ crc) (hp : d.pwr.toward = 0) :
    KeepsCfg (d.scanResult crc).mismatched (d.scanEnds crc) := by
  rw [Dev.scanEnds_of_clean clean, Dev.captureConfig_of_none ((d.scanResult_rd crc).trans none)]
  refine Dev.compareConfig_of_differing ((d.scanResult_rd crc).trans valid) ?_ hp
  rwa [Dev.scanResult_reg _ _ (by decide) (by decide)]

theorem Dev.scanEnds_agrees (clean : d.cfg.dirty = false) (valid : d.rd F.CFG_CTRL_REF_VALID = 1) (agrees : d.reg A.CFG_CRC_REF = crc) :
    (d.scanEnds crc).rd F.CFG_STATUS_MISMATCH = 0 := by
  obtain ⟨refValid, ref⟩ := Dev.captureConfig_agrees (d := d.scanResult crc) ((d.scanResult_rd crc).trans valid)
    ((d.scanResult_reg crc (by decide) (by decide)).trans agrees)
  rw [Dev.scanEnds_of_clean clean, Dev.compareConfig_of_equal refValid ref]
  exact Dev.rd_wr_self _ _ 0 (by decide)

/-! ### The writes of the block -/

theorem merge_ones (old v : Word) : merge old 0xFFFFFFFF v = v := by
  have all : v &&& 0xFFFFFFFF = v := and_ones v
  have none : old &&& ~~~0xFFFFFFFF = 0 := BitVec.and_zero
  rw [merge, all, none]
  exact BitVec.zero_or

/-- GO of CFG_CRC_CAPTURE written whole. -/
theorem Dev.writeReg_cfgCrcCapture (d : Dev) (env : Env) (p : Path) (v : Word) :
    d.writeReg env p .cfg 0xC A.CFG_CRC_CAPTURE 0xFFFFFFFF (withGo v) =
      (d.noteReserved .cfg 0xC A.CFG_CRC_CAPTURE (withGo v)).wr F.CFG_CRC_CAPTURE_BUSY 1 := by
  have whole : withGo v &&& 0xFFFFFFFF = withGo v := and_ones _
  simp only [Dev.writeReg, Dev.writeCfg, whole, getLsbD_withGo]
  rfl

theorem cfgCrcCapture_waits {s : State} (take : s.TakesWrite p A.CFG_CRC_CAPTURE) :
    Completes (.cfgCrcCapture p v) s (fun t => t.dev.rd F.CFG_CRC_CAPTURE_BUSY = 1 ∧
      OnlyRegs (fun a => a = A.CFG_CRC_CAPTURE ∨ rsvWord a) s t) := by
  have effect := poke_of_takesWrite (env := s.env) (v := withGo v) take (b := .cfg) (off := 0xC) rfl
  rw [Dev.writeReg_cfgCrcCapture] at effect
  have noted := RegsFrame.noteReserved_unitless s.dev .cfg 0xC (a := A.CFG_CRC_CAPTURE) (withGo v) rfl
  obtain ⟨t, run, only, regs⟩ := runAon_onlyRegs (W := fun a => a = A.CFG_CRC_CAPTURE ∨ rsvWord a)
    (f := fun env d => d.poke env p A.CFG_CRC_CAPTURE (withGo v)) take.1 effect ((noted.mono fun _ => .inr).setReg _ (.inl rfl))
  refine ⟨t, run, ?_, only⟩
  rw [Dev.rd, regs]
  exact Dev.rd_wr_self _ _ 1 (by decide)

/-- CFG_CRC_REF is one field of 32 bits that is written as it stands; no bit of it is reserved. -/
theorem Dev.writeReg_cfgCrcRef (d : Dev) (env : Env) (p : Path) (v : Word) :
    d.writeReg env p .cfg 0x8 A.CFG_CRC_REF 0xFFFFFFFF v = (d.setReg A.CFG_CRC_REF v).wr F.CFG_CTRL_REF_VALID 1 := by
  have reserved : v &&& 0xFFFFFFFF &&& reservedBits .cfg 0x8 = 0 := by
    rw [show reservedBits .cfg 0x8 = 0 from by decide +kernel]
    exact BitVec.and_zero
  have written : d.plainWrite p .cfg 0x8 A.CFG_CRC_REF 0xFFFFFFFF v = d.setReg A.CFG_CRC_REF v := by
    have mask : (0xFFFFFFFF : Word) &&& accMask (· == .rw) (fieldsAt .cfg 0x8) = 0xFFFFFFFF := by decide +kernel
    rw [Dev.plainWrite_of_rw (by decide +kernel) rfl (by simp [Dev.badFields, reservedValue]) rfl, mask, if_neg (by decide),
      merge_ones]
  simp only [Dev.writeReg, Dev.noteReserved_of_none reserved, Dev.writeCfg, written]
  rfl

theorem cfgRefWrite_sets {s : State} (take : s.TakesWrite p A.CFG_CRC_REF) :
    Completes (.cfgRefWrite p v) s (fun t => t.dev.reg A.CFG_CRC_REF = v ∧ t.dev.rd F.CFG_CTRL_REF_VALID = 1 ∧
      OnlyRegs (fun a => a = A.CFG_CRC_REF ∨ a = A.CFG_CTRL) s t) := by
  have effect := poke_of_takesWrite (env := s.env) (v := v) take (b := .cfg) (off := 0x8) rfl
  rw [Dev.writeReg_cfgCrcRef] at effect
  obtain ⟨t, run, only, regs⟩ := runAon_onlyRegs (W := fun a => a = A.CFG_CRC_REF ∨ a = A.CFG_CTRL)
    (f := fun env d => d.poke env p A.CFG_CRC_REF v) take.1 effect (((RegsFrame.refl _ _).setReg _ (.inl rfl)).setReg _ (.inr rfl))
  refine ⟨t, run, ?_, ?_, only⟩
  · rw [regs]
    exact (Dev.reg_setReg_of_ne _ _ (by decide)).trans (Dev.reg_setReg_self _ _ _)
  · rw [Dev.rd, regs]
    exact Dev.rd_wr_self _ _ 1 (by decide)

theorem Dev.toward_of_coreOn (h : d.coreOn = true) : d.pwr.toward = 0 := by
  simp only [Dev.coreOn, Bool.and_eq_true, beq_iff_eq] at h
  exact h.2

/-- Settles O29: the scan with its capture and its comparison, and the two writes of the reference. -/
theorem configurationIsChecked : Obligations.ConfigurationIsChecked := by
  unfold Obligations.ConfigurationIsChecked
  intro s p v crc
  refine ⟨fun up => ?_, cfgCrcCapture_waits, cfgRefWrite_sets⟩
  obtain ⟨⟨⟨-, memw, nudge, -⟩, -⟩, core⟩ := id up
  have toward := Dev.toward_of_coreOn core
  have scanned := scanned_scanEnds (crc := crc) toward nudge
  have effect : s.dev.scanEnds (s.dev.configCrc (s.dev.memNow s.env)) = s.dev.scanEnds crc := by
    rw [Dev.memNow, memw]
    rfl
  obtain ⟨t, run, done⟩ := run_settled (f := fun env d => d.scanEnds (d.configCrc (d.memNow env))) up effect scanned.nudge
  have clean : t.dev.cfg.dirty = false := by rw [done.dev]; exact scanned.clean
  refine ⟨t, run, (done.reg _).trans scanned.now, clean, (done.rd _).trans scanned.valid, fun clean waits => ?_,
    fun clean none valid _ differs => ?_, fun clean valid agrees => (done.rd _).trans (Dev.scanEnds_agrees clean valid agrees)⟩
  · rw [done.reg, done.rd, done.rd, done.rd, Dev.scanEnds_captures clean waits]
    exact ⟨(Dev.reg_setReg_of_ne _ _ (by decide)).trans (Dev.captured_ref _ _),
      (Dev.rd_wr_of_ne _ _ (by decide)).trans (Dev.captured_refValid _ _),
      (Dev.rd_wr_of_ne _ _ (by decide)).trans (Dev.captured_busy _ _), Dev.rd_wr_self _ _ 0 (by decide)⟩
  · have kept := Dev.scanEnds_differs clean none valid differs toward
    rw [done.rd, done.rd, kept.rd (by decide) (by decide), kept.rd (by decide) (by decide), Dev.mismatched_flag, Dev.mismatched_count,
      Dev.scanResult_rd]
    exact ⟨rfl, rfl⟩

end Sys2Proof.Machine
end

section
/-! PROOF. O27: held, staged and posted writes of a link (R52, R54–R59). -/
namespace Sys2Proof.Machine

variable {d e : Dev} {w : Staged} {n : Fin 24} {p : Path} {v : Word}

/-! ### The unit of a link -/

theorem unitKind_link : ∀ n : Fin 24, unitKind (0x010 + n.val) = .link n := by decide

theorem boundaryAtOnce_link : ∀ n : Fin 24, boundaryAtOnce (0x010 + n.val) = false := by decide

theorem commitRegsOf_link (n : Fin 24) : commitRegsOf (0x010 + n.val) = [A.LNK_COMMIT n] := by
  rw [commitRegsOf, unitKind_link]

theorem waitsForInstant_link (n : Fin 24) {k : Nat} (h : k ≠ 1) : waitsForInstant (0x010 + n.val, k) = false := by
  simp [waitsForInstant, unitKind_link, h]

theorem Dev.boundaryComes_link (d : Dev) (n : Fin 24) : d.boundaryComes (0x010 + n.val) = true := by
  rw [Dev.boundaryComes, unitKind_link]

theorem Dev.sourceMoved_link (d old : Dev) (n : Fin 24) : d.sourceMoved old (0x010 + n.val) = d := by
  rw [Dev.sourceMoved, unitKind_link]

/-- No set of a link but its preemption set has an effect beside its words (R186, R192). -/
theorem Dev.onApply_link (d : Dev) (n : Fin 24) {set : Option Nat} (h : set ≠ some 2) (as : List Nat) :
    d.onApply (0x010 + n.val) set as = d := by
  simp only [Dev.onApply, unitKind_link, if_neg h]

theorem Dev.onAccept_link (d cand : Dev) (n : Fin 24) {k : Nat} (h : k ≠ 1) : d.onAccept cand (0x010 + n.val, k) = d := by
  simp only [Dev.onAccept, unitKind_link, if_neg h]

theorem setOfReg_link {reg k : Nat} : setOfReg reg (0x010 + n.val, k) = true ↔ reg = A.LNK_COMMIT n := by
  simp [setOfReg, commitRegsOf_link]

theorem unitOfAddr_lnkCommit : ∀ n : Fin 24, unitOfAddr (A.LNK_COMMIT n) = some (0x010 + n.val) := by decide

/-! ### A set that GO accepts -/

/-- The device with nothing held. -/
abbrev Dev.unheld (d : Dev) : Dev := { d with held := [] }

/-- One write is held, in a set of a link that is not OFF; the device takes commits and the set's check has passed. -/
structure OneSetHeld (d : Dev) (w : Staged) (n : Fin 24) (k : Nat) : Prop where
  held : d.held = [w]
  accepted : d.accepted = []
  set : w.setId = some (0x010 + n.val, k)
  boundary : k ≠ 1
  live : d.ustate (0x010 + n.val) ≠ 0
  safe : d.safe = false
  allowed : d.cfgRefuses 0 0 = false
  addr : ¬ w.addr < 0x50000
  check : d.unheld.setCheck (d.applyOne w) (0x010 + n.val, k) [] = (0, 0)

/-- The device with these accepted sets. -/
abbrev Dev.withAccepted (d : Dev) (sets : List (SetId × List Staged)) : Dev := { d with accepted := sets }

theorem Dev.withAccepted_parts (d : Dev) (sets : List (SetId × List Staged)) :
    (d.withAccepted sets).held = d.held ∧ (d.withAccepted sets).accepted = sets ∧ (d.withAccepted sets).nudge = d.nudge ∧
      ∀ a, (d.withAccepted sets).reg a = d.reg a :=
  ⟨rfl, rfl, rfl, fun _ => rfl⟩

theorem Dev.withAccepted_rd (d : Dev) (sets : List (SetId × List Staged)) (f : Fld) : (d.withAccepted sets).rd f = d.rd f := rfl

theorem RegsFrame.wr {W : Nat → Prop} (h : RegsFrame W d e) (f : Fld) (x : Nat) (hf : W f.addr) : RegsFrame W d (e.wr f x) :=
  h.setReg _ hf

/-- The outcome of a check is one word of the unit's descriptor (R33). -/
theorem RegsFrame.accept (d : Dev) (u : Nat) : RegsFrame (· = A.UNIT_STATE u) d (d.accept u) :=
  ((RegsFrame.refl (· = A.UNIT_STATE u) d).wr (F.UNIT_STATE_REASON u) 0 rfl).wr (F.UNIT_STATE_DETAIL u) 0 rfl

/-- The device once the set is accepted: nothing is held, and the set waits for the link's boundary. -/
def Dev.setAccepted (d : Dev) (w : Staged) (n : Fin 24) (k : Nat) : Dev :=
  (d.unheld.accept (0x010 + n.val)).withAccepted [((0x010 + n.val, k), [w])]

theorem not_rsvWord_unitState (n : Fin 24) : ¬ rsvWord (A.UNIT_STATE (0x010 + n.val)) := by
  unfold rsvWord A.GLB_RSV_WRITES A.UNIT_STATE Base.UNIT
  omega

theorem not_rsvWord_of_le {a : Nat} (h : 0x50000 ≤ a) : ¬ rsvWord a := by
  unfold rsvWord A.GLB_RSV_WRITES
  omega

/-- A set that is ready before reserved bits are counted is ready after it, if its check passes then. -/
theorem oneSetHeld_of_frame {k : Nat} (frame : RegsFrame rsvWord d e) (held : d.held = [w]) (accepted : d.accepted = [])
    (set : w.setId = some (0x010 + n.val, k)) (boundary : k ≠ 1) (live : d.ustate (0x010 + n.val) ≠ 0) (safe : d.safe = false)
    (allowed : d.cfgRefuses 0 0 = false) (addr : ¬ w.addr < 0x50000)
    (check : e.unheld.setCheck (e.applyOne w) (0x010 + n.val, k) [] = (0, 0)) : OneSetHeld e w n k where
  held := by rw [frame.eq, held]
  accepted := by rw [frame.eq, accepted]
  set := set
  boundary := boundary
  live := by rwa [Dev.ustate, frame.rd (not_rsvWord_unitState n), ← Dev.ustate]
  safe := by rwa [Dev.safe, Dev.on, frame.rd (by unfold rsvWord; decide), ← Dev.on, ← Dev.safe]
  allowed := by
    rwa [Dev.cfgRefuses, Dev.on, frame.rd (by unfold rsvWord; decide), frame.rd (by unfold rsvWord; decide), ← Dev.on, ← Dev.cfgRefuses]
  addr := addr
  check := check

theorem OneSetHeld.heldSets {k : Nat} (h : OneSetHeld d w n k) (mask : w.mask ≠ 0) : d.heldSets = [(0x010 + n.val, k)] := by
  rw [Dev.heldSets, h.held, List.filterMap_cons_some (by rw [if_neg mask, h.set])]
  rfl

theorem OneSetHeld.live_setAccepted {k : Nat} (h : OneSetHeld d w n k) : (d.setAccepted w n k).ustate (0x010 + n.val) ≠ 0 := by
  have kept := (Dev.accept_words d.unheld (0x010 + n.val)).1
  rw [Dev.setAccepted, Dev.ustate, Dev.withAccepted_rd, ← Dev.ustate, kept]
  exact h.live

/-- The set passes its check, so it is accepted; the link is not OFF, so it waits (R56). -/
theorem OneSetHeld.commitSet {k : Nat} (h : OneSetHeld d w n k) :
    d.commitSet [w] 0 (0x010 + n.val, k) = (d.setAccepted w n k, (0, 0)) := by
  have allowed : d.unheld.cfgRefuses 0 0 = false := h.allowed
  have safe : d.unheld.safe = false := h.safe
  have mine : d.held.filter (fun x => x.setId == some (0x010 + n.val, k)) = [w] := by simp [h.held, h.set]
  have rest : d.held.filter (fun x => x.setId != some (0x010 + n.val, k)) = [] := by simp [h.held, h.set]
  have go : [w].filter (jointly (0x010 + n.val, k)) = [w] := by simp [jointly, h.set]
  have cabinets : [w].filterMap (fun x => if x.addr < 0x50000 then some ((x.addr - 0x10000) / 0x40) else none) = [] :=
    List.filterMap_cons_none (if_neg h.addr)
  have waits : (decide ((d.setAccepted w n k).ustate (0x010 + n.val) = 0) || boundaryAtOnce (0x010 + n.val)) = false := by
    simp [h.live_setAccepted, boundaryAtOnce_link]
  have nonzero : 0x010 + n.val ≠ 0 := by omega
  unfold Dev.commitSet
  extract_lets held cand us d' early verdict accepted waiting
  have unheld : d' = d.unheld := congrArg (fun x => ({ d with held := x } : Dev)) rest
  have candidate : cand = d.applyOne w := congrArg (fun x => d.each x Dev.applyOne) go
  have none : us = [] := by
    show (held.filterMap _).eraseDups = []
    rw [show held = [w] from mine, cabinets]
    rfl
  have passed : verdict = (0, 0) := by
    have calm : early = (0, 0) := by simp [early, unheld, firstOf, allowed, safe]
    simp only [verdict, calm, unheld, candidate, none, h.check]
    rfl
  have set : waiting = d.setAccepted w n k := by
    have plain : accepted = d.unheld.accept (0x010 + n.val) := by
      rw [← unheld]
      exact Dev.onAccept_link _ _ n h.boundary
    have sets : accepted.accepted ++ [((0x010 + n.val, k), held)] = [((0x010 + n.val, k), [w])] := by
      rw [show held = [w] from mine, plain, (RegsFrame.accept _ _).eq, show d.unheld.accepted = [] from h.accepted]
      rfl
    show accepted.withAccepted _ = _
    rw [sets, plain, Dev.setAccepted]
  rw [passed, set, if_neg (by decide), if_neg nonzero, waits]
  rfl

/-- What GO writes to the commit register of a set it has accepted: REASON 0 and PENDING (R54, R56). -/
def Dev.goAnswered (d : Dev) (reg : Nat) : Dev :=
  let d := d.setReg reg (putBits (d.reg reg) 8 8 0)
  d.setReg reg (putBits (d.reg reg) 1 1 1)

theorem Dev.goAnswered_regs (d : Dev) (reg : Nat) : RegsFrame (· = reg) d (d.goAnswered reg) :=
  ((RegsFrame.refl (· = reg) d).setReg _ rfl).setReg _ rfl

theorem Dev.goAnswered_word (d : Dev) (reg : Nat) : (d.goAnswered reg).reg reg = putBits (putBits (d.reg reg) 8 8 0) 1 1 1 := by
  simp [Dev.goAnswered]

theorem Dev.setAccepted_any (d : Dev) (w : Staged) (n : Fin 24) (k x : Nat) :
    ((d.setAccepted w n k).setReg (A.LNK_COMMIT n) (putBits ((d.setAccepted w n k).reg (A.LNK_COMMIT n)) 8 8 x)).accepted.any
      (fun s => setOfReg (A.LNK_COMMIT n) s.1) = true := by
  show [((0x010 + n.val, k), [w])].any _ = true
  simp [setOfReg_link.mpr rfl]

theorem OneSetHeld.commitGo {k : Nat} (h : OneSetHeld d w n k) (mask : w.mask ≠ 0) :
    (d.commitGo 0 (A.LNK_COMMIT n)).1 = (d.setAccepted w n k).goAnswered (A.LNK_COMMIT n) := by
  have sets : d.heldSets.filter (setOfReg (A.LNK_COMMIT n)) = [(0x010 + n.val, k)] := by
    rw [h.heldSets mask, List.filter_cons_of_pos (setOfReg_link.mpr rfl)]
    rfl
  rw [Dev.commitGo, h.accepted, if_neg (by simp), sets, h.held]
  simp only [List.foldl_cons, List.foldl_nil, h.commitSet, if_true, Dev.setAccepted_any]
  rfl

/-- GLB_COMMIT answered: no refusal (R58). -/
def Dev.allCommitted (d : Dev) : Dev := (d.wr F.GLB_COMMIT_STATUS_REASON 0).wr F.GLB_COMMIT_STATUS_UNIT 0xFFF

theorem RegsFrame.allCommitted (d : Dev) : RegsFrame (· = A.GLB_COMMIT_STATUS) d d.allCommitted :=
  ((RegsFrame.refl (· = A.GLB_COMMIT_STATUS) d).wr _ _ rfl).wr _ _ rfl

theorem Dev.allCommitted_fields (d : Dev) :
    d.allCommitted.rd F.GLB_COMMIT_STATUS_REASON = 0 ∧ d.allCommitted.rd F.GLB_COMMIT_STATUS_UNIT = 0xFFF :=
  ⟨(Dev.rd_wr_of_disjoint _ _ (by decide) (by decide)).trans (Dev.rd_wr_self _ _ 0 (by decide)), Dev.rd_wr_self _ _ 0xFFF (by decide)⟩

theorem Dev.commitAll_of_none (h : d.held = []) : d.commitAll = d.allCommitted := by
  have sets : d.heldSets = [] := by
    rw [Dev.heldSets, h]
    rfl
  rw [Dev.commitAll, sets]
  rfl

theorem OneSetHeld.commitAll {k : Nat} (h : OneSetHeld d w n k) (mask : w.mask ≠ 0) :
    d.commitAll = ((d.setAccepted w n k).goAnswered (A.LNK_COMMIT n)).allCommitted := by
  rw [Dev.commitAll, h.heldSets mask, h.accepted, h.held]
  simp only [List.foldl_cons, List.foldl_nil, insertSet, commitRegsOf_link, List.take, List.any_nil, h.commitSet, if_true, Dev.setAccepted_any,
    Dev.each, Bool.false_eq_true, if_false]
  rfl

/-- An accepted set: nothing held, the set waiting, and of the words the unit's outcome. -/
theorem Dev.setAccepted_parts (d : Dev) (w : Staged) (n : Fin 24) (k : Nat) :
    (d.setAccepted w n k).held = [] ∧ (d.setAccepted w n k).accepted = [((0x010 + n.val, k), [w])] ∧
      (d.setAccepted w n k).nudge = d.nudge ∧
      ∀ a, a ≠ A.UNIT_STATE (0x010 + n.val) → (d.setAccepted w n k).reg a = d.reg a := by
  have frame := RegsFrame.accept d.unheld (0x010 + n.val)
  obtain ⟨held, accepted, nudge, regs⟩ := Dev.withAccepted_parts (d.unheld.accept (0x010 + n.val)) [((0x010 + n.val, k), [w])]
  rw [Dev.setAccepted]
  refine ⟨held.trans ?_, accepted, nudge.trans frame.nudge, fun a ha => (regs a).trans (frame.reg a ha)⟩
  rw [frame.eq]

/-! ### GO written (R54, R58) -/

theorem Dev.writeReg_commit {b : Block} {off : Nat} (commit : isCommit b off = true) (d : Dev) (env : Env) (p : Path) (a : Nat) (v : Word) :
    d.writeReg env p b off a 0xFFFFFFFF (withGo v) = ((d.noteReserved b off a (withGo v)).commitGo 0 a).1 := by
  have whole : withGo v &&& 0xFFFFFFFF = withGo v := and_ones _
  simp only [Dev.writeReg, whole, commit, getLsbD_withGo, if_true]

theorem Dev.writeReg_glbCommit (d : Dev) (env : Env) (p : Path) (v : Word) :
    d.writeReg env p .glb 0x10 A.GLB_COMMIT 0xFFFFFFFF (withGo v) = (d.noteReserved .glb 0x10 A.GLB_COMMIT (withGo v)).commitAll := by
  have whole : withGo v &&& 0xFFFFFFFF = withGo v := and_ones _
  simp only [Dev.writeReg, Dev.writeGlb, whole, getLsbD_withGo]
  rfl

/-- GO of the block accepts the set. -/
theorem commitGo_accepts {s : State} {reg : BitVec 32} {b : Block} {off k : Nat} (take : s.TakesWrite p reg.toNat)
    (loc : locate reg.toNat = .reg b off) (commit : isCommit b off = true) (mask : w.mask ≠ 0) (hreg : reg.toNat = A.LNK_COMMIT n)
    (frame : RegsFrame rsvWord s.dev (s.dev.noteReserved b off reg.toNat (withGo v)))
    (ready : OneSetHeld (s.dev.noteReserved b off reg.toNat (withGo v)) w n k) :
    Completes (.commitGo p reg v) s (fun t => t.dev.held = [] ∧ t.dev.accepted = [((0x010 + n.val, k), [w])] ∧
      bits (t.dev.reg reg.toNat) 8 8 = 0 ∧ bits (t.dev.reg reg.toNat) 1 1 = 1 ∧
      (w.addr ≠ reg.toNat → t.dev.reg w.addr = s.dev.reg w.addr)) := by
  obtain ⟨⟨-, -, nudge, -⟩, -⟩ := take.1
  obtain ⟨held, accepted, same, words⟩ := (s.dev.noteReserved b off reg.toNat (withGo v)).setAccepted_parts w n k
  have effect := poke_of_takesWrite (env := s.env) (v := withGo v) take loc
  have go := ready.commitGo mask
  rw [← hreg] at go
  rw [Dev.writeReg_commit commit, go] at effect
  have answered := Dev.goAnswered_regs ((s.dev.noteReserved b off reg.toNat (withGo v)).setAccepted w n k) reg.toNat
  obtain ⟨t, run, done⟩ := runAon_settled
    (f := fun env d => if commitAt reg.toNat then d.poke env p reg.toNat (withGo v) else d) take.1
    ((if_pos (by simp [commitAt, loc, commit])).trans effect) (answered.nudge.trans (same.trans (frame.nudge.trans nudge)))
  refine ⟨t, run, ?_, ?_, ?_, ?_, fun other => ?_⟩
  · rw [done.dev, answered.eq]
    exact held
  · rw [done.dev, answered.eq]
    exact accepted
  · rw [done.reg, Dev.goAnswered_word, bits_putBits_of_disjoint _ _ _ _ _ _ (by decide) (by decide)]
    exact bits_putBits_self _ 8 8 0 (by decide)
  · rw [done.reg, Dev.goAnswered_word]
    exact bits_putBits_self _ 1 1 1 (by decide)
  · have above := ready.addr
    rw [done.reg, answered.reg _ other, words _ (by unfold A.UNIT_STATE Base.UNIT; omega), frame.reg _ (not_rsvWord_of_le (by omega))]

/-- GO of GLB_COMMIT with nothing held. -/
theorem glbCommit_empty {s : State} (take : s.TakesWrite p A.GLB_COMMIT) (none : s.dev.held = []) :
    Completes (.glbCommit p v) s (fun t => t.dev.rd F.GLB_COMMIT_STATUS_REASON = 0 ∧
      t.dev.rd F.GLB_COMMIT_STATUS_UNIT = 0xFFF ∧ OnlyRegs (fun a => a = A.GLB_COMMIT_STATUS ∨ rsvWord a) s t) := by
  have noted := RegsFrame.noteReserved_unitless s.dev .glb 0x10 (a := A.GLB_COMMIT) (withGo v) rfl
  have held : (s.dev.noteReserved .glb 0x10 A.GLB_COMMIT (withGo v)).held = [] := by rw [noted.eq, none]
  have effect := poke_of_takesWrite (env := s.env) (v := withGo v) take (b := .glb) (off := 0x10) rfl
  rw [Dev.writeReg_glbCommit, Dev.commitAll_of_none held] at effect
  obtain ⟨t, run, only, regs⟩ := runAon_onlyRegs (W := fun a => a = A.GLB_COMMIT_STATUS ∨ rsvWord a)
    (f := fun env d => d.poke env p A.GLB_COMMIT (withGo v)) take.1 effect
    (((noted.mono fun _ => .inr).wr F.GLB_COMMIT_STATUS_REASON 0 (.inl rfl)).wr F.GLB_COMMIT_STATUS_UNIT 0xFFF (.inl rfl))
  obtain ⟨reason, unit⟩ := Dev.allCommitted_fields (s.dev.noteReserved .glb 0x10 A.GLB_COMMIT (withGo v))
  refine ⟨t, run, ?_, ?_, only⟩
  · rw [Dev.rd, regs]
    exact reason
  · rw [Dev.rd, regs]
    exact unit

/-- GO of GLB_COMMIT accepts the set as its block's GO does. -/
theorem glbCommit_accepts {s : State} {k : Nat} (take : s.TakesWrite p A.GLB_COMMIT) (mask : w.mask ≠ 0)
    (ready : OneSetHeld (s.dev.noteReserved .glb 0x10 A.GLB_COMMIT (withGo v)) w n k) :
    Completes (.glbCommit p v) s (fun t => t.dev.held = [] ∧ t.dev.accepted = [((0x010 + n.val, k), [w])] ∧
      t.dev.rd F.GLB_COMMIT_STATUS_REASON = 0 ∧ t.dev.rd F.GLB_COMMIT_STATUS_UNIT = 0xFFF) := by
  obtain ⟨⟨-, -, nudge, -⟩, -⟩ := take.1
  have noted := RegsFrame.noteReserved_unitless s.dev .glb 0x10 (a := A.GLB_COMMIT) (withGo v) rfl
  obtain ⟨held, accepted, same, -⟩ := (s.dev.noteReserved .glb 0x10 A.GLB_COMMIT (withGo v)).setAccepted_parts w n k
  have effect := poke_of_takesWrite (env := s.env) (v := withGo v) take (b := .glb) (off := 0x10) rfl
  rw [Dev.writeReg_glbCommit, ready.commitAll mask] at effect
  have answered := Dev.goAnswered_regs ((s.dev.noteReserved .glb 0x10 A.GLB_COMMIT (withGo v)).setAccepted w n k) (A.LNK_COMMIT n)
  have reported := RegsFrame.allCommitted
    (((s.dev.noteReserved .glb 0x10 A.GLB_COMMIT (withGo v)).setAccepted w n k).goAnswered (A.LNK_COMMIT n))
  obtain ⟨reason, unit⟩ := Dev.allCommitted_fields
    (((s.dev.noteReserved .glb 0x10 A.GLB_COMMIT (withGo v)).setAccepted w n k).goAnswered (A.LNK_COMMIT n))
  obtain ⟨t, run, done⟩ := runAon_settled (f := fun env d => d.poke env p A.GLB_COMMIT (withGo v)) take.1 effect
    (reported.nudge.trans (answered.nudge.trans (same.trans (noted.nudge.trans nudge))))
  refine ⟨t, run, ?_, ?_, (done.rd _).trans reason, (done.rd _).trans unit⟩
  · rw [done.dev, reported.eq, answered.eq]
    exact held
  · rw [done.dev, reported.eq, answered.eq]
    exact accepted

/-! ### The boundary of a link (R52, R56) -/

theorem unit_toNat (n : Fin 24) : (BitVec.ofNat 12 (0x010 + n.val)).toNat = 0x010 + n.val := by
  rw [BitVec.toNat_ofNat]
  omega

/-- The end of a boundary: the configuration set has been written, and the interval of the unit closes (R69, R112). -/
theorem Dev.boundaryClosed_parts (d : Dev) (u : Nat) :
    (d.dirty.closeInterval u).staged = d.staged ∧ (d.dirty.closeInterval u).accepted = d.accepted ∧
      (d.dirty.closeInterval u).cfg.dirty = true ∧ (d.dirty.closeInterval u).nudge = d.nudge ∧
      (d.dirty.closeInterval u).memw = d.memw ∧ ∀ a, (d.dirty.closeInterval u).reg a = d.reg a :=
  ⟨rfl, rfl, rfl, rfl, rfl, fun _ => rfl⟩

theorem Dev.stagedBoundary_link (hs : d.staged = [w]) (hu : unitOfAddr w.addr = some (0x010 + n.val)) :
    d.stagedBoundary (0x010 + n.val) = (({ d with staged := [] } : Dev).applyOne w).dirty.closeInterval (0x010 + n.val) := by
  have mine : d.staged.filter (fun s => unitOfAddr s.addr == some (0x010 + n.val)) = [w] := by simp [hs, hu]
  have rest : d.staged.filter (fun s => unitOfAddr s.addr != some (0x010 + n.val)) = [] := by simp [hs, hu]
  rw [Dev.stagedBoundary, if_pos (d.boundaryComes_link n), Dev.sourceMoved_link, Dev.applyStaged, mine, rest,
    Dev.onApply_link _ n (by decide)]
  rfl

theorem Dev.clearPending_link (h : d.accepted = []) :
    d.clearPending (0x010 + n.val) = d.setReg (A.LNK_COMMIT n) (putBits (d.reg (A.LNK_COMMIT n)) 1 1 0) := by
  simp [Dev.clearPending, commitRegsOf_link, h, Dev.each]

theorem Dev.commitBoundary_link {k : Nat} (ha : d.accepted = [((0x010 + n.val, k), [w])]) (h1 : k ≠ 1) (h2 : k ≠ 2) :
    d.commitBoundary (0x010 + n.val, k) =
      ((({ d with accepted := [] } : Dev).applyOne w).setReg (A.LNK_COMMIT n)
        (putBits ((({ d with accepted := [] } : Dev).applyOne w).reg (A.LNK_COMMIT n)) 1 1 0)).dirty.closeInterval (0x010 + n.val) := by
  have mine : d.accepted.filter (fun s => s.1 == (0x010 + n.val, k)) = [((0x010 + n.val, k), [w])] := by simp [ha]
  have rest : d.accepted.filter (fun s => s.1 != (0x010 + n.val, k)) = [] := by simp [ha]
  have due : (d.accepted.any (fun a => a.1 == (0x010 + n.val, k)) && !waitsForInstant (0x010 + n.val, k) &&
      d.boundaryComes (0x010 + n.val, k).1) = true := by
    simp [ha, waitsForInstant_link n h1, Dev.boundaryComes_link]
  have nonzero : 0x010 + n.val ≠ 0 := by omega
  have plain : (some k : Option Nat) ≠ some 2 := by simpa using h2
  rw [Dev.commitBoundary, if_pos due, Dev.sourceMoved_link, Dev.applySet, mine, rest]
  simp only [Dev.onApply_link _ n plain, if_neg nonzero]
  exact congrArg (fun x => x.dirty.closeInterval (0x010 + n.val)) 
    (Dev.clearPending_link (d := ({ d with accepted := [] } : Dev).applyOne w) rfl)

theorem Settled.regFrame {P : Nat → Prop} {s t : State} (h : Settled s d t) (memw : d.memw = [])
    (regs : ∀ a, ¬ P a → d.reg a = s.dev.reg a) : RegFrame P s t :=
  ⟨fun a ha _ => (h.reg a).trans (regs a ha), by rw [h.mem, memw, applyMem_nil], h.fuses, h.pending⟩

/-- A staged value applies. -/
theorem stagedWriteApply_applies {s : State} (up : s.CoreUp) (hs : s.dev.staged = [w]) (hu : unitOfAddr w.addr = some (0x010 + n.val)) :
    Completes (.stagedWriteApply (BitVec.ofNat 12 (0x010 + n.val))) s (fun t => t.dev.staged = [] ∧ RegFrame (· = w.addr) s t ∧
      t.dev.reg w.addr = merge (s.dev.reg w.addr) w.mask w.val ∧ t.dev.cfg.dirty = true) := by
  obtain ⟨⟨⟨-, memw, nudge, -⟩, -⟩, -⟩ := id up
  have effect := Dev.stagedBoundary_link hs hu
  obtain ⟨staged, -, dirty, same, stores, regs⟩ :=
    Dev.boundaryClosed_parts (({ s.dev with staged := [] } : Dev).applyOne w) (0x010 + n.val)
  obtain ⟨t, run, done⟩ := run_settled (f := fun _ d => d.stagedBoundary (BitVec.ofNat 12 (0x010 + n.val)).toNat) up
    ((congrArg s.dev.stagedBoundary (unit_toNat n)).trans effect) (same.trans nudge)
  refine ⟨t, run, ?_, done.regFrame (stores.trans memw) fun a ha => (regs a).trans (Dev.reg_setReg_of_ne _ _ ha), ?_, ?_⟩
  · rw [done.dev]
    exact staged
  · rw [done.reg, regs]
    exact Dev.reg_setReg_self _ _ _
  · rw [done.dev]
    exact dirty

/-- An accepted set applies, and its commit register loses PENDING. -/
theorem commitApply_applies {s : State} {k : Fin 128} (up : s.CoreUp) (ha : s.dev.accepted = [((0x010 + n.val, k.val), [w])])
    (h1 : k.val ≠ 1) (h2 : k.val ≠ 2) (other : w.addr ≠ A.LNK_COMMIT n) :
    Completes (.commitApply (BitVec.ofNat 12 (0x010 + n.val)) k) s (fun t => t.dev.accepted = [] ∧
      RegFrame (fun a => a = w.addr ∨ a = A.LNK_COMMIT n) s t ∧ t.dev.rd ⟨A.LNK_COMMIT n, 1, 1⟩ = 0 ∧
      t.dev.reg w.addr = merge (s.dev.reg w.addr) w.mask w.val) := by
  obtain ⟨⟨⟨-, memw, nudge, -⟩, -⟩, -⟩ := id up
  have effect := Dev.commitBoundary_link ha h1 h2
  obtain ⟨-, accepted, -, same, stores, regs⟩ := Dev.boundaryClosed_parts
    ((({ s.dev with accepted := [] } : Dev).applyOne w).setReg (A.LNK_COMMIT n)
      (putBits ((({ s.dev with accepted := [] } : Dev).applyOne w).reg (A.LNK_COMMIT n)) 1 1 0)) (0x010 + n.val)
  obtain ⟨t, run, done⟩ := run_settled (f := fun _ d => d.commitBoundary ((BitVec.ofNat 12 (0x010 + n.val)).toNat, k.val)) up
    ((congrArg (fun u => s.dev.commitBoundary (u, k.val)) (unit_toNat n)).trans effect) (same.trans nudge)
  refine ⟨t, run, ?_, done.regFrame (stores.trans memw) fun a ha => ?_, ?_, ?_⟩
  · rw [done.dev]
    exact accepted
  · obtain ⟨word, commit⟩ := not_or.mp ha
    exact (regs a).trans ((Dev.reg_setReg_of_ne _ _ commit).trans (Dev.reg_setReg_of_ne _ _ word))
  · rw [done.rd, Dev.rd, regs, Dev.reg_setReg_self]
    exact bits_putBits_self _ 1 1 0 (by decide)
  · rw [done.reg, regs, Dev.reg_setReg_of_ne _ _ other]
    exact Dev.reg_setReg_self _ _ _

/-! ### A SERDES quad takes its posted write (R59) -/

/-- One bit of each of these words set to a value. -/
def Dev.setBits (d : Dev) (es : List (Nat × Nat)) (x : Nat) : Dev := d.each es fun d e => d.setReg e.1 (putBits (d.reg e.1) e.2 1 x)

theorem Dev.setBits_regs (es : List (Nat × Nat)) (x : Nat) (d : Dev) : RegsFrame (fun _ => True) d (d.setBits es x) := by
  induction es generalizing d with
  | nil => exact .refl _ d
  | cons e es ih =>
    exact ⟨(ih (d.setReg e.1 (putBits (d.reg e.1) e.2 1 x))).eq, fun _ h => absurd trivial h⟩

theorem Dev.getLsbD_setBits (es : List (Nat × Nat)) (x a k : Nat) (hes : ∀ e ∈ es, e.2 < 32 ∧ (e.1 = a → e.2 ≠ k)) (d : Dev) :
    ((d.setBits es x).reg a).getLsbD k = (d.reg a).getLsbD k := by
  induction es generalizing d with
  | nil => rfl
  | cons e es ih =>
    obtain ⟨⟨width, apart⟩, rest⟩ := List.forall_mem_cons.mp hes
    refine (ih rest _).trans ?_
    by_cases ha : a = e.1
    · subst ha
      rw [Dev.reg_setReg_self, getLsbD_putBits _ _ _ _ _ (by omega), if_neg (by have := apart rfl; omega)]
    · rw [Dev.reg_setReg_of_ne _ _ ha]

/-- The words of the SERDES quads lie in the link blocks. -/
theorem lnk_of_serdes {q : Fin 6} (h : w.slow = some (.serdes q)) : ∃ m off, blockAt w.addr = some (.lnk m, off) := by
  unfold Staged.slow at h
  split at h
  · next b off hb =>
    unfold slowDomain at h
    split at h
    case h_4 m => exact ⟨m, off, hb⟩
    case h_3 => split at h <;> cases h
    case h_5 => split at h <;> cases h
    all_goals cases h
  · cases h

theorem addr_of_lnk {m off a : Nat} (h : blockAt a = some (.lnk m, off)) : 0x100000 ≤ a := by
  obtain ⟨place, -, -⟩ : Block.Holds a off (.lnk m) := holds_of_blockAt h
  rw [place]
  exact Nat.le_add_right_of_le (Nat.le_add_right _ _)

/-- A posted write of a link sets nothing off. -/
theorem Dev.takenWrite_lnk {m off : Nat} (d : Dev) (h : blockAt w.addr = some (.lnk m, off)) : d.takenWrite w = d := by
  have above := addr_of_lnk h
  have other {a : Nat} (ha : a < 0x100000) : w.addr ≠ a := by omega
  rw [Dev.takenWrite, if_neg (other (by decide)), if_neg (other (by decide)), if_neg (other (by decide)), if_neg (other (by decide)),
    if_neg (other (by decide)), h]

theorem Dev.dirty_reg (d : Dev) (a : Nat) : d.dirty.reg a = d.reg a := rfl

theorem Dev.dirty_nudge (d : Dev) : d.dirty.nudge = d.nudge := rfl

/-- The device with nothing posted. -/
abbrev Dev.unposted (d : Dev) : Dev := { d with posted := [] }

theorem Dev.setPostBusy_clear (d : Dev) (dom : SlowDomain) : d.setPostBusy dom false =
    (d.setReg A.GLB_POST_BUSY (putBits (d.reg A.GLB_POST_BUSY) (postBit dom) 1 0)).setBits (busyBits dom) 0 := rfl

theorem Dev.postComplete_serdes {q : Fin 6} (hp : d.posted = [w]) (hw : w.slow = some (.serdes q)) :
    d.postComplete (.serdes q) = ((d.unposted.applyOne w).setPostBusy (.serdes q) false).dirty := by
  have mine : d.posted.filter (fun x => x.slow == some (.serdes q)) = [w] := by simp [hp, hw]
  have rest : d.posted.filter (fun x => x.slow != some (.serdes q)) = [] := by simp [hp, hw]
  rw [Dev.postComplete, mine, rest]
  rfl

theorem Dev.takePosted_serdes {q : Fin 6} (hp : d.posted = [w]) (hw : w.slow = some (.serdes q)) :
    d.takePosted (.serdes q) = ((d.unposted.applyOne w).setPostBusy (.serdes q) false).dirty := by
  obtain ⟨m, off, block⟩ := lnk_of_serdes hw
  have mine : d.posted.filter (fun x => x.slow == some (.serdes q)) = [w] := by simp [hp, hw]
  have bus : (SlowDomain.serdes q == .pmb) = false := rfl
  simp only [Dev.takePosted, bus, Bool.false_and, mine, Dev.each, List.foldl_cons, List.foldl_nil, Dev.takenWrite_lnk _ block,
    Dev.postComplete_serdes hp hw]
  rfl

/-- The BUSY bits of a quad are bit 31 of words of its links. -/
theorem busyBits_serdes {q : Fin 6} {e : Nat × Nat} (h : e ∈ busyBits (.serdes q)) : 0x100000 ≤ e.1 ∧ e.2 = 31 := by
  obtain ⟨i, -, rfl⟩ := List.mem_map.mp h
  exact ⟨Nat.le_add_right_of_le (Nat.le_add_right _ _), rfl⟩

theorem postedWriteComplete_takes {s : State} {q : Fin 6} (up : s.Up) (hp : s.dev.posted = [w]) (hw : w.slow = some (.serdes q)) :
    Completes (.postedWriteComplete (.serdes q)) s (fun t => t.dev.posted = [] ∧ t.dev.postBusy (.serdes q) = false ∧
      ∀ k, k < 31 → (t.dev.reg w.addr).getLsbD k = (merge (s.dev.reg w.addr) w.mask w.val).getLsbD k) := by
  obtain ⟨⟨-, -, nudge, -⟩, -⟩ := id up
  obtain ⟨m, off, block⟩ := lnk_of_serdes hw
  have above := addr_of_lnk block
  have effect := Dev.takePosted_serdes hp hw
  rw [Dev.setPostBusy_clear] at effect
  have frame := Dev.setBits_regs (busyBits (.serdes q)) 0 ((s.dev.unposted.applyOne w).setReg A.GLB_POST_BUSY
    (putBits ((s.dev.unposted.applyOne w).reg A.GLB_POST_BUSY) (postBit (.serdes q)) 1 0))
  obtain ⟨t, run, done⟩ := runAon_settled (f := fun _ d => d.takePosted (.serdes q)) up effect
    ((Dev.dirty_nudge _).trans (frame.nudge.trans nudge))
  refine ⟨t, run, ?_, ?_, fun k hk => ?_⟩
  · rw [done.dev, Dev.dirty, frame.eq]
    rfl
  · have bit : postBit (.serdes q) + 1 ≤ 32 := by simp only [postBit]; omega
    rw [Dev.postBusy, done.reg, Dev.dirty_reg]
    refine (Dev.getLsbD_setBits _ 0 A.GLB_POST_BUSY _ (fun e he => ?_) _).trans ?_
    · obtain ⟨lnk, b31⟩ := busyBits_serdes he
      exact ⟨by omega, fun same => absurd (same ▸ lnk) (by decide)⟩
    · rw [Dev.reg_setReg_self, getLsbD_putBits _ _ _ _ _ bit, if_pos (by omega), Nat.zero_testBit]
  · rw [done.reg, Dev.dirty_reg]
    refine (Dev.getLsbD_setBits _ 0 w.addr k (fun e he => ?_) _).trans ?_
    · obtain ⟨-, b31⟩ := busyBits_serdes he
      exact ⟨by omega, fun _ => by omega⟩
    · have apart : w.addr ≠ A.GLB_POST_BUSY := fun same => absurd (same ▸ above) (by decide)
      rw [Dev.reg_setReg_of_ne _ _ apart]
      exact congrArg (·.getLsbD k) (Dev.reg_setReg_self _ _ _)

/-- Settles O27: a held set that GO accepts, the boundary that applies, and a SERDES quad that takes. -/
theorem waitingWritesApply : Obligations.WaitingWritesApply := by
  unfold Obligations.WaitingWritesApply
  intro s w n u
  refine ⟨fun p reg v b off k take loc commit accepted held set boundary mask own live safe allowed addr check => ?_,
    fun p v k take accepted => ⟨glbCommit_empty take, fun held set boundary mask live safe allowed addr check => ?_⟩,
    stagedWriteApply_applies, fun k => commitApply_applies, fun q => postedWriteComplete_takes⟩
  · have hreg := setOfReg_link.mp own
    have frame : RegsFrame rsvWord s.dev (s.dev.noteReserved b off reg.toNat (withGo v)) :=
      .noteReserved s.dev b off (withGo v) fun u hu => by
        rw [hreg, unitOfAddr_lnkCommit] at hu
        obtain rfl := Option.some.inj hu
        omega
    exact commitGo_accepts take loc commit mask hreg frame
      (oneSetHeld_of_frame frame held accepted set boundary live safe allowed addr check)
  · have frame := RegsFrame.noteReserved_unitless s.dev .glb 0x10 (a := A.GLB_COMMIT) (withGo v) rfl
    exact glbCommit_accepts take mask (oneSetHeld_of_frame frame held accepted set boundary live safe allowed addr check)

end Sys2Proof.Machine
end

section
/-! PROOF. O59 fails: the trip at 140 °C abandons a power entry (R402, R510), and what is accepted for a steward that the restore leaves OFF
applies after the sensors' readings have been written. -/
namespace Sys2Proof.Machine

/-- An accepted write of THERM_TEMP0. No command holds one: the word is in no commit set. -/
def acceptedReading : Staged := { addr := A.THERM_TEMP 0, mask := 0xFFFF, val := 0, path := .spi }

/-- Between commands, in ACTIVE on the way to RETAIN, steward 1 is IN_SERVICE and such a write is accepted for it. -/
def tripWhileParking : State :=
  { pending := [], mem := [], fuses := {},
    dev := { regs := [(A.UNIT_STATE 0x0F1, 3)], accepted := [((0x0F1, 0), [acceptedReading])], pwr := { toward := 2 } } }

theorem tripWhileParking_up : tripWhileParking.Up := ⟨⟨rfl, rfl, rfl, by decide +kernel⟩, rfl⟩

/-- THERM_TEMP0 reads the accepted 0, where the sensor has given 140 °C. -/
theorem tripWhileParking_reading {t : State} (h : exec (.thermSample 2240 0 0 0) tripWhileParking = .next t) :
    t.dev.rd (F.THERM_TEMP_TEMP 0) = 0 := by
  have read : (match exec (.thermSample 2240 0 0 0) tripWhileParking with
      | .next t => t.dev.rd (F.THERM_TEMP_TEMP 0)
      | _ => 1) = 0 := by decide +kernel
  rwa [h] at read

/-- Refutes O59 by its last clause, THERM_SAMPLE: it assumes no more than the device out of reset and between commands, and so takes
in states, which no run reaches, whose accepted sets name words of other blocks. -/
theorem not_resetsAndBoot : ¬ Obligations.ResetsAndBoot := by
  unfold Obligations.ResetsAndBoot
  intro h
  obtain ⟨-, -, -, -, -, -, sample⟩ := h tripWhileParking .spi 0
  obtain ⟨t, run, reading, -⟩ := sample 2240 0 0 0 tripWhileParking_up
  rw [tripWhileParking_reading run] at reading
  exact absurd reading (by decide)

end Sys2Proof.Machine
end

section
/-! PROOF. O3: between commands the machine is at rest (R76, R463). Every command is its effect carried out, or nothing; a cycle of the TIME
island counts alone. -/
namespace Sys2Proof.Machine

variable {s : State} {o : Host.Outcome State Fault Refusal}

/-! ### What every command is -/

/-- The command is an effect carried out, or nothing at all. -/
def Carries (o : Host.Outcome State Fault Refusal) (s : State) : Prop := o = .next s ∨ ∃ f, o = carry f s

theorem Carries.carry (f : Env → Dev → Dev) (s : State) : Carries (carry f s) s := .inr ⟨f, rfl⟩

theorem Carries.liftAny (f : Dev → Dev) (s : State) : Carries (liftAny f s) s := .carry _ s

theorem Carries.run (f : Env → Dev → Dev) (s : State) : Carries (run f s) s := by
  unfold Machine.run; split
  · exact .inl rfl
  · exact .carry f s

theorem Carries.runAon (f : Env → Dev → Dev) (s : State) : Carries (runAon f s) s := by
  unfold Machine.runAon; split
  · exact .inl rfl
  · exact .carry f s

/-- Every command but the programming of the fuses (R430), by where it acts: whatever the state of the device, out of reset (R459), or with
CORE on (R382). -/
theorem exec_carries (i : Instr) (s : State) (h : i ≠ .fuseProgramDone) : Carries (exec i s) s := by
  cases i with
  | fuseProgramDone => exact absurd rfl h
  | supplyTrip => exact (.liftAny _ s : Carries (execSupplyTrip s) s)
  | resetNAssert => exact (.liftAny _ s : Carries (execResetNAssert s) s)
  | resetRelease boot hostif => exact (.liftAny _ s : Carries (execResetRelease boot hostif s) s)
  | resetSequenceComplete => exact (.carry _ s : Carries (execResetSequenceComplete s) s)
  | perstAssert => exact (.liftAny _ s : Carries (execPerstAssert s) s)
  | perstRelease => exact (.liftAny _ s : Carries (execPerstRelease s) s)
  | thermRecover boot hostif => exact (.liftAny _ s : Carries (execThermRecover boot hostif s) s)
  | vddioSupplyLoss b => exact (.liftAny _ s : Carries (execVddioSupplyLoss b s) s)
  | vddioSupplyReturn b v33 => exact (.liftAny _ s : Carries (execVddioSupplyReturn b v33 s) s)
  | registerWrite | readClear | unitEvtWrite | bitAliasAccess | commitGo | glbCommit | postedWriteComplete | glbSnapGo
  | snapshotComplete | cfgCrcCapture | cfgRefWrite | softReset | orderEnable | orderDisable | orderDrain | orderReset | orderNone
  | ownerWrite | eventHoldExpire | functionLevelReset | vfEnable | d3hotEntry | read | qread | write | qwrite | status | tenant
  | spiUnknownCommand | hostBindWrite | hostT0PathWrite | queueEnable | queueDisable | sqTailWrite | cqHeadWrite | eqHeadWrite
  | sqPortPost | cqPortConsume | eqPortConsume | userDbWrite | completionPostDeferred | hchPtrWrite | eload | spqHeadWrite
  | ltxTailWrite | wakePatternHit | fdbWrite | fdbDelete | fdbLookup | fdbRead | fdbFlush | timeSet | timeStep | timeCmdApply
  | timeAdjWrite | stcRead | servoOfsWrite | servoHoldover | ppsOutEdge | ppsOutEnd | ppsInEdge | ppsInRead | mcsCountRead | mcsCalGo
  | apgFrameRead | regionSwap | regionWdataWrite | loudnessRestart | histogramClear | pwrCmdActive | pwrCmdQuiet | pwrCmdRetain
  | pwrCmdListen | entryCommit | wakeIn | pcieWake | wakeTimerExpire | mspiWake | retainExit | listenExit | pwrWakeAck
  | domainPowerRequest | oppRequest | errAck | errRestart | peatRead | peatWrite | keyLoad | keyErase | keyGenerate | secLockWrite
  | fuseProgram | secMinSvnWrite | debugOpen | regacc | fragalStart | fragalStop | checkpoint | fragalReplayStart | frgHostptrWrite
  | frgOcbDataAccess | bootImageReadDone | loadTableEntry | thermSample | thermShutdown | gpioEdge | gpioSet | gpioClr | pmbSendByte
  | pmbWriteByte | pmbWriteWord | pmbReadByte | pmbReadWord | pmbXferDone | tapTransition => exact .runAon _ s
  | stagedWriteApply | commitApply | cfgScan | unitStandbyReached | unitSyncingEntry | acquisitionComplete | inputLost
  | drainComplete | drainTimeout | cabinetWalkStep | commandFetch | run | inline | unitop | cmdFence | hchPlaybackRead
  | hchRecordWrite | add | sub | and | or | xor | shl | shr | sar | mul | mulh | min | max | clz | addi | andi | ori | xori | lui
  | beq | bne | blt | bge | bltu | bgeu | jal | jr | loop | ldw | ldh | ldhu | ldb | ldbu | stw | sth | stb | ldv | stv | sld | sst
  | stag | tagmax | vadd | vsub | vmul | vmac | vrnd | vgain | vabs | vmax | vsel | vsplat | vcvtf | vcvti | vfadd | vfmul | vfmac
  | uget | uset | ucmd | uwait | unitOpDone | uwaitTimeout | qput | qget | qcred | arm | waitev | tickwait | time | snap | nop
  | fence | halt | wait | trap | csrr | csrw | xret | timerExpire | tickBudgetExpire | eloadComplete | triggerFire | runStart
  | gclSwitch | gateEntryAdvance | lcPllTimeout | linkHoldExpire | linkDown | rxFrame | pauseExpire | pauseWd | holdoffExpire
  | txEnqueue | txFrameStart | txFrameDone | preemptVerify | stcRealign | ltxDescriptorDone | tokenEmit | rxToken | tokenReturn
  | managerElectionTimeout | ringTokenLoss | passThrough | windowStart | rxBlock | rxAsync | echoSend | rxEcho | censusStart
  | censusPeriodExpire | rxCensus | censusReturn | tableSend | ringWrap | ringUnwrap | switchFrame | fdbOpComplete | fdbAgeExpire
  | rxStreamPacket | flowHoldExpire | legDown | flowPacketRelease | tickStart | auditCheck | servoRingSample | tickSizeChange
  | mclkPllTimeout | mclkLock | mclkBypass | mclkHandback | mcsCalDone | rateMeterGate | frameSync | portBlockTransfer | groupClkLost
  | decimSettled | bridgeLock | swapCaptureDone | domainPowerDone | oppFreqSwitch | oppVoutTaken | oppPowerGood | oppPowerGoodTimeout
  | errRestartDone | logDeferredAppend | peatAccessDone | keyCmdDone | debugEraseDone | fragalArmComplete | checkpointPeriodExpire
  | checkpointDone | digestIntervalClose | traceTailDone | bootComplete | pcsLock | tokenMiss | rxTable | registerWindowDone
  | replayRecordRelease => exact .run _ s

/-! ### Carrying out leaves the machine at rest -/

/-- Whatever the effect. -/
theorem carry_atRest (f : Env → Dev → Dev) (wf : Memory.wf s.mem = true) : ∃ t, carry f s = .next t ∧ t.AtRest := by
  obtain ⟨t, ht, -, -, mem, memw, sum⟩ := carry_next f s
  refine ⟨t, ht, mem wf, memw, ?_, sum⟩
  unfold Machine.carry at ht
  cases ht
  exact (Dev.settle_nudge _).trans (Dev.touchAll_nudge _)

theorem Carries.atRest (h : Carries o s) (rest : s.AtRest) : ∃ t, o = .next t ∧ t.AtRest := by
  rcases h with same | ⟨f, effect⟩
  · exact ⟨s, same, rest⟩
  · rw [effect]; exact carry_atRest f rest.1

/-- The fuses are no part of being at rest. -/
theorem fuseProgramDone_atRest (rest : s.AtRest) : ∃ t, execFuseProgramDone s = .next t ∧ t.AtRest := by
  unfold execFuseProgramDone
  split
  · exact ⟨s, rfl, rest⟩
  · exact (Carries.run _ _).atRest rest

theorem exec_atRest (i : Instr) (rest : s.AtRest) : ∃ t, exec i s = .next t ∧ t.AtRest := by
  by_cases fuses : i = .fuseProgramDone
  · rw [fuses]; exact fuseProgramDone_atRest rest
  · exact (exec_carries i s fuses).atRest rest

/-! ### A cycle of the TIME island (R293) -/

theorem CountersOnly.refl (d : Dev) : CountersOnly d d := ⟨d.stat, rfl⟩

theorem CountersOnly.ite {d a b : Dev} {c : Prop} [Decidable c] (ha : CountersOnly d a) (hb : CountersOnly d b) :
    CountersOnly d (if c then a else b) := by split <;> assumption

theorem CountersOnly.count (d : Dev) (a n : Nat) : CountersOnly d (d.count a n) := .setStat d _ _

theorem CountersOnly.timeCounters (d : Dev) : CountersOnly d d.timeCounters := by
  unfold Dev.timeCounters
  refine (CountersOnly.each _ (fun x m => ?_) d).trans (.each _ (fun x n => .ite (.count x _ _) (.refl x)) _)
  have bypass : CountersOnly x (if x.on (F.MCS_STATUS_BYPASS m) then x.count (Ctr.MCS m Mc.BYPASS_NS) 1 else x) :=
    .ite (.count x _ _) (.refl x)
  exact .ite (bypass.trans (.count _ _ _)) bypass

/-- A cycle moves the clock, the STC and counters. -/
theorem Dev.cycle_frame (d : Dev) : ∃ stat time, d.cycle = { d with clk := d.clk + 1, stat := stat, time := time } := by
  unfold Dev.cycle
  dsimp only
  split
  · exact ⟨_, _, rfl⟩
  · obtain ⟨stat, h⟩ := CountersOnly.timeCounters ({ d with clk := d.clk + 1 } : Dev).stcCycle
    exact ⟨stat, _, h⟩

theorem cycle_atRest (rest : s.AtRest) : ({ s with dev := s.dev.cycle } : State).AtRest := by
  obtain ⟨stat, time, h⟩ := s.dev.cycle_frame
  unfold State.AtRest
  rw [h]
  exact rest

/-- Settles O3: a command is an effect carried out, or nothing; an empty queue is a cycle of the TIME island. -/
theorem stepKeepsAtRest : Obligations.StepKeepsAtRest := by
  intro s t rest
  unfold step
  cases s.pending with
  | nil => rintro ⟨⟩; exact cycle_atRest rest
  | cons c cs =>
    intro ht
    have popped : ({ s with pending := cs } : State).AtRest := rest
    obtain ⟨u, hu, atRest⟩ := exec_atRest c popped
    cases hu.symm.trans ht
    exact atRest

end Sys2Proof.Machine
end

section
/-! PROOF. Words of the register map by their place (R47): where the words of HOST, of the switch core and of doorbell pages stand, the write of
one on a path, and the reserved bits it counts (R12). -/
namespace Sys2Proof.Machine

variable {d e : Dev} {p : Path} {v : Word} {a off : Nat} {b : Block}

/-! ### Where words stand -/

/-- A word with a row of its own in the table of its block. -/
theorem locate_of_row (block : blockAt a = some (b, off)) (low : a < 0x600000) (aligned : a % 4 = 0) (live : liveOf b off = none)
    (row : (findRow b.rows off).isSome = true) : locate a = .reg b off := by
  have word : a / 4 * 4 = a := by omega
  simp only [locate, word, if_pos low, block, live, row, if_true]

theorem locate_page (t : Fin 512) (ho : off < 0x1000) (aligned : off % 4 = 0) (row : (findRow Rows.TNT off).isSome = true) :
    locate (pageAddr t off) = .reg (.tnt t) off := by
  have ht := t.isLt
  have lo : ∀ n, n ≤ 0x400000 → ¬ pageAddr t off < n := fun n hn => by simp only [pageAddr]; omega
  have block : blockAt (pageAddr t off) = some (.tnt t, off) := by
    have unit : (pageAddr t off - 0x400000) / 0x1000 = t := by simp only [pageAddr]; omega
    have place : pageAddr t off % 0x1000 = off := by simp only [pageAddr]; omega
    have hi : pageAddr t off < 0x600000 := by simp only [pageAddr]; omega
    simp [blockAt, lo, unit, place, hi]
  exact locate_of_row block (by simp only [pageAddr]; omega) (by simp only [pageAddr]; omega) rfl row

theorem locate_host (ho : off < 0x1000) (aligned : off % 4 = 0) (row : (findRow Rows.HOST off).isSome = true) :
    locate (Base.HOST + off) = .reg .host off := by
  have block : blockAt (Base.HOST + off) = some (.host, off) := by
    have lo : ∀ n, n ≤ 0x9000 → ¬ Base.HOST + off < n := fun n hn => by simp only [Base.HOST]; omega
    have hi : Base.HOST + off < 0xA000 := by simp only [Base.HOST]; omega
    simp [blockAt, lo, hi]
  exact locate_of_row block (by simp only [Base.HOST]; omega) (by simp only [Base.HOST]; omega) rfl row

theorem locate_swc (low : 0x8000 ≤ off) (ho : off < 0x10000) (aligned : off % 4 = 0) (row : (findRow Rows.SWC off).isSome = true) :
    locate (Base.SWC + off) = .reg .swc off := by
  have block : blockAt (Base.SWC + off) = some (.swc, off) := by
    have lo : ∀ n, n ≤ 0x170000 → ¬ Base.SWC + off < n := fun n hn => by simp only [Base.SWC]; omega
    have hi : Base.SWC + off < 0x180000 := by simp only [Base.SWC]; omega
    simp [blockAt, lo, hi]
  have live : liveOf .swc off = none := by
    simp only [liveOf, Bool.and_eq_true, decide_eq_true_eq]
    rw [if_neg (by omega)]
  exact locate_of_row block (by simp only [Base.SWC]; omega) (by simp only [Base.SWC]; omega) live row

/-! ### Reserved bits (R12) -/

theorem unitOfAddr_lt {u : Nat} (h : unitOfAddr a = some u) : u < 0x1000 := by
  unfold unitOfAddr at h
  split at h
  · next b off hb =>
    have place := holds_of_blockAt hb
    unfold unitOfBlock at h
    repeat' split at h
    all_goals simp only [Block.Holds, reduceCtorEq, Option.some.injEq, Bool.and_eq_true, decide_eq_true_eq] at *
    all_goals omega
  · cases h

/-- Reserved bits count, in GLB or in a unit, whatever the word. -/
theorem RegsFrame.noted (d : Dev) (b : Block) (off a : Nat) (w : Word) : RegsFrame rsvWord d (d.noteReserved b off a w) :=
  .noteReserved d b off w fun _ => unitOfAddr_lt

theorem not_rsvWord_low (h : a < 0x10000) (hne : a ≠ A.GLB_RSV_WRITES := by decide) : ¬ rsvWord a := by
  unfold rsvWord
  omega

/-! ### A word written on a path -/

/-- The command leaves what the write of its word does. -/
theorem runAon_poke {s : State} (take : s.TakesWrite p a) (loc : locate a = .reg b off)
    (hd : s.dev.writeReg s.env p b off a 0xFFFFFFFF v = d) (hn : d.nudge = s.dev.nudge) :
    ∃ t, runAon (fun env d => d.poke env p a v) s = .next t ∧ Settled s d t := by
  obtain ⟨-, -, nudge, -⟩ := take.1.1
  exact runAon_settled take.1 ((poke_of_takesWrite take loc).trans hd) (hn.trans nudge)

/-- A write that changes registers alone. -/
theorem runAon_poke_onlyRegs {s : State} {W : Nat → Prop} (take : s.TakesWrite p a) (loc : locate a = .reg b off)
    (hd : s.dev.writeReg s.env p b off a 0xFFFFFFFF v = d) (frame : RegsFrame W s.dev d) :
    ∃ t, runAon (fun env d => d.poke env p a v) s = .next t ∧ OnlyRegs W s t ∧ ∀ f, t.dev.rd f = d.rd f := by
  obtain ⟨t, ht, only, reg⟩ := runAon_onlyRegs (f := fun env d => d.poke env p a v) take.1 ((poke_of_takesWrite take loc).trans hd) frame
  exact ⟨t, ht, only, fun f => by rw [Dev.rd, reg, Dev.rd]⟩

end Sys2Proof.Machine
end

section
/-! PROOF. O33 fails: the map of virtual function v stands at HOST + 0x100 + 4 v (R107), the model looks for it one word further on, and so takes
the word of HOST_VF_BAD for the map of function 63. -/
namespace Sys2Proof.Machine

/-- The word that the model takes for the map of function 63 is the first of HOST_VF_BAD. -/
theorem vfMap63_eq_vfBad : A.HOST_VF_MAP 63 = A.HOST_VF_BAD 0 := rfl

/-- The PCIe interface is up, functions 1 and 16 were bad at the last VF Enable, and no map is written: read as a map, their bits give
function 63 tenant 2. -/
def badAsMap : State :=
  { pending := [], mem := [], fuses := {},
    dev := ({ regs := [(A.HOST_VF_BAD 0, 0x00010002)] } : Dev).wr F.PWR_DOMAIN_STATE_ON 0x3FFFF }

theorem badAsMap_up : badAsMap.Up := ⟨⟨rfl, rfl, rfl, by decide +kernel⟩, by decide +kernel⟩

theorem badAsMap_pcie : badAsMap.dev.pathUp .pcie = true := by decide +kernel

/-- By the words as they stood before, the map of function 63 is good. -/
theorem badAsMap_map63 :
    (badAsMap.dev.vfBadAlone 63 || (List.range 63).any (fun w => w + 1 != 63 && badAsMap.dev.vfOverlap 63 (w + 1))) = false ∧
      badAsMap.dev.rd (F.HOST_VF_MAP_FIRST 63) = 2 ∧ badAsMap.dev.rd (F.HOST_VF_MAP_COUNT 63) = 1 := by decide +kernel

/-- VF Enable marks functions 1 to 31 as bad before it takes the map of function 63 from the same word. -/
theorem vfEnable_badAsMap {t : State} (h : exec (.vfEnable 63) badAsMap = .next t) : t.dev.vfMap 63 = some (0x1FE, 0x3F) := by
  have map : (match exec (.vfEnable 63) badAsMap with
      | .next t => t.dev.vfMap 63
      | _ => none) = some (0x1FE, 0x3F) := by decide +kernel
  rwa [h] at map

/-- Refutes O33 by its clause on VF Enable: function 63 gets tenants 0x1FE and on, where the word read before the command gave it tenant 2. -/
theorem not_pcieFunctionsFollowTheirCommands : ¬ Obligations.PcieFunctionsFollowTheirCommands := by
  unfold Obligations.PcieFunctionsFollowTheirCommands
  intro h
  obtain ⟨-, enable, -⟩ := h badAsMap badAsMap_up badAsMap_pcie
  obtain ⟨t, run, -, -, -, maps⟩ := enable 63
  obtain ⟨good, first, count⟩ := badAsMap_map63
  have given := (maps 63 (by decide) (by decide)).trans (if_neg (ne_true_of_eq_false good))
  rw [vfEnable_badAsMap run, first, count] at given
  exact absurd given (by decide)

end Sys2Proof.Machine
end

section
/-! PROOF. O35: tenants bound to the management SPI or to PCIe (R86), and the primary path of tenant 0 (R87). -/
namespace Sys2Proof.Machine

variable {d e : Dev} {s : State} {p : Path} {v : Word} {w i : Nat}

theorem and_all_ones (v : Word) : v &&& 0xFFFFFFFF = v := and_ones v

/-- A write of the whole of a word leaves nothing of what it held. -/
theorem merged_ones (old v : Word) : (old &&& ~~~ 0xFFFFFFFF) ||| (v &&& 0xFFFFFFFF) = v := merge_ones old v

/-- Only registers of `W` differ after each step of a loop where each step changes those alone. -/
theorem RegsFrame.trans {W : Nat → Prop} {d e f : Dev} (h : RegsFrame W d e) (k : RegsFrame W e f) : RegsFrame W d f :=
  ⟨by have eq := k.eq; rw [h.eq] at eq; exact eq, fun a ha => (k.reg a ha).trans (h.reg a ha)⟩

/-! ### An ignored write of a word of HOST -/

theorem Dev.ignored_regs (d : Dev) : RegsFrame (· = A.HOST_STATUS) d d.ignored := (RegsFrame.refl _ d).wr _ _ rfl

theorem RegsFrame.ignored (h : RegsFrame rsvWord d e) : RegsFrame (fun a => a = A.HOST_STATUS ∨ rsvWord a) d e.ignored :=
  (h.mono fun _ ha => .inr ha).trans (e.ignored_regs.mono fun _ ha => .inl ha)

theorem Dev.ignored_count (d : Dev) : d.ignored.rd F.HOST_STATUS_IGNORED = min (d.rd F.HOST_STATUS_IGNORED + 1) 0xFFFF := by
  rw [Dev.ignored, Dev.sat, Dev.rd_wr_self _ _ _ (by decide)]
  exact Nat.mod_eq_of_lt (Nat.lt_succ_of_le (Nat.min_le_right _ _))

theorem anyQueue_congr {t : Nat} (h : ∀ q, e.rd (F.Q_EN t q) = d.rd (F.Q_EN t q)) : e.anyQueue t = d.anyQueue t := by
  simp only [Dev.anyQueue, Dev.on, h]

/-! ### The bits that a write of HOST_BIND changes -/

/-- One tenant bound as the written word says, with the count of SPI-bound tenants. -/
def Dev.bindTenant (w : Nat) (new : Word) (d : Dev) (i : Nat) : Dev :=
  if new.getLsbD i then
    if 64 ≤ d.rd F.HOST_SPI_TENANTS_COUNT then d.ignored
    else (d.setReg (A.HOST_BIND w) (putBits (d.reg (A.HOST_BIND w)) i 1 1)).wr F.HOST_SPI_TENANTS_COUNT (d.rd F.HOST_SPI_TENANTS_COUNT + 1)
  else (d.setReg (A.HOST_BIND w) (putBits (d.reg (A.HOST_BIND w)) i 1 0)).wr F.HOST_SPI_TENANTS_COUNT (d.rd F.HOST_SPI_TENANTS_COUNT - 1)

/-- The places in a word of HOST_BIND whose bit a write changes; bit 0 of word 0 is reserved. -/
def movedBits (w : Nat) (old new : Word) : List Nat := (changedBits old new).filter (fun i => !(w == 0 && i == 0))

theorem mem_movedBits {old new : Word} :
    i ∈ movedBits w old new ↔ i < 32 ∧ old.getLsbD i ≠ new.getLsbD i ∧ (w ≠ 0 ∨ i ≠ 0) := by
  simp only [movedBits, changedBits, List.mem_filter, List.mem_range, bne_iff_ne, Bool.not_eq_true', Bool.and_eq_false_iff,
    beq_eq_false_iff_ne, and_assoc]

theorem length_movedBits (w : Nat) (old new : Word) : (movedBits w old new).length ≤ 32 :=
  calc (movedBits w old new).length
    _ ≤ (changedBits old new).length := List.length_filter_le _ _
    _ ≤ (List.range 32).length := List.length_filter_le _ _
    _ = 32 := List.length_range

theorem Dev.hostBind_eq (d : Dev) (w : Nat) (v : Word) :
    d.hostBind w v 0xFFFFFFFF =
      let e := d.when (w == 0 && v.getLsbD 0) fun d => d.countReserved (A.HOST_BIND w)
      if (movedBits w (d.reg (A.HOST_BIND w)) v).any fun i => e.anyQueue (32 * w + i) then e.ignored
      else e.each (movedBits w (d.reg (A.HOST_BIND w)) v) (Dev.bindTenant w v) := by
  simp only [Dev.hostBind, merged_ones]
  simp only [and_all_ones]
  rfl

/-- The bit of a place, once written. -/
theorem getLsbD_putBits_one (x : Word) {i j : Nat} (b : Bool) (hi : i < 32) :
    (putBits x i 1 b.toNat).getLsbD j = if j = i then b else x.getLsbD j := by
  rw [getLsbD_putBits x i 1 _ j (by omega)]
  by_cases same : j = i
  · subst same
    rw [if_pos ⟨Nat.le_refl _, Nat.lt_succ_self _⟩, if_pos rfl, Nat.sub_self]
    cases b <;> rfl
  · rw [if_neg (by omega), if_neg same]

theorem host_words_apart (w : Nat) : A.HOST_SPI_TENANTS ≠ A.HOST_BIND w := by
  simp only [A.HOST_SPI_TENANTS, A.HOST_BIND, Base.HOST]
  omega

theorem Dev.bindTenant_binds (d : Dev) (w : Nat) (new : Word) (hi : i < 32) (room : d.rd F.HOST_SPI_TENANTS_COUNT < 64) :
    RegsFrame (fun a => a = A.HOST_BIND w ∨ a = A.HOST_SPI_TENANTS) d (d.bindTenant w new i) ∧
      (d.bindTenant w new i).rd F.HOST_SPI_TENANTS_COUNT ≤ d.rd F.HOST_SPI_TENANTS_COUNT + 1 ∧
      ∀ j, ((d.bindTenant w new i).reg (A.HOST_BIND w)).getLsbD j =
        if j = i then new.getLsbD i else (d.reg (A.HOST_BIND w)).getLsbD j := by
  have bound : ∀ (b : Bool) (n : Nat), n ≤ d.rd F.HOST_SPI_TENANTS_COUNT + 1 →
      let e := (d.setReg (A.HOST_BIND w) (putBits (d.reg (A.HOST_BIND w)) i 1 b.toNat)).wr F.HOST_SPI_TENANTS_COUNT n
      RegsFrame (fun a => a = A.HOST_BIND w ∨ a = A.HOST_SPI_TENANTS) d e ∧
        e.rd F.HOST_SPI_TENANTS_COUNT ≤ d.rd F.HOST_SPI_TENANTS_COUNT + 1 ∧
        ∀ j, (e.reg (A.HOST_BIND w)).getLsbD j = if j = i then b else (d.reg (A.HOST_BIND w)).getLsbD j := by
    intro b n hn
    refine ⟨((RegsFrame.refl _ d).setReg _ (.inl rfl)).wr _ _ (.inr rfl), ?_, fun j => ?_⟩
    · rw [Dev.rd_wr_self _ _ _ (by decide)]
      exact (Nat.mod_le _ _).trans hn
    · rw [Dev.wr, Dev.reg_setReg_of_ne _ _ (host_words_apart w).symm, Dev.reg_setReg_self, getLsbD_putBits_one _ b hi]
  unfold Dev.bindTenant
  cases new.getLsbD i with
  | true =>
    rw [if_pos rfl, if_neg (by omega)]
    exact bound true _ (Nat.le_refl _)
  | false =>
    rw [if_neg Bool.false_ne_true]
    exact bound false _ (by omega)

/-- Each of the places is written, while fewer than 64 tenants are SPI-bound. -/
theorem Dev.each_bindTenant (w : Nat) (new : Word) (is : List Nat) (his : ∀ i ∈ is, i < 32) (d : Dev)
    (room : d.rd F.HOST_SPI_TENANTS_COUNT + is.length ≤ 64) :
    RegsFrame (fun a => a = A.HOST_BIND w ∨ a = A.HOST_SPI_TENANTS) d (d.each is (Dev.bindTenant w new)) ∧
      ∀ j, ((d.each is (Dev.bindTenant w new)).reg (A.HOST_BIND w)).getLsbD j =
        if j ∈ is then new.getLsbD j else (d.reg (A.HOST_BIND w)).getLsbD j := by
  induction is generalizing d with
  | nil => exact ⟨.refl _ d, fun j => by rw [if_neg List.not_mem_nil]; rfl⟩
  | cons i is ih =>
    rw [List.length_cons] at room
    obtain ⟨frame, count, bit⟩ := d.bindTenant_binds w new (his i List.mem_cons_self) (by omega)
    obtain ⟨frame', bit'⟩ := ih (fun k hk => his k (List.mem_cons_of_mem _ hk)) (d.bindTenant w new i) (by omega)
    refine ⟨frame.trans frame', fun j => ((bit' j).trans ?_)⟩
    rw [bit]
    by_cases later : j ∈ is
    · rw [if_pos later, if_pos (List.mem_cons_of_mem _ later)]
    · rw [if_neg later]
      by_cases same : j = i
      · rw [if_pos same, if_pos (same ▸ List.mem_cons_self), same]
      · rw [if_neg same, if_neg (by simp [same, later])]

/-- Outside tenant 0, the path of a tenant stands in its bit. -/
theorem spiBound_eq_getLsbD (d : Dev) (hi : i < 32) (other : w ≠ 0 ∨ i ≠ 0) :
    d.spiBound (32 * w + i) = (d.reg (A.HOST_BIND w)).getLsbD i := by
  have word : (32 * w + i) / 32 = w := by omega
  have place : (32 * w + i) % 32 = i := by omega
  have bit : (d.rd (F.HOST_BIND_SPI w)).testBit i = (d.reg (A.HOST_BIND w)).getLsbD i := by
    rw [Dev.rd, testBit_bits, decide_eq_true hi, Bool.true_and, Nat.zero_add]
  rw [Dev.spiBound, if_neg (by omega), word, place, ← bit, Nat.testBit_eq_decide_div_mod_eq]
  rfl

theorem locate_hostBind (w : Fin 16) : locate (A.HOST_BIND w) = .reg .host (0x40 + w * 4) :=
  (congrArg locate (by simp only [A.HOST_BIND, Nat.add_assoc])).trans
    (locate_host (off := 0x40 + w * 4) (by omega) (by omega) (by revert w; decide +kernel))

/-- A write of HOST_BIND, after the reserved bits are counted. -/
theorem writeReg_hostBind (d : Dev) (env : Env) (p : Path) (w : Fin 16) (v : Word) :
    ∃ e, RegsFrame rsvWord d e ∧
      d.writeReg env p .host (0x40 + w * 4) (A.HOST_BIND w) 0xFFFFFFFF v = e.hostBind w v 0xFFFFFFFF := by
  refine ⟨_, .noted d .host (0x40 + w * 4) (A.HOST_BIND w) (v &&& 0xFFFFFFFF), ?_⟩
  have word : (0x40 + w.val * 4 - 0x40) / 4 = w := by omega
  have here : (decide (0x40 ≤ 0x40 + w.val * 4) && decide (0x40 + w.val * 4 < 0x80)) = true := by
    rw [Bool.and_eq_true, decide_eq_true_eq, decide_eq_true_eq]
    omega
  have plain : isCommit .host (0x40 + w.val * 4) = false := by revert w; decide
  rw [Dev.writeReg, plain, if_neg Bool.false_ne_true]
  show Dev.writeHost _ _ _ _ _ _ = _
  rw [Dev.writeHost, if_neg (by omega), if_pos here, word]

theorem not_rsvWord_host {off : Nat} (h : off < 0x1000) : ¬ rsvWord (Base.HOST + off) :=
  not_rsvWord_low (by simp only [Base.HOST]; omega) (by simp only [Base.HOST, A.GLB_RSV_WRITES]; omega)

theorem RegsFrame.countReserved (d : Dev) (a : Nat) : RegsFrame rsvWord d (d.countReserved a) := by
  unfold Dev.countReserved
  split
  · next u hu =>
    have small := unitOfAddr_lt hu
    refine (RegsFrame.refl _ d).setReg _ (.inr ?_)
    simp only [A.UNIT_RSV_WRITES, Base.UNIT]
    omega
  · exact (RegsFrame.refl _ d).setReg _ (.inl rfl)

/-- The word that HOST_BIND holds, and what the queues of its tenants are, before the write is carried out. -/
theorem hostBind_written (s : State) (p : Path) (w : Fin 16) (v : Word) :
    ∃ e, RegsFrame rsvWord s.dev e ∧
      s.dev.writeReg s.env p .host (0x40 + w * 4) (A.HOST_BIND w) 0xFFFFFFFF v =
        if (movedBits w (s.dev.reg (A.HOST_BIND w)) v).any fun i => s.dev.anyQueue (32 * w + i) then e.ignored
        else e.each (movedBits w (s.dev.reg (A.HOST_BIND w)) v) (Dev.bindTenant w v) := by
  obtain ⟨d, noted, eq⟩ := writeReg_hostBind s.dev s.env p w v
  have counted : RegsFrame rsvWord s.dev (d.when (w.val == 0 && v.getLsbD 0) fun d => d.countReserved (A.HOST_BIND w)) :=
    noted.trans (.ite (.countReserved d _) (.refl _ d))
  have word : d.reg (A.HOST_BIND w) = s.dev.reg (A.HOST_BIND w) :=
    noted.reg _ (not_rsvWord_low (by simp only [A.HOST_BIND, Base.HOST]; omega)
      (by simp only [A.HOST_BIND, Base.HOST, A.GLB_RSV_WRITES]; omega))
  refine ⟨_, counted, ?_⟩
  have queues : ∀ t, (d.when (w.val == 0 && v.getLsbD 0) fun d => d.countReserved (A.HOST_BIND w)).anyQueue t = s.dev.anyQueue t :=
    fun t => anyQueue_congr fun q => counted.rd (not_rsvWord_of_le (by simp only [A.SQ_CFG, Base.TNT]; omega))
  rw [eq, Dev.hostBind_eq, word]
  simp only [queues]

theorem hostBindWrite_binds (w : Fin 16) (take : s.TakesWrite p (A.HOST_BIND w))
    (quiet : ∀ i ∈ movedBits w (s.dev.reg (A.HOST_BIND w)) v, s.dev.anyQueue (32 * w + i) = false)
    (few : s.dev.rd F.HOST_SPI_TENANTS_COUNT ≤ 32) :
    Completes (.hostBindWrite p w v) s (fun t =>
      OnlyRegs (fun a => a = A.HOST_BIND w ∨ a = A.HOST_SPI_TENANTS ∨ rsvWord a) s t ∧
      ∀ i, i < 32 → (w.val ≠ 0 ∨ i ≠ 0) → t.dev.spiBound (32 * w + i) = v.getLsbD i) := by
  obtain ⟨e, noted, eq⟩ := hostBind_written s p w v
  have word : e.reg (A.HOST_BIND w) = s.dev.reg (A.HOST_BIND w) :=
    noted.reg _ (not_rsvWord_low (by simp only [A.HOST_BIND, Base.HOST]; omega)
      (by simp only [A.HOST_BIND, Base.HOST, A.GLB_RSV_WRITES]; omega))
  have count : e.rd F.HOST_SPI_TENANTS_COUNT = s.dev.rd F.HOST_SPI_TENANTS_COUNT := noted.rd (not_rsvWord_host (by decide))
  rw [if_neg (by simpa using quiet)] at eq
  have number := length_movedBits w (s.dev.reg (A.HOST_BIND w)) v
  obtain ⟨frame, bit⟩ := e.each_bindTenant w v (movedBits w (s.dev.reg (A.HOST_BIND w)) v) (fun i hi => (mem_movedBits.1 hi).1)
    (by omega)
  have changed : RegsFrame (fun a => a = A.HOST_BIND w ∨ a = A.HOST_SPI_TENANTS ∨ rsvWord a) s.dev _ :=
    (noted.mono fun a ha => .inr (.inr ha)).trans (frame.mono fun a ha => ha.imp_right .inl)
  obtain ⟨t, run, only, reg⟩ := runAon_onlyRegs (f := fun env d => d.poke env p (A.HOST_BIND w) v) take.1
    ((poke_of_takesWrite take (locate_hostBind w)).trans eq) changed
  refine ⟨t, run, only, fun i hi other => ?_⟩
  rw [spiBound_eq_getLsbD _ hi other, reg, bit, word]
  by_cases moved : (s.dev.reg (A.HOST_BIND w)).getLsbD i = v.getLsbD i
  · rw [moved, ite_self]
  · rw [if_pos (mem_movedBits.2 ⟨hi, moved, other⟩)]

theorem hostBindWrite_ignored (w : Fin 16) (take : s.TakesWrite p (A.HOST_BIND w))
    (busy : ∃ i ∈ movedBits w (s.dev.reg (A.HOST_BIND w)) v, s.dev.anyQueue (32 * w + i) = true) :
    Completes (.hostBindWrite p w v) s (fun t => OnlyRegs (fun a => a = A.HOST_STATUS ∨ rsvWord a) s t ∧
      t.dev.rd F.HOST_STATUS_IGNORED = min (s.dev.rd F.HOST_STATUS_IGNORED + 1) 0xFFFF) := by
  obtain ⟨e, noted, eq⟩ := hostBind_written s p w v
  rw [if_pos (by simpa using busy)] at eq
  obtain ⟨t, run, only, rd⟩ := runAon_poke_onlyRegs take (locate_hostBind w) eq noted.ignored
  exact ⟨t, run, only, by rw [rd, e.ignored_count, noted.rd (not_rsvWord_host (by decide))]⟩

/-! ### The primary path of tenant 0 (R87) -/

theorem writeReg_hostT0Path (s : State) (p : Path) (v : Word) :
    ∃ e, RegsFrame rsvWord s.dev e ∧ s.dev.writeReg s.env p .host 0 A.HOST_T0_PATH 0xFFFFFFFF v =
      if v &&& 1 = s.dev.reg A.HOST_T0_PATH then e else if s.dev.anyQueue 0 then e.ignored else e.setReg A.HOST_T0_PATH (v &&& 1) := by
  have noted := RegsFrame.noted s.dev .host 0 A.HOST_T0_PATH (v &&& 0xFFFFFFFF)
  have word := noted.reg A.HOST_T0_PATH (not_rsvWord_host (by decide))
  have queues : (s.dev.noteReserved .host 0 A.HOST_T0_PATH (v &&& 0xFFFFFFFF)).anyQueue 0 = s.dev.anyQueue 0 :=
    anyQueue_congr fun q => noted.rd (not_rsvWord_of_le (by simp only [A.SQ_CFG, Base.TNT]; omega))
  refine ⟨_, noted, ?_⟩
  show Dev.hostT0Path _ _ _ = _
  rw [Dev.hostT0Path, merged_ones, word, queues]

theorem locate_hostT0Path : locate A.HOST_T0_PATH = .reg .host 0 := by decide +kernel

theorem hostT0PathWrite_stores (take : s.TakesWrite p A.HOST_T0_PATH) (quiet : s.dev.anyQueue 0 = false) :
    Completes (.hostT0PathWrite p v) s (fun t => t.dev.rd F.HOST_T0_PATH_PATH = bits v 0 1 ∧
      OnlyRegs (fun a => a = A.HOST_T0_PATH ∨ rsvWord a) s t) := by
  obtain ⟨e, noted, eq⟩ := writeReg_hostT0Path s p v
  have frame : RegsFrame (fun a => a = A.HOST_T0_PATH ∨ rsvWord a) s.dev e := noted.mono fun a ha => .inr ha
  have bit : bits (v &&& 1) 0 1 = bits v 0 1 := by
    apply Nat.eq_of_testBit_eq
    intro i
    rw [testBit_bits, testBit_bits]
    by_cases hi : i < 1
    · obtain rfl : i = 0 := by omega
      simp
    · rw [decide_eq_false hi, Bool.false_and, Bool.false_and]
  split at eq
  · next same =>
    obtain ⟨t, run, only, rd⟩ := runAon_poke_onlyRegs take locate_hostT0Path eq frame
    refine ⟨t, run, ?_, only⟩
    rw [rd, noted.rd (not_rsvWord_host (by decide)), Dev.rd, ← same, bit]
  · rw [quiet, if_neg Bool.false_ne_true] at eq
    obtain ⟨t, run, only, rd⟩ := runAon_poke_onlyRegs take locate_hostT0Path eq (frame.setReg _ (.inl rfl))
    exact ⟨t, run, by rw [rd, Dev.rd, Dev.reg_setReg_self, bit], only⟩

theorem hostT0PathWrite_ignored (take : s.TakesWrite p A.HOST_T0_PATH) (busy : s.dev.anyQueue 0 = true)
    (other : s.dev.reg A.HOST_T0_PATH ≠ v &&& 1) :
    Completes (.hostT0PathWrite p v) s (fun t => OnlyRegs (fun a => a = A.HOST_STATUS ∨ rsvWord a) s t ∧
      t.dev.rd F.HOST_STATUS_IGNORED = min (s.dev.rd F.HOST_STATUS_IGNORED + 1) 0xFFFF) := by
  obtain ⟨e, noted, eq⟩ := writeReg_hostT0Path s p v
  rw [if_neg other.symm, if_pos busy] at eq
  obtain ⟨t, run, only, rd⟩ := runAon_poke_onlyRegs take locate_hostT0Path eq noted.ignored
  exact ⟨t, run, only, by rw [rd, e.ignored_count, noted.rd (not_rsvWord_host (by decide))]⟩

/-- Settles O35: a write of HOST_BIND binds one after the other the tenants whose bit it changes, or none of them. -/
theorem tenantsAreBoundToPaths : Obligations.TenantsAreBoundToPaths := by
  intro s p v
  exact ⟨fun w take => ⟨hostBindWrite_binds w take, hostBindWrite_ignored w take⟩,
    fun take => ⟨hostT0PathWrite_stores take, hostT0PathWrite_ignored take⟩⟩

end Sys2Proof.Machine
end

section
/-! PROOF. O34: the frames of the management SPI (R80–R82, R84). -/
namespace Sys2Proof.Machine

variable {d e : Dev} {s : State} {env : Env} {a : Nat}

/-! ### What bringing summaries up to date leaves (R45) -/

theorem Dev.touchAll_eq (d : Dev) : EvFrame (fun _ => True) { d with nudge := [] } d.touchAll :=
  .each _ (fun x u => x.touch_eq u) _

theorem Emits.touchAll (d : Dev) : Emits d d.touchAll :=
  (Emits.of_eq (e := { d with nudge := [] }) rfl).trans (.each _ (fun x u => .touch x u) _)

theorem Dev.settle_host (d : Dev) : d.settle.host = { d.host with pba := d.settle.host.pba, sumPrev := d.summary } := by
  obtain ⟨pba, out, settled⟩ := d.settle_cases
  rw [settled]

theorem Dev.settle_spiErr (d : Dev) : d.settle.host.spiErr = d.host.spiErr := by rw [d.settle_host]

theorem Dev.touchAll_spiErr (d : Dev) : d.touchAll.host.spiErr = d.host.spiErr := by rw [d.touchAll_eq.eq]

/-! ### Read frames (R81) -/

/-- A data word of a read frame that the map answers. -/
theorem Dev.spiWord_answered (route : d.route .spi a = .map a) (ok : d.requestError .spi a 4 false = none) :
    d.spiWord env a = (d.readTouch .spi a 0xFFFFFFFF true, d.readWord env .spi a, false) := by
  have aligned := aligned_of_requestError ok
  have octets : ∀ w : Word, ((([] ++ wordBytes w).drop (a % 4)).take 4) = wordBytes w := fun w => by rw [aligned]; rfl
  simp only [Dev.spiWord, Dev.pathRead, Dev.readRequest, Dev.readAll, route, ok, requestWords_of_aligned aligned, List.foldl_cons,
    List.foldl_nil, octets, bytesWord_wordBytes]
  rfl

/-- One word more of a read frame. -/
def spiNext (env : Env) (a : Nat) (x : Dev × List Word) (i : Nat) : Dev × List Word :=
  ((x.1.spiWord env (a + 4 * (i + 1))).1, x.2 ++ [(x.1.spiWord env (a + 4 * (i + 1))).2.1])

/-- The words of a read frame that follow those it has. -/
theorem foldl_spiNext (env : Env) (a : Nat) (is : List Nat) (x : Dev × List Word) :
    ∃ us, (is.foldl (spiNext env a) x).2 = x.2 ++ us ∧ us.length = is.length := by
  induction is generalizing x with
  | nil => exact ⟨[], (List.append_nil _).symm, rfl⟩
  | cons i is ih =>
    obtain ⟨us, eq, len⟩ := ih (spiNext env a x i)
    refine ⟨(x.1.spiWord env (a + 4 * (i + 1))).2.1 :: us, ?_, by rw [List.length_cons, len, List.length_cons]⟩
    rw [List.foldl_cons, eq, spiNext, List.append_assoc]
    rfl

theorem Dev.spiRead_eq (up : d.pathUp .spi = true) (n : Nat) :
    ∃ st, d.spiRead env a (n + 1) =
      let r := (List.range n).foldl (spiNext env a) ((d.spiWord env a).1, [(d.spiWord env a).2.1])
      r.1.emit (.spi st r.2) := by
  refine ⟨(d.spiWord env a).1.spiStatus (d.spiWord env a).2.2, ?_⟩
  rw [Dev.spiRead, up, if_neg (by decide)]
  rfl

/-- A read frame leaves the device with a word for each place, the first from the map. -/
theorem Dev.spiRead_emits {n : Nat} (up : d.pathUp .spi = true) (route : d.route .spi a = .map a)
    (ok : d.requestError .spi a 4 false = none) :
    ∃ (e : Dev) (st : Byte) (ws : List Word), d.spiRead env a (n + 1) = e.emit (.spi st ws) ∧ ws.length = n + 1 ∧
      ws.headD 0 = d.readWord env .spi a := by
  obtain ⟨st, eq⟩ := d.spiRead_eq (env := env) (a := a) up n
  obtain ⟨us, words, len⟩ := foldl_spiNext env a (List.range n) ((d.spiWord env a).1, [(d.spiWord env a).2.1])
  rw [List.length_range] at len
  refine ⟨_, st, _, eq, ?_, ?_⟩
  · rw [words, List.length_append, len, Nat.add_comm]
    rfl
  · rw [words, d.spiWord_answered route ok]
    rfl

theorem spiFrame_answers {addr : Nat} {n : Nat} (take : s.TakesRead .spi addr) :
    ∃ t, runAon (fun env d => d.spiRead env addr (n + 1)) s = .next t ∧ ∃ st ws, Output.spi st ws ∈ t.dev.out ∧ ws.length = n + 1 ∧
      ws.headD 0 = s.dev.readWord ⟨s.mem, s.fuses⟩ .spi addr := by
  obtain ⟨⟨-, released⟩, -, pathUp, route, ok⟩ := take
  obtain ⟨e, st, ws, eq, len, first⟩ := Dev.spiRead_emits (env := s.env) (n := n) (a := addr) pathUp route ok
  have emits : Emits (e.emit (.spi st ws)) (e.emit (.spi st ws)).touchAll.settle := (Emits.touchAll _).trans (.settle _)
  refine ⟨_, runAon_of_up released, st, ws, ?_, len, first⟩
  show _ ∈ (s.dev.spiRead s.env addr (n + 1)).touchAll.settle.out
  rw [eq]
  exact emits.subset (List.mem_append_right _ List.mem_cons_self)

/-! ### Write frames (R81) -/

theorem Dev.spiWrite_word {v : Word} (up : d.pathUp .spi = true) (route : d.route .spi a = .map a)
    (ok : d.requestError .spi a 4 true = none) (idle : d.rd F.FRG_STATUS_STATE ≠ Frg.RECORDING) :
    d.spiWrite env a [v] false = d.writeWord env .spi a v := by
  have unrecorded : d.recordWrite .spi (d.pathTenant .spi a) a (wordBytes v) = d := by
    unfold Dev.recordWrite Dev.hostRecord
    rw [show d.requestError .spi a (wordBytes v).length true = none from ok, if_neg (by decide), if_pos idle]
  have path : d.pathWrite env .spi a (wordBytes v) = (d.writeAll env .spi a (wordsOf (wordBytes v)), true) := by
    unfold Dev.pathWrite
    rw [route]
    dsimp only
    rw [unrecorded, Dev.writeRequest, show d.requestError .spi a (wordBytes v).length true = none from ok]
    exact if_neg (by decide : ¬ 4 < 4)
  rw [Dev.spiWrite, up, if_neg (by decide)]
  show (d.pathWrite env .spi a (wordBytes v)).1 = _
  rw [path, wordsOf_wordBytes]
  rfl

theorem spiFrame_stores {addr : Nat} {v : Word} (take : s.TakesWrite .spi addr) (window : (locate addr).window = true) :
    ∃ t, runAon (fun env d => d.spiWrite env addr [v] false) s = .next t ∧ ∀ b, memByte t.mem b =
      if addr ≤ b ∧ b < addr + 4 then (wordBytes v).getD (b - addr) 0 else memByte s.mem b := by
  obtain ⟨up, -, pathUp, route, ok, idle⟩ := take
  obtain ⟨-, memw, nudge, -⟩ := up.1
  have stored : s.dev.spiWrite s.env addr [v] false = (s.dev.memStore addr (wordBytes v)).dirtyIf (locate addr).code :=
    (Dev.spiWrite_word pathUp route ok idle).trans (Dev.writeWord_window window)
  refine ⟨_, runAon_settles up stored (by rw [Dev.dirtyIf_nudge]; exact nudge), fun b => ?_⟩
  have stores : ((s.dev.memStore addr (wordBytes v)).dirtyIf (locate addr).code).memw =
      (wordBytes v).zipIdx.map (fun e => MemOp.byte (addr + e.2) e.1) := by
    rw [Dev.dirtyIf_memw, Dev.memStore, memw]
    rfl
  dsimp only
  rw [stores, memByte_applyMem_bytes]
  rfl

/-- A frame of the wrong length sets ERR last, whatever its words did. -/
theorem spiFrame_faults {addr : Nat} {ws : List Word} {part : Bool} (up : s.Up) (pathUp : s.dev.pathUp .spi = true)
    (bad : part = true ∨ 16 < ws.length) :
    ∃ t, runAon (fun env d => d.spiWrite env addr ws part) s = .next t ∧ t.dev.host.spiErr = true := by
  have long : (part || ws.isEmpty || decide (16 < ws.length)) = true := by
    rcases bad with h | h <;> simp [h]
  have fault : s.dev.spiWrite s.env addr ws part = (s.dev.spiWrites s.env addr (ws.take 16)).spiFault := by
    rw [Dev.spiWrite, pathUp, if_neg (by decide), long]
    rfl
  refine ⟨_, runAon_of_up up.2, ?_⟩
  show (s.dev.spiWrite s.env addr ws part).touchAll.settle.host.spiErr = true
  rw [fault, Dev.settle_spiErr, Dev.touchAll_spiErr]
  rfl

/-! ### STATUS, TENANT and unknown commands -/

/-- A command of the interface that changes what GLB_EVT_SUMMARY does not show, and nothing else. -/
theorem liftAon_exact {f : Dev → Dev} (up : s.Up) (hd : f s.dev = d) (nudge : d.nudge = s.dev.nudge) (memw : d.memw = s.dev.memw)
    (regs : d.regs = s.dev.regs) (prev : d.host.sumPrev = s.dev.host.sumPrev) : liftAon f s = .next { s with dev := d } := by
  subst hd
  obtain ⟨⟨-, noStores, noNudge, signalled⟩, released⟩ := up
  refine (runAon_of_up released).trans (carry_exact (nudge.trans noNudge) (memw.trans noStores) ?_)
  rw [prev, signalled]
  exact (Dev.summary_congr regs).symm

theorem spiStatus_completes (up : s.Up) (pathUp : s.dev.pathUp .spi = true) :
    Completes .status s (fun t => t = { s with dev := { s.dev with
      out := s.dev.out ++ [.spi (s.dev.spiStatus false) []], host := { s.dev.host with spiErr := false } } }) :=
  ⟨_, liftAon_exact (f := fun d => if d.pathUp .spi then d.spiStatusCmd else d) up (if_pos pathUp) rfl rfl rfl rfl, rfl⟩

theorem spiTenant_completes (up : s.Up) (pathUp : s.dev.pathUp .spi = true) (v : BitVec 16) :
    Completes (.tenant v) s (fun t => t = { s with dev := { s.dev with host :=
      if v.toNat < 512 ∧ (v = 0 ∨ s.dev.spiBound v.toNat = true) then { s.dev.host with session := v.toNat }
      else { s.dev.host with spiErr := true } } }) := by
  have effect : s.dev.spiTenant v = { s.dev with host :=
      if v.toNat < 512 ∧ (v = 0 ∨ s.dev.spiBound v.toNat = true) then { s.dev.host with session := v.toNat }
      else { s.dev.host with spiErr := true } } := by
    have zero : v = 0 ↔ v.toNat = 0 := BitVec.toNat_inj.symm
    by_cases ok : v.toNat < 512 ∧ (v = 0 ∨ s.dev.spiBound v.toNat = true)
    · have same : v.toNat % 512 = v.toNat := Nat.mod_eq_of_lt ok.1
      have opened : s.dev.spiTenant v = { s.dev with host := { s.dev.host with session := v.toNat % 512 } } := if_neg (by
        obtain ⟨small, none | bound⟩ := ok
        · simp [zero.1 none]
        · simp [same, small, bound])
      rw [opened, if_pos ok, same]
    · have refused : s.dev.spiTenant v = s.dev.spiFault := if_pos (by
        by_cases small : v.toNat < 512
        · rw [zero, not_and, not_or] at ok
          simp [Nat.mod_eq_of_lt small, ok small]
        · simp [Nat.not_lt.1 small])
      rw [refused, if_neg ok]
      rfl
  refine ⟨_, liftAon_exact (f := fun d => if d.pathUp .spi then d.spiTenant v else d) up ((if_pos pathUp).trans effect) rfl rfl rfl ?_, rfl⟩
  dsimp only
  split <;> rfl

theorem spiUnknown_completes (up : s.Up) (pathUp : s.dev.pathUp .spi = true) {c : Byte} (unknown : spiKnown c = false) :
    Completes (.spiUnknownCommand c) s (fun t => t = { s with dev := { s.dev with host := { s.dev.host with spiErr := true } } }) :=
  ⟨_, liftAon_exact (f := fun d => if d.pathUp .spi && !spiKnown c then d.spiFault else d) up
    (if_pos (by rw [pathUp, unknown]; rfl)) rfl rfl rfl rfl, rfl⟩

/-- Settles O34: each frame by what it leaves last, its answer, its stores or ERR. -/
theorem spiFramesFollowTheirCommands : Obligations.SpiFramesFollowTheirCommands := by
  intro s up pathUp
  exact ⟨fun addr n take => ⟨spiFrame_answers take, spiFrame_answers take⟩,
    fun addr v take window => ⟨spiFrame_stores take window, spiFrame_stores take window⟩,
    fun addr ws part bad => ⟨spiFrame_faults up pathUp bad, spiFrame_faults up pathUp bad⟩,
    spiStatus_completes up pathUp, spiTenant_completes up pathUp, fun c unknown => spiUnknown_completes up pathUp unknown⟩

end Sys2Proof.Machine
end

section
/-! PROOF. O39: host channel rings (R109–R111). -/
namespace Sys2Proof.Machine

variable {d e : Dev} {s : State} {p : Path} {r b : Nat} {x : HchRt}

/-! ### What operations leave of a ring -/

@[simp] theorem Dev.hchRing_setHch_self (d : Dev) (r : Nat) (x : HchRt) : (d.setHch r x).hchRing r = x :=
  (SMap.get_put _ _ _ _ _).trans (if_pos rfl)

theorem EvFrame.hchRing {W : Nat → Prop} (h : EvFrame W d e) (r : Nat) : e.hchRing r = d.hchRing r := by rw [h.eq]; rfl

theorem EvFrame.nudge {W : Nat → Prop} (h : EvFrame W d e) : e.nudge = d.nudge := by rw [h.eq]

theorem Dev.setHch_nudge (d : Dev) (r : Nat) (x : HchRt) : (d.setHch r x).nudge = d.nudge := rfl
theorem Dev.hchCount_hchRing (d : Dev) (r w k : Nat) : (d.hchCount r w).hchRing k = d.hchRing k := rfl
theorem Dev.hchCount_nudge (d : Dev) (r w : Nat) : (d.hchCount r w).nudge = d.nudge := rfl
theorem Dev.hchCount_reg (d : Dev) (r w a : Nat) : (d.hchCount r w).reg a = d.reg a := rfl

theorem Settled.hchRing {t : State} (h : Settled s d t) (r : Nat) : t.dev.hchRing r = d.hchRing r := by rw [h.dev]; rfl

theorem not_evtWord_low {a : Nat} (h : a < 0x10000) : ¬ evtWord a := by
  rw [evtWord]
  omega

theorem Dev.hchLeaf_eq (d : Dev) (r b : Nat) :
    ∃ now : Bool, let e := d.leaf 0x0FA (A.HCH_STAT r) (16 + b)
      d.hchLeaf r b = if now then e.postRing r (b + 1) else e.setHch r { e.hchRing r with heldCause := b + 1 } := ⟨_, rfl⟩

/-- A leaf of a ring's status word is set, and of the ring changes no more than when its last event was posted and whether one is held. -/
theorem Dev.hchLeaf_sets (d : Dev) (hr : r < 128) (hb : b < 3) :
    (∃ last held, (d.hchLeaf r b).hchRing r = { d.hchRing r with lastPost := last, heldCause := held }) ∧
      (d.hchLeaf r b).nudge = d.nudge ∧ ((d.hchLeaf r b).reg (A.HCH_STAT r)).getLsbD (16 + b) = true := by
  have place : ¬ evtWord (A.HCH_STAT r) := not_evtWord_low (by simp only [A.HCH_STAT, Base.HOST]; omega)
  have touched : EvFrame evtWord (d.setBit (A.HCH_STAT r) (16 + b)) (d.leaf 0x0FA (A.HCH_STAT r) (16 + b)) :=
    Dev.touch_frame _ (by decide)
  have ring : (d.leaf 0x0FA (A.HCH_STAT r) (16 + b)).hchRing r = d.hchRing r := touched.hchRing r
  have bit : ((d.leaf 0x0FA (A.HCH_STAT r) (16 + b)).reg (A.HCH_STAT r)).getLsbD (16 + b) = true := by
    rw [touched.reg _ place, Dev.setBit, Dev.reg_setReg_self, getLsbD_putBits _ _ _ _ _ (by omega), if_pos (by omega), Nat.sub_self]
    rfl
  have nudge : (d.leaf 0x0FA (A.HCH_STAT r) (16 + b)).nudge = d.nudge := touched.nudge
  obtain ⟨now, eq⟩ := d.hchLeaf_eq r b
  rw [eq]
  generalize d.leaf 0x0FA (A.HCH_STAT r) (16 + b) = e at ring bit nudge
  dsimp only
  split
  · have posted : EvFrame evtWord (e.setHch r { e.hchRing r with lastPost := some e.clk, heldCause := 0 }) (e.postRing r (b + 1)) :=
      .postEvent (fun _ h => h) _ _ _ _ (Dev.owner_lt _ _)
    rw [posted.hchRing, posted.nudge, posted.reg _ place]
    exact ⟨⟨some e.clk, 0, by rw [Dev.hchRing_setHch_self, ring]⟩, nudge, bit⟩
  · exact ⟨⟨(e.hchRing r).lastPost, b + 1, by rw [Dev.hchRing_setHch_self, ring]⟩, nudge, bit⟩

theorem EvFrame.hchOwnPtr (W : Nat → Prop) (d : Dev) (r : Nat) : EvFrame W d (d.hchOwnPtr r) := .hostBytes _ d _

theorem Dev.moveHch_of_ok {f : Dev → Dev} (ok : (d.hchRing r).ok = true) : d.moveHch r f = f d := if_pos ok

/-! ### The host's pointer (R109) -/

/-- A pointer that the host may write: the fill stays within the ring. -/
def Dev.HchFits (d : Dev) (r : Nat) (n : BitVec 16) : Prop :=
  if r < 64 then (n - (d.hchRing r).dev).toNat ≤ d.hchDepth r
  else (n - (d.hchRing r).host).toNat ≤ ((d.hchRing r).dev - (d.hchRing r).host).toNat

theorem Dev.hchPtr_eq (d : Dev) {t r : Nat} (n : BitVec 16) (owner : d.rd (F.UNIT_OWNER_OWNER 0x0FA) = t) (en : d.rd (F.HCH_CFG_EN r) = 1)
    (ok : (d.hchRing r).ok = true) :
    (d.HchFits r n → d.hchPtr t r n = d.setHch r { d.hchRing r with host := n, host2 := n }) ∧
      (¬ d.HchFits r n → d.hchPtr t r n = d.ignored) := by
  have on : d.on (F.HCH_CFG_EN r) = true := by rw [Dev.on, en]; rfl
  have moved : d.hchPtr t r n = if (if isRecord r then ((d.hchRing r).dev - (d.hchRing r).host).toNat < (n - (d.hchRing r).host).toNat
      else d.hchDepth r < (n - (d.hchRing r).dev).toNat) then d.ignored else d.setHch r { d.hchRing r with host := n, host2 := n } := by
    rw [Dev.hchPtr, if_neg (by simp [owner, on]), Dev.moveHch_of_ok ok]
    rfl
  have bad : (if isRecord r then ((d.hchRing r).dev - (d.hchRing r).host).toNat < (n - (d.hchRing r).host).toNat
      else d.hchDepth r < (n - (d.hchRing r).dev).toNat) ↔ ¬ d.HchFits r n := by
    rw [Dev.HchFits]
    by_cases record : 64 ≤ r
    · rw [if_pos (decide_eq_true record), if_neg (Nat.not_lt.2 record), Nat.not_le]
    · rw [if_neg (by simp [record]), if_pos (Nat.not_le.1 record), Nat.not_le]
  rw [moved]
  exact ⟨fun fits => if_neg fun h => bad.1 h fits, fun out => if_pos (bad.2 out)⟩

theorem Dev.writeReg_tnt (d : Dev) (env : Env) (p : Path) (t off a : Nat) (v : Word) :
    d.writeReg env p (.tnt t) off a 0xFFFFFFFF v =
      (d.noteReserved (.tnt t) off a (v &&& 0xFFFFFFFF)).writeTnt p t off a 0xFFFFFFFF v := rfl

theorem Dev.writeTnt_hchPtr (d : Dev) {t off a : Nat} {v : Word} (h : 0x400 ≤ off) :
    d.writeTnt p t off a 0xFFFFFFFF v = d.hchPtr t ((off - 0x400) / 4) (v.setWidth 16) := by
  have base : ¬ (decide (0x10 ≤ off) && decide (off < 0x40)) = true := by simp; omega
  have port : ¬ (decide (0x80 ≤ off) && decide (off < 0xC0)) = true := by simp; omega
  rw [Dev.writeTnt, if_neg base, if_neg (by omega), if_neg (by omega), if_neg (by omega), if_neg port, if_neg (by omega), if_pos h,
    and_all_ones]

theorem hchPtr_row (r : Fin 128) : (findRow Rows.TNT (0x400 + 4 * r.val)).isSome = true := by
  revert r
  decide +kernel

theorem not_rsvWord_hchCfg (r : Fin 128) : ¬ rsvWord (A.HCH_CFG r) :=
  not_rsvWord_low (by simp only [A.HCH_CFG, Base.HOST]; omega) (by simp only [A.HCH_CFG, Base.HOST, A.GLB_RSV_WRITES]; omega)

theorem not_rsvWord_owner : ¬ rsvWord (A.UNIT_OWNER 0x0FA) := by
  unfold rsvWord
  decide

theorem hchPtr_written (s : State) (p : Path) (t : Fin 512) (r : Fin 128) (v : Word)
    (owner : s.dev.rd (F.UNIT_OWNER_OWNER 0x0FA) = t) (en : s.dev.rd (F.HCH_CFG_EN r) = 1) (ok : (s.dev.hchRing r).ok = true) :
    ∃ e, RegsFrame rsvWord s.dev e ∧
      (s.dev.HchFits r (v.setWidth 16) → s.dev.writeReg s.env p (.tnt t) (0x400 + 4 * r) (pageAddr t (0x400 + 4 * r)) 0xFFFFFFFF v =
        e.setHch r { s.dev.hchRing r with host := v.setWidth 16, host2 := v.setWidth 16 }) ∧
      (¬ s.dev.HchFits r (v.setWidth 16) →
        s.dev.writeReg s.env p (.tnt t) (0x400 + 4 * r) (pageAddr t (0x400 + 4 * r)) 0xFFFFFFFF v = e.ignored) := by
  have noted := RegsFrame.noted s.dev (.tnt t) (0x400 + 4 * r) (pageAddr t (0x400 + 4 * r)) (v &&& 0xFFFFFFFF)
  have eq : s.dev.writeReg s.env p (.tnt t) (0x400 + 4 * r) (pageAddr t (0x400 + 4 * r)) 0xFFFFFFFF v =
      (s.dev.noteReserved (.tnt t) (0x400 + 4 * r) (pageAddr t (0x400 + 4 * r)) (v &&& 0xFFFFFFFF)).hchPtr t r (v.setWidth 16) := by
    have word : (0x400 + 4 * r.val - 0x400) / 4 = r := by omega
    rw [Dev.writeReg_tnt, Dev.writeTnt_hchPtr _ (by omega), word]
  generalize s.dev.noteReserved (.tnt t) (0x400 + 4 * r) (pageAddr t (0x400 + 4 * r)) (v &&& 0xFFFFFFFF) = e at noted eq
  have ring : e.hchRing r = s.dev.hchRing r := by rw [noted.eq]; rfl
  have fits : e.HchFits r (v.setWidth 16) ↔ s.dev.HchFits r (v.setWidth 16) := by
    have depth : e.hchDepth r = s.dev.hchDepth r := by
      rw [Dev.hchDepth, noted.rd (not_rsvWord_hchCfg r), Dev.hchDepth]
    rw [Dev.HchFits, ring, depth, Dev.HchFits]
  obtain ⟨moved, ignored⟩ := e.hchPtr_eq (t := t) (r := r) (v.setWidth 16) ((noted.rd not_rsvWord_owner).trans owner)
    ((noted.rd (not_rsvWord_hchCfg r)).trans en) (by rw [ring]; exact ok)
  refine ⟨e, noted, fun h => ?_, fun h => ?_⟩
  · rw [eq, moved (fits.2 h), ring]
  · rw [eq, ignored (fun k => h (fits.1 k))]

theorem locate_hchPtr (t : Fin 512) (r : Fin 128) : locate (pageAddr t (0x400 + 4 * r)) = .reg (.tnt t) (0x400 + 4 * r) :=
  locate_page t (by omega) (by omega) (hchPtr_row r)

/-- Besides registers, the rings alone differ. -/
theorem onlyRegs_of_setHch {t : State} (h : Settled s (e.setHch r x) t) (noted : RegsFrame rsvWord s.dev e) (memw : s.dev.memw = []) :
    ({ t with dev := { t.dev with hch := s.dev.hch } } : State) = { s with dev := { s.dev with
      regs := t.dev.regs, host := { s.dev.host with pba := t.dev.host.pba, sumPrev := t.dev.host.sumPrev }, out := t.dev.out } } := by
  obtain ⟨dev, mem, fuses, pending⟩ := h
  have stores : (e.setHch r x).memw = [] := by rw [Dev.setHch, noted.eq]; exact memw
  rw [stores, applyMem_nil] at mem
  have same : ({ t.dev with hch := s.dev.hch } : Dev) = { s.dev with
      regs := t.dev.regs, host := { s.dev.host with pba := t.dev.host.pba, sumPrev := t.dev.host.sumPrev }, out := t.dev.out } := by
    rw [Dev.setHch, noted.eq] at dev
    rw [dev, ← memw]
  rw [same, mem, fuses, pending]

theorem hchPtrWrite_moves {t : Fin 512} {r : Fin 128} {v : Word} (take : s.TakesWrite p (pageAddr t (0x400 + 4 * r)))
    (owner : s.dev.rd (F.UNIT_OWNER_OWNER 0x0FA) = t) (en : s.dev.rd (F.HCH_CFG_EN r) = 1) (ok : (s.dev.hchRing r).ok = true) :
    (s.dev.HchFits r (v.setWidth 16) → Completes (.hchPtrWrite p t r v) s (fun u =>
        u.dev.hchRing r = { s.dev.hchRing r with host := v.setWidth 16, host2 := v.setWidth 16 } ∧ OnlyRegs rsvWord s
          { u with dev := { u.dev with hch := s.dev.hch } })) ∧
      (¬ s.dev.HchFits r (v.setWidth 16) → Completes (.hchPtrWrite p t r v) s (fun u =>
        OnlyRegs (fun a => a = A.HOST_STATUS ∨ rsvWord a) s u ∧
          u.dev.rd F.HOST_STATUS_IGNORED = min (s.dev.rd F.HOST_STATUS_IGNORED + 1) 0xFFFF)) := by
  obtain ⟨e, noted, moved, ignored⟩ := hchPtr_written s p t r v owner en ok
  obtain ⟨-, memw, nudge, -⟩ := take.1.1
  constructor
  · intro fits
    obtain ⟨u, run, settled⟩ := runAon_poke take (locate_hchPtr t r) (moved fits) noted.nudge
    refine ⟨u, run, (settled.hchRing r).trans (Dev.hchRing_setHch_self _ _ _), onlyRegs_of_setHch settled noted memw,
      fun a ha => (settled.reg a).trans (noted.reg a ha)⟩
  · intro fits
    obtain ⟨u, run, only, rd⟩ := runAon_poke_onlyRegs take (locate_hchPtr t r) (ignored fits) noted.ignored
    exact ⟨u, run, only, by rw [rd, e.ignored_count, noted.rd (not_rsvWord_host (by decide))]⟩

/-! ### Blocks that the device reads and writes (R110, R111) -/

/-- A command that acts in CORE does what its effect `d` says, but for what the end of a command adds. -/
theorem Completes.of_run {c : Instr} {f : Env → Dev → Dev} {P : State → Prop} (up : s.CoreUp) (hc : exec c s = run f s)
    (hf : f s.env s.dev = d) (nudge : d.nudge = s.dev.nudge) (hP : ∀ t, Settled s d t → P t) : Completes c s P := by
  obtain ⟨-, -, none, -⟩ := up.1.1
  obtain ⟨t, done, settled⟩ := run_settled up hf (nudge.trans none)
  exact ⟨t, hc.trans done, hP t settled⟩

theorem Dev.hchUnderrun_eq (d : Dev) (r : Nat) :
    ∃ ss, d.hchUnderrun r = ((d.setHch r { d.hchRing r with block := ss }).hchCount r 1).hchLeaf r 0 := ⟨_, rfl⟩

/-- An underrun sets its leaf and leaves the device's pointer. -/
theorem Dev.hchUnderrun_sets (d : Dev) (hr : r < 128) :
    ((d.hchUnderrun r).hchRing r).dev = (d.hchRing r).dev ∧ (d.hchUnderrun r).nudge = d.nudge ∧
      ((d.hchUnderrun r).reg (A.HCH_STAT r)).getLsbD 16 = true := by
  obtain ⟨ss, eq⟩ := d.hchUnderrun_eq r
  obtain ⟨⟨last, held, ring⟩, nudge, bit⟩ :=
    Dev.hchLeaf_sets ((d.setHch r { d.hchRing r with block := ss }).hchCount r 1) hr (b := 0) (by decide)
  rw [eq, ring, nudge]
  exact ⟨by rw [Dev.hchCount_hchRing, Dev.hchRing_setHch_self], by rw [Dev.hchCount_nudge, Dev.setHch_nudge], bit⟩

theorem hchPlaybackRead_moves {r : Fin 64} (block : List Byte) (up : s.CoreUp) (runs : s.dev.hchRuns r = true)
    (none : (s.dev.hchRing r).block = []) (ok : (s.dev.hchRing r).ok = true) :
    ((s.dev.hchRing r).hostAt ≠ (s.dev.hchRing r).dev → Completes (.hchPlaybackRead r block) s (fun u =>
        (u.dev.hchRing r).dev = (s.dev.hchRing r).dev + 1 ∧ (u.dev.hchRing r).dev2 = (s.dev.hchRing r).dev2 + 1 ∧
        (u.dev.hchRing r).host = (s.dev.hchRing r).host ∧
        (u.dev.hchRing r).block =
          playbackSamples (s.dev.rd (F.HCH_CFG_CHANS r) * (s.dev.hchRing r).tick) (s.dev.on (F.HCH_CFG_TAGS r)) block)) ∧
      ((s.dev.hchRing r).hostAt = (s.dev.hchRing r).dev → Completes (.hchPlaybackRead r block) s (fun u =>
        (u.dev.hchRing r).dev = (s.dev.hchRing r).dev ∧ (u.dev.reg (A.HCH_STAT r)).getLsbD 16 = true)) := by
  have reads : ¬ (!s.dev.hchRuns r || !(s.dev.hchRing r).block.isEmpty) = true := by simp [runs, none]
  constructor
  · intro posted
    refine .of_run up rfl ((if_neg reads).trans ((Dev.moveHch_of_ok ok).trans (if_neg posted))) ?_ fun t settled => ?_
    · rw [(EvFrame.hchOwnPtr (fun _ => True) _ _).nudge, Dev.hchCount_nudge, Dev.setHch_nudge]
    · have ring := settled.hchRing r
      rw [(EvFrame.hchOwnPtr (fun _ => True) _ _).hchRing, Dev.hchCount_hchRing, Dev.hchRing_setHch_self] at ring
      rw [ring]
      exact ⟨rfl, rfl, rfl, rfl⟩
  · intro late
    obtain ⟨ring, nudge, bit⟩ := s.dev.hchUnderrun_sets (r := r) (by omega)
    refine .of_run up rfl ((if_neg reads).trans ((Dev.moveHch_of_ok ok).trans (if_pos late))) nudge fun t settled => ?_
    rw [settled.hchRing, settled.reg]
    exact ⟨ring, bit⟩

theorem hchRecordWrite_moves {r : Fin 64} {ss : List Sample} {rest : List (List Sample)} (up : s.CoreUp)
    (blocks : (s.dev.hchRing (64 + r.val)).record = ss :: rest) (en : s.dev.rd (F.HCH_CFG_EN (64 + r.val)) = 1)
    (ok : (s.dev.hchRing (64 + r.val)).ok = true) :
    let k := 64 + r.val
    let x := s.dev.hchRing k
    ((x.dev - x.host).toNat < s.dev.hchDepth k → Completes (.hchRecordWrite r) s (fun u =>
        (u.dev.hchRing k).dev = x.dev + 1 ∧ (u.dev.hchRing k).host = x.host ∧ (u.dev.hchRing k).record = rest)) ∧
      (s.dev.hchDepth k ≤ (x.dev - x.host).toNat → Completes (.hchRecordWrite r) s (fun u =>
        (u.dev.hchRing k).dev = x.dev ∧ (u.dev.hchRing k).record = rest ∧ (u.dev.reg (A.HCH_STAT k)).getLsbD 17 = true)) := by
  intro k x
  have on : ¬ (!(s.dev.setHch k { x with record := rest }).on (F.HCH_CFG_EN k)) = true := by
    rw [Dev.on, show (s.dev.setHch k { x with record := rest }).rd (F.HCH_CFG_EN k) = 1 from en]
    decide
  have taken : (s.dev.setHch k { x with record := rest }).hchRing k = { x with record := rest } := Dev.hchRing_setHch_self _ _ _
  have ok' : ((s.dev.setHch k { x with record := rest }).hchRing k).ok = true := by rw [taken]; exact ok
  have nudge : (s.dev.setHch k { x with record := rest }).nudge = s.dev.nudge := Dev.setHch_nudge _ _ _
  have depth : (s.dev.setHch k { x with record := rest }).hchDepth k = s.dev.hchDepth k := rfl
  constructor
  · intro room
    have fits : ¬ (s.dev.setHch k { x with record := rest }).hchDepth k ≤
        (((s.dev.setHch k { x with record := rest }).hchRing k).dev - ((s.dev.setHch k { x with record := rest }).hchRing k).host).toNat := by
      rw [depth, taken]
      exact Nat.not_le.2 room
    have effect : ∃ f, exec (.hchRecordWrite r) s = run f s ∧ (f s.env s.dev).nudge = s.dev.nudge ∧
        (f s.env s.dev).hchRing k = { x with record := rest, dev := x.dev + 1, dev2 := x.dev2 + 1 } := by
      refine ⟨_, rfl, ?_⟩
      dsimp only
      rw [blocks]
      dsimp only
      rw [if_neg on, Dev.moveHch_of_ok ok', if_neg fits, (EvFrame.hchOwnPtr (fun _ => True) _ _).nudge,
        (EvFrame.hchOwnPtr (fun _ => True) _ _).hchRing, Dev.hchCount_nudge, Dev.hchCount_hchRing, Dev.setHch_nudge,
        (EvFrame.hostBytes (W := fun _ => True) _ _ _).nudge, taken, Dev.hchRing_setHch_self]
      exact ⟨nudge, rfl⟩
    obtain ⟨f, command, kept, ring⟩ := effect
    refine .of_run up command rfl kept fun t settled => ?_
    rw [settled.hchRing, ring]
    exact ⟨rfl, rfl, rfl⟩
  · intro full
    have dropped : (s.dev.setHch k { x with record := rest }).hchDepth k ≤
        (((s.dev.setHch k { x with record := rest }).hchRing k).dev - ((s.dev.setHch k { x with record := rest }).hchRing k).host).toNat := by
      rw [depth, taken]
      exact full
    have effect : ∃ f, exec (.hchRecordWrite r) s = run f s ∧
        f s.env s.dev = ((s.dev.setHch k { x with record := rest }).hchCount k 2).hchLeaf k 1 := by
      refine ⟨_, rfl, ?_⟩
      dsimp only
      rw [blocks]
      exact (if_neg on).trans ((Dev.moveHch_of_ok ok').trans (if_pos dropped))
    obtain ⟨f, command, effect⟩ := effect
    obtain ⟨⟨last, held, ring⟩, leaf, bit⟩ :=
      Dev.hchLeaf_sets ((s.dev.setHch k { x with record := rest }).hchCount k 2) (by omega : k < 128) (b := 1) (by decide)
    refine .of_run up command effect (leaf.trans ?_) fun t settled => ?_
    · rw [Dev.hchCount_nudge, nudge]
    · rw [settled.hchRing, ring, Dev.hchCount_hchRing, taken, settled.reg]
      exact ⟨rfl, rfl, bit⟩

/-- Settles O39: the pointers agree, so that each update moves them and no ring is reset. -/
theorem hostChannelRingsMove : Obligations.HostChannelRingsMove :=
  ⟨fun _ _ _ _ _ take owner en ok => hchPtrWrite_moves take owner en ok,
    fun _ _ block up runs none ok => hchPlaybackRead_moves block up runs none ok,
    fun _ _ _ _ up blocks en ok => hchRecordWrite_moves up blocks en ok⟩

end Sys2Proof.Machine
end

section
/-! PROOF. Tenant queues (R89–R98): what their operations leave of a queue and of its tenant's words. -/
namespace Sys2Proof.Machine

variable {d e : Dev} {t q r u : Nat} {x y : Queue}

/-! ### Queues by their place -/

theorem Dev.queue_setQueue (d : Dev) (t q u r : Nat) (x : Queue) :
    (d.setQueue t q x).queue u r = if qKey u r = qKey t q then x else d.queue u r := SMap.get_put _ _ _ _ _

@[simp] theorem Dev.queue_setQueue_self (d : Dev) (t q : Nat) (x : Queue) : (d.setQueue t q x).queue t q = x :=
  (d.queue_setQueue t q t q x).trans (if_pos rfl)

theorem Dev.queue_setQueue_of_ne (d : Dev) (x : Queue) (h : r ≠ q) : (d.setQueue t q x).queue t r = d.queue t r :=
  (d.queue_setQueue t q t r x).trans (if_neg fun same => h (Nat.add_left_cancel same))

@[simp] theorem Dev.queue_wr (d : Dev) (f : Fld) (v t q : Nat) : (d.wr f v).queue t q = d.queue t q := rfl
@[simp] theorem Dev.rd_setQueue (d : Dev) (t q : Nat) (x : Queue) (f : Fld) : (d.setQueue t q x).rd f = d.rd f := rfl
theorem Dev.nudge_wr (d : Dev) (f : Fld) (v : Nat) : (d.wr f v).nudge = d.nudge := rfl
theorem Dev.nudge_setQueue (d : Dev) (t q : Nat) (x : Queue) : (d.setQueue t q x).nudge = d.nudge := rfl

theorem RegsFrame.queue {W : Nat → Prop} (h : RegsFrame W d e) (t q : Nat) : e.queue t q = d.queue t q := by rw [h.eq]; rfl

theorem Settled.queue {s s' : State} (h : Settled s d s') (t q : Nat) : s'.dev.queue t q = d.queue t q := by rw [h.dev]; rfl

theorem Dev.moveQueue_of_ok {f : Dev → Dev} (ok : (d.queue t q).ok = true) : d.moveQueue t q f = f d := if_pos ok

theorem Queue.wr_eq_of_ok (ok : x.ok = true) : x.wr2 = x.wr := by
  rw [Queue.ok, Bool.and_eq_true, beq_iff_eq] at ok
  exact ok.1.symm

/-- A pointer moved on by the difference stands at the new value. -/
theorem add_ofNat_sub (a b : BitVec 16) : a + BitVec.ofNat 16 (b - a).toNat = b := by
  rw [BitVec.ofNat_toNat, BitVec.setWidth_eq, BitVec.add_comm, BitVec.sub_add_cancel]

/-! ### Entries and signals -/

theorem Dev.signalTenant_cases (d : Dev) (t : Nat) :
    ∃ pba out, d.signalTenant t = { d with host := { d.host with pba := pba }, out := out } := by
  unfold Dev.signalTenant
  split <;> exact d.signal_cases _ _

theorem Dev.hostBytes_cases (bs : List Byte) (d : Dev) (a : Nat) : ∃ mem, d.hostBytes a bs = { d with hostMem := mem } := by
  induction bs generalizing d a with
  | nil => exact ⟨_, rfl⟩
  | cons b bs ih =>
    obtain ⟨mem, eq⟩ := ih (d.hostByte a b) (a + 1)
    exact ⟨mem, eq⟩

/-- A queue after an entry more: it stands in the device for an SPI-bound tenant, else in host memory. -/
def Dev.pushedOnto (d : Dev) (t q : Nat) (x : Queue) (w : List Word) : Queue :=
  { x.advWr 1 with
    entries := if d.spiBound t then x.entries ++ [w] else x.entries, credits := x.credits - 1, armed := x.armed && !d.on (F.Q_IRQ t q) }

theorem Dev.pushEntry_cases (d : Dev) (t q : Nat) (ws : List Word) :
    ∃ w mem pba out, d.pushEntry t q ws =
      { d.setQueue t q (d.pushedOnto t q (d.queue t q) w) with hostMem := mem, host := { d.host with pba := pba }, out := out } := by
  have stored : ∀ a w, ∃ mem, (if d.spiBound t = true then d else d.hostWords a w) = { d with hostMem := mem } := by
    intro a w
    split
    · exact ⟨_, rfl⟩
    · exact Dev.hostBytes_cases _ d a
  obtain ⟨w, pushed⟩ : ∃ w, d.pushEntry t q ws =
      let e := if d.spiBound t = true then d
        else d.hostWords (d.qBase t q + (d.queue t q).wr.toNat % d.qDepth t q * (4 * w.length)) w
      (e.setQueue t q (e.pushedOnto t q (d.queue t q) w)).when ((d.queue t q).armed && e.on (F.Q_IRQ t q)) fun d => d.signalTenant t :=
    ⟨_, rfl⟩
  obtain ⟨mem, eq⟩ := stored (d.qBase t q + (d.queue t q).wr.toNat % d.qDepth t q * (4 * w.length)) w
  rw [pushed, eq, Dev.when]
  dsimp only
  split
  · obtain ⟨pba, out, signalled⟩ := (({ d with hostMem := mem } : Dev).setQueue t q (d.pushedOnto t q (d.queue t q) w)).signalTenant_cases t
    exact ⟨w, mem, pba, out, signalled⟩
  · exact ⟨w, mem, d.host.pba, d.out, rfl⟩

/-! ### What an event leaves (R92, R97) -/

/-- The queue differs at most in what its threshold keeps. -/
def Queue.Alike (x y : Queue) : Prop := y = { x with crossings := y.crossings, thrPost := y.thrPost, thrHeld := y.thrHeld }

theorem Queue.Alike.trans {x y z : Queue} (h : x.Alike y) (k : y.Alike z) : x.Alike z := by
  rw [Queue.Alike] at *
  rw [h] at k
  exact k

theorem Queue.Alike.pointers {x y : Queue} (h : x.Alike y) : y.wr = x.wr ∧ y.wr2 = x.wr2 ∧ y.rd = x.rd ∧ y.rd2 = x.rd2 := by
  rw [h]
  exact ⟨rfl, rfl, rfl, rfl⟩

/-- What a queue holds. -/
theorem Queue.Alike.fields {x y : Queue} (h : x.Alike y) :
    y.entries = x.entries ∧ y.credits = x.credits ∧ y.held = x.held ∧ y.armed = x.armed := by
  rw [h]
  exact ⟨rfl, rfl, rfl, rfl⟩

/-- A tenant's queue has noted something: its QSTAT, its event queue and what its queues keep of their thresholds may have changed. -/
structure Noted (t : Nat) (d e : Dev) : Prop where
  frame : EvFrame (· = A.QSTAT t) d e
  queue : ∀ q, q ≠ 2 → (d.queue t q).Alike (e.queue t q)

theorem Noted.refl (t : Nat) (d : Dev) : Noted t d d := ⟨.refl d, fun _ _ => rfl⟩

theorem Noted.trans {a b c : Dev} (h : Noted t a b) (k : Noted t b c) : Noted t a c :=
  ⟨h.frame.trans k.frame, fun q hq => (h.queue q hq).trans (k.queue q hq)⟩

theorem Noted.when (h : Noted t d e) (c : Bool) {f : Dev → Dev} (hf : ∀ x, Noted t x (f x)) : Noted t d (e.when c f) := by
  unfold Dev.when
  split
  · exact h.trans (hf e)
  · exact h

theorem Noted.ite {a b : Dev} {c : Prop} [Decidable c] (ha : Noted t d a) (hb : Noted t d b) : Noted t d (if c then a else b) := by
  split
  · exact ha
  · exact hb

theorem Noted.wr (d : Dev) {f : Fld} (v : Nat) (h : f.addr = A.QSTAT t) : Noted t d (d.wr f v) := ⟨.wr d v h, fun _ _ => rfl⟩

theorem Noted.setQueue_alike (d : Dev) (h : (d.queue t q).Alike x) : Noted t d (d.setQueue t q x) := by
  refine ⟨.setQueue d t q x, fun r _ => ?_⟩
  by_cases same : r = q
  · rw [same, Dev.queue_setQueue_self]
    exact h
  · rw [Dev.queue_setQueue_of_ne _ _ same]
    rfl

theorem Noted.setQueue_event (d : Dev) (t : Nat) (x : Queue) : Noted t d (d.setQueue t 2 x) :=
  ⟨.setQueue d t 2 x, fun r hr => by rw [Dev.queue_setQueue_of_ne _ _ hr]; rfl⟩

theorem Noted.postRaw (d : Dev) (t u kind : Nat) (detail : Word) : Noted t d (d.postRaw t u kind detail) := by
  unfold Dev.postRaw
  dsimp only
  split
  · exact .setQueue_event d t _
  · obtain ⟨w, mem, pba, out, eq⟩ := d.pushEntry_cases t 2 (d.eventWords u kind detail)
    refine ⟨.pushEntry d t 2 _, fun r hr => ?_⟩
    rw [eq]
    exact (Noted.setQueue_event d t _).queue r hr

theorem Noted.crossing (d : Dev) (q : Nat) {f : Dev → Dev} (hf : ∀ x, Noted t x (f x)) : Noted t d (d.crossing t q f) := by
  have leaf := fun n => Noted.wr (t := t) d (f := F.QSTAT_THR t) n rfl
  have kept : ∀ n c p h, Noted t d ((d.wr (F.QSTAT_THR t) n).setQueue t q
      { d.queue t q with crossings := c, thrPost := p, thrHeld := h }) := fun n c p h => (leaf n).trans (.setQueue_alike _ rfl)
  unfold Dev.crossing
  dsimp only
  split
  · exact .ite ((kept _ _ _ _).trans (hf _)) (kept _ _ _ _)
  · exact .ite ((kept _ _ _ _).trans (hf _)) (kept _ _ _ _)

theorem Noted.postEvent (d : Dev) (t u kind : Nat) (detail : Word) : Noted t d (d.postEvent t u kind detail) :=
  (Noted.postRaw d t u kind detail).when _ fun x => .crossing x 2 fun y => .postRaw y t _ _ _

/-- The threshold of a queue. -/
theorem Noted.threshold (d : Dev) (t q old : Nat) : Noted t d (d.threshold t q old) :=
  (Noted.refl t d).when _ fun x => .crossing x q fun y => .postEvent y t _ _ _

theorem Noted.coalesced (d : Dev) (t : Nat) : Noted t d (d.coalesced t) :=
  .ite (.refl t d) ((Noted.setQueue_event d t _).trans (.postEvent _ t _ _ _))

theorem Noted.rd (h : Noted t d e) {f : Fld} (hf : f.addr ≠ A.QSTAT t) : e.rd f = d.rd f := by
  rw [Dev.rd, h.frame.reg _ hf, Dev.rd]

theorem Noted.nudge (h : Noted t d e) : e.nudge = d.nudge := by rw [h.frame.eq]

/-- No event was dropped, so none is due. -/
theorem Dev.coalesced_of_none (h : (d.queue t 2).dropped = 0) : d.coalesced t = d := if_pos (by simp [h])

end Sys2Proof.Machine
end

section
/-! PROOF. O36: tenant queues start, stop and move (R89–R91, R94, R96). -/
namespace Sys2Proof.Machine

variable {d e : Dev} {s : State} {p : Path} {t q off a : Nat} {v : Word}

/-! ### Words of a doorbell page -/

theorem not_rsvWord_page (t off : Nat) : ¬ rsvWord (Base.TNT t + off) := not_rsvWord_of_le (by simp only [Base.TNT]; omega)

theorem Dev.writeTnt_cfg (d : Dev) (hq : q < 3) :
    d.writeTnt p t (0x18 + q * 0x10) a 0xFFFFFFFF v = d.writeQCfg t q v 0xFFFFFFFF := by
  have base : (decide (0x10 ≤ 0x18 + q * 0x10) && decide (0x18 + q * 0x10 < 0x40)) = true := by
    rw [Bool.and_eq_true, decide_eq_true_eq, decide_eq_true_eq]
    omega
  rw [Dev.writeTnt, if_pos base]
  dsimp only
  rw [if_pos (by omega), show (0x18 + q * 0x10 - 0x10) / 0x10 = q by omega]

theorem Dev.writeTnt_sqTail (d : Dev) : d.writeTnt p t 0x40 a 0xFFFFFFFF v = d.sqTail t v := by
  rw [Dev.writeTnt, if_neg (by decide), if_pos rfl, and_all_ones]

theorem Dev.writeTnt_qHead (d : Dev) (hq : q = 1 ∨ q = 2) : d.writeTnt p t (0x40 + 4 * q) a 0xFFFFFFFF v = d.qHead t q v := by
  rcases hq with rfl | rfl
  · rw [Dev.writeTnt, if_neg (by decide), if_neg (by decide), if_pos rfl, and_all_ones]
  · rw [Dev.writeTnt, if_neg (by decide), if_neg (by decide), if_neg (by decide), if_pos rfl, and_all_ones]

/-- A word of a doorbell page written on a path: the reserved bits are counted, then the word has its effect on a device that agrees in all
other registers. -/
theorem Completes.of_page {c : Instr} {t : Fin 512} {f : Dev → Dev} {P : State → Prop} (take : s.TakesWrite p (pageAddr t off))
    (hc : exec c s = runAon (fun env d => d.poke env p (pageAddr t off) v) s)
    (row : off < 0x1000 ∧ off % 4 = 0 ∧ (findRow Rows.TNT off).isSome = true)
    (hf : ∀ e, RegsFrame rsvWord s.dev e → e.writeTnt p t off (pageAddr t off) 0xFFFFFFFF v = f e ∧ (f e).nudge = e.nudge)
    (hP : ∀ e u, RegsFrame rsvWord s.dev e → Settled s (f e) u → P u) : Completes c s P := by
  have noted := RegsFrame.noted s.dev (.tnt t) off (pageAddr t off) (v &&& 0xFFFFFFFF)
  obtain ⟨ho, aligned, row⟩ := row
  obtain ⟨effect, nudge⟩ := hf _ noted
  obtain ⟨u, run, settled⟩ := runAon_poke take (locate_page t ho aligned row) ((Dev.writeReg_tnt _ _ _ _ _ _ _).trans effect)
    (nudge.trans noted.nudge)
  exact ⟨u, hc.trans run, hP _ u noted settled⟩

/-- The path of a tenant stands in words of HOST. -/
theorem Dev.spiBound_congr (h : ∀ o, o < 0x1000 → e.reg (Base.HOST + o) = d.reg (Base.HOST + o)) (t : Fin 512) :
    e.spiBound t = d.spiBound t := by
  have path : e.rd F.HOST_T0_PATH_PATH = d.rd F.HOST_T0_PATH_PATH := congrArg (bits · 0 1) (h 0 (by decide))
  have word : e.rd (F.HOST_BIND_SPI (t / 32)) = d.rd (F.HOST_BIND_SPI (t / 32)) := by
    have place : A.HOST_BIND (t / 32) = Base.HOST + (0x40 + t / 32 * 4) := by simp only [A.HOST_BIND, Nat.add_assoc]
    have reg : e.reg (A.HOST_BIND (t / 32)) = d.reg (A.HOST_BIND (t / 32)) := by rw [place, h _ (by omega)]
    exact congrArg (bits · 0 32) reg
  simp only [Dev.spiBound, Dev.on, path, word]

theorem RegsFrame.spiBound {W : Nat → Prop} (h : RegsFrame W d e) (hW : ∀ o, o < 0x1000 → ¬ W (Base.HOST + o)) (t : Fin 512) :
    e.spiBound t = d.spiBound t := Dev.spiBound_congr (fun o ho => h.reg _ (hW o ho)) t

/-! ### A queue's configuration word (R95, R96) -/

/-- The fields of a configuration word but EN. -/
def Dev.setQCfg (d : Dev) (t q k : Nat) (v : Word) : Dev :=
  ((d.wr (F.Q_DEPTH_LOG2 t q) k).wr (F.Q_THRESH t q) (bits v 8 12)).wr (F.Q_IRQ t q) (bits v 30 1)

theorem RegsFrame.setQCfg (d : Dev) (t q k : Nat) (v : Word) : RegsFrame (· = A.SQ_CFG t + 0x10 * q) d (d.setQCfg t q k v) :=
  (((RegsFrame.refl (· = A.SQ_CFG t + 0x10 * q) d).wr (F.Q_DEPTH_LOG2 t q) k rfl).wr (F.Q_THRESH t q) _ rfl).wr (F.Q_IRQ t q) _ rfl

/-- The four fields of a configuration word lie apart. -/
theorem Dev.setQCfg_en (d : Dev) (t q k : Nat) (v : Word) : (d.setQCfg t q k v).rd (F.Q_EN t q) = d.rd (F.Q_EN t q) := by
  have irq := fun e : Dev => e.rd_wr_of_disjoint (f := F.Q_IRQ t q) (g := F.Q_EN t q) (bits v 30 1)
    (by simp only [Nat.reduceAdd, Nat.reduceLeDiff]) (.inr (by simp only [Nat.reduceAdd, Nat.reduceLeDiff]))
  have thresh := fun e : Dev => e.rd_wr_of_disjoint (f := F.Q_THRESH t q) (g := F.Q_EN t q) (bits v 8 12)
    (by simp only [Nat.reduceAdd, Nat.reduceLeDiff]) (.inr (by simp only [Nat.reduceAdd, Nat.reduceLeDiff]))
  have depth := d.rd_wr_of_disjoint (f := F.Q_DEPTH_LOG2 t q) (g := F.Q_EN t q) k
    (by simp only [Nat.reduceAdd, Nat.reduceLeDiff]) (.inr (by simp only [Nat.reduceAdd, Nat.reduceLeDiff]))
  rw [Dev.setQCfg, irq, thresh, depth]

theorem Dev.setQCfg_depth (d : Dev) (t q k : Nat) (v : Word) : (d.setQCfg t q k v).rd (F.Q_DEPTH_LOG2 t q) = k % 2 ^ 4 := by
  have irq := fun e : Dev => e.rd_wr_of_disjoint (f := F.Q_IRQ t q) (g := F.Q_DEPTH_LOG2 t q) (bits v 30 1)
    (by simp only [Nat.reduceAdd, Nat.reduceLeDiff]) (.inl (by simp only [Nat.reduceAdd, Nat.reduceLeDiff]))
  have thresh := fun e : Dev => e.rd_wr_of_disjoint (f := F.Q_THRESH t q) (g := F.Q_DEPTH_LOG2 t q) (bits v 8 12)
    (by simp only [Nat.reduceAdd, Nat.reduceLeDiff]) (.inl (by simp only [Nat.reduceAdd, Nat.reduceLeDiff]))
  have depth := d.rd_wr_self (F.Q_DEPTH_LOG2 t q) k (by simp only [Nat.reduceAdd, Nat.reduceLeDiff])
  rw [Dev.setQCfg, irq, thresh, depth]

theorem Dev.writeQCfg_of_disabled (off : d.rd (F.Q_EN t q) = 0) (en : v.getLsbD 31 = true)
    (ok : (d.setQCfg t q (bits v 0 4) v).enCheck t q = 0) :
    d.writeQCfg t q v 0xFFFFFFFF = (d.setQCfg t q (bits v 0 4) v).startQueue t q := by
  have disabled : d.on (F.Q_EN t q) = false := by rw [Dev.on, off]; rfl
  unfold Dev.setQCfg at *
  simp only [Dev.writeQCfg, merged_ones, disabled, en, Bool.false_and, Bool.not_false, Bool.true_and, Dev.when, Bool.false_eq_true,
    if_false, if_true, ok]

theorem Dev.writeQCfg_of_enabled (on : d.rd (F.Q_EN t q) = 1) (en : v.getLsbD 31 = false) :
    ∃ e, (e = d ∨ e = d.ignored) ∧ d.writeQCfg t q v 0xFFFFFFFF =
      let e := e.setQCfg t q (bits (d.reg (A.SQ_CFG t + 0x10 * q)) 0 4) v
      if q = 1 && e.on (F.Q_EN t 0) then e.wr (F.QSTAT_REASON t) Rsn.STATE else e.stopQueue t q := by
  have enabled : d.on (F.Q_EN t q) = true := by rw [Dev.on, on]; rfl
  refine ⟨d.when (bits v 0 4 != bits (d.reg (A.SQ_CFG t + 0x10 * q)) 0 4) Dev.ignored, ?_, ?_⟩
  · unfold Dev.when
    split
    · exact .inr rfl
    · exact .inl rfl
  · unfold Dev.setQCfg
    simp only [Dev.writeQCfg, merged_ones, enabled, en, Bool.true_and, Bool.not_false, Bool.not_true, Bool.false_and,
      Bool.false_eq_true, if_false, if_true]

/-! ### A queue that starts (R89, R96) -/

theorem Dev.startQueue_eq (d : Dev) (t q : Nat) :
    d.startQueue t q =
      let e := (d.setQueue t q { d.queue t q with
        wr := 0, wr2 := 0, rd := 0, rd2 := 0, entries := [], credits := d.qDepth t q, armed := true, stopped := false }).wr (F.Q_EN t q) 1
      if q = 0 then (e.wr (F.SQ_CREDIT_CREDIT t) (d.qDepth t q)).wr (F.SQ_HEAD_HEAD t) 0 else if q = 2 then e.coalesced t else e := rfl

theorem Dev.startQueue_starts (d : Dev) (hq : q < 3) (none : (d.queue t q).dropped = 0) :
    (d.startQueue t q).rd (F.Q_EN t q) = 1 ∧ (q = 0 → (d.startQueue t q).rd (F.SQ_CREDIT_CREDIT t) = d.qDepth t q % 2 ^ 16) ∧
      (d.startQueue t q).queue t q = { d.queue t q with
        wr := 0, wr2 := 0, rd := 0, rd2 := 0, entries := [], credits := d.qDepth t q, armed := true, stopped := false } ∧
      (d.startQueue t q).nudge = d.nudge := by
  rw [Dev.startQueue_eq]
  generalize hx : ({ d.queue t q with
        wr := 0, wr2 := 0, rd := 0, rd2 := 0, entries := [], credits := d.qDepth t q, armed := true, stopped := false } : Queue) = x
  have noneDue : x.dropped = 0 := by rw [← hx]; exact none
  have en : ((d.setQueue t q x).wr (F.Q_EN t q) 1).rd (F.Q_EN t q) = 1 :=
    Dev.rd_wr_self _ _ 1 (by simp only [Nat.reduceAdd, Nat.reduceLeDiff])
  have queue : ((d.setQueue t q x).wr (F.Q_EN t q) 1).queue t q = x := by rw [Dev.queue_wr, Dev.queue_setQueue_self]
  have nudge : ((d.setQueue t q x).wr (F.Q_EN t q) 1).nudge = d.nudge := by rw [Dev.nudge_wr, Dev.nudge_setQueue]
  generalize (d.setQueue t q x).wr (F.Q_EN t q) 1 = e at en queue nudge
  dsimp only
  obtain rfl | rfl | rfl : q = 0 ∨ q = 1 ∨ q = 2 := by omega
  · rw [if_pos rfl]
    refine ⟨?_, fun _ => ?_, ?_, ?_⟩
    · rw [Dev.rd_wr_of_ne _ _ (by simp only [A.SQ_CFG, A.SQ_HEAD]; omega), Dev.rd_wr_of_ne _ _ (by simp only [A.SQ_CFG, A.SQ_CREDIT]; omega), en]
    · rw [Dev.rd_wr_of_ne _ _ (by simp only [A.SQ_CREDIT, A.SQ_HEAD]; omega), Dev.rd_wr_self _ _ _ (by simp only [Nat.reduceAdd, Nat.reduceLeDiff])]
    · rw [Dev.queue_wr, Dev.queue_wr, queue]
    · rw [Dev.nudge_wr, Dev.nudge_wr, nudge]
  · exact ⟨en, fun h => absurd h (by decide), queue, nudge⟩
  · rw [if_neg (by decide), if_pos rfl, Dev.coalesced_of_none (by rw [queue]; exact noneDue)]
    exact ⟨en, fun h => absurd h (by decide), queue, nudge⟩

theorem Dev.enCheck_of_good
    (base : d.spiBound t = true ∨ 4 ≤ d.rd (F.Q_DEPTH_LOG2 t q) ∧ d.rd (F.Q_DEPTH_LOG2 t q) ≤ 12 ∧ bits (d.reg (A.Q_BASE_LO t q)) 0 12 = 0)
    (completion : q = 0 → d.rd (F.Q_EN t 1) = 1 ∧ d.qDepth t 0 ≤ d.qDepth t 1) : d.enCheck t q = 0 := by
  have good : ¬ (!d.spiBound t && (decide (d.rd (F.Q_DEPTH_LOG2 t q) < 4) || decide (12 < d.rd (F.Q_DEPTH_LOG2 t q)) ||
      bits (d.reg (A.Q_BASE_LO t q)) 0 12 != 0)) = true := by
    rcases base with spi | ⟨least, most, base⟩
    · simp [spi]
    · simp [base]
      omega
  have complete : ¬ (decide (q = 0) && (!d.on (F.Q_EN t 1) || decide (d.qDepth t 1 < d.qDepth t 0))) = true := by
    by_cases zero : q = 0
    · obtain ⟨en, deep⟩ := completion zero
      simp [Dev.on, en, deep]
    · simp [zero]
  exact (if_neg good).trans (if_neg complete)

/-- The words of a page that say what a queue is, in a device whose configuration word of a queue is being written. -/
theorem RegsFrame.qDepth {W : Nat → Prop} (h : RegsFrame W d e) (hW : ∀ o, o < 0x1000 → ¬ W (Base.HOST + o)) {t : Fin 512}
    (cfg : ¬ W (A.SQ_CFG t + 0x10 * q)) : e.qDepth t q = d.qDepth t q := by
  rw [Dev.qDepth, h.spiBound hW, h.rd cfg, Dev.qDepth]

theorem cfg_row (q : Fin 3) : 0x18 + q.val * 0x10 < 0x1000 ∧ (0x18 + q.val * 0x10) % 4 = 0 ∧
    (findRow Rows.TNT (0x18 + q.val * 0x10)).isSome = true := by
  revert q
  decide +kernel

/-- What a write of a configuration word and of reserved bits may change. -/
def cfgWord (t q a : Nat) : Prop := a = A.SQ_CFG t + 0x10 * q ∨ rsvWord a

theorem not_cfgWord_host {t q o : Nat} (h : o < 0x1000) : ¬ cfgWord t q (Base.HOST + o) := by
  rintro (eq | rsv)
  · simp only [Base.HOST, A.SQ_CFG, Base.TNT] at eq
    omega
  · exact not_rsvWord_host h rsv

theorem not_cfgWord_page {t q o : Nat} (h : o ≠ 0x18 + 0x10 * q) : ¬ cfgWord t q (Base.TNT t + o) := by
  rintro (eq | rsv)
  · simp only [A.SQ_CFG] at eq
    omega
  · exact not_rsvWord_page t o rsv

theorem RegsFrame.cfg {t : Nat} (h : RegsFrame rsvWord d e) (k : Nat) : RegsFrame (cfgWord t q) d (e.setQCfg t q k v) :=
  (h.mono fun _ => .inr).trans ((RegsFrame.setQCfg e t q k v).mono fun _ => .inl)

theorem bits_or_en (v : Word) : bits (v ||| 0x80000000) 0 4 = bits v 0 4 ∧ (v ||| 0x80000000).getLsbD 31 = true := by
  refine ⟨Nat.eq_of_testBit_eq fun i => ?_, by simp⟩
  rw [testBit_bits, testBit_bits]
  by_cases hi : i < 4
  · interval_cases i <;> simp
  · rw [decide_eq_false hi, Bool.false_and, Bool.false_and]

theorem queueEnable_starts {t : Fin 512} (q : Fin 3) (take : s.TakesWrite p (pageAddr t (0x18 + q * 0x10)))
    (off : s.dev.rd (F.Q_EN t q) = 0) (none : (s.dev.queue t q).dropped = 0)
    (base : s.dev.spiBound t = true ∨ (4 ≤ bits v 0 4 ∧ bits v 0 4 ≤ 12 ∧ bits (s.dev.reg (A.Q_BASE_LO t q)) 0 12 = 0)) :
    let depth := if s.dev.spiBound t then (if q.val = 2 then 16 else 8) else 2 ^ bits v 0 4
    (q.val = 0 → s.dev.rd (F.Q_EN t 1) = 1 ∧ depth ≤ s.dev.qDepth t 1) →
      Completes (.queueEnable p t q v) s (fun u => u.dev.rd (F.Q_EN t q) = 1 ∧ (u.dev.queue t q).entries = [] ∧
        (u.dev.queue t q).wr = 0 ∧ (u.dev.queue t q).rd = 0 ∧ (u.dev.queue t q).credits = depth ∧
        (q.val = 0 → u.dev.rd (F.SQ_CREDIT_CREDIT t) = depth)) := by
  intro depth completion
  obtain ⟨low, en⟩ := bits_or_en v
  have hq := q.isLt
  have configured : ∀ e, RegsFrame rsvWord s.dev e → let c := e.setQCfg t q (bits v 0 4) (v ||| 0x80000000)
      c.qDepth t q = depth ∧ (c.queue t q).dropped = 0 ∧ c.enCheck t q = 0 ∧ c.nudge = e.nudge := by
    intro e noted c
    have frame : RegsFrame (cfgWord t q) s.dev c := noted.cfg _
    have spi : c.spiBound t = s.dev.spiBound t := frame.spiBound (fun _ h => not_cfgWord_host h) t
    have deep : c.rd (F.Q_DEPTH_LOG2 t q) = bits v 0 4 := (Dev.setQCfg_depth _ _ _ _ _).trans (Nat.mod_eq_of_lt (bits_lt _ _ _))
    have depth' : c.qDepth t q = depth := by rw [Dev.qDepth, spi, deep]
    refine ⟨depth', by rw [frame.queue]; exact none, Dev.enCheck_of_good ?_ fun zero => ?_, (RegsFrame.setQCfg e t q _ _).nudge⟩
    · have word : c.reg (A.Q_BASE_LO t q) = s.dev.reg (A.Q_BASE_LO t q) := by
        have apart := not_cfgWord_page (t := t) (q := q) (o := 0x10 + 0x10 * q) (by omega)
        exact frame.reg _ fun h => apart (by simpa only [A.Q_BASE_LO, A.SQ_BASE_LO, Nat.add_assoc] using h)
      rw [spi, deep, word]
      exact base
    · obtain ⟨enabled, deeper⟩ := completion zero
      have apart : ¬ cfgWord t q (A.SQ_CFG t + 0x10 * 1) := by
        simpa only [A.SQ_CFG, Nat.add_assoc] using not_cfgWord_page (t := t) (q := q) (o := 0x18 + 0x10) (by omega)
      rw [frame.qDepth (fun _ h => not_cfgWord_host h) apart, frame.rd apart, ← zero, depth']
      exact ⟨enabled, deeper⟩
  refine .of_page (f := fun e => (e.setQCfg t q (bits v 0 4) (v ||| 0x80000000)).startQueue t q) take rfl (cfg_row q)
    (fun e noted => ?_) fun e u noted settled => ?_
  · obtain ⟨-, noneDue, ok, nudge⟩ := configured e noted
    have disabled : e.rd (F.Q_EN t q) = 0 := (noted.rd (not_rsvWord_of_le (by simp only [A.SQ_CFG, Base.TNT]; omega))).trans off
    have written := Dev.writeQCfg_of_disabled (v := v ||| 0x80000000) disabled en (by rw [low]; exact ok)
    rw [low] at written
    exact ⟨(e.writeTnt_cfg hq).trans written, ((Dev.startQueue_starts _ hq noneDue).2.2.2).trans nudge⟩
  · obtain ⟨deep, noneDue, -⟩ := configured e noted
    obtain ⟨enabled, credit, queue, -⟩ := Dev.startQueue_starts _ hq noneDue
    have small : depth % 2 ^ 16 = depth := Nat.mod_eq_of_lt (by
      have := Nat.pow_lt_pow_right (a := 2) (by decide) (bits_lt v 0 4)
      simp only [depth]
      split
      · split <;> decide
      · omega)
    rw [settled.rd, settled.queue, settled.rd, enabled, queue, deep]
    refine ⟨rfl, rfl, rfl, rfl, rfl, fun zero => ?_⟩
    rw [credit zero, deep, small]

/-! ### A queue that stops (R96) -/

/-- A queue that stops holds nothing any more and is disabled; the rest of `stopQueue` concerns the command queue alone. -/
def Dev.emptyQueue (d : Dev) (t q : Nat) : Dev :=
  (d.setQueue t q { d.queue t q with wr := 0, wr2 := 0, rd := 0, rd2 := 0, entries := [], credits := 0,
                                     dropped := if q = 2 then 0 else (d.queue t q).dropped, stopped := false }).wr (F.Q_EN t q) 0

/-- The commands of a tenant whose command queue stops: they are outside the queue's account, and so are their completions. -/
def Dev.lapse (d : Dev) (t : Nat) (cs : List Cmd) : Dev :=
  let e : Dev := { d.wr (F.SQ_CREDIT_CREDIT t) 0 with cmds := cs }
  if (e.queue t 1).held.isEmpty then e
  else e.setQueue t 1 { e.queue t 1 with held := (e.queue t 1).held.map fun ws => putBits (ws.headD 0) 24 4 0 :: ws.drop 1 }

theorem Dev.stopQueue_eq (d : Dev) (t q : Nat) :
    ∃ cs, d.stopQueue t q = if q = 0 then (d.emptyQueue t q).lapse t cs else d.emptyQueue t q := ⟨_, rfl⟩

theorem Dev.lapse_keeps (d : Dev) (t : Nat) (cs : List Cmd) (f : Fld) (h : f.addr ≠ A.SQ_CREDIT t) :
    (d.lapse t cs).rd f = d.rd f ∧ (d.lapse t cs).queue t 0 = d.queue t 0 ∧ (d.lapse t cs).nudge = d.nudge := by
  have kept : Dev.rd { d.wr (F.SQ_CREDIT_CREDIT t) 0 with cmds := cs } f = d.rd f ∧
      Dev.queue { d.wr (F.SQ_CREDIT_CREDIT t) 0 with cmds := cs } t 0 = d.queue t 0 ∧
      Dev.nudge { d.wr (F.SQ_CREDIT_CREDIT t) 0 with cmds := cs } = d.nudge := ⟨Dev.rd_wr_of_ne d 0 h, rfl, rfl⟩
  unfold Dev.lapse
  generalize ({ d.wr (F.SQ_CREDIT_CREDIT t) 0 with cmds := cs } : Dev) = e at kept
  dsimp only
  split
  · exact kept
  · rw [Dev.rd_setQueue, Dev.queue_setQueue_of_ne _ _ (by decide), Dev.nudge_setQueue]
    exact kept

theorem Dev.stopQueue_stops (d : Dev) (t q : Nat) :
    (d.stopQueue t q).rd (F.Q_EN t q) = 0 ∧ ((d.stopQueue t q).queue t q).entries = [] ∧ ((d.stopQueue t q).queue t q).credits = 0 ∧
      (d.stopQueue t q).nudge = d.nudge := by
  have stopped : (d.emptyQueue t q).rd (F.Q_EN t q) = 0 ∧ ((d.emptyQueue t q).queue t q).entries = [] ∧
      ((d.emptyQueue t q).queue t q).credits = 0 ∧ (d.emptyQueue t q).nudge = d.nudge := by
    rw [Dev.emptyQueue, Dev.rd_wr_self _ _ _ (by simp only [Nat.reduceAdd, Nat.reduceLeDiff]), Dev.queue_wr, Dev.queue_setQueue_self,
      Dev.nudge_wr, Dev.nudge_setQueue]
    exact ⟨rfl, rfl, rfl, rfl⟩
  obtain ⟨cs, eq⟩ := d.stopQueue_eq t q
  rw [eq]
  split
  · next zero =>
    subst zero
    obtain ⟨en, queue, nudge⟩ := (d.emptyQueue t 0).lapse_keeps t cs (F.Q_EN t 0) (by simp only [A.SQ_CFG, A.SQ_CREDIT]; omega)
    rw [en, queue, nudge]
    exact stopped
  · exact stopped

theorem getLsbD_and_disabled (v : Word) : (v &&& 0x7FFFFFFF).getLsbD 31 = false := by simp

theorem Dev.setQCfg_en_page (d : Dev) (t q r k : Nat) (v : Word) : (d.setQCfg t q k v).rd (F.Q_EN t r) = d.rd (F.Q_EN t r) := by
  by_cases same : r = q
  · rw [same, Dev.setQCfg_en]
  · exact (RegsFrame.setQCfg d t q k v).rd (by simp only [A.SQ_CFG]; omega)

/-- A write of an enabled queue's configuration word with EN clear stops the queue, unless commands still complete into it. -/
theorem Dev.writeQCfg_disables (d : Dev) {t q : Nat} (v : Word) (on : d.rd (F.Q_EN t q) = 1) :
    ∃ e : Dev, (∀ r, e.rd (F.Q_EN t r) = d.rd (F.Q_EN t r)) ∧ e.nudge = d.nudge ∧
      d.writeQCfg t q (v &&& 0x7FFFFFFF) 0xFFFFFFFF =
        if q = 1 && e.on (F.Q_EN t 0) then e.wr (F.QSTAT_REASON t) Rsn.STATE else e.stopQueue t q := by
  obtain ⟨e, same, eq⟩ := Dev.writeQCfg_of_enabled on (getLsbD_and_disabled v)
  have kept : (∀ r, e.rd (F.Q_EN t r) = d.rd (F.Q_EN t r)) ∧ e.nudge = d.nudge := by
    rcases same with rfl | rfl
    · exact ⟨fun _ => rfl, rfl⟩
    · exact ⟨fun r => d.ignored_regs.rd (by simp only [A.SQ_CFG, Base.TNT, A.HOST_STATUS, Base.HOST]; omega), d.ignored_regs.nudge⟩
  exact ⟨_, fun r => (Dev.setQCfg_en_page _ _ _ _ _ _).trans (kept.1 r), ((RegsFrame.setQCfg e t q _ _).nudge).trans kept.2, eq⟩

theorem not_rsvWord_cfg (t q : Nat) : ¬ rsvWord (A.SQ_CFG t + 0x10 * q) := not_rsvWord_of_le (by simp only [A.SQ_CFG, Base.TNT]; omega)

theorem queueDisable_stops {t : Fin 512} (q : Fin 3) (take : s.TakesWrite p (pageAddr t (0x18 + q * 0x10)))
    (on : s.dev.rd (F.Q_EN t q) = 1) (free : q.val ≠ 1 ∨ s.dev.rd (F.Q_EN t 0) = 0) :
    Completes (.queueDisable p t q v) s (fun u => u.dev.rd (F.Q_EN t q) = 0 ∧ (u.dev.queue t q).entries = [] ∧
      (u.dev.queue t q).credits = 0) := by
  have stops : ∀ e, RegsFrame rsvWord s.dev e → ∃ c : Dev, c.nudge = e.nudge ∧
      e.writeQCfg t q (v &&& 0x7FFFFFFF) 0xFFFFFFFF = c.stopQueue t q := by
    intro e noted
    obtain ⟨c, en, nudge, eq⟩ := e.writeQCfg_disables v ((noted.rd (not_rsvWord_cfg t q)).trans on)
    have idle : ¬ (decide (q.val = 1) && c.on (F.Q_EN t 0)) = true := by
      rw [Dev.on, en 0, noted.rd (not_rsvWord_cfg t 0)]
      rcases free with h | h <;> simp [h]
    exact ⟨c, nudge, eq.trans (if_neg idle)⟩
  refine .of_page take rfl (cfg_row q) (fun e noted => ⟨e.writeTnt_cfg q.isLt, ?_⟩) fun e u noted settled => ?_
  all_goals
    obtain ⟨c, nudge, eq⟩ := stops e noted
    obtain ⟨en, entries, credits, kept⟩ := c.stopQueue_stops t q
  · rw [eq, kept, nudge]
  · rw [eq] at settled
    rw [settled.rd, settled.queue]
    exact ⟨en, entries, credits⟩

theorem queueDisable_refused {t : Fin 512} (q : Fin 3) (take : s.TakesWrite p (pageAddr t (0x18 + q * 0x10)))
    (on : s.dev.rd (F.Q_EN t q) = 1) (completion : q.val = 1) (busy : s.dev.rd (F.Q_EN t 0) = 1) :
    Completes (.queueDisable p t q v) s (fun u => u.dev.rd (F.Q_EN t 1) = 1 ∧ u.dev.rd (F.QSTAT_REASON t) = Rsn.STATE) := by
  have refused : ∀ e, RegsFrame rsvWord s.dev e → ∃ c : Dev, c.rd (F.Q_EN t 1) = 1 ∧ c.nudge = e.nudge ∧
      e.writeQCfg t q (v &&& 0x7FFFFFFF) 0xFFFFFFFF = c.wr (F.QSTAT_REASON t) Rsn.STATE := by
    intro e noted
    obtain ⟨c, en, nudge, eq⟩ := e.writeQCfg_disables v ((noted.rd (not_rsvWord_cfg t q)).trans on)
    have running : (decide (q.val = 1) && c.on (F.Q_EN t 0)) = true := by
      rw [Dev.on, en 0, noted.rd (not_rsvWord_cfg t 0), busy, completion]
      rfl
    rw [completion] at on
    exact ⟨c, by rw [en, noted.rd (not_rsvWord_cfg t 1), on], nudge, eq.trans (if_pos running)⟩
  refine .of_page take rfl (cfg_row q) (fun e noted => ⟨e.writeTnt_cfg q.isLt, ?_⟩) fun e u noted settled => ?_
  all_goals obtain ⟨c, en, nudge, eq⟩ := refused e noted
  · rw [eq, Dev.nudge_wr, nudge]
  · rw [eq] at settled
    rw [settled.rd, settled.rd, Dev.rd_wr_of_ne _ _ (by simp only [A.SQ_CFG, A.QSTAT]; omega), en,
      Dev.rd_wr_self _ _ _ (by simp only [Nat.reduceAdd, Nat.reduceLeDiff])]
    exact ⟨rfl, rfl⟩

/-! ### Pointers that move (R90, R91) -/

theorem Dev.sqTail_of_ok (en : d.rd (F.Q_EN t 0) = 1) (pcie : d.spiBound t = false) (ok : (d.queue t 0).ok = true) :
    d.sqTail t v =
      let n := (v.setWidth 16 - (d.queue t 0).wr).toNat
      if d.rd (F.SQ_CREDIT_CREDIT t) < n then d.wr (F.QSTAT_SQ_OVERCREDIT t) 1
      else ((d.setQueue t 0 ((d.queue t 0).advWr n)).wr (F.SQ_CREDIT_CREDIT t) (d.rd (F.SQ_CREDIT_CREDIT t) - n)).threshold t 0
        (d.queue t 0).fill := by
  have on : d.on (F.Q_EN t 0) = true := by rw [Dev.on, en]; rfl
  rw [Dev.sqTail, if_neg (by simp [on, pcie]), Dev.moveQueue_of_ok ok]

theorem sqTail_row : 0x40 < 0x1000 ∧ 0x40 % 4 = 0 ∧ (findRow Rows.TNT 0x40).isSome = true := by decide +kernel

theorem sqTailWrite_moves {t : Fin 512} (take : s.TakesWrite p (pageAddr t 0x40)) (en : s.dev.rd (F.Q_EN t 0) = 1)
    (pcie : s.dev.spiBound t = false) (ok : (s.dev.queue t 0).ok = true) :
    let x := s.dev.queue t 0
    let n := (v.setWidth 16 - x.wr).toNat
    (n ≤ s.dev.rd (F.SQ_CREDIT_CREDIT t) → Completes (.sqTailWrite p t v) s (fun u =>
        (u.dev.queue t 0).wr = v.setWidth 16 ∧ (u.dev.queue t 0).wr2 = v.setWidth 16 ∧ (u.dev.queue t 0).rd = x.rd ∧
        u.dev.rd (F.SQ_CREDIT_CREDIT t) = s.dev.rd (F.SQ_CREDIT_CREDIT t) - n)) ∧
      (s.dev.rd (F.SQ_CREDIT_CREDIT t) < n → Completes (.sqTailWrite p t v) s (fun u =>
        u.dev.rd (F.QSTAT_SQ_OVERCREDIT t) = 1 ∧ OnlyRegs (fun a => a = A.QSTAT t ∨ rsvWord a) s u)) := by
  intro x n
  have moves : ∀ e, RegsFrame rsvWord s.dev e → e.rd (F.SQ_CREDIT_CREDIT t) = s.dev.rd (F.SQ_CREDIT_CREDIT t) ∧ e.queue t 0 = x ∧
      e.sqTail t v =
        if s.dev.rd (F.SQ_CREDIT_CREDIT t) < n then e.wr (F.QSTAT_SQ_OVERCREDIT t) 1
        else ((e.setQueue t 0 (x.advWr n)).wr (F.SQ_CREDIT_CREDIT t) (s.dev.rd (F.SQ_CREDIT_CREDIT t) - n)).threshold t 0 x.fill := by
    intro e noted
    have queue := noted.queue t 0
    have credit : e.rd (F.SQ_CREDIT_CREDIT t) = s.dev.rd (F.SQ_CREDIT_CREDIT t) := noted.rd (not_rsvWord_page t 0x50)
    have moved := Dev.sqTail_of_ok (d := e) (v := v) (t := t) ((noted.rd (not_rsvWord_cfg t 0)).trans en)
      ((noted.spiBound (fun _ h => not_rsvWord_host h) t).trans pcie) (by rw [queue]; exact ok)
    rw [queue, credit] at moved
    exact ⟨credit, queue, moved⟩
  constructor
  · intro few
    have within := Nat.not_lt.2 few
    refine .of_page take rfl sqTail_row (fun e noted => ⟨e.writeTnt_sqTail, ?_⟩) fun e u noted settled => ?_
    all_goals
      obtain ⟨credit, queue, moved⟩ := moves e noted
      rw [if_neg within] at moved
      have after := Noted.threshold ((e.setQueue t 0 (x.advWr n)).wr (F.SQ_CREDIT_CREDIT t) (s.dev.rd (F.SQ_CREDIT_CREDIT t) - n)) t 0 x.fill
    · rw [moved, after.nudge, Dev.nudge_wr, Dev.nudge_setQueue]
    · have alike := after.queue 0 (by decide)
      rw [Dev.queue_wr, Dev.queue_setQueue_self] at alike
      obtain ⟨wr, wr2, rd, -⟩ := alike.pointers
      have left : s.dev.rd (F.SQ_CREDIT_CREDIT t) - n < 2 ^ 16 := (Nat.sub_le _ _).trans_lt (bits_lt _ _ _)
      rw [moved] at settled
      rw [settled.queue, settled.rd, wr, wr2, rd, after.rd (by simp only [A.SQ_CREDIT, A.QSTAT]; omega),
        Dev.rd_wr_self _ _ _ (by simp only [Nat.reduceAdd, Nat.reduceLeDiff])]
      have moved : x.wr + BitVec.ofNat 16 n = v.setWidth 16 := add_ofNat_sub _ _
      exact ⟨moved, by rw [Queue.advWr, Queue.wr_eq_of_ok ok]; exact moved, rfl, Nat.mod_eq_of_lt left⟩
  · intro beyond
    have noted := RegsFrame.noted s.dev (.tnt t) 0x40 (pageAddr t 0x40) (v &&& 0xFFFFFFFF)
    obtain ⟨-, -, moved⟩ := moves _ noted
    rw [if_pos beyond] at moved
    obtain ⟨ho, aligned, row⟩ := sqTail_row
    obtain ⟨u, run, only, rd⟩ := runAon_poke_onlyRegs take (locate_page t ho aligned row)
      ((Dev.writeReg_tnt _ _ _ _ _ _ _).trans ((Dev.writeTnt_sqTail _).trans moved))
      ((noted.mono fun _ => .inr).wr (W := fun a => a = A.QSTAT t ∨ rsvWord a) (F.QSTAT_SQ_OVERCREDIT t) 1 (.inl rfl))
    exact ⟨u, run, (rd _).trans (Dev.rd_wr_self _ _ 1 (by simp only [Nat.reduceAdd, Nat.reduceLeDiff])), only⟩

theorem Dev.qHead_of_ok {n : Nat} (en : d.rd (F.Q_EN t q) = 1) (pcie : d.spiBound t = false) (ok : (d.queue t q).ok = true)
    (none : (d.queue t q).dropped = 0) (hn : (v.setWidth 16 - (d.queue t q).rd).toNat = n) (fill : n ≤ (d.queue t q).fill) :
    d.qHead t q v = d.setQueue t q { (d.queue t q).advRd n with
      credits := (d.queue t q).credits + n, armed := true, stopped := (d.queue t q).stopped && v.setWidth 16 != (0 : BitVec 16) } := by
  have on : d.on (F.Q_EN t q) = true := by rw [Dev.on, en]; rfl
  rw [Dev.qHead, if_neg (by simp [on, pcie]), Dev.moveQueue_of_ok ok]
  dsimp only
  rw [hn, if_neg (Nat.not_lt.2 fill), Dev.when]
  split
  · next event =>
    obtain rfl : q = 2 := by simpa using event
    exact Dev.coalesced_of_none (by rw [Dev.queue_setQueue_self]; exact none)
  · rfl

theorem qHead_row {q : Nat} (hq : q = 1 ∨ q = 2) :
    0x40 + 4 * q < 0x1000 ∧ (0x40 + 4 * q) % 4 = 0 ∧ (findRow Rows.TNT (0x40 + 4 * q)).isSome = true := by
  rcases hq with rfl | rfl <;> decide +kernel

/-- A write of CQ_HEAD or EQ_HEAD, whichever command carries it. -/
theorem headWrite_moves {c : Instr} {t : Fin 512} {q : Nat} (hq : q = 1 ∨ q = 2) (take : s.TakesWrite p (pageAddr t (0x40 + 4 * q)))
    (hc : exec c s = runAon (fun env d => d.poke env p (pageAddr t (0x40 + 4 * q)) v) s)
    (en : s.dev.rd (F.Q_EN t q) = 1) (pcie : s.dev.spiBound t = false) (ok : (s.dev.queue t q).ok = true) :
    let x := s.dev.queue t q
    let n := (v.setWidth 16 - x.rd).toNat
    n ≤ x.fill → x.dropped = 0 → Completes c s (fun u =>
      (u.dev.queue t q).rd = v.setWidth 16 ∧ (u.dev.queue t q).rd2 = x.rd2 + BitVec.ofNat 16 n ∧
        (u.dev.queue t q).wr = x.wr ∧ (u.dev.queue t q).credits = x.credits + n ∧ (u.dev.queue t q).armed = true) := by
  intro x n fill none
  have moves : ∀ e, RegsFrame rsvWord s.dev e → e.qHead t q v = e.setQueue t q { x.advRd n with
      credits := x.credits + n, armed := true, stopped := x.stopped && v.setWidth 16 != (0 : BitVec 16) } := by
    intro e noted
    have queue := noted.queue t q
    have moved := Dev.qHead_of_ok (d := e) (v := v) (t := t) (q := q) (n := n) ((noted.rd (not_rsvWord_cfg t q)).trans en)
      ((noted.spiBound (fun _ h => not_rsvWord_host h) t).trans pcie) (by rw [queue]; exact ok) (by rw [queue]; exact none)
      (by rw [queue]) (by rw [queue]; exact fill)
    rw [queue] at moved
    exact moved
  refine .of_page take hc (qHead_row hq) (fun e noted => ⟨e.writeTnt_qHead hq, ?_⟩) fun e u noted settled => ?_
  · rw [moves e noted, Dev.nudge_setQueue]
  · rw [moves e noted] at settled
    rw [settled.queue, Dev.queue_setQueue_self]
    exact ⟨add_ofNat_sub _ _, rfl, rfl, rfl, rfl⟩

/-- Settles O36: the word written reaches its queue after the reserved bits are counted, and the pointers agree with their copies. -/
theorem tenantQueuesEnableAndMove : Obligations.TenantQueuesEnableAndMove := by
  intro s p t v
  refine ⟨fun q => ?_, fun take en pcie ok => sqTailWrite_moves take en pcie ok, fun q hq => ?_⟩
  · intro depth take
    exact ⟨fun off none base => queueEnable_starts q take off none base,
      fun on => ⟨queueDisable_stops q take on, queueDisable_refused q take on⟩⟩
  · intro x n moved take en pcie ok fill none
    refine ⟨?_, ?_⟩
    all_goals
      rintro rfl
      exact headWrite_moves hq take rfl en pcie ok fill none

end Sys2Proof.Machine
end

section
/-! PROOF. O37: the ports of an SPI-bound tenant's queues (R91, R94, R95), user doorbells (R140), and completions that were held (R97). -/
namespace Sys2Proof.Machine

variable {d e : Dev} {s : State} {p : Path} {env : Env} {t q i n off : Nat} {v : Word} {w : List Word} {ws : List (List Word)}

/-! ### Ports that are read (R91, R95) -/

/-- The port of the completion queue, or that of the event queue: the queue, its words and where they stand. -/
def ReadPort (q n off : Nat) : Prop := (q, n, off) = (1, 8, 0xC0) ∨ (q, n, off) = (2, 4, 0xE0)

theorem readPort_row (port : ReadPort q n off) (hi : i < n) :
    off + 4 * i < 0x1000 ∧ (off + 4 * i) % 4 = 0 ∧ (findRow Rows.TNT (off + 4 * i)).isSome = true := by
  rcases port with h | h <;> cases h <;> interval_cases i <;> decide +kernel

/-- The words of a port are read-only: a read clears nothing in them and hides nothing of them. -/
theorem readPort_access (port : ReadPort q n off) (hi : i < n) (t : Nat) :
    accMask (· == .rcl) (fieldsAt (.tnt t) (off + 4 * i)) = 0 ∧ accMask (· == .wo) (fieldsAt (.tnt t) (off + 4 * i)) = 0 := by
  have any : fieldsAt (.tnt t) (off + 4 * i) = fieldsAt (.tnt 0) (off + 4 * i) := rfl
  rw [any]
  rcases port with h | h <;> cases h <;> interval_cases i <;> decide +kernel

theorem Dev.shown_readPort (d : Dev) (port : ReadPort q n off) (hi : i < n) (w : Word) :
    d.shown p (.tnt t) (off + 4 * i) w = (d.queue t q).port i := by
  rcases port with h | h <;> cases h <;> interval_cases i <;> rfl

theorem Dev.readMoves_readPort (d : Dev) (port : ReadPort q n off) (hi : i < n) :
    d.readMoves p (.tnt t) (off + 4 * i) true = d.portRead t q i := by
  rcases port with h | h <;> cases h <;> interval_cases i <;> rfl

theorem Dev.readTouch_readPort (d : Dev) {t : Fin 512} (port : ReadPort q n off) (hi : i < n) :
    d.readTouch p (pageAddr t (off + 4 * i)) 0xFFFFFFFF true = d.portRead t q i := by
  obtain ⟨ho, aligned, row⟩ := readPort_row port hi
  obtain ⟨rcl, -⟩ := readPort_access port hi t
  have cleared : clearedBy (.tnt t) (off + 4 * i) 0xFFFFFFFF true = 0 := by
    show 0xFFFFFFFF &&& accMask (· == .rcl) (fieldsAt (.tnt t) (off + 4 * i)) = 0
    rw [rcl]
    rfl
  rw [Dev.readTouch, locate_page t ho aligned row]
  dsimp only
  rw [Dev.readReg, cleared, d.readMoves_readPort port hi]
  exact if_pos (BitVec.and_zero)

theorem Dev.readWord_readPort (d : Dev) {t : Fin 512} (port : ReadPort q n off) (hi : i < n) :
    d.readWord env p (pageAddr t (off + 4 * i)) = (d.queue t q).port i := by
  obtain ⟨ho, aligned, row⟩ := readPort_row port hi
  obtain ⟨-, wo⟩ := readPort_access port hi t
  rw [Dev.readWord, locate_page t ho aligned row]
  dsimp only
  rw [Dev.readLoc, wo, d.shown_readPort port hi]
  exact BitVec.and_allOnes

/-- A queue's oldest entry, consumed through the port. -/
def Queue.consumed (x : Queue) : Queue :=
  { x.advRd 1 with entries := x.entries.drop 1, last := x.entries.headD x.last, credits := x.credits + 1, armed := true }

theorem Dev.portRead_eq (d : Dev) (port : ReadPort q n off) (entries : (d.queue t q).entries = w :: ws)
    (ok : (d.queue t q).ok = true) (none : (d.queue t q).dropped = 0) :
    d.portRead t q i = if i + 1 < n then d else d.setQueue t q (d.queue t q).consumed := by
  have size : n = if q = 1 then 8 else 4 := by rcases port with h | h <;> cases h <;> rfl
  have last : ({ (d.queue t q).advRd 1 with entries := ws, last := w, credits := (d.queue t q).credits + 1, armed := true } : Queue) =
      (d.queue t q).consumed := by
    rw [Queue.consumed, entries]
    rfl
  unfold Dev.portRead
  simp only [entries, ← size, last]
  split
  · rfl
  · rw [Dev.moveQueue_of_ok ok, Dev.when]
    split
    · next event =>
      obtain rfl : q = 2 := by simpa using event
      exact Dev.coalesced_of_none (by rw [Dev.queue_setQueue_self]; exact none)
    · rfl

/-- What the interface answers on a path does not depend on what has left the device. -/
theorem Dev.answers_out (d : Dev) (p : Path) (x a : Nat) (os : List Output) :
    ({ d with out := os } : Dev).pathUp p = d.pathUp p ∧ ({ d with out := os } : Dev).pathAddr p x = d.pathAddr p x ∧
      ({ d with out := os } : Dev).route p a = d.route p a ∧
      ({ d with out := os } : Dev).requestError p a 4 false = d.requestError p a 4 false := by
  refine ⟨?_, ?_, ?_, ?_⟩
  · cases p <;> rfl
  · cases p <;> rfl
  · cases p <;> rfl
  · rfl

/-- A word of the port read on a path. -/
theorem peek_readPort {t : Fin 512} (port : ReadPort q n off) (hi : i < n) (take : s.TakesRead p (pageAddr t (off + 4 * i)))
    (entries : (s.dev.queue t q).entries = w :: ws) (ok : (s.dev.queue t q).ok = true) (none : (s.dev.queue t q).dropped = 0)
    (os : List Output) :
    ({ s.dev with out := os } : Dev).peek env p (pageAddr t (off + 4 * i)) =
      { (if i + 1 < n then s.dev else s.dev.setQueue t q (s.dev.queue t q).consumed) with out := os ++ [.data p [w.getD i 0]] } := by
  obtain ⟨-, toMap, pathUp, route, answered⟩ := take
  obtain ⟨up', addr, -, error⟩ := s.dev.answers_out p (pageAddr t (off + 4 * i)) (pageAddr t (off + 4 * i)) os
  have route' : ({ s.dev with out := os } : Dev).route p (({ s.dev with out := os } : Dev).pathAddr p (pageAddr t (off + 4 * i))) =
      .map (pageAddr t (off + 4 * i)) := by
    rw [addr, (s.dev.answers_out p 0 _ os).2.2.1, route]
  have word : (s.dev.queue t q).port i = w.getD i 0 := by rw [Queue.port, entries]; rfl
  rw [Dev.peek, if_pos toMap, Dev.hostRead_word (up'.trans pathUp) route' (error.trans answered), Dev.readTouch_readPort _ port hi,
    Dev.readWord_readPort _ port hi, Dev.portRead_eq { s.dev with out := os } port entries ok none]
  have said : ({ s.dev with out := os } : Dev).queue t q = s.dev.queue t q := rfl
  rw [said, word]
  split <;> rfl

/-- The first words of the port, and then the last, which consumes. -/
theorem each_peek_readPort {t : Fin 512} (port : ReadPort q n off) (take : ∀ i, i < n → s.TakesRead p (pageAddr t (off + 4 * i)))
    (entries : (s.dev.queue t q).entries = w :: ws) (ok : (s.dev.queue t q).ok = true) (none : (s.dev.queue t q).dropped = 0) :
    ∀ k, k ≤ n → s.dev.each (List.range k) (fun d i => d.peek env p (pageAddr t (off + 4 * i))) =
      { (if k < n then s.dev else s.dev.setQueue t q (s.dev.queue t q).consumed) with
        out := s.dev.out ++ (List.range k).map fun i => .data p [w.getD i 0] } := by
  intro k
  induction k with
  | zero =>
    intro _
    have some : 0 < n := by rcases port with h | h <;> cases h <;> decide
    rw [if_pos some, List.range_zero, List.map_nil, List.append_nil]
    rfl
  | succ k ih =>
    intro hk
    have before := ih (Nat.le_of_succ_le hk)
    rw [if_pos (show k < n from hk)] at before
    have step : s.dev.each (List.range (k + 1)) (fun d i => d.peek env p (pageAddr t (off + 4 * i))) =
        (s.dev.each (List.range k) (fun d i => d.peek env p (pageAddr t (off + 4 * i)))).peek env p (pageAddr t (off + 4 * k)) := by
      rw [Dev.each, List.range_succ, List.foldl_append]
      rfl
    rw [step, before, peek_readPort port hk (take k hk) entries ok none, List.range_succ, List.map_append, List.append_assoc]
    rfl

theorem portConsume_consumes {c : Instr} {t : Fin 512} (port : ReadPort q n off)
    (hc : exec c s = runAon (fun env d => d.each (List.range n) fun d i => d.peek env p (pageAddr t (off + 4 * i))) s)
    (take : ∀ i, i < n → s.TakesRead p (pageAddr t (off + 4 * i))) (ok : (s.dev.queue t q).ok = true)
    (none : (s.dev.queue t q).dropped = 0) (entries : (s.dev.queue t q).entries = w :: ws) :
    Completes c s (fun u => (u.dev.queue t q).entries = ws ∧ (u.dev.queue t q).rd = (s.dev.queue t q).rd + 1 ∧
      (u.dev.queue t q).credits = (s.dev.queue t q).credits + 1 ∧ (u.dev.queue t q).last = w ∧
      ∀ i, i < n → Output.data p [w.getD i 0] ∈ u.dev.out) := by
  have some : 0 < n := by rcases port with h | h <;> cases h <;> decide
  obtain ⟨up, -⟩ := take 0 some
  obtain ⟨-, -, nudge, -⟩ := up.1
  have effect := each_peek_readPort (env := s.env) port take entries ok none n (Nat.le_refl n)
  rw [if_neg (Nat.lt_irrefl n)] at effect
  have run := runAon_settles (f := fun env d => d.each (List.range n) fun d i => d.peek env p (pageAddr t (off + 4 * i))) up effect nudge
  have emits : Emits _ _ := Emits.settle { s.dev.setQueue t q (s.dev.queue t q).consumed with
    out := s.dev.out ++ (List.range n).map fun i => .data p [w.getD i 0] }
  obtain ⟨pba, out, settled⟩ := Dev.settle_cases { s.dev.setQueue t q (s.dev.queue t q).consumed with
    out := s.dev.out ++ (List.range n).map fun i => .data p [w.getD i 0] }
  rw [settled] at run emits
  refine ⟨_, hc.trans run, ?_⟩
  have queue : (s.dev.setQueue t q (s.dev.queue t q).consumed).queue t q = (s.dev.queue t q).consumed := Dev.queue_setQueue_self _ _ _ _
  have rest : (s.dev.queue t q).consumed.entries = ws := by rw [Queue.consumed, entries]; rfl
  have last : (s.dev.queue t q).consumed.last = w := by rw [Queue.consumed, entries]; rfl
  refine ⟨(congrArg Queue.entries queue).trans rest, congrArg Queue.rd queue, congrArg Queue.credits queue,
    (congrArg Queue.last queue).trans last, fun i hi => ?_⟩
  exact emits.subset (List.mem_append_right _ (List.mem_map.2 ⟨i, List.mem_range.2 hi, rfl⟩))

/-! ### The port that is written (R94) -/

theorem Dev.regsAt_concat (d : Dev) (a n : Nat) : d.regsAt a (n + 1) = d.regsAt a n ++ [d.reg (a + 4 * n)] := by
  induction n generalizing a with
  | zero => rfl
  | succ n ih =>
    rw [Dev.regsAt, ih, Dev.regsAt, List.cons_append, show a + 4 + 4 * n = a + 4 * (n + 1) by omega]

theorem Dev.regsAt_congr {a n : Nat} (h : ∀ k, k < n → e.reg (a + 4 * k) = d.reg (a + 4 * k)) : e.regsAt a n = d.regsAt a n := by
  induction n with
  | zero => rfl
  | succ n ih => rw [Dev.regsAt_concat, Dev.regsAt_concat, ih fun k hk => h k (Nat.lt_succ_of_lt hk), h n (Nat.lt_succ_self n)]

theorem sqPort_row : 0xBC < 0x1000 ∧ 0xBC % 4 = 0 ∧ (findRow Rows.TNT 0xBC).isSome = true := by decide +kernel

theorem Dev.writeTnt_sqPort (d : Dev) {a : Nat} : d.writeTnt p t 0xBC a 0xFFFFFFFF v = d.sqPort t 15 v 0xFFFFFFFF := by
  rw [Dev.writeTnt, if_neg (by decide), if_neg (by decide), if_neg (by decide), if_neg (by decide), if_pos (by decide)]

/-- The sixteen words posted as one command. -/
theorem Dev.sqPort_posts (d : Dev) (t : Nat) (v : Word) (en : d.rd (F.Q_EN t 0) = 1) (credit : d.rd (F.SQ_CREDIT_CREDIT t) ≠ 0)
    (ok : (d.queue t 0).ok = true) :
    d.sqPort t 15 v 0xFFFFFFFF =
      let e := d.setReg (A.SQ_PORT t 15) v
      ((e.setQueue t 0 { (d.queue t 0).advWr 1 with entries := (d.queue t 0).entries ++ [d.regsAt (A.SQ_PORT t 0) 15 ++ [v]] }).wr
        (F.SQ_CREDIT_CREDIT t) (d.rd (F.SQ_CREDIT_CREDIT t) - 1)).threshold t 0 (d.queue t 0).fill := by
  have other : ∀ f : Fld, f.addr ≠ A.SQ_PORT t 15 → (d.setReg (A.SQ_PORT t 15) v).rd f = d.rd f := fun f h => Dev.rd_setReg_of_ne d v h
  have words : (d.setReg (A.SQ_PORT t 15) v).sqPortWords t = d.regsAt (A.SQ_PORT t 0) 15 ++ [v] := by
    have place : A.SQ_PORT t 0 + 4 * 15 = A.SQ_PORT t 15 := rfl
    rw [Dev.sqPortWords, Dev.regsAt_concat, place, Dev.reg_setReg_self, Dev.regsAt_congr fun k hk => Dev.reg_setReg_of_ne d v ?_]
    simp only [A.SQ_PORT]
    omega
  have on : (d.setReg (A.SQ_PORT t 15) v).on (F.Q_EN t 0) = true := by
    rw [Dev.on, other _ (by simp only [A.SQ_CFG, A.SQ_PORT]; omega), en]
    rfl
  have credits := other (F.SQ_CREDIT_CREDIT t) (by simp only [A.SQ_CREDIT, A.SQ_PORT]; omega)
  have queue : (d.setReg (A.SQ_PORT t 15) v).queue t 0 = d.queue t 0 := rfl
  unfold Dev.sqPort
  simp only [merged_ones]
  generalize d.setReg (A.SQ_PORT t 15) v = e at on credits queue words
  rw [if_neg (by decide), if_neg (by simp [on]), Dev.moveQueue_of_ok (by rw [queue]; exact ok)]
  rw [credits, if_neg credit, queue, words]

theorem sqPortPost_posts {t : Fin 512} (take : s.TakesWrite p (pageAddr t 0xBC)) (en : s.dev.rd (F.Q_EN t 0) = 1)
    (credit : s.dev.rd (F.SQ_CREDIT_CREDIT t) ≠ 0) (ok : (s.dev.queue t 0).ok = true) :
    Completes (.sqPortPost p t v) s (fun u =>
      (u.dev.queue t 0).entries = (s.dev.queue t 0).entries ++ [s.dev.regsAt (A.SQ_PORT t 0) 15 ++ [v]] ∧
      (u.dev.queue t 0).wr = (s.dev.queue t 0).wr + 1 ∧
      u.dev.rd (F.SQ_CREDIT_CREDIT t) = s.dev.rd (F.SQ_CREDIT_CREDIT t) - 1) := by
  refine .of_page take rfl sqPort_row (fun e noted => ⟨e.writeTnt_sqPort, ?_⟩) fun e u noted settled => ?_
  all_goals
    have queue := noted.queue t 0
    have credits : e.rd (F.SQ_CREDIT_CREDIT t) = s.dev.rd (F.SQ_CREDIT_CREDIT t) := noted.rd (not_rsvWord_page t 0x50)
    have words : e.regsAt (A.SQ_PORT t 0) 15 = s.dev.regsAt (A.SQ_PORT t 0) 15 :=
      Dev.regsAt_congr fun k _ => noted.reg _ (not_rsvWord_of_le (by simp only [A.SQ_PORT, Base.TNT]; omega))
    have posted := e.sqPort_posts t v ((noted.rd (not_rsvWord_cfg t 0)).trans en) (by rw [credits]; exact credit) (by rw [queue]; exact ok)
    rw [queue, credits, words] at posted
    obtain ⟨x, hx⟩ : ∃ x : Queue, x = { (s.dev.queue t 0).advWr 1 with
      entries := (s.dev.queue t 0).entries ++ [s.dev.regsAt (A.SQ_PORT t 0) 15 ++ [v]] } := ⟨_, rfl⟩
    rw [← hx] at posted
    have after := Noted.threshold (((e.setReg (A.SQ_PORT t 15) v).setQueue t 0 x).wr (F.SQ_CREDIT_CREDIT t)
      (s.dev.rd (F.SQ_CREDIT_CREDIT t) - 1)) t 0 (s.dev.queue t 0).fill
  · rw [posted, after.nudge, Dev.nudge_wr, Dev.nudge_setQueue]
    rfl
  · have alike := after.queue 0 (by decide)
    rw [Dev.queue_wr, Dev.queue_setQueue_self] at alike
    obtain ⟨wr, -⟩ := alike.pointers
    obtain ⟨entries, -⟩ := alike.fields
    have left : s.dev.rd (F.SQ_CREDIT_CREDIT t) - 1 < 2 ^ 16 := (Nat.sub_le _ _).trans_lt (bits_lt _ _ _)
    rw [posted] at settled
    rw [settled.queue, settled.rd, wr, entries, after.rd (by simp only [A.SQ_CREDIT, A.QSTAT]; omega),
      Dev.rd_wr_self _ _ _ (by simp only [Nat.reduceAdd, Nat.reduceLeDiff]), hx]
    exact ⟨rfl, rfl, Nat.mod_eq_of_lt left⟩

/-! ### User doorbells (R140) -/

theorem Ctx.wakeEvent_of_idle {c : Ctx} (idle : c.wait = .none) : c.wakeEvent = c := by rw [Ctx.wakeEvent, idle]

theorem Ctx.fire_of_idle (c : Ctx) (k : Nat) (idle : c.wait = .none) :
    (c.fire k v).wait = .none ∧ (c.fire k v).slots = c.slots.set k { c.slots.getD k {} with fired := true, data := v } := by
  obtain ⟨c', wait, slots, eq⟩ : ∃ c' : Ctx, c'.wait = c.wait ∧
      c'.slots = c.slots.set k { c.slots.getD k {} with fired := true, data := v } ∧ c.fire k v = c'.wakeEvent := by
    refine ⟨_, ?_, ?_, rfl⟩
    · split <;> rfl
    · split <;> rfl
  rw [eq, Ctx.wakeEvent_of_idle (wait.trans idle)]
  exact ⟨wait.trans idle, slots⟩

/-- A slot holds a firing with these data. -/
def Ctx.Fired (c : Ctx) (k : Nat) (v : Word) : Prop := (c.slots.getD k {}).fired = true ∧ (c.slots.getD k {}).data = v

/-- Slots that fire one after another in a context that waits for none. -/
theorem Ctx.foldl_fire (ks : List Nat) {k : Nat} (c : Ctx) (idle : c.wait = .none) (hk : k < c.slots.length)
    (h : k ∈ ks ∨ c.Fired k v) : (ks.foldl (fun c k => c.fire k v) c).Fired k v := by
  induction ks generalizing c with
  | nil => exact h.resolve_left List.not_mem_nil
  | cons j ks ih =>
    obtain ⟨idle', slots⟩ := c.fire_of_idle (v := v) j idle
    refine ih (c.fire j v) idle' (by rw [slots, List.length_set]; exact hk) ?_
    by_cases same : j = k
    · right
      rw [Ctx.Fired, slots, same, List.getD_eq_getElem _ _ (by rw [List.length_set]; exact hk), List.getElem_set_self]
      exact ⟨rfl, rfl⟩
    · refine h.imp (fun mem => (List.mem_cons.1 mem).resolve_left (Ne.symm same)) fun fired => ?_
      rw [Ctx.Fired, slots, List.getD_eq_getElem _ _ (by rw [List.length_set]; exact hk), List.getElem_set_ne same,
        ← List.getD_eq_getElem _ {} hk]
      exact fired

theorem Dev.ctx_updCtx (d : Dev) (x y : Nat) (f : Ctx → Ctx) : (d.updCtx x f).ctx y = if y = x then f (d.ctx x) else d.ctx y :=
  SMap.get_put _ _ _ _ _

theorem Dev.each_updCtx (x : Nat) (f : Nat → Ctx → Ctx) (ks : List Nat) (d : Dev) (y : Nat) :
    (d.each ks fun d k => d.updCtx x (f k)).ctx y = if y = x then ks.foldl (fun c k => f k c) (d.ctx x) else d.ctx y := by
  induction ks generalizing d with
  | nil => rw [show d.each [] (fun d k => d.updCtx x (f k)) = d from rfl, List.foldl_nil]; split <;> simp [*]
  | cons k ks ih =>
    refine (ih (d.updCtx x (f k))).trans ?_
    rw [Dev.ctx_updCtx, Dev.ctx_updCtx, if_pos rfl]
    split <;> rfl

/-- What a source does to one context. -/
def Dev.fireCtx (hit : Word → Bool) (ctxOk : Nat → Bool) (v : Word) (d : Dev) (x : Nat) : Dev :=
  if (d.ctx x).running && ctxOk x then
    d.each ((d.ctx x).slots.zipIdx.filter (fun e => hit e.1.src) |>.map (·.2)) (fun d k => d.updCtx x (fun c => c.fire k v))
  else d

theorem Dev.fireSource_ctx (d : Dev) (hit : Word → Bool) (ctxOk : Nat → Bool) (entryOk : Nat → EntryRt → Bool) (v : Word) (y : Nat) :
    (d.fireSource hit ctxOk entryOk v).ctx y = (d.each (d.ctxs.map (·.1)) (Dev.fireCtx hit ctxOk v)).ctx y := rfl

theorem Dev.fireCtx_other (hit : Word → Bool) (ctxOk : Nat → Bool) (d : Dev) {x y : Nat} (h : y ≠ x) :
    (Dev.fireCtx hit ctxOk v d x).ctx y = d.ctx y := by
  unfold Dev.fireCtx
  split
  · rw [Dev.each_updCtx, if_neg h]
  · rfl

theorem Dev.each_fireCtx_other (hit : Word → Bool) (ctxOk : Nat → Bool) {y : Nat} (xs : List Nat) (h : y ∉ xs) (d : Dev) :
    (d.each xs (Dev.fireCtx hit ctxOk v)).ctx y = d.ctx y := by
  induction xs generalizing d with
  | nil => rfl
  | cons x xs ih =>
    rw [List.mem_cons, not_or] at h
    exact (ih h.2 _).trans (Dev.fireCtx_other hit ctxOk d h.1)

/-- A context that the source concerns has its slot fired. -/
theorem Dev.fireCtx_fires {hit : Word → Bool} {ctxOk : Nat → Bool} (d : Dev) {x k : Nat} (running : (d.ctx x).running = true)
    (concerned : ctxOk x = true) (idle : (d.ctx x).wait = .none) (hk : k < (d.ctx x).slots.length)
    (armed : hit ((d.ctx x).slots.getD k {}).src = true) : ((Dev.fireCtx hit ctxOk v d x).ctx x).Fired k v := by
  rw [Dev.fireCtx, if_pos (by rw [running, concerned]; rfl), Dev.each_updCtx, if_pos rfl]
  refine Ctx.foldl_fire _ _ idle hk (.inl (List.mem_map.2 ⟨((d.ctx x).slots.getD k {}, k), List.mem_filter.2 ⟨?_, armed⟩, rfl⟩))
  rw [List.getD_eq_getElem _ _ hk]
  exact List.mk_mem_zipIdx_iff_getElem?.2 (List.getElem?_eq_getElem hk)

theorem Dev.fireSource_fires {hit : Word → Bool} {ctxOk : Nat → Bool} {entryOk : Nat → EntryRt → Bool} (d : Dev) {x k : Nat}
    (mem : x ∈ d.ctxs.map (·.1)) (once : (d.ctxs.map (·.1)).Nodup) (running : (d.ctx x).running = true) (concerned : ctxOk x = true)
    (idle : (d.ctx x).wait = .none) (hk : k < (d.ctx x).slots.length) (armed : hit ((d.ctx x).slots.getD k {}).src = true) :
    ((d.fireSource hit ctxOk entryOk v).ctx x).Fired k v := by
  obtain ⟨before, after, split⟩ := List.append_of_mem mem
  rw [split] at once
  obtain ⟨apart, -⟩ := List.nodup_cons.1 (List.nodup_middle.1 once)
  rw [List.mem_append, not_or] at apart
  have same := Dev.each_fireCtx_other (v := v) hit ctxOk before apart.1 d
  rw [Dev.fireSource_ctx, split, Dev.each, List.foldl_append, List.foldl_cons]
  refine (congrArg (Ctx.Fired · k v) (Dev.each_fireCtx_other hit ctxOk after apart.2 _)).mpr ?_
  exact Dev.fireCtx_fires _ (by rw [← same] at running; exact running) concerned (by rw [← same] at idle; exact idle)
    (by rw [← same] at hk; exact hk) (by rw [← same] at armed; exact armed)

theorem userDb_row : 0xF0 < 0x1000 ∧ 0xF0 % 4 = 0 ∧ (findRow Rows.TNT 0xF0).isSome = true := by decide +kernel

theorem Settled.ctx {u : State} (h : Settled s d u) (x : Nat) : u.dev.ctx x = d.ctx x := by rw [h.dev]; rfl

theorem Dev.fireSource_nudge (d : Dev) (hit : Word → Bool) (ctxOk : Nat → Bool) (entryOk : Nat → EntryRt → Bool) (v : Word) :
    (d.fireSource hit ctxOk entryOk v).nudge = d.nudge := (EvFrame.fireSource (W := fun _ => True) d _ _ _ _).nudge

theorem not_rsvWord_pwr : ¬ rsvWord F.PWR_DOMAIN_STATE_ISLANDS.addr := by
  unfold rsvWord
  decide

theorem userDbWrite_fires {t : Fin 512} (take : s.TakesWrite p (pageAddr t 0xF0)) (core : s.dev.coreOn = true) {x k : Nat}
    (mem : x ∈ s.dev.ctxs.map (·.1)) (hk : k < 8) (running : (s.dev.ctx x).running = true) (tenant : (s.dev.ctx x).tenant = t)
    (slots : (s.dev.ctx x).slots.length = 8) (idle : (s.dev.ctx x).wait = .none)
    (armed : srcKind ((s.dev.ctx x).slots.getD k {}).src = 5) (once : (s.dev.ctxs.map (·.1)).Nodup) :
    Completes (.userDbWrite p t v) s (fun u => ((u.dev.ctx x).slots.getD k {}).fired = true ∧
      ((u.dev.ctx x).slots.getD k {}).data = v) := by
  have effect : ∀ e, RegsFrame rsvWord s.dev e → ∀ a, e.writeTnt p t 0xF0 a 0xFFFFFFFF v = e.userDb t v := by
    intro e noted a
    have on : e.coreOn = true := by
      have toward : e.pwr = s.dev.pwr := by rw [noted.eq]
      rw [Dev.coreOn, Dev.island, noted.rd not_rsvWord_pwr, toward]
      exact core
    have word : v &&& 0xFFFFFFFF = v := and_all_ones v
    show (if e.coreOn then e.userDb t (v &&& 0xFFFFFFFF) else e) = _
    rw [if_pos on, word]
  refine .of_page take rfl userDb_row (fun e noted => ⟨effect e noted _, Dev.fireSource_nudge _ _ _ _ _⟩) fun e u noted settled => ?_
  have ctxs : e.ctxs = s.dev.ctxs := by rw [noted.eq]
  have ctx : e.ctx x = s.dev.ctx x := by rw [Dev.ctx, ctxs, Dev.ctx]
  rw [settled.ctx]
  exact e.fireSource_fires (by rw [ctxs]; exact mem) (by rw [ctxs]; exact once) (by rw [ctx]; exact running) (by rw [ctx, tenant]; simp)
    (by rw [ctx]; exact idle) (by rw [ctx, slots]; exact hk) (by rw [ctx, armed]; rfl)

/-! ### Completions that were held (R97) -/

/-- A completion put into its queue takes one place there; of words, SQ_CREDIT and QSTAT may change. -/
theorem Dev.putCompletion_puts (d : Dev) (t : Nat) (ws : List Word) :
    ∃ w, (d.pushedOnto t 1 (d.queue t 1) w).Alike ((d.putCompletion t ws).queue t 1) ∧
      (d.queue t 0).Alike ((d.putCompletion t ws).queue t 0) ∧
      EvFrame (fun a => a = A.QSTAT t ∨ a = A.SQ_CREDIT t) d (d.putCompletion t ws) := by
  obtain ⟨w, mem, pba, out, pushed⟩ := d.pushEntry_cases t 1 (ws ++ [loWord d.t64, hiWord d.t64])
  have after : ∃ e, EvFrame (fun a => a = A.QSTAT t ∨ a = A.SQ_CREDIT t) d e ∧ (∀ q, e.queue t q =
      (d.setQueue t 1 (d.pushedOnto t 1 (d.queue t 1) w)).queue t q) ∧ d.putCompletion t ws = e.threshold t 1 (d.queue t 1).fill := by
    refine ⟨_, ?_, ?_, rfl⟩
    · exact (EvFrame.pushEntry d t 1 _).when _ fun x => .wr x _ (.inr rfl)
    · intro q
      rw [pushed, Dev.when]
      split <;> rfl
  obtain ⟨e, frame, queue, eq⟩ := after
  have noted := Noted.threshold e t 1 (d.queue t 1).fill
  have completion := noted.queue 1 (by decide)
  have command := noted.queue 0 (by decide)
  rw [queue, Dev.queue_setQueue_self] at completion
  rw [queue, Dev.queue_setQueue_of_ne _ _ (by decide)] at command
  rw [eq]
  exact ⟨w, completion, command, frame.trans (noted.frame.mono fun _ => .inl)⟩

theorem completionPostDeferred_posts {t : Fin 512} {ws : List Word} {rest : List (List Word)} (up : s.Up)
    (held : (s.dev.queue t 1).held = ws :: rest) (credits : (s.dev.queue t 1).credits ≠ 0) (going : (s.dev.queue t 1).stopped = false)
    (en : s.dev.rd (F.Q_EN t 1) = 1) :
    Completes (.completionPostDeferred t) s (fun u => (u.dev.queue t 1).held = rest ∧
      (u.dev.queue t 1).wr = (s.dev.queue t 1).wr + 1 ∧ (u.dev.queue t 1).credits = (s.dev.queue t 1).credits - 1) := by
  obtain ⟨-, -, none, -⟩ := up.1
  have on : s.dev.on (F.Q_EN t 1) = true := by rw [Dev.on, en]; rfl
  have effect : s.dev.postHeld t = (s.dev.setQueue t 1 { s.dev.queue t 1 with held := rest }).putCompletion t ws := by
    unfold Dev.postHeld
    simp only [held]
    exact if_neg (by simp [credits, going, on])
  obtain ⟨w, alike, -, frame⟩ := (s.dev.setQueue t 1 { s.dev.queue t 1 with held := rest }).putCompletion_puts t ws
  obtain ⟨u, run, settled⟩ := runAon_settled (f := fun _ d => d.postHeld t) up effect (frame.nudge.trans none)
  rw [Dev.queue_setQueue_self] at alike
  obtain ⟨wr, -⟩ := alike.pointers
  obtain ⟨-, left, still, -⟩ := alike.fields
  refine ⟨u, run, ?_⟩
  dsimp only
  rw [settled.queue, still, wr, left]
  exact ⟨rfl, rfl, rfl⟩

/-- Settles O37: each word of a port is answered without moving the queue but the last, and what a threshold notes of a queue leaves its
pointers and entries. -/
theorem queuePortsAndDoorbells : Obligations.QueuePortsAndDoorbells := by
  intro s p t v
  refine ⟨fun take en credit ok => sqPortPost_posts take en credit ok, fun q n off port => ?_,
    fun take core x k mem hk running tenant slots idle armed once =>
      userDbWrite_fires take core mem hk running tenant slots idle armed once,
    fun ws rest up held credits going en => completionPostDeferred_posts up held credits going en⟩
  intro x c take ok none w ws entries
  refine portConsume_consumes port ?_ take ok none entries
  rcases port with h | h <;> cases h <;> rfl

end Sys2Proof.Machine
end

section
/-! PROOF. O38: commands are fetched in order and started (R99–R103). -/
namespace Sys2Proof.Machine

variable {d e : Dev} {s : State} {t : Fin 512} {ws cmd : List Word} {op : Option Nat}

/-! ### A command taken from its queue (R100) -/

/-- The device with a command taken from its tenant's queue and not started yet. -/
def Dev.fetched (d : Dev) (t : Nat) (cmd : List Word) : Dev :=
  { (d.setQueue t 0 { (d.queue t 0).advRd 1 with entries := (d.queue t 0).entries.drop 1 }).wr (F.SQ_HEAD_HEAD t) ((d.queue t 0).rd + 1).toNat with
    cmds := d.cmds ++ [{ tenant := t, seq := cSeq cmd }] }

theorem Dev.fetchRow_eq (idle : d.rd F.FRG_STATUS_STATE ≠ Frg.RECORDING) (may : d.mayFetch t (sixteen ws) = true)
    (ok : (d.queue t 0).ok = true) (hcmd : d.nextCmd t (sixteen ws) = cmd) (hop : ∀ o, op = some o → o = cOpcode cmd) :
    d.fetchRow op t ws = (d.fetched t cmd).startCmd t cmd := by
  have mine : op.any (· != cOpcode cmd) = false := by
    cases op with
    | none => rfl
    | some o => simp [hop o rfl]
  have unrecorded : ∀ p k a bs u, d.hostRecord p t k a bs u = d := fun _ _ _ _ _ => if_pos idle
  subst hcmd
  unfold Dev.fetchRow
  dsimp only
  rw [if_neg (by simp [may, mine]), unrecorded, Dev.fetchCmd, if_neg (by simp [may]), Dev.moveQueue_of_ok ok]
  rfl

/-- What every command leaves of the queue that it came from. -/
structure Taken (t : Nat) (d e : Dev) : Prop where
  rd : (e.queue t 0).rd = (d.queue t 0).rd + 1
  rd2 : (e.queue t 0).rd2 = (d.queue t 0).rd2 + 1
  entries : (e.queue t 0).entries = (d.queue t 0).entries.drop 1
  head : e.rd (F.SQ_HEAD_HEAD t) = ((d.queue t 0).rd + 1).toNat

theorem Dev.fetched_queue (d : Dev) (t : Nat) (cmd : List Word) :
    (d.fetched t cmd).queue t 0 = { (d.queue t 0).advRd 1 with entries := (d.queue t 0).entries.drop 1 } ∧
      (d.fetched t cmd).queue t 1 = d.queue t 1 := by
  have kept : ∀ q, (d.fetched t cmd).queue t q =
      (d.setQueue t 0 { (d.queue t 0).advRd 1 with entries := (d.queue t 0).entries.drop 1 }).queue t q := fun _ => rfl
  rw [kept, kept, Dev.queue_setQueue_self, Dev.queue_setQueue_of_ne _ _ (by decide)]
  exact ⟨rfl, rfl⟩

theorem Dev.fetched_head (d : Dev) (t : Nat) (cmd : List Word) :
    (d.fetched t cmd).rd (F.SQ_HEAD_HEAD t) = ((d.queue t 0).rd + 1).toNat := by
  refine (Dev.rd_wr_self _ _ _ (by simp only [Nat.reduceAdd, Nat.reduceLeDiff])).trans ?_
  exact Nat.mod_eq_of_lt (BitVec.isLt _)

theorem Taken.of_alike {t : Nat} (queue : ((d.fetched t cmd).queue t 0).Alike (e.queue t 0))
    (head : e.rd (F.SQ_HEAD_HEAD t) = (d.fetched t cmd).rd (F.SQ_HEAD_HEAD t)) : Taken t d e := by
  rw [(d.fetched_queue t cmd).1] at queue
  obtain ⟨-, -, rd, rd2⟩ := queue.pointers
  obtain ⟨entries, -⟩ := queue.fields
  exact ⟨rd, rd2, entries, head.trans (d.fetched_head t cmd)⟩

/-- A command that may be fetched, by the row of its opcode or by COMMAND_FETCH. -/
structure MayStart (s : State) (t : Fin 512) (ws cmd : List Word) : Prop where
  up : s.CoreUp
  idle : s.dev.rd F.FRG_STATUS_STATE ≠ Frg.RECORDING
  may : s.dev.mayFetch t (sixteen ws) = true
  ok : (s.dev.queue t 0).ok = true
  next : s.dev.nextCmd t (sixteen ws) = cmd

/-- What starting the command leaves is what either command leaves. -/
theorem MayStart.both {i : Instr} {P : State → Prop} (h : MayStart s t ws cmd)
    (hi : exec i s = lift (fun d => d.fetchRow (some (cOpcode cmd)) t ws) s)
    (start : (s.dev.fetched t cmd).startCmd t cmd = e) (nudge : e.nudge = s.dev.nudge) (hP : ∀ u, Settled s e u → P u) :
    Completes i s P ∧ Completes (.commandFetch t ws) s P := by
  have run : ∀ op, (∀ o, op = some o → o = cOpcode cmd) → s.dev.fetchRow op t ws = e := fun op hop =>
    (Dev.fetchRow_eq h.idle h.may h.ok h.next hop).trans start
  exact ⟨.of_run (f := fun _ d => d.fetchRow (some (cOpcode cmd)) t ws) h.up hi (run _ fun o ho => (Option.some.inj ho).symm) nudge hP,
    .of_run (f := fun _ d => d.fetchRow none t ws) h.up rfl (run _ fun o ho => by cases ho) nudge hP⟩

/-- The next command has left its queue, SQ_HEAD following. -/
def TakesCommand (s : State) (t : Nat) (u : State) : Prop :=
  (u.dev.queue t 0).rd = (s.dev.queue t 0).rd + 1 ∧ (u.dev.queue t 0).rd2 = (s.dev.queue t 0).rd2 + 1 ∧
    (u.dev.queue t 0).entries = (s.dev.queue t 0).entries.drop 1 ∧ u.dev.rd (F.SQ_HEAD_HEAD t) = ((s.dev.queue t 0).rd + 1).toNat

theorem Taken.of_settled {u : State} {t : Nat} (h : Taken t s.dev e) (k : Settled s e u) : TakesCommand s t u := by
  rw [TakesCommand, k.queue, k.rd]
  exact ⟨h.rd, h.rd2, h.entries, h.head⟩

/-! ### A command that starts (R99) -/

theorem Dev.fetched_rd (d : Dev) (t : Nat) (cmd : List Word) {f : Fld} (h : f.addr < 0x400000) : (d.fetched t cmd).rd f = d.rd f :=
  Dev.rd_wr_of_ne _ _ (by simp only [A.SQ_HEAD, Base.TNT]; omega)

theorem Dev.fetched_cmdRange (d : Dev) (t : Nat) (cmd ws : List Word) : (d.fetched t cmd).cmdRange ws = d.cmdRange ws := by
  have steward : cSteward ws < 4 := bits_lt _ _ _
  have state : (d.fetched t cmd).ustate (0x0F0 + cSteward ws) = d.ustate (0x0F0 + cSteward ws) :=
    d.fetched_rd t cmd (by simp only [A.UNIT_STATE, Base.UNIT]; omega)
  rw [Dev.cmdRange, state, Dev.cmdRange]

theorem Dev.startCmd_of_good (d : Dev) (tenant : cTenant cmd = t) (good : d.cmdRange cmd = false) :
    (cOpcode cmd = 1 → d.startCmd t cmd = d.startRun t cmd) ∧ (cOpcode cmd = 2 → d.startCmd t cmd = d.startInline t cmd) ∧
      (cOpcode cmd = 3 → d.startCmd t cmd = d.startUnitop t cmd) := by
  refine ⟨fun op => ?_, fun op => ?_, fun op => ?_⟩
  all_goals simp only [Dev.startCmd, tenant, good, op, ne_eq, not_true_eq_false, Bool.false_eq_true, if_false]

theorem Dev.startCmd_fence (d : Dev) (tenant : cTenant cmd = t) (op : cOpcode cmd = 4) :
    ∃ reason, d.startCmd t cmd = d.completeCmd t (cSeq cmd) reason 0xFFF 0 [] := by
  unfold Dev.startCmd
  rw [if_neg (by simp [tenant]), op]
  split
  · exact ⟨_, rfl⟩
  · exact ⟨_, rfl⟩

/-! ### RUN and INLINE (R101, R102) -/

theorem Dev.steward_requestStart (d : Dev) (k : Nat) (r : StartReq) :
    ((d.requestStart k r).steward k).startq = (d.steward k).startq ++ [r] := by
  rw [Dev.requestStart, Dev.steward, Dev.setSteward, SMap.get_put_self]

theorem Dev.queue_requestStart (d : Dev) (k : Nat) (r : StartReq) (t q : Nat) : (d.requestStart k r).queue t q = d.queue t q := rfl
theorem Dev.rd_requestStart (d : Dev) (k : Nat) (r : StartReq) (f : Fld) : (d.requestStart k r).rd f = d.rd f := rfl

theorem Dev.setEntry_cases (d : Dev) (k : Nat) (x : EntryRt) :
    ∃ ops, d.setEntry k x = { d with entries := SMap.put (fun _ => {}) k x d.entries, memw := ops } := by
  have stores : ∀ (ws : List (Word × Nat)) (a : Nat) (d : Dev),
      ∃ ops, (d.each ws fun d w => d.memWord (a + 16 + 4 * w.2) w.1) = { d with memw := ops } := by
    intro ws a
    induction ws with
    | nil => exact fun d => ⟨_, rfl⟩
    | cons w ws ih =>
      intro d
      obtain ⟨ops, eq⟩ := ih (d.memWord (a + 16 + 4 * w.2) w.1)
      exact ⟨ops, eq⟩
  obtain ⟨ops, eq⟩ := stores x.words.zipIdx (0xC00000 + k / 1024 * 0x100000 + (d.steward (k / 1024)).etabBase + 32 * (k % 1024))
    { d with entries := SMap.put (fun _ => {}) k x d.entries }
  exact ⟨ops, eq⟩

/-- A RUN of an idle entry that its tenant may run. -/
theorem Dev.startRun_idle (d : Dev) {t : Nat} {x : EntryRt} (hx : x = d.entry (entryKey (cSteward cmd) (cTarget cmd)))
    (small : cTarget cmd < 1024) (within : cTarget cmd < d.rd (F.STW_ETAB_COUNT_COUNT (cSteward cmd))) (valid : x.valid = true)
    (allowed : t = 0 ∨ t = x.tenant ∨ x.anyTenant = true) (idle : x.running = false) :
    d.startRun t cmd = (d.setEntry (entryKey (cSteward cmd) (cTarget cmd)) { x with running := true }).requestStart (cSteward cmd)
      { kind := .entry (cTarget cmd) (some (t, cSeq cmd)), tenant := t, args := cArgs cmd, pc := x.addr } := by
  subst hx
  unfold Dev.startRun Dev.policyRun
  dsimp only
  rw [if_neg (by simp [valid]; omega), if_neg, if_pos (by simp [idle])]
  rcases allowed with h | h | h <;> simp [h]

theorem Settled.entry {u : State} (h : Settled s d u) (k : Nat) : u.dev.entry k = d.entry k := by rw [h.dev]; rfl
theorem Settled.steward {u : State} (h : Settled s d u) (k : Nat) : u.dev.steward k = d.steward k := by rw [h.dev]; rfl

theorem run_starts (h : MayStart s t ws cmd) (tenant : cTenant cmd = t) {x : EntryRt}
    (hx : x = s.dev.entry (entryKey (cSteward cmd) (cTarget cmd))) (good : s.dev.cmdRange cmd = false) (small : cTarget cmd < 1024)
    (within : cTarget cmd < s.dev.rd (F.STW_ETAB_COUNT_COUNT (cSteward cmd))) (valid : x.valid = true)
    (allowed : t.val = 0 ∨ t.val = x.tenant ∨ x.anyTenant = true) (idle : x.running = false) (op : cOpcode cmd = 1) {i : Instr}
    (hi : exec i s = lift (fun d => d.fetchRow (some (cOpcode cmd)) t ws) s) {P : State → Prop}
    (hP : ∀ u : State, TakesCommand s t u → (u.dev.entry (entryKey (cSteward cmd) (cTarget cmd))).running = true →
      (u.dev.steward (cSteward cmd)).startq = (s.dev.steward (cSteward cmd)).startq ++
        [{ kind := .entry (cTarget cmd) (some (t.val, cSeq cmd)), tenant := t, args := cArgs cmd, pc := x.addr }] → P u) :
    Completes i s P ∧ Completes (.commandFetch t ws) s P := by
  have steward : cSteward cmd < 4 := bits_lt _ _ _
  have count : (s.dev.fetched t cmd).rd (F.STW_ETAB_COUNT_COUNT (cSteward cmd)) = s.dev.rd (F.STW_ETAB_COUNT_COUNT (cSteward cmd)) :=
    s.dev.fetched_rd t cmd (by simp only [A.STW_ETAB_COUNT, Base.STW]; omega)
  have start := ((s.dev.fetched t cmd).startCmd_of_good tenant ((s.dev.fetched_cmdRange t cmd cmd).trans good)).1 op
  rw [Dev.startRun_idle (s.dev.fetched t cmd) (x := x) hx small (by rw [count]; exact within) valid allowed idle] at start
  obtain ⟨ops, entry⟩ := (s.dev.fetched t cmd).setEntry_cases (entryKey (cSteward cmd) (cTarget cmd)) { x with running := true }
  rw [entry] at start
  refine h.both hi start rfl fun u settled => hP u ?_ ?_ ?_
  · refine Taken.of_settled (Taken.of_alike (cmd := cmd) ?_ ?_) settled
    · rw [Dev.queue_requestStart]
      exact rfl
    · rw [Dev.rd_requestStart]
      exact rfl
  · rw [settled.entry, Dev.requestStart, Dev.setSteward, Dev.entry, SMap.get_put_self]
  · rw [settled.steward, Dev.steward_requestStart]
    rfl

theorem inline_starts (h : MayStart s t ws cmd) (tenant : cTenant cmd = t) (good : s.dev.cmdRange cmd = false) (op : cOpcode cmd = 2)
    {i : Instr} (hi : exec i s = lift (fun d => d.fetchRow (some (cOpcode cmd)) t ws) s) {P : State → Prop}
    (hP : ∀ u : State, TakesCommand s t u →
      (u.dev.steward (cSteward cmd)).startq = (s.dev.steward (cSteward cmd)).startq ++
        [{ kind := .inlineRun t.val (cSeq cmd), tenant := t, args := [BitVec.ofNat 32 (cNargs cmd)] }] → P u) :
    Completes i s P ∧ Completes (.commandFetch t ws) s P := by
  have start := ((s.dev.fetched t cmd).startCmd_of_good tenant ((s.dev.fetched_cmdRange t cmd cmd).trans good)).2.1 op
  rw [Dev.startInline] at start
  refine h.both hi start rfl fun u settled => hP u ?_ ?_
  · refine Taken.of_settled (Taken.of_alike (cmd := cmd) ?_ ?_) settled
    · rw [Dev.queue_requestStart]
      exact rfl
    · rw [Dev.rd_requestStart]
  · rw [settled.steward, Dev.steward_requestStart]
    rfl

/-! ### Commands that complete at once (R100, R103) -/

/-- The only outstanding command of a tenant completes: its completion is posted where there is room. -/
theorem Dev.completeCmd_posts (d : Dev) {t : Nat} (seq reason unit detail : Nat) (results : List Word) (cs : List Cmd)
    (alone : ∀ c ∈ cs, c.tenant ≠ t) (mine : d.cmds = cs ++ [{ tenant := t, seq := seq }]) (held : (d.queue t 1).held = [])
    (credits : (d.queue t 1).credits ≠ 0) (going : (d.queue t 1).stopped = false) :
    ∃ w, d.completeCmd t seq reason unit detail results = ({ d with cmds := cs } : Dev).putCompletion t w := by
  have found : d.cmds.find? (fun c => c.tenant = t && c.seq = seq) = some { tenant := t, seq := seq } := by
    rw [mine, List.find?_append, List.find?_eq_none.2 fun c hc => by simp [alone c hc]]
    simp
  have rest : d.cmds.erase { tenant := t, seq := seq } = cs := by
    rw [mine, List.erase_append_right _ fun mem => alone _ mem rfl, List.erase_cons_head, List.append_nil]
  have room : ((({ d with cmds := cs } : Dev).queue t 1).held.isEmpty && (({ d with cmds := cs } : Dev).queue t 1).credits != 0 &&
      !(({ d with cmds := cs } : Dev).queue t 1).stopped) = true := by
    have same : ({ d with cmds := cs } : Dev).queue t 1 = d.queue t 1 := rfl
    simp [same, held, credits, going]
  unfold Dev.completeCmd
  rw [found]
  dsimp only
  rw [rest, if_neg Bool.false_ne_true]
  exact ⟨_, if_pos room⟩

/-- A fetched command that completes at once is outstanding no longer, and takes a place of the completion queue. -/
theorem posts_at_once (h : MayStart s t ws cmd) (alone : ∀ c ∈ s.dev.cmds, c.tenant ≠ t.val) (held : (s.dev.queue t 1).held = [])
    (credits : (s.dev.queue t 1).credits ≠ 0) (going : (s.dev.queue t 1).stopped = false) {reason unit detail : Nat} {results : List Word}
    (start : (s.dev.fetched t cmd).startCmd t cmd = (s.dev.fetched t cmd).completeCmd t (cSeq cmd) reason unit detail results)
    {i : Instr} (hi : exec i s = lift (fun d => d.fetchRow (some (cOpcode cmd)) t ws) s) {P : State → Prop}
    (hP : ∀ u : State, TakesCommand s t u → u.dev.cmds = s.dev.cmds → (u.dev.queue t 1).wr = (s.dev.queue t 1).wr + 1 → P u) :
    Completes i s P ∧ Completes (.commandFetch t ws) s P := by
  obtain ⟨-, queue⟩ := s.dev.fetched_queue t cmd
  obtain ⟨w, posts⟩ := (s.dev.fetched t cmd).completeCmd_posts (cSeq cmd) reason unit detail results s.dev.cmds alone rfl
    (by rw [queue]; exact held) (by rw [queue]; exact credits) (by rw [queue]; exact going)
  obtain ⟨_, completion, command, frame⟩ := Dev.putCompletion_puts { s.dev.fetched t cmd with cmds := s.dev.cmds } t w
  refine h.both hi (start.trans posts) frame.nudge fun u settled => hP u ?_ ?_ ?_
  · refine Taken.of_settled (Taken.of_alike (cmd := cmd) command ?_) settled
    rw [Dev.rd, frame.reg _ (by simp only [A.SQ_HEAD, A.QSTAT, A.SQ_CREDIT]; omega)]
    rfl
  · have cmds : u.dev.cmds = _ := congrArg Dev.cmds settled.dev
    rw [cmds, frame.eq]
  · obtain ⟨wr, -⟩ := completion.pointers
    rw [settled.queue, wr]
    exact congrArg (fun x : Queue => x.wr + 1) queue

theorem Dev.startUnitop_unknown (d : Dev) (none : classOf (bits (cmd.getD 2 0) 0 12) = none) :
    d.startUnitop t cmd = d.completeCmd t (cSeq cmd) Rsn.RANGE (bits (cmd.getD 2 0) 0 12) 0 [] := by
  unfold Dev.startUnitop
  exact if_pos (by rw [none]; rfl)

/-- Settles O38: each command leaves its queue before it starts, and none of them writes the queue it came from again. -/
theorem commandsAreFetchedAndStarted : Obligations.CommandsAreFetchedAndStarted := by
  intro s t ws cmd x cq taken started posted up idle may ok tenant
  have h : MayStart s t ws cmd := ⟨up, idle, may, ok, rfl⟩
  refine ⟨fun m e hm he good small within valid allowed still op => ?_, fun good op => ?_, fun held credits going alone =>
    ⟨fun good none op => ?_, fun op => ?_⟩⟩
  · subst hm
    refine run_starts h tenant he good small within valid allowed still op ?_ fun u hu running startq => ⟨hu, running, startq⟩
    rw [op]
    rfl
  · refine inline_starts h tenant good op ?_ fun u hu startq => ⟨hu, startq⟩
    rw [op]
    rfl
  · refine posts_at_once h alone held credits going (((s.dev.fetched t cmd).startCmd_of_good tenant
      ((s.dev.fetched_cmdRange t cmd cmd).trans good)).2.2 op |>.trans (Dev.startUnitop_unknown _ none)) ?_
      fun u hu cmds wr => ⟨hu, cmds, wr⟩
    rw [op]
    rfl
  · obtain ⟨reason, start⟩ := (s.dev.fetched t cmd).startCmd_fence tenant op
    refine posts_at_once h alone held credits going start ?_ fun u hu cmds wr => ⟨hu, cmds, wr⟩
    rw [op]
    rfl

end Sys2Proof.Machine
end

section
/-! PROOF. O48 fails: its clause on a frame for one port lets the frame's VID be any number. One beyond the 12 bits of a VID puts its bit
of the port's VLAN map into SWC_STATUS, which the admission of the frame changes before the check of the port reads it. -/
namespace Sys2Proof.Machine

/-- A frame that reached port 1, with a VID whose word of the VLAN map of link 0 lies in SWC_STATUS. -/
def strayVid : Frame :=
  { octets := List.replicate 60 0, port := 1, ts := 0, cls := 0, vid := 32 * ((A.SWC_STATUS - A.LNK_VLANMAP 0 0) / 4) + 16, pcp := 0, tags := 0 }

theorem strayVid_vlanMap : A.LNK_VLANMAP 0 (strayVid.vid / 32) = A.SWC_STATUS := rfl

/-- Link 0 is IN_SERVICE and filters by VLAN, the frame waits in an audio lane for it alone, and all 65536 cells of the packet buffer are
free. -/
def freshCore : State :=
  { pending := [], mem := [], fuses := {},
    dev := (({ regs := [(A.UNIT_STATE 0x010, 3), (A.LNK_VLAN 0, 2), (A.SWC_PORT_CTRL 1, 2), (A.SWC_PORT_FLOOD_LO 1, 1)] } : Dev).wr
      F.PWR_DOMAIN_STATE_ON 0x3FFFF).setLink 1 { audio := [strayVid] } }

theorem freshCore_cellsFree : freshCore.dev.rd F.SWC_STATUS_CELLS_FREE = 2 ^ 16 := by decide +kernel

theorem freshCore_coreUp : freshCore.CoreUp := ⟨⟨⟨rfl, rfl, rfl, by decide +kernel⟩, by decide +kernel⟩, by decide +kernel⟩

theorem freshCore_runs : freshCore.dev.safe = false ∧ freshCore.dev.power = 0 ∧ freshCore.dev.rd F.ERR_STATUS_STOPPED / 4 % 2 = 0 ∧
    freshCore.dev.rd F.FRG_STATUS_STATE ≠ Frg.RECORDING := by decide +kernel

theorem freshCore_served : freshCore.dev.nextPort true = some 1 ∧ freshCore.dev.lane true 1 = [strayVid] := by decide +kernel

theorem freshCore_forPort0 : freshCore.dev.lookup strayVid.vid (daOf strayVid.octets) strayVid.port = [0] ∧
    freshCore.dev.flowMatch strayVid = none ∧ freshCore.dev.ruleOf strayVid = none ∧
    freshCore.dev.quotaAdmits strayVid.cls (cellsOf (strayVid.octets.length + 4)) = true := by decide +kernel

/-- The number that a frame gets in the packet buffer plays no part in the checks of a port. -/
theorem egressCheck_forwarded_pkt (d : Dev) (p : Nat) (x : Frame) (i j n len : Nat) :
    d.egressCheck p (d.forwarded p x i n) len = d.egressCheck p (d.forwarded p x j n) len := rfl

/-- Before the frame is admitted, the check of link 0 lets it pass. -/
theorem freshCore_passes (id n : Nat) (len : n = cellsOf (strayVid.octets.length + 4)) :
    freshCore.dev.egressCheck 0 (freshCore.dev.forwarded 0 strayVid id n) (strayVid.octets.length + 4) = .queue := by
  have passes : freshCore.dev.egressCheck 0 (freshCore.dev.forwarded 0 strayVid 0 (cellsOf (strayVid.octets.length + 4)))
      (strayVid.octets.length + 4) = .queue := by decide +kernel
  rw [len, egressCheck_forwarded_pkt _ _ _ id 0, passes]

/-- SWITCH_FRAME drops the frame at link 0, and FWD_FRAMES stays 0. -/
theorem switchFrame_freshCore {t : State} (h : exec .switchFrame freshCore = .next t) :
    t.dev.stat64 (Ctr.PORT 0 Pc.DROP_VLAN) = 1 ∧ t.dev.stat64 (Ctr.PORT 0 Pc.FWD_FRAMES) = 0 := by
  have counters : (match exec .switchFrame freshCore with
      | .next t => some (t.dev.stat64 (Ctr.PORT 0 Pc.DROP_VLAN), t.dev.stat64 (Ctr.PORT 0 Pc.FWD_FRAMES))
      | _ => none) = some (1, 0) := by decide +kernel
  rw [h] at counters
  exact Prod.mk.injEq .. ▸ Option.some.inj counters

/-- Refutes O48 by its clause on a frame for one port: a frame whose VID is beyond 12 bits takes a cell of the empty buffer, which clears the bit
of SWC_STATUS that the VLAN filter reads for that VID, and the port drops the frame. -/
theorem not_switchMovesFrames : ¬ Obligations.SwitchMovesFrames := by
  unfold Obligations.SwitchMovesFrames
  rintro ⟨switch, -⟩
  obtain ⟨safe, power, running, still⟩ := freshCore_runs
  obtain ⟨next, lane⟩ := freshCore_served
  obtain ⟨ports, flow, rule, admits⟩ := freshCore_forPort0
  obtain ⟨t, run, -, -, -, -, forwards⟩ := switch freshCore true 1 strayVid [] freshCore_coreUp safe power running still
    Bool.noConfusion next lane (by decide)
  obtain ⟨counted, -⟩ := forwards 0 _ ports flow rule rfl admits (by decide) (by decide) (fun id => freshCore_passes id _ rfl)
  obtain ⟨-, kept⟩ := switchFrame_freshCore run
  rw [Counted, kept] at counted
  exact absurd counted (by decide +kernel)

end Sys2Proof.Machine
end

section
/-! PROOF. O60: the words that GPIO_SET, GPIO_CLR and ELOAD write (R165, R486). -/
namespace Sys2Proof.Machine

variable {d e : Dev} {env : Env} {s : State} {p : Path} {v : Word}

/-! ### Registers written on a path that change one word -/

/-- A write on a path that sets one field, after its reserved bits have been counted. -/
theorem runAon_poke_field {a off : Nat} {b : Block} {w : Word} (take : s.TakesWrite p a) (loc : locate a = .reg b off)
    (unit : ∀ u, unitOfAddr a = some u → u < 0x1000) (f : Fld) (n : Nat)
    (effect : s.dev.writeReg s.env p b off a 0xFFFFFFFF w = (s.dev.noteReserved b off a w).wr f n) :
    ∃ t, runAon (fun env d => d.poke env p a w) s = .next t ∧ OnlyRegs (fun x => x = f.addr ∨ rsvWord x) s t ∧
      t.dev.reg f.addr = putBits ((s.dev.noteReserved b off a w).reg f.addr) f.lo f.width n := by
  have noted : RegsFrame rsvWord s.dev (s.dev.noteReserved b off a w) := .noteReserved _ b off w unit
  obtain ⟨t, run, only, regs⟩ := runAon_onlyRegs (W := fun x => x = f.addr ∨ rsvWord x) (f := fun env d => d.poke env p a w) take.1
    ((poke_of_takesWrite take loc).trans effect) ((noted.mono fun _ => .inr).wr f n (.inl rfl))
  exact ⟨t, run, only, (regs _).trans (Dev.reg_setReg_self _ _ _)⟩

/-! ### GPIO_SET and GPIO_CLR (R486) -/

theorem unitOfAddr_gpio : unitOfAddr A.GPIO_SET = some 0x0FB ∧ unitOfAddr A.GPIO_CLR = some 0x0FB := ⟨rfl, rfl⟩

theorem Dev.writeReg_gpioSet (d : Dev) (env : Env) (p : Path) (v : Word) :
    d.writeReg env p .mgt 0x110 A.GPIO_SET 0xFFFFFFFF v =
      (let x := d.noteReserved .mgt 0x110 A.GPIO_SET v
       x.wr F.GPIO_OUT_OUT (Nat.lor (x.rd F.GPIO_OUT_OUT) (bits v 0 16))) := by
  have whole : v &&& 0xFFFFFFFF = v := and_ones v
  simp only [Dev.writeReg, Dev.writeMgt, whole]
  rfl

theorem Dev.writeReg_gpioClr (d : Dev) (env : Env) (p : Path) (v : Word) :
    d.writeReg env p .mgt 0x114 A.GPIO_CLR 0xFFFFFFFF v =
      (let x := d.noteReserved .mgt 0x114 A.GPIO_CLR v
       x.wr F.GPIO_OUT_OUT (Nat.land (x.rd F.GPIO_OUT_OUT) (0xFFFF - bits v 0 16))) := by
  have whole : v &&& 0xFFFFFFFF = v := and_ones v
  simp only [Dev.writeReg, Dev.writeMgt, whole]
  rfl

theorem testBit_out (w : Word) {k : Nat} (hk : k < 16) : (bits w 0 16).testBit k = w.getLsbD k := by
  rw [testBit_bits, Nat.zero_add]
  simp [hk]

/-- What is left of sixteen bits when some are taken out. -/
theorem testBit_without (w : Word) {k : Nat} (hk : k < 16) : (0xFFFF - bits w 0 16).testBit k = !w.getLsbD k := by
  have lt := bits_lt w 0 16
  rw [show 0xFFFF - bits w 0 16 = 2 ^ 16 - (bits w 0 16 + 1) by omega, Nat.testBit_two_pow_sub_succ lt, testBit_out w hk]
  simp [hk]

/-- A bit of GPIO_OUT after OUT has been written. -/
theorem getLsbD_gpioOut (w : Word) (n : Nat) {k : Nat} (hk : k < 16) : (putBits w 0 16 n).getLsbD k = n.testBit k := by
  rw [getLsbD_putBits _ _ _ _ _ (by decide), if_pos (by omega), Nat.sub_zero]

/-- OUT is no count of reserved bits. -/
theorem testBit_noted_out {a off : Nat} (d : Dev) (w : Word) (unit : unitOfAddr a = some 0x0FB) {k : Nat} (hk : k < 16) :
    ((d.noteReserved .mgt off a w).rd F.GPIO_OUT_OUT).testBit k = (d.reg A.GPIO_OUT).getLsbD k := by
  have noted := RegsFrame.noteReserved d .mgt off w fun u hu => by cases unit.symm.trans hu; decide
  rw [noted.rd (by unfold rsvWord; decide)]
  exact testBit_out _ hk

theorem gpioSet_sets (take : s.TakesWrite p A.GPIO_SET) :
    Completes (.gpioSet p v) s (fun t => OnlyRegs (fun a => a = A.GPIO_OUT ∨ rsvWord a) s t ∧
      ∀ k, k < 16 → (t.dev.reg A.GPIO_OUT).getLsbD k = ((s.dev.reg A.GPIO_OUT).getLsbD k || v.getLsbD k)) := by
  obtain ⟨unit, -⟩ := unitOfAddr_gpio
  obtain ⟨t, run, only, word⟩ := runAon_poke_field take (b := .mgt) (off := 0x110) rfl (fun u hu => by cases unit.symm.trans hu; decide)
    F.GPIO_OUT_OUT _ (Dev.writeReg_gpioSet _ s.env p v)
  refine ⟨t, run, only, fun k hk => ?_⟩
  rw [word, getLsbD_gpioOut _ _ hk]
  exact (Nat.testBit_or _ _ _).trans (by rw [testBit_out v hk, testBit_noted_out _ v unit hk])

theorem gpioClr_clears (take : s.TakesWrite p A.GPIO_CLR) :
    Completes (.gpioClr p v) s (fun t => OnlyRegs (fun a => a = A.GPIO_OUT ∨ rsvWord a) s t ∧
      ∀ k, k < 16 → (t.dev.reg A.GPIO_OUT).getLsbD k = ((s.dev.reg A.GPIO_OUT).getLsbD k && !v.getLsbD k)) := by
  obtain ⟨-, unit⟩ := unitOfAddr_gpio
  obtain ⟨t, run, only, word⟩ := runAon_poke_field take (b := .mgt) (off := 0x114) rfl (fun u hu => by cases unit.symm.trans hu; decide)
    F.GPIO_OUT_OUT _ (Dev.writeReg_gpioClr _ s.env p v)
  refine ⟨t, run, only, fun k hk => ?_⟩
  rw [word, getLsbD_gpioOut _ _ hk]
  exact (Nat.testBit_and _ _ _).trans (by rw [testBit_without v hk, testBit_noted_out _ v unit hk])

/-! ### ELOAD (R165) -/

theorem locate_eload : ∀ k : Fin 4, locate (A.STW_ELOAD k) = .reg (.stw k) 0xC ∧ unitOfAddr (A.STW_ELOAD k) = some (0x0F0 + k.val) := by
  decide +kernel

theorem Dev.writeReg_eload (d : Dev) (env : Env) (p : Path) (k : Fin 4) (v : Word) :
    d.writeReg env p (.stw k) 0xC (A.STW_ELOAD k) 0xFFFFFFFF (withGo v) =
      (d.noteReserved (.stw k) 0xC (A.STW_ELOAD k) (withGo v)).eloadGo k := by
  have whole : withGo v &&& 0xFFFFFFFF = withGo v := and_ones _
  simp only [Dev.writeReg, whole, getLsbD_withGo]
  rfl

/-- GO of ELOAD sets the field `f`, whatever of BUSY it finds. -/
theorem eload_sets {k : Fin 4} (take : s.TakesWrite p (A.STW_ELOAD k)) {f : Fld} {n : Nat} (hf : f.addr = A.STW_ELOAD k)
    (width : f.lo + f.width ≤ 32)
    (effect : ∀ x : Dev, x.rd (F.STW_ELOAD_BUSY k) = s.dev.rd (F.STW_ELOAD_BUSY k) → x.eloadGo k = x.wr f n) :
    Completes (.eload p k v) s (fun t => t.dev.rd f = n % 2 ^ f.width ∧ OnlyRegs (fun a => a = A.STW_ELOAD k ∨ rsvWord a) s t) := by
  obtain ⟨loc, unit⟩ := locate_eload k
  have known (u : Nat) (hu : unitOfAddr (A.STW_ELOAD k) = some u) : u < 0x1000 := by
    rw [unit] at hu
    cases hu
    omega
  have noted := RegsFrame.noteReserved s.dev (.stw k) 0xC (withGo v) known
  have apart : ¬ rsvWord (A.STW_ELOAD k) := not_rsvWord_of_le (by simp only [A.STW_ELOAD, Base.STW]; omega)
  obtain ⟨t, run, only, word⟩ := runAon_poke_field take loc known f n
    ((Dev.writeReg_eload _ s.env p k v).trans (effect _ (noted.rd apart)))
  rw [hf] at only
  refine ⟨t, run, ?_, only⟩
  rw [Dev.rd, word, bits_putBits_self _ _ _ _ width]

end Sys2Proof.Machine
end

section
/-! PROOF. O60: the PMBus master takes a transaction and ends it (R59, R488, R489). -/
namespace Sys2Proof.Machine

variable {d e : Dev} {env : Env} {s : State} {p : Path} {v : Word} {addr code kind : Nat}

/-! ### BUSY of the PMBus (R59, R488) -/

/-- The words that a write of PMB_XFER changes before its transaction begins: those that hold BUSY, and counts of reserved bits. -/
def xferWord (a : Nat) : Prop := a = A.PMB_XFER ∨ a = A.GLB_POST_BUSY ∨ rsvWord a

theorem RegsFrame.setPostBusy_pmb (d : Dev) (busy : Bool) : RegsFrame xferWord d (d.setPostBusy .pmb busy) :=
  ((RegsFrame.refl _ d).setReg _ (.inr (.inl rfl))).setReg _ (.inl rfl)

theorem Dev.setPostBusy_pmb_mgt (d : Dev) (busy : Bool) : (d.setPostBusy .pmb busy).mgt = d.mgt := by
  rw [(RegsFrame.setPostBusy_pmb d busy).eq]

theorem Settled.mgt {t : State} (h : Settled s d t) : t.dev.mgt = d.mgt := by rw [h.dev]

theorem Dev.setPostBusy_pmb_busy (d : Dev) (busy : Bool) :
    (d.setPostBusy .pmb busy).postBusy .pmb = busy ∧ (d.setPostBusy .pmb busy).rd F.PMB_XFER_BUSY = if busy then 1 else 0 := by
  have word : (d.setPostBusy .pmb busy).reg A.GLB_POST_BUSY = putBits (d.reg A.GLB_POST_BUSY) 2 1 (if busy then 1 else 0) :=
    (Dev.reg_setReg_of_ne _ _ (by decide)).trans (Dev.reg_setReg_self _ _ _)
  refine ⟨?_, (Dev.rd_wr_self (d.setReg A.GLB_POST_BUSY _) F.PMB_XFER_BUSY _ (by decide)).trans (by cases busy <;> rfl)⟩
  rw [Dev.postBusy, word, getLsbD_putBits _ _ _ _ _ (by decide)]
  cases busy <;> rfl

/-- The fields of PMB_XFER that are written lie below BUSY. -/
theorem Dev.setPostBusy_pmb_field (d : Dev) (busy : Bool) {lo n : Nat} (h : lo + n ≤ 31) :
    (d.setPostBusy .pmb busy).rd ⟨A.PMB_XFER, lo, n⟩ = d.rd ⟨A.PMB_XFER, lo, n⟩ :=
  (Dev.rd_wr_of_disjoint (d.setReg A.GLB_POST_BUSY _) (f := F.PMB_XFER_BUSY) _ (by decide) (.inl h)).trans
    (Dev.rd_setReg_of_ne _ _ (by decide : A.PMB_XFER ≠ A.GLB_POST_BUSY))

theorem Dev.postComplete_of_none (h : d.posted = []) (dom : SlowDomain) : d.postComplete dom = d.setPostBusy dom false := by
  have same : ({ d with posted := [] } : Dev) = d := by rw [← h]
  simp only [Dev.postComplete, h, List.filter_nil, same]
  rfl

/-! ### PMB_XFER written (R59, R489) -/

/-- A field within the bits that are written reads as written. -/
theorem bits_written {old m v : Word} {lo n : Nat} (h : ∀ i, i < n → m.getLsbD (lo + i) = true) :
    bits ((old &&& ~~~m) ||| (v &&& m)) lo n = bits v lo n := by
  apply Nat.eq_of_testBit_eq
  intro i
  rw [testBit_bits, testBit_bits]
  by_cases hi : i < n
  · simp [h i hi]
  · simp [hi]

/-- The fields ADDR, CODE and KIND of a written word (R488). -/
def xferWrite (p : Path) (v : Word) : Staged := { addr := A.PMB_XFER, mask := 0x7FF7F, val := v, path := p }

theorem blockAt_pmbXfer : blockAt A.PMB_XFER = some (.mgt, 0x204) := by decide +kernel

theorem xferWrite_slow (p : Path) (v : Word) : (xferWrite p v).slow = some .pmb := by
  rw [Staged.slow, show blockAt (xferWrite p v).addr = some (.mgt, 0x204) from blockAt_pmbXfer]
  rfl

/-- The posted write of PMB_XFER in force, with BUSY clear (R59). -/
def Dev.xferInForce (d : Dev) (p : Path) (v : Word) : Dev := ((d.setPostBusy .pmb true).applyOne (xferWrite p v)).setPostBusy .pmb false

theorem RegsFrame.xferInForce (d : Dev) (p : Path) (v : Word) : RegsFrame xferWord d (d.xferInForce p v) := by
  have latched := (RegsFrame.setPostBusy_pmb d true).setReg (((d.setPostBusy .pmb true).reg A.PMB_XFER &&& ~~~0x7FF7F) ||| (v &&& 0x7FF7F))
    (a := A.PMB_XFER) (.inl rfl)
  exact (latched.setReg _ (.inr (.inl rfl))).setReg _ (.inl rfl)

/-- A field of PMB_XFER that is written reads as written. -/
theorem Dev.xferInForce_field (d : Dev) (p : Path) (v : Word) {lo n : Nat} (below : lo + n ≤ 31)
    (written : ∀ i, i < n → (0x7FF7F : Word).getLsbD (lo + i) = true) : (d.xferInForce p v).rd ⟨A.PMB_XFER, lo, n⟩ = bits v lo n := by
  rw [Dev.xferInForce, Dev.setPostBusy_pmb_field _ _ below]
  exact (Dev.rd_setReg_self _ ⟨A.PMB_XFER, lo, n⟩ _).trans (bits_written written)

theorem Dev.xferInForce_words (d : Dev) (p : Path) (v : Word) (kind : Nat) :
    let x := d.xferInForce p (putBits v 16 3 kind)
    x.rd F.PMB_XFER_ADDR = bits v 0 7 ∧ x.rd F.PMB_XFER_CODE = bits v 8 8 ∧ x.rd F.PMB_XFER_KIND = kind % 8 := by
  refine ⟨(Dev.xferInForce_field d p _ (by decide) (by decide)).trans (bits_putBits_of_disjoint _ _ _ _ _ _ (by decide) (.inl (by decide))),
    (Dev.xferInForce_field d p _ (by decide) (by decide)).trans (bits_putBits_of_disjoint _ _ _ _ _ _ (by decide) (.inl (by decide))),
    (Dev.xferInForce_field d p _ (by decide) (by decide)).trans (bits_putBits_self _ _ _ _ (by decide))⟩

/-- The fields of PMB_XFER that are written are posted; no encoding of them is reserved. -/
theorem Dev.writeReg_pmbXfer (d : Dev) (env : Env) (p : Path) (v : Word) :
    d.writeReg env p .mgt 0x204 A.PMB_XFER 0xFFFFFFFF v = (d.noteReserved .mgt 0x204 A.PMB_XFER v).post .pmb (xferWrite p v) := by
  have whole : v &&& 0xFFFFFFFF = v := and_ones v
  have posted (x : Dev) : x.plainWrite p .mgt 0x204 A.PMB_XFER 0xFFFFFFFF v = x.post .pmb (xferWrite p v) := by
    have good : x.badFields .mgt 0x204 A.PMB_XFER 0xFFFFFFFF v = [] := by simp [Dev.badFields, reservedValue]
    unfold Dev.plainWrite
    rw [good]
    rfl
  simp only [Dev.writeReg, Dev.writeMgt, whole, posted]
  rfl

theorem Dev.takenWrite_pmbXfer (d : Dev) (p : Path) (v : Word) : d.takenWrite (xferWrite p v) =
    d.pmbXfer (d.rd F.PMB_XFER_ADDR) (d.rd F.PMB_XFER_CODE) (d.rd F.PMB_XFER_KIND) := by
  have other {a : Nat} (h : A.PMB_XFER ≠ a) : (xferWrite p v).addr ≠ a := h
  rw [Dev.takenWrite, if_neg (other (by decide)), if_neg (other (by decide)), if_neg (other (by decide)), if_neg (other (by decide)),
    if_pos (by rfl)]

/-- The PMBus takes the one write that is posted while no transaction runs; BUSY stays with a transaction. -/
theorem Dev.takePosted_pmb {w : Staged} (none : d.mgt.xfer = none) (posted : d.posted = []) (slow : w.slow = some .pmb) :
    ({ d with posted := [w] } : Dev).takePosted .pmb =
      (let x := ((d.applyOne w).setPostBusy .pmb false).takenWrite w
       if x.mgt.xfer.isSome then x.setPostBusy .pmb true else x) := by
  have mine : [w].filter (fun w => w.slow == some .pmb) = [w] := by simp [slow]
  have rest : [w].filter (fun w => w.slow != some .pmb) = [] := by simp [slow]
  have clear : ({ d with posted := [] } : Dev) = d := by rw [← posted]
  have done : ({ d with posted := [w] } : Dev).postComplete .pmb = (d.applyOne w).setPostBusy .pmb false := by
    simp only [Dev.postComplete, mine, rest, clear, List.isEmpty_cons, Bool.false_eq_true, if_false, Dev.each, List.foldl_cons,
      List.foldl_nil]
  simp only [Dev.takePosted, mine, done, none, Option.isSome_none, Bool.and_false, Bool.false_eq_true, if_false, Dev.each,
    List.foldl_cons, List.foldl_nil]
  rfl

/-- The device once the PMBus has taken a transaction: with BUSY while it waits for the bus (R489). -/
def Dev.withXfer (d : Dev) (addr code kind : Nat) : Dev :=
  let x := d.pmbXfer addr code kind
  if x.mgt.xfer.isSome then x.setPostBusy .pmb true else x

/-- PMB_XFER written on a path that may carry it, with nothing posted and no transaction under way. -/
theorem pokeTaken_pmb (take : s.TakesWrite p A.PMB_XFER) (posted : s.dev.posted = []) (none : s.dev.mgt.xfer = none) (hk : kind < 8) :
    ∃ x, RegsFrame xferWord s.dev x ∧ x.postBusy .pmb = false ∧
      s.dev.pokeTaken s.env p A.PMB_XFER (putBits v 16 3 kind) .pmb = x.withXfer (bits v 0 7) (bits v 8 8) kind := by
  have noted := (RegsFrame.noteReserved_unitless s.dev .mgt 0x204 (a := A.PMB_XFER) (putBits v 16 3 kind) rfl).mono
    (W := xferWord) fun _ h => .inr (.inr h)
  have poked := poke_of_takesWrite (env := s.env) (v := putBits v 16 3 kind) take (b := .mgt) (off := 0x204) rfl
  rw [Dev.writeReg_pmbXfer] at poked
  generalize s.dev.noteReserved .mgt 0x204 A.PMB_XFER (putBits v 16 3 kind) = d at noted poked
  have busy := noted.trans (RegsFrame.setPostBusy_pmb d true)
  have empty : (d.setPostBusy .pmb true).posted = [] := by rw [busy.eq]; exact posted
  have idle : (d.setPostBusy .pmb true).mgt.xfer = Option.none := by rw [busy.eq]; exact none
  have waits : d.post .pmb (xferWrite p (putBits v 16 3 kind)) =
      { d.setPostBusy .pmb true with posted := [xferWrite p (putBits v 16 3 kind)] } := by
    rw [Dev.post, show d.posted = [] by rw [noted.eq]; exact posted, List.nil_append]
  have more : s.dev.posted.length < [xferWrite p (putBits v 16 3 kind)].length := by simp [posted]
  obtain ⟨addr, code, written⟩ := Dev.xferInForce_words d p v kind
  rw [Nat.mod_eq_of_lt hk] at written
  refine ⟨d.xferInForce p (putBits v 16 3 kind), noted.trans (.xferInForce d p _), (Dev.setPostBusy_pmb_busy _ false).1, ?_⟩
  simp only [Dev.pokeTaken, poked, waits, if_pos more, Dev.takePosted_pmb idle empty (xferWrite_slow p _), Dev.takenWrite_pmbXfer]
  rw [← Dev.xferInForce, addr, code, written]
  rfl

theorem RegsFrame.pmbProtected (h : RegsFrame xferWord d e) (addr kind : Nat) : e.pmbProtected addr kind = d.pmbProtected addr kind := by
  have core := h.rd (f := F.CLK_PMB_CORE_ADDR) (by unfold xferWord rsvWord; decide)
  have sram := h.rd (f := F.CLK_PMB_SRAM_ADDR) (by unfold xferWord rsvWord; decide)
  rw [Dev.pmbProtected, core, sram, Dev.pmbProtected]

theorem Dev.withXfer_free (hk : kind < 5) (free : d.pmbProtected addr kind = false) :
    d.withXfer addr code kind = ({ d with mgt := { d.mgt with xfer := some (addr, code, kind) } } : Dev).setPostBusy .pmb true := by
  have begun : d.pmbXfer addr code kind = { d with mgt := { d.mgt with xfer := some (addr, code, kind) } } := by
    rw [Dev.pmbXfer, if_neg (by omega), free, if_neg (by decide)]
  simp only [Dev.withXfer, begun, Option.isSome_some, if_true]

theorem Dev.withXfer_guarded (hk : kind < 5) (none : d.mgt.xfer = none) (guarded : d.pmbProtected addr kind = true) :
    d.withXfer addr code kind = d.wr F.PMB_STATUS_REASON Rsn.STATE := by
  have idle : (d.wr F.PMB_STATUS_REASON Rsn.STATE).mgt.xfer = Option.none := none
  have refused : d.pmbXfer addr code kind = d.wr F.PMB_STATUS_REASON Rsn.STATE := by
    rw [Dev.pmbXfer, if_neg (by omega), guarded, if_pos rfl]
  simp only [Dev.withXfer, refused, idle, Option.isSome_none, Bool.false_eq_true, if_false]

/-- A transaction waits for the bus, with BUSY (R489). -/
def XferBegun (addr code kind : Nat) (t : State) : Prop :=
  t.dev.mgt.xfer = some (addr, code, kind) ∧ t.dev.postBusy .pmb = true ∧ t.dev.rd F.PMB_XFER_BUSY = 1

/-- A transaction is refused with STATE (R489). -/
def XferRefused (t : State) : Prop :=
  t.dev.mgt.xfer = none ∧ t.dev.rd F.PMB_STATUS_REASON = Rsn.STATE ∧ t.dev.postBusy .pmb = false

section
variable {c : Instr} (row : exec c s = runAon (fun env d => d.pokeTaken env p A.PMB_XFER (putBits v 16 3 kind) .pmb) s)
  (take : s.TakesWrite p A.PMB_XFER) (posted : s.dev.posted = []) (none : s.dev.mgt.xfer = none) (hk : kind < 5)
include row take posted none hk

/-- A transaction that is no write to a regulator of the device begins. -/
theorem pmbXfer_begins (free : s.dev.pmbProtected (bits v 0 7) kind = false) :
    Completes c s (XferBegun (bits v 0 7) (bits v 8 8) kind) := by
  obtain ⟨⟨-, -, nudge, -⟩, -⟩ := take.1
  obtain ⟨x, frame, -, taken⟩ := pokeTaken_pmb (v := v) take posted none (by omega : kind < 8)
  rw [Dev.withXfer_free hk ((frame.pmbProtected _ _).trans free)] at taken
  obtain ⟨t, run, done⟩ := runAon_settled (f := fun env d => d.pokeTaken env p A.PMB_XFER (putBits v 16 3 kind) .pmb) take.1 taken
    ((RegsFrame.setPostBusy_pmb _ true).nudge.trans (frame.nudge.trans nudge))
  obtain ⟨busy, shown⟩ :=
    Dev.setPostBusy_pmb_busy ({ x with mgt := { x.mgt with xfer := some (bits v 0 7, bits v 8 8, kind) } } : Dev) true
  refine ⟨t, row.trans run, ?_, ?_, (done.rd _).trans shown⟩
  · rw [done.mgt, Dev.setPostBusy_pmb_mgt]
  · rw [Dev.postBusy, done.reg]
    exact busy

/-- A write to a regulator that the device drives is refused. -/
theorem pmbXfer_refused (guarded : s.dev.pmbProtected (bits v 0 7) kind = true) : Completes c s XferRefused := by
  obtain ⟨⟨-, -, nudge, -⟩, -⟩ := take.1
  obtain ⟨x, frame, busy, taken⟩ := pokeTaken_pmb (v := v) take posted none (by omega : kind < 8)
  have idle : x.mgt.xfer = Option.none := by rw [frame.eq]; exact none
  rw [Dev.withXfer_guarded hk idle ((frame.pmbProtected _ _).trans guarded)] at taken
  obtain ⟨t, run, done⟩ := runAon_settled (f := fun env d => d.pokeTaken env p A.PMB_XFER (putBits v 16 3 kind) .pmb) take.1 taken
    (frame.nudge.trans nudge)
  refine ⟨t, row.trans run, ?_, (done.rd _).trans (Dev.rd_wr_self _ _ _ (by decide)), ?_⟩
  · rw [done.mgt]
    exact idle
  · have word : t.dev.reg A.GLB_POST_BUSY = x.reg A.GLB_POST_BUSY := (done.reg _).trans (Dev.reg_setReg_of_ne _ _ (by decide))
    rw [Dev.postBusy, word]
    exact busy

end

/-! ### A transaction ends (R489) -/

/-- The transaction has left on the bus, with ACCEPTED. -/
def Dev.xferSent (d : Dev) (addr code kind : Nat) : Dev :=
  (({ d with mgt := { d.mgt with xfer := none } } : Dev).emit (.pmbus addr code (d.pmbData kind))).wr F.PMB_STATUS_REASON 0

/-- The data of a read (R488). -/
def Dev.xferRead (d : Dev) (kind : Nat) (data : BitVec 16) : Dev :=
  if kind = 3 then d.wr F.PMB_DATA_DATA (data.toNat % 256) else if kind = 4 then d.wr F.PMB_DATA_DATA data.toNat else d

/-- How a transaction ends. -/
def Dev.xferResult (d : Dev) (end_ : PmbEnd) (kind : Nat) (data : BitVec 16) : Dev :=
  match end_ with
  | .nack => d.wr F.PMB_STATUS_NACK 1
  | .stretch => d.wr F.PMB_STATUS_TIMEOUT 1
  | .done => d.xferRead kind data
  | .pec => if 3 ≤ kind && d.on F.PMB_CTRL_PEC then (d.xferRead kind data).wr F.PMB_STATUS_PEC_ERR 1 else d.xferRead kind data

/-- Outside changes and transits, with the MGT island on, the transaction that runs ends. -/
structure EndsXfer (s : State) (addr code kind : Nat) : Prop where
  up : s.Up
  runs : s.dev.mgt.xfer = some (addr, code, kind)
  posted : s.dev.posted = []
  still : s.dev.rd F.CLK_OPP_STATUS_CHANGING = 0
  settled : s.dev.rd F.PWR_STATUS_TRANSIT = 0
  island : s.dev.island 2 = true

/-- A command is what it does to the state it meets. -/
theorem runAon_congr {f g : Env → Dev → Dev} (h : f s.env s.dev = g s.env s.dev) : runAon f s = runAon g s := by
  simp only [runAon, carry, h]

theorem EndsXfer.row (h : EndsXfer s addr code kind) (end_ : PmbEnd) (data : BitVec 16) : exec (.pmbXferDone end_ data) s =
    runAon (fun _ _ => ((s.dev.xferSent addr code kind).xferResult end_ kind data).postComplete .pmb) s := by
  obtain ⟨-, runs, -, still, settled, island⟩ := h
  have changing : s.dev.on F.CLK_OPP_STATUS_CHANGING = false := by simp [Dev.on, still]
  have transit : s.dev.on F.PWR_STATUS_TRANSIT = false := by simp [Dev.on, settled]
  refine runAon_congr ?_
  simp only [runs, changing, transit, island, Bool.not_true, Bool.or_false, Bool.false_eq_true, if_false]
  cases end_ <;> rfl

/-- The words of the PMBus that the end of a transaction writes. -/
def xferEndWord (a : Nat) : Prop := a = A.PMB_STATUS ∨ a = A.PMB_DATA

theorem RegsFrame.xferRead (d : Dev) (kind : Nat) (data : BitVec 16) : RegsFrame xferEndWord d (d.xferRead kind data) :=
  .ite ((RegsFrame.refl _ d).wr _ _ (.inr rfl)) (.ite ((RegsFrame.refl _ d).wr _ _ (.inr rfl)) (.refl _ d))

theorem RegsFrame.xferResult (d : Dev) (end_ : PmbEnd) (kind : Nat) (data : BitVec 16) :
    RegsFrame xferEndWord d (d.xferResult end_ kind data) := by
  have read := RegsFrame.xferRead d kind data
  cases end_ with
  | done => exact read
  | nack => exact (RegsFrame.refl _ d).wr F.PMB_STATUS_NACK 1 (.inl rfl)
  | stretch => exact (RegsFrame.refl _ d).wr F.PMB_STATUS_TIMEOUT 1 (.inl rfl)
  | pec => exact .ite (read.wr F.PMB_STATUS_PEC_ERR 1 (.inl rfl)) read

/-- The data of a read leave PMB_STATUS. -/
theorem Dev.xferRead_status (d : Dev) (kind : Nat) (data : BitVec 16) {f : Fld} (hf : f.addr = A.PMB_STATUS) :
    (d.xferRead kind data).rd f = d.rd f := by
  have other (n : Nat) : (d.wr F.PMB_DATA_DATA n).rd f = d.rd f := Dev.rd_wr_of_ne d n (by rw [hf]; decide)
  unfold Dev.xferRead
  split
  · exact other _
  · split
    · exact other _
    · rfl

/-- How a transaction ends is beside REASON. -/
theorem Dev.xferResult_reason (d : Dev) (end_ : PmbEnd) (kind : Nat) (data : BitVec 16) :
    (d.xferResult end_ kind data).rd F.PMB_STATUS_REASON = d.rd F.PMB_STATUS_REASON := by
  have read := d.xferRead_status kind data (f := F.PMB_STATUS_REASON) rfl
  cases end_ with
  | done => exact read
  | nack => exact Dev.rd_wr_of_disjoint d 1 (by decide) (.inl (by decide))
  | stretch => exact Dev.rd_wr_of_disjoint d 1 (by decide) (.inl (by decide))
  | pec =>
    simp only [Dev.xferResult]
    split
    · exact (Dev.rd_wr_of_disjoint _ 1 (by decide) (.inl (by decide))).trans read
    · exact read

theorem Dev.xferRead_data (d : Dev) (kind : Nat) (data : BitVec 16) : (d.xferRead kind data).rd F.PMB_DATA_DATA =
    if kind = 3 then data.toNat % 256 else if kind = 4 then data.toNat else d.rd F.PMB_DATA_DATA := by
  have whole : data.toNat < 2 ^ 16 := data.isLt
  unfold Dev.xferRead
  split
  · exact (Dev.rd_wr_self d _ _ (by decide)).trans (Nat.mod_eq_of_lt (by simp only; omega))
  · split
    · exact (Dev.rd_wr_self d _ _ (by decide)).trans (Nat.mod_eq_of_lt whole)
    · rfl

/-- As `runAon_settled`: what the effect sends stays on record. -/
theorem runAon_settled_emits {f : Env → Dev → Dev} (up : s.Up) (hf : f s.env s.dev = d) (hn : d.nudge = []) :
    ∃ t, runAon f s = .next t ∧ Settled s d t ∧ Emits d t.dev := by
  obtain ⟨t, run, done⟩ := runAon_settled up hf hn
  refine ⟨t, run, done, ?_⟩
  cases run.symm.trans (runAon_settles up hf hn)
  exact Emits.settle d

/-- The transaction is over and has left on the bus, with ACCEPTED (R489). -/
def XferEnded (s : State) (addr code kind : Nat) (t : State) : Prop :=
  t.dev.mgt.xfer = none ∧ Output.pmbus addr code (s.dev.pmbData kind) ∈ t.dev.out ∧
    t.dev.rd F.PMB_STATUS_REASON = 0 ∧ t.dev.postBusy .pmb = false ∧ t.dev.rd F.PMB_XFER_BUSY = 0

/-- Whatever its end, a transaction is over; what the end has written stays beside BUSY. -/
theorem EndsXfer.ends (h : EndsXfer s addr code kind) (end_ : PmbEnd) (data : BitVec 16) :
    Completes (.pmbXferDone end_ data) s (fun t => XferEnded s addr code kind t ∧ ∀ f : Fld, ¬ xferWord f.addr →
      t.dev.rd f = ((s.dev.xferSent addr code kind).xferResult end_ kind data).rd f) := by
  obtain ⟨⟨⟨-, -, nudge, -⟩, -⟩, -⟩ := id h
  have result := RegsFrame.xferResult (s.dev.xferSent addr code kind) end_ kind data
  have reason := ((s.dev.xferSent addr code kind).xferResult_reason end_ kind data).trans (Dev.rd_wr_self _ _ 0 (by decide))
  have row := h.row end_ data
  generalize (s.dev.xferSent addr code kind).xferResult end_ kind data = x at result reason row ⊢
  have posted : x.posted = [] := by rw [result.eq]; exact h.posted
  have busy := RegsFrame.setPostBusy_pmb x false
  obtain ⟨idle, shown⟩ := x.setPostBusy_pmb_busy false
  obtain ⟨t, run, done, sent⟩ := runAon_settled_emits (f := fun _ _ => x.postComplete .pmb) h.up (x.postComplete_of_none posted .pmb)
    (busy.nudge.trans (result.nudge.trans nudge))
  have kept (f : Fld) (hf : ¬ xferWord f.addr) : t.dev.rd f = x.rd f := (done.rd f).trans (busy.rd hf)
  refine ⟨t, row.trans run, ⟨?_, ?_, (kept _ (by unfold xferWord rsvWord; decide)).trans reason, ?_, (done.rd _).trans shown⟩, kept⟩
  · rw [done.mgt, x.setPostBusy_pmb_mgt, result.eq]
    rfl
  · refine sent.subset ?_
    rw [busy.eq, result.eq]
    exact List.mem_append_right _ (List.mem_singleton.2 rfl)
  · rw [Dev.postBusy, done.reg]
    exact idle

/-- A transaction that the device at the address has answered (R488). -/
theorem EndsXfer.answered (h : EndsXfer s addr code kind) (data : BitVec 16) :
    Completes (.pmbXferDone .done data) s (fun t => XferEnded s addr code kind t ∧ t.dev.rd F.PMB_DATA_DATA =
      if kind = 3 then data.toNat % 256 else if kind = 4 then data.toNat else s.dev.rd F.PMB_DATA_DATA) := by
  refine Completes.of (h.ends .done data) fun t ⟨ended, kept⟩ => ⟨ended, ?_⟩
  have before : (s.dev.xferSent addr code kind).rd F.PMB_DATA_DATA = s.dev.rd F.PMB_DATA_DATA := Dev.rd_wr_of_ne _ 0 (by decide)
  rw [kept _ (by unfold xferWord rsvWord; decide), ← before]
  exact Dev.xferRead_data _ kind data

/-- A flag of PMB_STATUS that the end of a transaction sets. -/
theorem EndsXfer.flags (h : EndsXfer s addr code kind) (end_ : PmbEnd) (data : BitVec 16) {x : Dev} {f : Fld} (hf : f.addr = A.PMB_STATUS)
    (one : f.width = 1) (low : f.lo < 32) (result : (s.dev.xferSent addr code kind).xferResult end_ kind data = x.wr f 1) :
    Completes (.pmbXferDone end_ data) s (fun t => XferEnded s addr code kind t ∧ t.dev.rd f = 1) := by
  refine Completes.of (h.ends end_ data) fun t ⟨ended, kept⟩ => ⟨ended, ?_⟩
  have other : ¬ xferWord f.addr := by rw [hf]; unfold xferWord rsvWord; decide
  exact (kept f other).trans (by rw [result, Dev.rd_wr_self _ _ _ (by omega), one]; rfl)

end Sys2Proof.Machine
end

section
/-! PROOF. O60: a new level taken on a GPIO pin (R487). -/
namespace Sys2Proof.Machine

variable {d : Dev} {s : State} {i : Nat} {level : Bool}

/-- The edge of a new level, as GPIO_EDGE selects it: 1 rising, 2 falling (R487). -/
def edgeKind (level : Bool) : Nat := if level then 1 else 2

/-- The level is shown in GPIO_IN. -/
def Dev.levelTaken (d : Dev) (i : Nat) (level : Bool) : Dev :=
  d.setReg A.GPIO_IN (putBits (d.reg A.GPIO_IN) i 1 (if level then 1 else 0))

/-- A selected edge sets the pin's leaf: with CORE on as the leaves of units do, with CORE off at once. -/
def Dev.edgeLeaf (d : Dev) (i : Nat) (level : Bool) : Dev :=
  if Nat.land (bits (d.reg A.GPIO_EDGE) (2 * i) 2) (edgeKind level) = 0 then d
  else if d.coreOn then d.leafLater 0x0FB A.GPIO_EVT i else d.setBit A.GPIO_EVT i

/-- Sources are fired by the edge while CORE is on (R140). -/
def Dev.edgeFires (d : Dev) (i : Nat) (level : Bool) : Dev :=
  if !d.coreOn then d
  else d.fireSource (fun w => srcKind w == 4 && bits w 0 4 == i && Nat.land (bits w 4 2) (edgeKind level) != 0) (fun _ => true)
    (fun _ _ => true) (BitVec.ofNat 32 (if level then 1 else 0))

/-- One bit of a word as a number. -/
theorem bits_one (w : Word) (i : Nat) : bits w i 1 = if w.getLsbD i then 1 else 0 := by
  rw [BitVec.getLsbD, Nat.testBit_eq_decide_div_mod_eq, bits]
  have := Nat.mod_two_eq_zero_or_one (w.toNat / 2 ^ i)
  split <;> simp_all

/-- A level that a pin did not have. -/
theorem gpioEdge_row (i : Fin 16) (up : s.dev.island 2 = true) (new : (s.dev.reg A.GPIO_IN).getLsbD i ≠ level) :
    exec (.gpioEdge i level) s = runAon (fun _ d => ((d.levelTaken i level).edgeLeaf i level).edgeFires i level) s := by
  have changed : bits (s.dev.reg A.GPIO_IN) i 1 ≠ if level then 1 else 0 := by
    rw [bits_one]
    revert new
    cases (s.dev.reg A.GPIO_IN).getLsbD i <;> cases level <;> simp
  refine runAon_congr ?_
  simp only [up, Bool.not_true, Bool.false_or, decide_eq_true_eq, if_neg changed]
  rfl

/-! ### What each part leaves -/

theorem EvFrame.edgeFires (d : Dev) (i : Nat) (level : Bool) : EvFrame (fun _ => False) d (d.edgeFires i level) := by
  unfold Dev.edgeFires
  split
  · exact .refl d
  · exact .fireSource d _ _ _ _

/-- A leaf of a class event word changes that word alone, and leaves its unit for the end of the command. -/
theorem Dev.leafLater_changes (d : Dev) (u a b : Nat) :
    (∀ x, x ≠ a → (d.leafLater u a b).reg x = d.reg x) ∧ ∀ n ∈ (d.leafLater u a b).nudge, n ∈ d.nudge ∨ n = u := by
  unfold Dev.leafLater
  dsimp only
  split
  · exact ⟨fun _ _ => rfl, fun _ => .inl⟩
  · exact ⟨fun x hx => Dev.reg_setReg_of_ne d _ hx, fun n hn => (List.mem_append.1 hn).imp_right List.mem_singleton.1⟩

theorem Dev.edgeLeaf_changes (d : Dev) (i : Nat) (level : Bool) :
    (∀ x, x ≠ A.GPIO_EVT → (d.edgeLeaf i level).reg x = d.reg x) ∧ ∀ n ∈ (d.edgeLeaf i level).nudge, n ∈ d.nudge ∨ n = 0x0FB := by
  unfold Dev.edgeLeaf
  split
  · exact ⟨fun _ _ => rfl, fun _ => .inl⟩
  · split
    · exact d.leafLater_changes _ _ _
    · exact ⟨fun x hx => Dev.reg_setReg_of_ne d _ hx, fun _ => .inl⟩

theorem Dev.levelTaken_edge (d : Dev) (i : Nat) (level : Bool) : (d.levelTaken i level).reg A.GPIO_EDGE = d.reg A.GPIO_EDGE :=
  Dev.reg_setReg_of_ne d _ (by decide)

theorem Dev.levelTaken_coreOn (d : Dev) (i : Nat) (level : Bool) : (d.levelTaken i level).coreOn = d.coreOn := by
  have islands : (d.levelTaken i level).rd F.PWR_DOMAIN_STATE_ISLANDS = d.rd F.PWR_DOMAIN_STATE_ISLANDS :=
    Dev.rd_setReg_of_ne d _ (by decide)
  rw [Dev.coreOn, Dev.island, islands]
  rfl

/-- A pin with no edge selected sets no leaf. -/
theorem Dev.edgeLeaf_unselected (none : bits (d.reg A.GPIO_EDGE) (2 * i) 2 = 0) :
    (d.levelTaken i level).edgeLeaf i level = d.levelTaken i level := by
  rw [Dev.edgeLeaf, d.levelTaken_edge, none, if_pos (by cases level <;> rfl)]

/-- A pin with both edges selected sets its leaf at once with CORE off. -/
theorem Dev.edgeLeaf_coreOff (both : bits (d.reg A.GPIO_EDGE) (2 * i) 2 = 3) (off : d.coreOn = false) :
    (d.levelTaken i level).edgeLeaf i level = (d.levelTaken i level).setBit A.GPIO_EVT i := by
  rw [Dev.edgeLeaf, d.levelTaken_edge, both, if_neg (by cases level <;> decide), d.levelTaken_coreOn, off, if_neg (by decide)]

/-- GPIO_EDGE with a level that the pin did not have (R487). -/
theorem gpioEdge_taken (i : Fin 16) (up : s.Up) (island : s.dev.island 2 = true) (new : (s.dev.reg A.GPIO_IN).getLsbD i ≠ level) :
    Completes (.gpioEdge i level) s (fun t => (∀ k, (t.dev.reg A.GPIO_IN).getLsbD k =
        if k = i.val then level else (s.dev.reg A.GPIO_IN).getLsbD k) ∧
      (bits (s.dev.reg A.GPIO_EDGE) (2 * i.val) 2 = 0 → t.dev.reg A.GPIO_EVT = s.dev.reg A.GPIO_EVT) ∧
      (bits (s.dev.reg A.GPIO_EDGE) (2 * i.val) 2 = 3 → s.dev.coreOn = false → (t.dev.reg A.GPIO_EVT).getLsbD i = true)) := by
  obtain ⟨⟨-, -, nudge, -⟩, released⟩ := id up
  obtain ⟨leafRegs, leafUnits⟩ := (s.dev.levelTaken i level).edgeLeaf_changes i level
  have fires := EvFrame.edgeFires ((s.dev.levelTaken i level).edgeLeaf i level) i level
  have units (u : Nat) (hu : u ∈ (((s.dev.levelTaken i level).edgeLeaf i level).edgeFires i level).nudge) : u < 0x1000 := by
    rw [fires.eq] at hu
    obtain before | rfl := leafUnits u hu
    · rw [show (s.dev.levelTaken i level).nudge = [] from nudge] at before
      cases before
    · decide
  obtain ⟨t, run, done⟩ := carry_carried (fun _ d => ((d.levelTaken i level).edgeLeaf i level).edgeFires i level) s units
  have kept {a : Nat} (ha : a < 0x10000) : t.dev.reg a = ((s.dev.levelTaken i level).edgeLeaf i level).reg a :=
    (done.reg a (not_evtWord_low ha)).trans (fires.reg a not_false)
  refine ⟨t, (gpioEdge_row i island new).trans ((runAon_of_up released).trans run), fun k => ?_, fun none => ?_, fun both off => ?_⟩
  · rw [kept (by decide), leafRegs _ (by decide), Dev.levelTaken, Dev.reg_setReg_self, getLsbD_putBits _ _ _ _ _ (by omega)]
    by_cases hk : k = i.val
    · rw [if_pos (by omega), if_pos hk, hk, Nat.sub_self]
      cases level <;> rfl
    · rw [if_neg (by omega), if_neg hk]
  · rw [kept (by decide), Dev.edgeLeaf_unselected none]
    exact Dev.reg_setReg_of_ne _ _ (by decide)
  · rw [kept (by decide), Dev.edgeLeaf_coreOff both off, Dev.setBit, Dev.reg_setReg_self, getLsbD_putBits _ _ _ _ _ (by omega),
      if_pos (by omega), Nat.sub_self]
    rfl

end Sys2Proof.Machine
end

section
/-! PROOF. O60: what a group that returns to SYNCING leaves, whatever waits (R27, R339): the words below the unit table, and every counter
where nobody waits for a unit. -/
namespace Sys2Proof.Machine

variable {d e : Dev} {W : Nat → Prop} {u g n : Nat}

/-- The second device agrees with the first on the words below the unit table, and where nobody waits for a unit on every counter. -/
structure Stays (d e : Dev) : Prop where
  low : ∀ a, a < 0x10000 → e.reg a = d.reg a
  stat : d.waits = [] → e.waits = [] ∧ e.stat = d.stat

theorem Stays.refl (d : Dev) : Stays d d := ⟨fun _ _ => rfl, fun none => ⟨none, rfl⟩⟩

theorem Stays.trans {a b c : Dev} (h : Stays a b) (k : Stays b c) : Stays a c := by
  refine ⟨fun x hx => (k.low x hx).trans (h.low x hx), fun none => ?_⟩
  obtain ⟨noneB, statB⟩ := h.stat none
  obtain ⟨noneC, statC⟩ := k.stat noneB
  exact ⟨noneC, statC.trans statB⟩

theorem Stays.ite {a b : Dev} {c : Prop} [Decidable c] (ha : Stays d a) (hb : Stays d b) : Stays d (if c then a else b) := by
  split
  · exact ha
  · exact hb

theorem Stays.each {α : Type} {f : Dev → α → Dev} (xs : List α) (hf : ∀ x, ∀ a ∈ xs, Stays x (f x a)) (d : Dev) :
    Stays d (d.each xs f) := by
  induction xs generalizing d with
  | nil => exact .refl d
  | cons x xs ih =>
    exact (hf d x List.mem_cons_self).trans (ih (fun y a ha => hf y a (List.mem_cons_of_mem _ ha)) (f d x))

theorem Aside.low (h : Aside d e) {a : Nat} (ha : a < 0x10000) : e.reg a = d.reg a := h.reg (by omega) (not_evtWord_low ha)

theorem Aside.stays (h : Aside d e) (stat : e.stat = d.stat := by rfl) : Stays d e := by
  have w := h.waiting
  simp only [Dev.waiting, Prod.mk.injEq] at w
  obtain ⟨-, -, waits, -, -⟩ := w
  exact ⟨fun _ => h.low, fun none => ⟨waits.trans none, stat⟩⟩

theorem EvFrame.stat (h : EvFrame W d e) : e.stat = d.stat := by rw [h.eq]

theorem Stays.setReg (d : Dev) {a : Nat} (w : Word) (h : 0x10000 ≤ a) : Stays d (d.setReg a w) :=
  ⟨fun _ hx => Dev.reg_setReg_of_ne d w (by omega), fun none => ⟨none, rfl⟩⟩

/-- A word of a descriptor. -/
theorem Stays.word (d : Dev) (u off : Nat) (w : Word) : Stays d (d.setReg (Base.UNIT u + off) w) :=
  .setReg d w (by simp only [Base.UNIT]; omega)

/-! ### A change of state (R27, R31, R39) -/

theorem Stays.stateWords (d : Dev) (u new : Nat) : Stays d (d.stateWords u new) := by
  have timed (x : Dev) : Stays x
      (((x.wr (F.UNIT_STATE_STATE u) new).wr (F.UNIT_EVT_STATE_CHG u) 1).setReg (A.UNIT_TIME_LO u) (loWord x.t64)) :=
    ((Stays.word x u 0x4 _).trans (.word _ u 0x10 _)).trans (.word _ u 0x30 _)
  have faulted : Stays d ((((((d.wr (F.UNIT_STATE_STATE u) new).wr (F.UNIT_EVT_STATE_CHG u) 1).setReg (A.UNIT_TIME_LO u)
      (loWord d.t64)).setReg (A.UNIT_TIME_HI u) (hiWord d.t64))).wr (F.UNIT_EVT_FAULT u) (if new = 5 then 1 else 0)) :=
    ((timed d).trans (.word _ u 0x34 _)).trans (.word _ u 0x10 _)
  unfold Dev.stateWords
  exact .ite ((Stays.ite (faulted.trans (.word _ u 0x28 _)) faulted).trans (.word _ u 0x20 _))
    (.ite (faulted.trans (.word _ u 0x28 _)) faulted)

theorem Stays.answerStates (d : Dev) (u : Nat) : Stays d (d.answerStates u) := by
  unfold Dev.answerStates
  exact Stays.each (α := Nat × Ctx) _ (fun x e _ => (Aside.updCtx x e.1 _).stays) d

theorem Stays.stateWord (d : Dev) (u new : Nat) : Stays d (d.stateWord u new) := by
  have fired : Stays (d.stateWords u new) ((d.stateWords u new).fireState u) :=
    (Aside.fireSource _ _ _ _ _).stays (EvFrame.fireSource (W := fun _ => True) _ _ _ _ _).stat
  exact (((Stays.stateWords d u new).trans fired).trans ((Aside.touch _ u).stays (Dev.touch_eq _ u).stat)).trans (.answerStates _ u)

/-- Who waits for a unit is answered by a completion or in a context. -/
theorem Stays.answerWaits (d : Dev) (u reason detail : Nat) : Stays d (d.answerWaits u reason detail) := by
  refine ⟨fun a ha => ?_, fun none => ?_⟩
  · have answered : Aside { d with waits := d.waits.filter (fun w => w.unit != u) } (d.answerWaits u reason detail) := by
      refine Aside.each _ (fun x w => ?_) _
      split
      · exact .completeCmd x _ _ _ _ _ _
      · exact .updCtx x _ _
    exact answered.low ha
  · simp [Dev.answerWaits, none, Dev.each]

theorem Stays.refreshN (m : Nat) (d : Dev) (cab : Nat) : Stays d (Dev.refreshN m d cab) := by
  induction m generalizing d cab with
  | zero => exact .refl d
  | succ m ih =>
    have word : Stays d (if d.derived cab = d.ustate cab then d else d.stateWord cab (d.derived cab)) := .ite (.refl d) (.stateWord d cab _)
    unfold Dev.refreshN
    dsimp only
    generalize (if d.derived cab = d.ustate cab then d else d.stateWord cab (d.derived cab)) = e at word ⊢
    have answered := fun (c : Bool) => word.trans (Stays.ite (c := c = true) (.answerWaits e cab 0 0) (.refl e))
    exact .ite (answered _) ((answered _).trans (ih _ _))

/-! ### The units of an audio port group (R330, R339) -/

/-- A group, a port, a decimator or a bridge. -/
def AudioUnit (u : Nat) : Prop :=
  (∃ g, unitKind u = .group g) ∨ (∃ n, unitKind u = .port n) ∨ (∃ k, unitKind u = .decim k) ∨ ∃ b, unitKind u = .bridge b

theorem unitKind_group : ∀ g : Fin 16, unitKind (0x040 + g.val) = .group g := by decide

theorem audioUnit_group (hg : g < 16) : AudioUnit (0x040 + g) := .inl ⟨g, unitKind_group ⟨g, hg⟩⟩

theorem audioUnit_port (hn : n < 64) : AudioUnit (0x050 + n) := by
  have kind : ∀ n : Fin 64, unitKind (0x050 + n.val) = .port n := by decide
  exact .inr (.inl ⟨n, kind ⟨n, hn⟩⟩)

theorem audioUnit_decim (hn : n < 128) : AudioUnit (0x100 + n) := by
  have kind : ∀ n : Fin 128, unitKind (0x100 + n.val) = .decim n := by decide
  exact .inr (.inr (.inl ⟨n, kind ⟨n, hn⟩⟩))

theorem audioUnit_bridge (hn : n < 16) : AudioUnit (0x090 + n) := by
  have kind : ∀ n : Fin 16, unitKind (0x090 + n.val) = .bridge n := by decide
  exact .inr (.inr (.inr ⟨n, kind ⟨n, hn⟩⟩))

/-- What an audio unit does as it enters SYNCING counts nothing. -/
theorem Dev.onState_audio_stat (h : AudioUnit u) (d : Dev) (old : Nat) : (d.onState u old 2).stat = d.stat := by
  rcases h with ⟨g, kind⟩ | ⟨n, kind⟩ | ⟨k, kind⟩ | ⟨b, kind⟩ <;> rw [Dev.onState, kind] <;> rfl

theorem Stays.setState (h : AudioUnit u) (d : Dev) : Stays d (d.setState u 2) := by
  have changed := (Stays.stateWord d u 2).trans ((Aside.onState (d.stateWord u 2) u (d.ustate u) 2).stays (Dev.onState_audio_stat h _ _))
  unfold Dev.setState
  dsimp only
  generalize (d.stateWord u 2).onState u (d.ustate u) 2 = e at changed ⊢
  have closed : Stays d (if d.ustate u = 0 then e.closeInterval u else e) := .ite (changed.trans (Aside.closeInterval e u).stays) changed
  simp only [if_neg (show ¬ (2 = 0) by decide)]
  generalize (if d.ustate u = 0 then e.closeInterval u else e) = c at closed ⊢
  exact .ite (.refl d) ((closed.trans (.ite (.answerWaits c u 0 0) (.refl c))).trans (.refreshN 800 _ _))

theorem Stays.sendBack (h : AudioUnit u) (d : Dev) : Stays d (d.sendBack u) := .ite (.setState h d) (.refl d)

theorem Stays.groupStops (hg : g < 16) (d : Dev) : Stays d (d.groupStops g) := by
  refine Stays.each _ (fun x v hv => .sendBack ?_ x) d
  simp only [List.mem_append, List.mem_map, List.mem_range, List.mem_singleton] at hv
  obtain (⟨i, hi, rfl⟩ | ⟨i, hi, rfl⟩) | rfl := hv
  · rw [Nat.add_assoc]
    exact audioUnit_port (by omega)
  · rw [Nat.add_assoc]
    exact audioUnit_decim (by omega)
  · exact audioUnit_bridge hg

theorem Dev.dependents_group (hg : g < 16) (d : Dev) :
    d.dependents (.cmd 0) (0x040 + g) 0 = if d.ustate (0x040 + g) = 3 then d else d.groupStops g := by
  rw [Dev.dependents, unitKind_group ⟨g, hg⟩]

theorem Stays.groupLost (hg : g < 16) (d : Dev) : Stays d (d.groupLost g) := by
  have lost : Stays d (d.inputLost (0x040 + g)) := .ite (.setState (audioUnit_group hg) d) (.refl d)
  rw [Dev.groupLost, Dev.dependents_group hg]
  exact lost.trans (.ite (.refl _) (.groupStops hg _))

end Sys2Proof.Machine
end

section
/-! PROOF. O60: the supplies of the audio port banks (R339, R484, R485), and the statement. -/
namespace Sys2Proof.Machine

variable {d e : Dev} {s : State} {g n b : Nat}

/-! ### A group that loses its supply (R339, R484) -/

/-- The leaf and the count of a lost supply. -/
def Dev.lossNoted (d : Dev) (g : Nat) : Dev := (d.groupEvt g 0).count (Ctr.GROUP g Gc.CLK_LOSTS) 1

/-- A group in service returns to SYNCING, with its leaf and its count. -/
def Dev.supplyLost (d : Dev) (g : Nat) : Dev := if d.ustate (0x040 + g) = 3 then (d.lossNoted g).groupLost g else d

theorem Dev.groupEvt_stat (d : Dev) (g k : Nat) : (d.groupEvt g k).stat = d.stat := by
  unfold Dev.groupEvt Dev.leafLater
  dsimp only
  split <;> rfl

theorem Aside.groupEvt (d : Dev) (g k : Nat) : Aside d (d.groupEvt g k) := by
  unfold Dev.groupEvt Dev.leafLater
  exact .ite (.refl d) ((Aside.setBit d k (high_apg g _)).trans .same)

theorem Aside.lossNoted (d : Dev) (g : Nat) : Aside d (d.lossNoted g) := (Aside.groupEvt d g 0).trans (.count _ _ _)

theorem Dev.lossNoted_stat64 (d : Dev) (g a : Nat) : (d.lossNoted g).stat64 a =
    if a = Ctr.GROUP g Gc.CLK_LOSTS then min (d.stat64 a + 1) (2 ^ 64 - 1) else d.stat64 a := by
  have same (x : Nat) : (d.groupEvt g 0).stat64 x = d.stat64 x := by rw [Dev.stat64, d.groupEvt_stat, Dev.stat64]
  rw [Dev.lossNoted, Dev.count, Dev.stat64_setStat, same, same]
  split
  · next h => rw [h, Nat.mod_eq_of_lt (Nat.lt_of_le_of_lt (Nat.min_le_right _ _) (by decide))]
  · rfl

theorem Dev.supplyLost_low (hg : g < 16) (d : Dev) {a : Nat} (ha : a < 0x10000) : (d.supplyLost g).reg a = d.reg a := by
  unfold Dev.supplyLost
  split
  · exact ((Stays.groupLost hg (d.lossNoted g)).low a ha).trans ((Aside.lossNoted d g).low ha)
  · rfl

/-- The units that stop with a group are no groups. -/
theorem Keeps.groupStops_group (hd : d.Still) (hg : g < 16) (hn : n < 16) : Keeps (Just (0x040 + n)) d (d.groupStops g) := by
  refine Keeps.sendBacks hd (plain_of_lt (by omega) (by omega)) fun v hv => ?_
  simp only [List.mem_append, List.mem_map, List.mem_range, List.mem_singleton] at hv
  have place : 0x050 ≤ v ∧ v < 0xD00 := by
    obtain (⟨i, hi, rfl⟩ | ⟨i, hi, rfl⟩) | rfl := hv <;> omega
  exact ⟨plain_of_lt (by omega) place.2, by omega, by omega⟩

section
variable (hd : d.Still) (hg : g < 16)
include hd hg

theorem Keeps.dependents_group (hn : n < 16) : Keeps (Just (0x040 + n)) d (d.dependents (.cmd 0) (0x040 + g) 0) := by
  rw [Dev.dependents_group hg]
  exact .ite (.refl d) (.groupStops_group hd hg hn)

/-- A group in service comes to SYNCING. -/
theorem Dev.groupLost_state (h3 : d.ustate (0x040 + g) = 3) : (d.groupLost g).ustate (0x040 + g) = 2 := by
  have lost : Enters (0x040 + g) 2 d (d.inputLost (0x040 + g)) := by
    rw [Dev.inputLost, if_pos h3]
    exact .setState hd (plain_of_lt (by omega) (by omega)) (by omega) (by decide)
  exact ((Keeps.dependents_group (lost.others.still hd) hg hg).ustate (by omega)).trans lost.state

/-- No other group changes state. -/
theorem Keeps.groupLost (hn : n < 16) (ne : n ≠ g) : Keeps (Just (0x040 + n)) d (d.groupLost g) := by
  have group : Plain (0x040 + g) := plain_of_lt (by omega) (by omega)
  have lost : Keeps (Others (0x040 + g)) d (d.inputLost (0x040 + g)) :=
    .ite ((Keeps.refl d).setState hd group (by omega) (by decide)) (.refl d)
  exact (lost.just (plain_of_lt (by omega) (by omega)) (by omega)).trans (.dependents_group (lost.still hd) hg hn)

theorem Keeps.supplyLost (hn : n < 16) (ne : n ≠ g) : Keeps (Just (0x040 + n)) d (d.supplyLost g) := by
  have noted : Keeps (Just (0x040 + n)) d (d.lossNoted g) := (Aside.lossNoted d g).keeps
  exact .ite (noted.trans (.groupLost (noted.still hd) hg hn ne)) (.refl d)

/-- Where nobody waits, a lost supply counts the loss of the group and nothing else. -/
theorem Dev.supplyLost_stat64 (a : Nat) : (d.supplyLost g).stat64 a =
    if a = Ctr.GROUP g Gc.CLK_LOSTS ∧ d.ustate (0x040 + g) = 3 then min (d.stat64 a + 1) (2 ^ 64 - 1) else d.stat64 a := by
  have noted : Keeps (Just 0) d (d.lossNoted g) := (Aside.lossNoted d g).keeps
  obtain ⟨⟨-, -, waits⟩, -⟩ := noted.still hd
  obtain ⟨-, counted⟩ := (Stays.groupLost hg (d.lossNoted g)).stat waits
  have lost : ((d.lossNoted g).groupLost g).stat64 a = (d.lossNoted g).stat64 a := by rw [Dev.stat64, counted, Dev.stat64]
  unfold Dev.supplyLost
  by_cases h3 : d.ustate (0x040 + g) = 3
  · rw [if_pos h3]
    simp only [h3, and_true]
    exact lost.trans (d.lossNoted_stat64 g a)
  · rw [if_neg h3, if_neg (fun h => h3 h.2)]

theorem Dev.supplyLost_state (h3 : d.ustate (0x040 + g) = 3) : (d.supplyLost g).ustate (0x040 + g) = 2 := by
  have noted : Keeps (Just (0x040 + g)) d (d.lossNoted g) := (Aside.lossNoted d g).keeps
  rw [Dev.supplyLost, if_pos h3]
  exact Dev.groupLost_state (noted.still hd) hg ((noted.ustate (by omega)).trans h3)

end

/-- Both groups of a bank lose their supply. -/
def Dev.groupsLost (d : Dev) (b : Nat) : Dev := d.each [2 * b, 2 * b + 1] Dev.supplyLost

theorem Dev.groupsLost_eq (d : Dev) (b : Nat) : d.groupsLost b = (d.supplyLost (2 * b)).supplyLost (2 * b + 1) := rfl

theorem Dev.groupsLost_low (hb : b < 8) (d : Dev) {a : Nat} (ha : a < 0x10000) : (d.groupsLost b).reg a = d.reg a :=
  (Dev.supplyLost_low (by omega) _ ha).trans (Dev.supplyLost_low (by omega) d ha)

/-- A group of the bank that was in service is SYNCING, and its loss has been counted. -/
theorem Dev.groupsLost_group (hd : d.Still) (hb : b < 8) (hg : g = 2 * b ∨ g = 2 * b + 1) (h3 : d.ustate (0x040 + g) = 3) :
    (d.groupsLost b).ustate (0x040 + g) = 2 ∧
      (d.groupsLost b).stat64 (Ctr.GROUP g Gc.CLK_LOSTS) = min (d.stat64 (Ctr.GROUP g Gc.CLK_LOSTS) + 1) (2 ^ 64 - 1) := by
  have apart : Ctr.GROUP (2 * b) Gc.CLK_LOSTS ≠ Ctr.GROUP (2 * b + 1) Gc.CLK_LOSTS := by simp only [Ctr.GROUP]; omega
  have first : (d.supplyLost (2 * b)).Still :=
    (Keeps.supplyLost hd (by omega) (n := 2 * b + 1) (by omega) (by omega)).still hd
  rw [Dev.groupsLost_eq, Dev.supplyLost_stat64 first (by omega), Dev.supplyLost_stat64 hd (by omega)]
  obtain rfl | rfl := hg
  · rw [if_neg (fun h => apart h.1), if_pos ⟨rfl, h3⟩]
    have kept : Keeps (Just (0x040 + 2 * b)) _ _ := .supplyLost first (by omega : 2 * b + 1 < 16) (by omega) (by omega)
    exact ⟨(kept.ustate (by omega)).trans (Dev.supplyLost_state hd (by omega) h3), rfl⟩
  · have second := ((Keeps.supplyLost hd (g := 2 * b) (n := 2 * b + 1) (by omega) (by omega) (by omega)).ustate (by omega)).trans h3
    rw [if_pos ⟨rfl, second⟩, if_neg (fun h => apart h.1.symm)]
    exact ⟨Dev.supplyLost_state first (by omega) second, rfl⟩

/-! ### The bits of a bank (R484, R485) -/

/-- The bit of a bank in one of its fields reads 0. -/
def Dev.bankClear (d : Dev) (b : Nat) (f : Fld) : Dev := d.wr f (Nat.land (d.rd f) (255 - 2 ^ b))

/-- The bit of a bank in one of its fields reads 1. -/
def Dev.bankSet (d : Dev) (b : Nat) (f : Fld) : Dev := d.wr f (Nat.lor (d.rd f) (2 ^ b))

/-- V33 of a bank as it was measured. -/
def Dev.bankLevel (d : Dev) (b : Nat) (v33 : Bool) : Dev :=
  d.wr F.MGT_VDDIO_LEVEL_V33 (Nat.land (d.rd F.MGT_VDDIO_LEVEL_V33) (255 - 2 ^ b) + if v33 then 2 ^ b else 0)

/-- A bank without its supply shows no level. -/
def Dev.bankLost (d : Dev) (b : Nat) : Dev :=
  ((d.bankClear b F.PWR_DOMAIN_STATE_VDDIO).bankClear b F.MGT_VDDIO_LEVEL_V33).bankClear b F.MGT_VDDIO_LEVEL_MEASURED

/-- A bank with its supply back and measured. -/
def Dev.bankBack (d : Dev) (b : Nat) (v33 : Bool) : Dev :=
  ((d.bankSet b F.PWR_DOMAIN_STATE_VDDIO).bankSet b F.MGT_VDDIO_LEVEL_MEASURED).bankLevel b v33

/-- One bit of eight, taken out and put in. -/
theorem bankBits : ∀ (b : Fin 8) (x : Fin 256), Nat.land x (255 - 2 ^ b.val) % 2 ^ 8 / 2 ^ b.val % 2 = 0 ∧
    Nat.lor x (2 ^ b.val) % 2 ^ 8 / 2 ^ b.val % 2 = 1 ∧ (Nat.land x (255 - 2 ^ b.val) + 2 ^ b.val) % 2 ^ 8 / 2 ^ b.val % 2 = 1 := by
  decide +kernel

theorem bankBits_rd (b : Fin 8) (d : Dev) {f : Fld} (hf : f.width = 8) :
    Nat.land (d.rd f) (255 - 2 ^ b.val) % 2 ^ 8 / 2 ^ b.val % 2 = 0 ∧ Nat.lor (d.rd f) (2 ^ b.val) % 2 ^ 8 / 2 ^ b.val % 2 = 1 ∧
      (Nat.land (d.rd f) (255 - 2 ^ b.val) + 2 ^ b.val) % 2 ^ 8 / 2 ^ b.val % 2 = 1 := by
  have lt : d.rd f < 256 := (bits_lt _ _ _).trans_eq (by rw [hf]; rfl)
  exact bankBits b ⟨d.rd f, lt⟩

theorem Dev.bankLost_bits (b : Fin 8) (d : Dev) : (d.bankLost b).rd F.PWR_DOMAIN_STATE_VDDIO / 2 ^ b.val % 2 = 0 ∧
    (d.bankLost b).rd F.MGT_VDDIO_LEVEL_MEASURED / 2 ^ b.val % 2 = 0 ∧ (d.bankLost b).rd F.MGT_VDDIO_LEVEL_V33 / 2 ^ b.val % 2 = 0 := by
  unfold Dev.bankLost Dev.bankClear
  refine ⟨?_, ?_, ?_⟩
  · rw [Dev.rd_wr_of_ne _ _ (by decide), Dev.rd_wr_of_ne _ _ (by decide), Dev.rd_wr_self _ _ _ (by decide)]
    exact (bankBits_rd b _ rfl).1
  · rw [Dev.rd_wr_self _ _ _ (by decide)]
    exact (bankBits_rd b _ rfl).1
  · rw [Dev.rd_wr_of_disjoint _ _ (by decide) (by decide), Dev.rd_wr_self _ _ _ (by decide)]
    exact (bankBits_rd b _ rfl).1

theorem Dev.bankBack_bits (b : Fin 8) (d : Dev) (v33 : Bool) : (d.bankBack b v33).rd F.PWR_DOMAIN_STATE_VDDIO / 2 ^ b.val % 2 = 1 ∧
    (d.bankBack b v33).rd F.MGT_VDDIO_LEVEL_MEASURED / 2 ^ b.val % 2 = 1 ∧
    ((d.bankBack b v33).rd F.MGT_VDDIO_LEVEL_V33 / 2 ^ b.val % 2 = 1 ↔ v33 = true) := by
  unfold Dev.bankBack Dev.bankLevel Dev.bankSet
  refine ⟨?_, ?_, ?_⟩
  · rw [Dev.rd_wr_of_ne _ _ (by decide), Dev.rd_wr_of_ne _ _ (by decide), Dev.rd_wr_self _ _ _ (by decide)]
    exact (bankBits_rd b _ rfl).2.1
  · rw [Dev.rd_wr_of_disjoint _ _ (by decide) (by decide), Dev.rd_wr_self _ _ _ (by decide)]
    exact (bankBits_rd b _ rfl).2.1
  · rw [Dev.rd_wr_self _ _ _ (by decide)]
    generalize (d.wr _ _).wr _ _ = x
    obtain ⟨cleared, -, put⟩ := bankBits_rd b x (f := F.MGT_VDDIO_LEVEL_V33) rfl
    cases v33 with
    | true => exact iff_of_true put rfl
    | false => exact iff_of_false (by rw [if_neg (by decide), Nat.add_zero, cleared]; decide) (by decide)

/-! ### The commands -/

/-- What is left to the end of a command lies aside and counts nothing. -/
theorem carry_aside (f : Env → Dev → Dev) (s : State) :
    ∃ t, carry f s = .next t ∧ Aside (f s.env s.dev) t.dev ∧ t.dev.stat = (f s.env s.dev).stat := by
  refine ⟨_, rfl, ((Aside.touchAll _).trans (.settle _)).trans .same, ?_⟩
  have touched := (EvFrame.each (W := fun _ => True) (f s.env s.dev).nudge (fun x a => x.touch_eq a) { f s.env s.dev with nudge := [] }).stat
  exact (Dev.settle_stat _).trans touched

/-- VDDIO_SUPPLY_LOSS on the device; the groups of a device in reset, or without CORE, are not in service. -/
def Dev.supplyLoss (d : Dev) (b : Nat) : Dev :=
  if (d.bankLost b).inReset || !(d.bankLost b).coreOn then d.bankLost b else (d.bankLost b).groupsLost b

theorem Dev.supplyLoss_low (hb : b < 8) (d : Dev) {a : Nat} (ha : a < 0x10000) : (d.supplyLoss b).reg a = (d.bankLost b).reg a := by
  unfold Dev.supplyLoss
  split
  · rfl
  · exact Dev.groupsLost_low hb _ ha

theorem RegsFrame.bankLost (d : Dev) (b : Nat) : RegsFrame (· < 0x10000) d (d.bankLost b) := by
  have clear {x : Dev} (h : RegsFrame (· < 0x10000) d x) {f : Fld} (hf : f.addr < 0x10000) : RegsFrame (· < 0x10000) d (x.bankClear b f) :=
    h.wr f _ hf
  exact clear (clear (clear (.refl _ d) (by decide)) (by decide)) (by decide)

theorem Dev.bankLost_reg (d : Dev) (b : Nat) {a : Nat} (ha : 0x10000 ≤ a) : (d.bankLost b).reg a = d.reg a :=
  (RegsFrame.bankLost d b).reg a (Nat.not_lt.2 ha)

theorem Dev.bankLost_still (hd : d.Still) : (d.bankLost b).Still := by
  refine ⟨?_, fun v hv => ?_⟩
  · rw [(RegsFrame.bankLost d b).eq]
    exact hd.1
  · have link : (d.bankLost b).parent v = d.parent v :=
      congrArg (bits · 0 12) (d.bankLost_reg b (Nat.le_add_right_of_le (Nat.le_add_right _ _)))
    rw [link]
    exact hd.2 v hv

theorem Dev.bankLost_ustate (d : Dev) (b u : Nat) : (d.bankLost b).ustate u = d.ustate u :=
  congrArg (bits · 0 3) (d.bankLost_reg b (Nat.le_add_right_of_le (Nat.le_add_right _ _)))

theorem Dev.bankLost_stat64 (d : Dev) (b a : Nat) : (d.bankLost b).stat64 a = d.stat64 a := by
  rw [Dev.stat64, (RegsFrame.bankLost d b).eq, Dev.stat64]

theorem Dev.bankLost_coreOn (d : Dev) (b : Nat) : (d.bankLost b).coreOn = d.coreOn := by
  have islands : (d.bankLost b).rd F.PWR_DOMAIN_STATE_ISLANDS = d.rd F.PWR_DOMAIN_STATE_ISLANDS :=
    (Dev.rd_wr_of_ne _ _ (by decide)).trans ((Dev.rd_wr_of_ne _ _ (by decide)).trans
      (Dev.rd_wr_of_disjoint d (f := F.PWR_DOMAIN_STATE_VDDIO) _ (by decide) (.inl (by decide))))
  have power : (d.bankLost b).pwr = d.pwr := by rw [(RegsFrame.bankLost d b).eq]
  rw [Dev.coreOn, Dev.island, islands, power, Dev.coreOn, Dev.island]

/-- With the device out of reset and CORE on, the bank's groups lose their supply. -/
theorem Dev.supplyLoss_up (up : d.inReset = false) (core : d.coreOn = true) : d.supplyLoss b = (d.bankLost b).groupsLost b := by
  have reset : (d.bankLost b).rst = d.rst := by rw [(RegsFrame.bankLost d b).eq]
  have released : (d.bankLost b).inReset = false := by rwa [Dev.inReset, reset]
  rw [Dev.supplyLoss, released, d.bankLost_coreOn, core, if_neg (by decide)]

theorem vddioSupplyLoss_row (b : Fin 8) (s : State) : exec (.vddioSupplyLoss b) s = carry (fun _ d => d.supplyLoss b) s := rfl

/-- VDDIO_SUPPLY_LOSS (R484, R339). -/
theorem vddioSupplyLoss_clears (b : Fin 8) (s : State) : Completes (.vddioSupplyLoss b) s (fun t =>
    t.dev.rd F.PWR_DOMAIN_STATE_VDDIO / 2 ^ b.val % 2 = 0 ∧ t.dev.rd F.MGT_VDDIO_LEVEL_MEASURED / 2 ^ b.val % 2 = 0 ∧
    t.dev.rd F.MGT_VDDIO_LEVEL_V33 / 2 ^ b.val % 2 = 0 ∧
    (s.Quiet → ∀ g, g = 2 * b.val ∨ g = 2 * b.val + 1 → s.dev.ustate (0x040 + g) = 3 →
      t.dev.ustate (0x040 + g) = 2 ∧ Counted (Ctr.GROUP g Gc.CLK_LOSTS) 1 s t)) := by
  obtain ⟨t, run, aside, stat⟩ := carry_aside (fun _ d => d.supplyLoss b) s
  have low (f : Fld) (hf : f.addr < 0x10000) : t.dev.rd f = (s.dev.bankLost b).rd f := by
    rw [Dev.rd, aside.low hf, Dev.supplyLoss_low b.isLt _ hf, Dev.rd]
  obtain ⟨supplied, measured, level⟩ := s.dev.bankLost_bits b
  refine ⟨t, (vddioSupplyLoss_row b s).trans run, by rwa [low _ (by decide)], by rwa [low _ (by decide)], by rwa [low _ (by decide)],
    fun quiet g hg h3 => ?_⟩
  obtain ⟨⟨-, up⟩, core⟩ := quiet.coreUp
  have lost := Dev.groupsLost_group (Dev.bankLost_still (b := b) quiet.still) b.isLt hg ((s.dev.bankLost_ustate b _).trans h3)
  rw [← Dev.supplyLoss_up up core, Dev.bankLost_stat64] at lost
  obtain ⟨state, counted⟩ := lost
  have count : t.dev.stat64 (Ctr.GROUP g Gc.CLK_LOSTS) = (s.dev.supplyLoss b).stat64 (Ctr.GROUP g Gc.CLK_LOSTS) := by
    rw [Dev.stat64, stat, Dev.stat64]
  exact ⟨(aside.ustate (by omega)).trans state, count.trans counted⟩

/-- VDDIO_SUPPLY_RETURN (R485). -/
theorem vddioSupplyReturn_sets (b : Fin 8) (v33 : Bool) (s : State) : Completes (.vddioSupplyReturn b v33) s (fun t =>
    t.dev.rd F.PWR_DOMAIN_STATE_VDDIO / 2 ^ b.val % 2 = 1 ∧ t.dev.rd F.MGT_VDDIO_LEVEL_MEASURED / 2 ^ b.val % 2 = 1 ∧
    (t.dev.rd F.MGT_VDDIO_LEVEL_V33 / 2 ^ b.val % 2 = 1 ↔ v33 = true)) := by
  obtain ⟨t, run, aside, -⟩ := carry_aside (fun _ d => d.bankBack b v33) s
  have low (f : Fld) (hf : f.addr < 0x10000) : t.dev.rd f = (s.dev.bankBack b v33).rd f := by rw [Dev.rd, aside.low hf, Dev.rd]
  have bits := s.dev.bankBack_bits b v33
  rw [← low _ (by decide), ← low _ (by decide), ← low _ (by decide)] at bits
  exact ⟨t, run, bits⟩

/-! ### The statement -/

/-- The guard of the regulators is for writes to their addresses (R489). -/
theorem Dev.pmbProtected_iff (d : Dev) (addr kind : Nat) : d.pmbProtected addr kind = true ↔
    kind < 3 ∧ (addr = d.rd F.CLK_PMB_CORE_ADDR ∨ addr = d.rd F.CLK_PMB_SRAM_ADDR) := by
  simp [Dev.pmbProtected]

/-- Settles O60: the pins, the bus of the regulators, the supplies of the audio ports, and the load of a steward's entry table. -/
theorem pinsAndManagementBusesAct : Obligations.PinsAndManagementBusesAct := by
  unfold Obligations.PinsAndManagementBusesAct
  intro s p v
  refine ⟨fun i level up island new => gpioEdge_taken i up island new, gpioSet_sets, gpioClr_clears, fun take posted idle => ?transfer,
    fun addr code kind data up runs posted still settled island => ?ends,
    fun b _ => ⟨vddioSupplyLoss_clears b s, fun v33 => vddioSupplyReturn_sets b v33 s⟩, fun k take => ?eload⟩
  case transfer =>
    have guard (kind : Nat) := s.dev.pmbProtected_iff (bits v 0 7) kind
    refine ⟨fun foreign => ?_, fun own => ?_, ?_, ?_⟩
    · have free (kind : Nat) : s.dev.pmbProtected (bits v 0 7) kind = false :=
        Bool.eq_false_iff.2 fun held => foreign ((guard kind).1 held).2
      exact ⟨pmbXfer_begins rfl take posted idle (by decide) (free 0), pmbXfer_begins rfl take posted idle (by decide) (free 1),
        pmbXfer_begins rfl take posted idle (by decide) (free 2)⟩
    · exact ⟨pmbXfer_refused rfl take posted idle (by decide) ((guard 0).2 ⟨by decide, own⟩),
        pmbXfer_refused rfl take posted idle (by decide) ((guard 1).2 ⟨by decide, own⟩),
        pmbXfer_refused rfl take posted idle (by decide) ((guard 2).2 ⟨by decide, own⟩)⟩
    · exact pmbXfer_begins rfl take posted idle (by decide) rfl
    · exact pmbXfer_begins rfl take posted idle (by decide) rfl
  case ends =>
    have ends : EndsXfer s addr code kind := ⟨up, runs, posted, still, settled, island⟩
    refine ⟨ends.answered data, ends.flags .nack data rfl rfl (by decide) rfl, ends.flags .stretch data rfl rfl (by decide) rfl,
      fun read pec => ends.flags .pec data rfl rfl (by decide) (x := (s.dev.xferSent addr code kind).xferRead kind data) ?_⟩
    have checked : (s.dev.xferSent addr code kind).rd F.PMB_CTRL_PEC = s.dev.rd F.PMB_CTRL_PEC := Dev.rd_wr_of_ne _ 0 (by decide)
    rw [Dev.xferResult, if_pos (by simp [Dev.on, read, checked, pec])]
  case eload =>
    refine ⟨fun idle => eload_sets take (f := F.STW_ELOAD_BUSY k) (n := 1) rfl (Nat.le_of_ble_eq_true rfl) fun x busy => ?_,
      fun loading => eload_sets take (f := F.STW_ELOAD_REASON k) (n := Rsn.BUSY) rfl (Nat.le_of_ble_eq_true rfl) fun x busy => ?_⟩
    · rw [Dev.eloadGo, Dev.on, busy, idle]
      rfl
    · rw [Dev.eloadGo, Dev.on, busy, loading]
      rfl

end Sys2Proof.Machine
end
